-- ==== Sys2Proof/Word.lean ====
section
/-! DEFINITION. The word types of the module (00_scope.md R6, R12): a byte, the 64-bit register word, the 256-bit
command word, and sparse maps from numbers to data. -/
namespace Sys2Proof

/-- One byte. -/
abbrev Byte := BitVec 8

/-- One 64-bit register (R6). -/
abbrev Word := BitVec 64

/-- One 32-byte command word (R58). -/
abbrev CmdWord := BitVec 256

/-- A map from numbers to data, as pairs with strictly rising numbers; a number that is not listed holds a default. -/
abbrev Sparse (α : Type) := List (Nat × α)

end Sys2Proof
end

