-- ==== Sys2Proof/Syntax.lean ====
section
/-! DEFINITION. The commands and events of the module: one constructor per row of spec/opcode_table.json, with the operands
that the row's rule gives it. What the module's environment determines (a training outcome, a sensor's reading, a
codeword's decoding, another module's data) is an operand. -/
namespace Sys2Proof

/-- The access contexts (10 R244, R245). -/
inductive Ctx
  | module
  | kernel (p : Fin 8)
  | user (p : Fin 8)
  | library
  | welkin
  | reserved (n : Fin 32)
  deriving DecidableEq, Repr

/-- How a UCIe training ends (10 R241, R250): down, or up at a width and rate with lanes repaired. -/
inductive UcieTraining
  | failed
  | trained (x64 : Bool) (rate : Fin 3) (repaired : Fin 256)
  deriving DecidableEq, Repr

/-- How one stack's training ends (09 R211): attempts failed first, with their codes; whether it succeeds; lanes replaced
as pseudo-channel and lane; pseudo-channels that could not be repaired at the last attempt. -/
structure StackTraining where
  failCodes : List (Fin 4)
  ok : Bool
  repairs : List (Fin 32 × Fin 32)
  unrepairable : List (Fin 32) := []
  deriving DecidableEq, Repr

/-- What the boot self-test finds failing (19 R441, 15 R365): a physical tile with its record bits, a unit. -/
inductive SelfTestFailure
  | tile (die : Fin 2) (row : Fin 32) (col : Fin 33) (record : BitVec 8)
  | anvil (n : Fin 8)
  | ce (n : Fin 8)
  deriving DecidableEq, Repr

/-- An error that a memory read meets in a sector (09 R208, R217): corrected in the stack, corrected by the controller (or in
a tile SRAM line), or uncorrectable. -/
inductive MemError
  | onDie
  | corrected
  | uncorrectable
  deriving DecidableEq, Repr

/-- What the decoder makes of a codeword (11 R254, R257). -/
inductive Fec
  | clean
  | corrected
  | uncorrectable
  deriving DecidableEq, Repr

/-- A slot of a received codeword (11 R255): a DATA flit comes with its implicit sequence number and its virtual channel. -/
inductive Slot
  | idle
  | data (seq : BitVec 16) (chan : Fin 10) (flit : List Byte)
  | control (flit : List Byte)
  | reserved
  deriving DecidableEq, Repr

/-- What is put into a port's cage (11 R253, R274): a passive cable, or a Contrail module with its serial, certificate body and
signature, stored equivalent hours, and bias current per lane at first laser-on. -/
inductive Medium
  | copper
  | contrail (serial : BitVec 64) (body : List Byte) (signature : List Byte) (hours : BitVec 32) (bias : List Nat)
  deriving DecidableEq, Repr

/-- Where a request of Welkin's comes from (18 R422): a frame of its CODE that arrives on the mailbox now, with its SEQ and arguments, or
the frame that waits in an interface's buffer. -/
inductive WkReq
  | mail (seq : BitVec 16) (args : List Byte)
  | waiting (i3c : Bool)
  deriving DecidableEq, Repr


/-- The commands: one constructor per row of the opcode table. -/
inductive Instr
  /-- REGISTER_WRITE (R6). -/
  | registerWrite (ctx : Ctx) (addr : Nat) (value : Word)
  /-- READ_CLEARS (R7). -/
  | readClears (ctx : Ctx) (addr : Nat)
  /-- ZN_NOW (R359). -/
  | znNow (ctx : Ctx)
  /-- MRD (R242). -/
  | mrd (um : Fin 2) (ctx : Ctx) (tag : Fin 1024) (addr : Nat) (len8 : Fin 32) (seq : BitVec 32)
  /-- MWR (R243). -/
  | mwr (um : Fin 2) (ctx : Ctx) (addr : Nat) (data : List Byte) (seq : BitVec 32)
  /-- MASK_CLEAR (R247). -/
  | maskClear (ctx : Ctx) (vector : Fin 2048)
  /-- UCIE_REPLAY (R250). -/
  | ucieReplay (um : Fin 2) (flits : Nat)
  /-- UCIE_RETRAIN (R250). -/
  | ucieRetrain (um : Fin 2) (outcome : UcieTraining)
  /-- LOAD (R47). -/
  | load (ctx : Ctx) (p : Fin 8)
  /-- LOAD_CHECK_DONE (R47). -/
  | loadCheckDone (p : Fin 8)
  /-- ARM (R47). -/
  | arm (ctx : Ctx) (p : Fin 8)
  /-- ABORT (R47). -/
  | abortImage (ctx : Ctx) (p : Fin 8)
  /-- UNLOAD (R47). -/
  | unload (ctx : Ctx) (p : Fin 8)
  /-- ACTIVATION (R50). -/
  | activation (p : Fin 8)
  /-- ACTIVATION_DONE (R50). -/
  | activationDone (p : Fin 8)
  /-- UNLOAD_SWITCH (R50). -/
  | unloadSwitch (p : Fin 8)
  /-- UNLOAD_DONE (R50). -/
  | unloadDone (p : Fin 8)
  /-- FORCE_PASS (R141). -/
  | forcePass (ctx : Ctx) (value : Word)
  /-- TILE_RESET (R85). -/
  | tileReset (ctx : Ctx) (t : Fin 2048)
  /-- PARTITION_RESET (R448). -/
  | partitionReset (ctx : Ctx) (p : Fin 8)
  /-- WARM_RESET (R448). -/
  | warmReset (ctx : Ctx)
  /-- RESET_COMPLETION (R449). -/
  | resetCompletion
  /-- MODULE_RESET (R447). -/
  | moduleReset
  /-- POWER_ON_RESET (R447). -/
  | powerOnReset
  /-- PHASE_ROM (R436). -/
  | phaseRom (readError : Bool)
  /-- PHASE_ALWAYS_ON (R441). -/
  | phaseAlwaysOn (clocksOk : Bool) (um0 : UcieTraining) (um1 : UcieTraining)
  /-- PHASE_MEMORY (R441). -/
  | phaseMemory (trained : List StackTraining)
  /-- PHASE_SELFTEST (R441). -/
  | phaseSelftest (failures : List SelfTestFailure) (hubOk : Bool) (routerOk : Bool)
  /-- PHASE_PORTS (R441). -/
  | phasePorts
  /-- PHASE_ZENITH (R441). -/
  | phaseZenith
  /-- HOST_READY (R443). -/
  | hostReady
  /-- LAUNCH_DELIVERY (R59). -/
  | launchDelivery (d : Fin 2) (q : Fin 16384)
  /-- COMMAND_FETCH (R58). -/
  | commandFetch (t : Fin 2048)
  /-- COMMAND_ISSUE (R63). -/
  | commandIssue (t : Fin 2048)
  /-- COMPLETION (R77). -/
  | completion (t : Fin 2048) (q : Fin 8)
  /-- SYNC (R69). -/
  | sync (t : Fin 2048)
  /-- FENCE (R69). -/
  | fence (t : Fin 2048)
  /-- STAMP (R69). -/
  | stamp (t : Fin 2048)
  /-- NOOP (R71). -/
  | noop (t : Fin 2048)
  /-- FILL_ROUTINE (R467). -/
  | fillRoutine (t : Fin 2048)
  /-- ENGINE_RECOVER (R468). -/
  | engineRecover (t : Fin 2048)
  /-- RESUME (R78). -/
  | resume (ctx : Ctx) (t : Fin 2048) (mask : BitVec 8)
  /-- FLUSH (R78). -/
  | flush (ctx : Ctx) (t : Fin 2048) (mask : BitVec 8)
  /-- REMOTE_SIGNAL (R66). -/
  | remoteSignal (src : Nat) (dst : Fin 2048)
  /-- ROUTE_DELIVERY (R34). -/
  | routeDelivery (p : Fin 8) (route : BitVec 16)
  /-- COPY (R73). -/
  | copy (t : Fin 2048) (errors : List (Nat × MemError))
  /-- FILL (R73). -/
  | fill (t : Fin 2048)
  /-- SPLIT (R75). -/
  | split (t : Fin 2048)
  /-- ROUTE_SEND (R74). -/
  | routeSend (t : Fin 2048)
  /-- ROUTE_RECV (R74). -/
  | routeRecv (t : Fin 2048)
  /-- WLOAD (R93). -/
  | wload (t : Fin 2048) (e : Fin 4)
  /-- FEED (R94). -/
  | feed (t : Fin 2048) (e : Fin 4)
  /-- ROW_LANDING (R87). -/
  | rowLanding (t : Fin 2048) (e : Fin 4)
  /-- STORE (R96). -/
  | store (t : Fin 2048) (e : Fin 4)
  /-- DRAIN (R99). -/
  | drain (t : Fin 2048) (e : Fin 4)
  /-- CONV (R97). -/
  | conv (t : Fin 2048) (e : Fin 4)
  /-- INVAL (R98). -/
  | inval (t : Fin 2048) (e : Fin 4)
  /-- ADD (R156). -/
  | vuAdd (t : Fin 2048)
  /-- SUB (R156). -/
  | vuSub (t : Fin 2048)
  /-- MUL (R156). -/
  | vuMul (t : Fin 2048)
  /-- FMA (R156). -/
  | vuFma (t : Fin 2048)
  /-- MAX (R158). -/
  | vuMax (t : Fin 2048)
  /-- MIN (R158). -/
  | vuMin (t : Fin 2048)
  /-- CMP_LT (R156). -/
  | vuCmpLt (t : Fin 2048)
  /-- CMP_EQ (R156). -/
  | vuCmpEq (t : Fin 2048)
  /-- SELECT (R156). -/
  | vuSelect (t : Fin 2048)
  /-- CONVERT (R156). -/
  | vuConvert (t : Fin 2048)
  /-- EXP (R156). -/
  | vuExp (t : Fin 2048)
  /-- LOG (R156). -/
  | vuLog (t : Fin 2048)
  /-- RSQRT (R156). -/
  | vuRsqrt (t : Fin 2048)
  /-- RCP (R156). -/
  | vuRcp (t : Fin 2048)
  /-- TANH (R156). -/
  | vuTanh (t : Fin 2048)
  /-- ERF (R156). -/
  | vuErf (t : Fin 2048)
  /-- RSUM (R164). -/
  | vuRsum (t : Fin 2048)
  /-- RMAX (R156). -/
  | vuRmax (t : Fin 2048)
  /-- TOPK (R158). -/
  | vuTopk (t : Fin 2048)
  /-- TO_G32 (R159). -/
  | vuToG32 (t : Fin 2048)
  /-- FROM_G32 (R159). -/
  | vuFromG32 (t : Fin 2048)
  /-- XSR_ADD (R163). -/
  | xsrAdd (t : Fin 2048)
  /-- XSR_LOADADD (R163). -/
  | xsrLoadadd (t : Fin 2048)
  /-- XSR_STORE (R163). -/
  | xsrStore (t : Fin 2048)
  /-- XSR_ROUND (R163). -/
  | xsrRound (t : Fin 2048)
  /-- XSR_CLEAR (R163). -/
  | xsrClear (t : Fin 2048)
  /-- DRAW (R168). -/
  | draw (t : Fin 2048)
  /-- ANVIL_FORWARD (R175). -/
  | anvilForward (t : Fin 2048)
  /-- UPDATE (R179). -/
  | update (u : Fin 8)
  /-- NORM (R176). -/
  | norm (u : Fin 8)
  /-- XOR_ACC (R176). -/
  | xorAcc (u : Fin 8)
  /-- HALO_SEND (R197). -/
  | haloSend (t : Fin 2048)
  /-- HALO_MESSAGE (R196). -/
  | haloMessage (u : Fin 8)
  /-- RECOMPUTE (R193). -/
  | recompute (t : Fin 2048)
  /-- OPT_MOMENTUM (R190). -/
  | optMomentum (t : Fin 2048)
  /-- OPT_ADAPTIVE (R190). -/
  | optAdaptive (t : Fin 2048)
  /-- OPT_SIGN (R190). -/
  | optSign (t : Fin 2048)
  /-- GRAD_NORM (R191). -/
  | gradNorm (t : Fin 2048) (others : BitVec 512 × Nat × Nat)
  /-- STEP_RERUN (R192). -/
  | stepRerun (t : Fin 2048)
  /-- PARITY_UPDATE (R371). -/
  | parityUpdate (t : Fin 2048)
  /-- REBUILD (R373). -/
  | rebuild (t : Fin 2048)
  /-- SAVE (R375). -/
  | save (t : Fin 2048)
  /-- SEAL (R375). -/
  | seal (t : Fin 2048)
  /-- RESTORE (R377). -/
  | restore (t : Fin 2048)
  /-- STEP_REPLAY (R378). -/
  | stepReplay (t : Fin 2048)
  /-- SLICE_SWITCH (R81). -/
  | sliceSwitch (p : Fin 8)
  /-- TOKEN_LOOP (R330). -/
  | tokenLoop (t : Fin 2048) (inLen : BitVec 16)
  /-- TEST_WINDOW (R380). -/
  | testWindow (p : Fin 8) (w : BitVec 16) (voltageOk : Bool)
  /-- SELFTEST_SLICE (R380). -/
  | selftestSlice (p : Fin 8) (w : BitVec 16)
  /-- SELFTEST_SLICE_END (R382). -/
  | selftestSliceEnd (r : Fin 32) (failed : Bool)
  /-- INTERFACE_TRAINING (R211). -/
  | interfaceTraining (n : Fin 8) (outcome : StackTraining)
  /-- STACK_READY (R211). -/
  | stackReady (n : Fin 8)
  /-- LC_WINDOW (R215). -/
  | lcWindow (n : Fin 8)
  /-- REFRESH (R216). -/
  | refresh (n : Fin 8) (temp : BitVec 16)
  /-- SELF_REFRESH (R216). -/
  | selfRefresh (n : Fin 8)
  /-- PATROL_SCRUB (R220). -/
  | patrolScrub (n : Fin 8) (error : Option MemError)
  /-- HB_LOG_BASE (R223). -/
  | hbLogBase (ctx : Ctx) (n : Fin 8) (value : Word)
  /-- HB_LOG_CTRL (R223). -/
  | hbLogCtrl (ctx : Ctx) (n : Fin 8) (value : Word)
  /-- DOORBELL (R230). -/
  | doorbell (ctx : Ctx) (d : Fin 2) (value : Word)
  /-- ENABLE (R228). -/
  | enable (ctx : Ctx) (d : Fin 2) (value : Word)
  /-- QH_WCTRL_ARM (R232). -/
  | qhWctrlArm (ctx : Ctx) (d : Fin 2)
  /-- DISARM (R239). -/
  | disarm (ctx : Ctx) (d : Fin 2)
  /-- QH_WCTRL_RESET (R239). -/
  | qhWctrlReset (ctx : Ctx) (d : Fin 2)
  /-- HEAD_WORD_READ (R226). -/
  | headWordRead (d : Fin 2) (q : Fin 16384)
  /-- HUB_CYCLE (R237). -/
  | hubCycle (d : Fin 2)
  /-- MESSAGE_DELIVERY (R234). -/
  | messageDelivery (ing : Fin 11) (c : Fin 10)
  /-- DETECT (R260). -/
  | detect (n : Fin 10) (signal : BitVec 9)
  /-- EQUALISE (R261). -/
  | equalise (n : Fin 10) (failed : BitVec 9) (values : List Nat)
  /-- LOCK (R260). -/
  | lock (n : Fin 10) (failed : BitVec 9)
  /-- DISCOVER (R262, R263): with it a DISCOVER flit that crossed so many ns ago, where one is received with the row and not through CODEWORD and
  CONTROL_FLIT (none: empty). -/
  | discover (n : Fin 10) (flit : List Byte) (age : Nat)
  /-- TRAIN_TIMEOUT (R260). -/
  | trainTimeout (n : Fin 10)
  /-- NO_PARTNER (R263). -/
  | noPartner (n : Fin 10)
  /-- AUTO_RETRAIN (R260). -/
  | autoRetrain (n : Fin 10)
  /-- ADMIT (R265). -/
  | admitPort (ctx : Ctx) (n : Fin 10)
  /-- RECHECK (R265). -/
  | recheck (ctx : Ctx) (n : Fin 10)
  /-- RETRAIN (R270). -/
  | retrain (ctx : Ctx) (n : Fin 10)
  /-- DISABLE (R277). -/
  | disable (ctx : Ctx) (n : Fin 10)
  /-- KL_PLAN (R277). -/
  | klPlan (ctx : Ctx) (n : Fin 10) (value : Word)
  /-- CODEWORD (R257). -/
  | codeword (n : Fin 10) (fec : Fec) (errors : List Nat) (slots : List Slot)
  /-- CONTROL_FLIT (R256). -/
  | controlFlit (n : Fin 10)
  /-- LANE_FAILED (R267). -/
  | laneFailed (n : Fin 10) (lane : Fin 9) (lockLost : Bool)
  /-- DEGRADE_RETRAIN (R267). -/
  | degradeRetrain (n : Fin 10) (failedRx : BitVec 9) (failedTx : BitVec 9)
  /-- LOSS (R268). -/
  | loss (n : Fin 10) (signalLost : Bool) (lockLost : Bool)
  /-- SLEEP (R269). -/
  | sleep (n : Fin 10)
  /-- WAKE_FLIT (R269). -/
  | wakeFlit (n : Fin 10)
  /-- INSERTED (R274). -/
  | inserted (n : Fin 10) (medium : Medium)
  /-- REMOVED (R274). -/
  | removed (n : Fin 10)
  /-- CONTRAIL_SENSORS (R275): per lane the bias current, and the transmit and receive power. -/
  | contrailSensors (n : Fin 10) (temp : BitVec 16) (vcc : BitVec 16) (bias : List Nat) (power : List (Nat × Nat))
  /-- HOURS_WRITE (R275). -/
  | hoursWrite (n : Fin 10)
  /-- STORAGE_ENTRY (R272). -/
  | storageEntry (k : Fin 2)
  /-- READ_DATA (R272). -/
  | readData (k : Fin 2)
  /-- STATUS (R273). -/
  | status (k : Fin 2)
  /-- STORAGE_TIMEOUT (R272). -/
  | storageTimeout (k : Fin 2) (tag : BitVec 32)
  /-- PACKET_ARRIVAL (R289). -/
  | packetArrival (g : Fin 11) (c : Fin 10)
  /-- PACKET_BOUNDARY (R296). -/
  | packetBoundary (n : Fin 10)
  /-- RT_COORD (R303). -/
  | rtCoord (ctx : Ctx) (value : Word)
  /-- SWITCH (R292). -/
  | switch (ctx : Ctx) (p : Fin 8)
  /-- T_SW (R292). -/
  | tSw (p : Fin 8)
  /-- CLOSES_SENT (R292). -/
  | closesSent (p : Fin 8)
  /-- EPOCH_CLOSE (R292). -/
  | epochClose
  /-- FORCE_DONE (R293). -/
  | forceDone (ctx : Ctx) (p : Fin 8)
  /-- EPOCH_TIMEOUT (R293). -/
  | epochTimeout (p : Fin 8)
  /-- PROD_POLL (R306). -/
  | prodPoll (a : Fin 4) (p : Fin 8)
  /-- REDUCE_SCATTER (R309). -/
  | reduceScatter (a : Fin 4) (p : Fin 8)
  /-- ALL_GATHER (R309). -/
  | allGather (a : Fin 4) (p : Fin 8)
  /-- ALL_REDUCE (R309). -/
  | allReduce (a : Fin 4) (p : Fin 8)
  /-- BROADCAST (R309). -/
  | broadcast (a : Fin 4) (p : Fin 8)
  /-- PERMUTE (R325). -/
  | permute (a : Fin 4) (p : Fin 8)
  /-- SEND (R326). -/
  | send (a : Fin 4) (p : Fin 8)
  /-- READ (R327). -/
  | read (a : Fin 4) (p : Fin 8)
  /-- CONTRIBUTION (R313). -/
  | contribution (a : Fin 4) (p : Fin 8) (k : Fin 4)
  /-- DEADLINE (R313). -/
  | deadline (a : Fin 4) (p : Fin 8) (k : Fin 4)
  /-- DATA (R316). -/
  | data (e : Fin 8)
  /-- READY (R313). -/
  | ready (e : Fin 8)
  /-- DONE (R318). -/
  | doneMsg (e : Fin 8)
  /-- BREAK (R321). -/
  | linkBreak (e : Fin 8)
  /-- DECIDE_REQ (R322). -/
  | decideReq (e : Fin 8)
  /-- DECIDE (R322). -/
  | decideMsg (e : Fin 8)
  /-- COLLECTIVE_ABORT (R323). -/
  | collectiveAbort (e : Fin 8)
  /-- COLLECTIVE_TIMEOUT (R323). -/
  | collectiveTimeout (a : Fin 4) (p : Fin 8) (k : Fin 4)
  /-- COLLECTIVE_COMPLETE (R318). -/
  | collectiveComplete (a : Fin 4) (p : Fin 8) (k : Fin 4)
  /-- REQUEST (R327). -/
  | request (g : Fin 11) (c : Fin 10)
  /-- REPLY (R327). -/
  | reply (e : Fin 8)
  /-- PLACE_EXPIRY (R325). -/
  | placeExpiry (a : Fin 4) (p : Fin 8) (tag : BitVec 32)
  /-- CLEAR_BREAK (R321). -/
  | clearBreak (ctx : Ctx) (n : Fin 8)
  /-- ANNOUNCE_SEND (R340). -/
  | announceSend
  /-- ANNOUNCE (R340). -/
  | announce
  /-- PARENT_TIMEOUT (R340). -/
  | parentTimeout
  /-- WINDOW (R343). -/
  | window
  /-- TIME_SYNC_SEND (R343). -/
  | timeSyncSend (n : Fin 8)
  /-- TIME_SYNC (R346). -/
  | timeSync
  /-- REF_PPS_IN (R341). -/
  | refPpsIn
  /-- REF_LOST (R341). -/
  | refLost
  /-- ZN_NEXT_SEC (R341). -/
  | znNextSec (ctx : Ctx) (value : Word)
  /-- REACQUIRE (R343). -/
  | reacquire (ctx : Ctx)
  /-- PPS_OUT (R349). -/
  | ppsOut
  /-- TOD_OUT (R350). -/
  | todOut
  /-- FRAME_BOUNDARY (R347). -/
  | frameBoundary (p : Fin 8)
  /-- STOP (R352). -/
  | stop (ctx : Ctx)
  /-- ZN_RESUME (R356). -/
  | znResume (ctx : Ctx)
  /-- IMMEDIATE (R357). -/
  | immediate (ctx : Ctx)
  /-- STOP_PACKET (R352). -/
  | stopPacket
  /-- STOP_AT_T (R354). -/
  | stopAtT
  /-- T_QUIET (R358). -/
  | tQuiet
  /-- RESUME_AT_T2 (R356). -/
  | resumeAtT2
  /-- CFGA (R386). -/
  | cfga (ctx : Ctx) (window : Option (Fin 8)) (n : Fin 16) (value : Word)
  /-- SNAP_ENABLE (R390). -/
  | snapEnable (ctx : Ctx) (n : Fin 4) (value : Word)
  /-- SNAPSHOT_INSTANT (R391). -/
  | snapshotInstant (n : Fin 4)
  /-- TL_SNAP_RING (R401). -/
  | tlSnapRing (ctx : Ctx) (n : Fin 4) (value : Word)
  /-- TL_TRACE_BASE (R396). -/
  | tlTraceBase (ctx : Ctx) (d : Fin 2) (value : Word)
  /-- WATCH_ENABLE (R397). -/
  | watchEnable (ctx : Ctx) (w : Fin 8) (value : Word)
  /-- TL_DBG_BASE (R401). -/
  | tlDbgBase (ctx : Ctx) (size : Bool) (value : Word)
  /-- VOTE (R407). -/
  | vote (ctx : Ctx) (n : Fin 102) (value : Word)
  /-- QUIESCENCE (R406). -/
  | quiescence (n : Fin 102)
  /-- TRANSITION (R406). -/
  | transition (n : Fin 102) (training : UcieTraining)
  /-- ENTER (R413). -/
  | enter (ctx : Ctx) (value : Word)
  /-- SAMPLE (R414). -/
  | sample (readings : List (BitVec 32))
  /-- ADDRESS_MATCH (R416). -/
  | addressMatch (addr : BitVec 7) (i2c : Bool)
  /-- WAKE (R416). -/
  | wake
  /-- PRIVATE_WRITE (R422). -/
  | privateWrite (i2c : Bool) (frame : List Byte)
  /-- PRIVATE_READ (R422). -/
  | privateRead (i2c : Bool)
  /-- GET_STATUS (R423). -/
  | getStatus (r : WkReq)
  /-- BUF_BEGIN (R424). -/
  | bufBegin (r : WkReq)
  /-- BUF_WRITE (R424). -/
  | bufWrite (r : WkReq)
  /-- BUF_READ (R424). -/
  | bufRead (r : WkReq)
  /-- BUF_RELEASE (R424). -/
  | bufRelease (r : WkReq)
  /-- BUF_TIMEOUT (R424). -/
  | bufTimeout
  /-- FW_COMMIT (R437). -/
  | fwCommit (r : WkReq) (failures : Fin 3)
  /-- SVN_COMMIT (R437). -/
  | svnCommit (r : WkReq)
  /-- ATTEST (R434). -/
  | attest (r : WkReq)
  /-- GET_CERT (R423). -/
  | getCert (r : WkReq)
  /-- ID_PUBKEY (R433). -/
  | idPubkey (r : WkReq)
  /-- RECORD_WRITE (R429). -/
  | recordWrite (r : WkReq) (flashOk : Bool)
  /-- RECORD_READ (R423). -/
  | recordRead (r : WkReq)
  /-- LC_CHALLENGE (R432). -/
  | lcChallenge (r : WkReq)
  /-- LC_TRANSITION (R432). -/
  | lcTransition (r : WkReq)
  /-- PLAN_SET (R438). -/
  | planSet (r : WkReq) (flashOk : Bool)
  /-- TIME_SET (R438). -/
  | timeSet (r : WkReq)
  /-- LINK_RETRAIN (R438). -/
  | linkRetrain (r : WkReq)
  /-- FABRIC_REQUEST (R439). -/
  | fabricRequest (r : WkReq)
  /-- FABRIC_TIMEOUT (R439). -/
  | fabricTimeout
  /-- MGMT (R439). -/
  | mgmt
  /-- SELFTEST_ENABLE (R431). -/
  | selftestEnable (r : WkReq)
  /-- SELFTEST_FULL (R423). -/
  | selftestFull (r : WkReq) (found : BitVec 32)
  /-- FENCE_CLEAR (R367). -/
  | fenceClear (r : WkReq) (flashOk : Bool)
  /-- LOG_READ (R427). -/
  | logRead (r : WkReq)
  /-- SENSOR_READ (R426). -/
  | sensorRead (r : WkReq)
  /-- SENSOR_SAMPLE (R426). -/
  | sensorSample (code : BitVec 16) (value : BitVec 32)
  /-- LOG_MIRROR (R427). -/
  | logMirror (flashOk : Bool)
  /-- VIN_LOW (R455). -/
  | vinLow
  /-- RIDE_THROUGH (R455). -/
  | rideThrough
  /-- BROWN_OUT (R455). -/
  | brownOut
  /-- OVERVOLTAGE (R455). -/
  | overvoltage
  /-- CAP_DECISION (R457). -/
  | capDecision
  /-- FAST_LIMIT (R457). -/
  | fastLimit
  /-- TRIP (R460). -/
  | trip (code : BitVec 16)
  /-- TRIP_RELEASE (R460). -/
  | tripRelease (readings : List (BitVec 32))
  /-- DYNAMIC_ADDRESS_ASSIGNMENT (R422). -/
  | dynamicAddressAssignment (addr : BitVec 7)
  deriving DecidableEq, Repr

end Sys2Proof
end

