-- ==== Sys2Proof/Config.lean ====
section
/-! DEFINITION. What the spec leaves to published standards it does not reproduce (00_scope.md R1: FIPS 202,
FIPS 204), and the free values: constants with no body, so that nothing can be proved of their values. -/
namespace Sys2Proof.Config

/-- A free value: applied to the number that State counts (log entry 1). -/
opaque freeValue : Nat → Nat

/-- Which of the results within its bound a vector-unit function gives (07 R156, R151): by opcode and FP32 input code. -/
opaque vuChoice : Nat → Nat → Nat

/-- The 64-byte SHAKE256 output of a byte string (02 R44; FIPS 202 is not reproduced), byte 0 lowest. -/
opaque shake256 : List Byte → BitVec 512

/-- ML-DSA-65 verification: public key, message, signature (FIPS 204 is not reproduced). -/
opaque mldsaVerify : List Byte → List Byte → List Byte → Bool

/-- ML-DSA-87 verification: public key, message, signature (FIPS 204 is not reproduced). -/
opaque mldsa87Verify : List Byte → List Byte → List Byte → Bool

/-- The ML-DSA-65 public key generated from a seed (FIPS 204 is not reproduced). -/
opaque mldsaPublic : List Byte → List Byte

/-- The ML-DSA-65 signature that the key of a seed gives a message with a number drawn from the entropy source: the hedged variant
(FIPS 204 is not reproduced). -/
opaque mldsaSign : List Byte → List Byte → Nat → List Byte

/-- Bytes of the module's entropy source: a draw number and a byte index (18: challenges and the identity seed). -/
opaque entropy : Nat → Nat → Byte

/-- The unit exponent of a block of a collective's G32 elements (13 R318, 08 R198): the descriptor names no exponent tensor. By the
operation's free number and the block's number. -/
opaque ceUnit : Nat → Nat → Int

/-- The OP_TAG and TAG values that the library's routines choose for their own operations (15 R371, R373, R375): equal in every module for
equal steps and operation numbers. -/
opaque libTag : Nat → Nat → BitVec 32

/-- The keys in the boot ROM (18 R428, R432, R435): the vendor's record and firmware keys and the RMA key. -/
opaque vendorRecordKey : List Byte
opaque vendorFirmwareKey : List Byte
opaque rmaKey : List Byte

/-- A value in a record's body whose layout the spec does not give (18 R429): by TYPE, body, and which value. -/
opaque recordValue : Nat → List Byte → Nat → Nat

/-- A record's body matches its TYPE (18 R429), for the types whose body the spec does not lay out. -/
opaque bodyOk : Nat → List Byte → Bool

/-- The subject public key and the subject serial number of an X.509 certificate (18 R433; DER is not reproduced). -/
opaque certKey : List Byte → List Byte
opaque certSerial : List Byte → Nat

/-- The bytes of a record that Welkin itself writes (18 R429: the bodies of SPARE_MARKS and CONTRAIL_HOURS are not laid out): by TYPE, INDEX
and what it holds. -/
opaque moduleRecord : Nat → Nat → List Nat → List Byte

/-- What the flash holds after a write of some bytes that failed (18 R437): by a free number. -/
opaque brokenFlash : Nat → List Byte → List Byte

/-- The DATA bytes of a log entry whose layout the spec does not give (18 R427): by CODE and what it holds. -/
opaque logData : Nat → List Nat → List Byte

/-- The quantum of an egress port's deficit round robin, which the spec leaves open (12_fabric_routing.md R296; log entry 57). -/
opaque drrQuantum : Nat

end Sys2Proof.Config
end

