-- ==== Sys2Proof/Machine/Bits.lean ====
section
/-! DEFINITION. Bit fields, signed readings and byte order (00_scope.md R6, R12, R14). -/
namespace Sys2Proof.Machine

/-- Bits hi to lo of x (R6: bits are numbered from the least significant). -/
def bits (x hi lo : Nat) : Nat := x / 2 ^ lo % 2 ^ (hi + 1 - lo)

/-- Bit i of x. -/
def bit (x i : Nat) : Bool := x / 2 ^ i % 2 == 1

/-- x with bits hi to lo replaced by v, which wraps at the field's width. -/
def putBits (x hi lo v : Nat) : Nat :=
  x % 2 ^ lo + v % 2 ^ (hi + 1 - lo) * 2 ^ lo + x / 2 ^ (hi + 1) * 2 ^ (hi + 1)

/-- The integer that the low w bits of x hold in two's complement. -/
def signed (w x : Nat) : Int :=
  if x % 2 ^ w < 2 ^ (w - 1) then ((x % 2 ^ w : Nat) : Int) else ((x % 2 ^ w : Nat) : Int) - 2 ^ w

/-- The w-bit two's-complement pattern of an integer. -/
def unsignedOf (w : Nat) (i : Int) : Nat := (i % 2 ^ w).toNat

/-- x saturated at the greatest w-bit value. -/
def sat (w x : Nat) : Nat := min x (2 ^ w - 1)

/-- The number that a list of bytes spells, little-endian (R12). -/
def leNat : List Byte → Nat
  | [] => 0
  | b :: t => b.toNat + 256 * leNat t

/-- The n little-endian bytes of x (R12). -/
def leBytes : Nat → Nat → List Byte
  | 0, _ => []
  | n + 1, x => BitVec.ofNat 8 x :: leBytes n (x / 256)

/-- Bytes off to off + n − 1 of a byte string as a number; bytes beyond its end read as zero. -/
def fieldAt (b : List Byte) (off n : Nat) : Nat := leNat ((b.drop off).take n)

/-- n zero bytes. -/
def zeros (n : Nat) : List Byte := List.replicate n 0

/-- A byte string cut or filled with zero bytes to length n. -/
def padTo (n : Nat) (b : List Byte) : List Byte := (b ++ zeros n).take n

/-- x rounded up to a multiple of m. -/
def roundUp (x m : Nat) : Nat := (x + m - 1) / m * m

/-- The bytes of a 512-bit digest, byte 0 lowest. -/
def digestBytes (d : BitVec 512) : List Byte := leBytes 64 d.toNat

/-- 1 for true, 0 for false. -/
def b2n (b : Bool) : Nat := if b then 1 else 0

/-- Every two entries differ. -/
def nodup : List Nat → Bool
  | [] => true
  | a :: t => !t.contains a && nodup t

/-- The entries of a list with their positions. -/
def enumFrom {α : Type} : Nat → List α → List (Nat × α)
  | _, [] => []
  | n, a :: t => (n, a) :: enumFrom (n + 1) t

/-- The first power of two that is not below n, found within the fuel. -/
def pow2AtLeast : Nat → Nat → Nat → Nat
  | 0, p, _ => p
  | fuel + 1, p, n => if n ≤ p then p else pow2AtLeast fuel (2 * p) n

/-- The place of the highest set bit of x plus one (0 for 0). -/
def bitLen (x : Nat) : Nat := if x = 0 then 0 else Nat.log2 x + 1

/-- How many of the low n bits of x are set. -/
def popCount : Nat → Nat → Nat
  | 0, _ => 0
  | n + 1, x => x % 2 + popCount n (x / 2)

end Sys2Proof.Machine
end

