-- ==== Sys2Proof/Machine/Draw.lean ====
section
/-! DEFINITION. The keyed draw function (07_vector_unit_and_draws.md R165 to R167). -/
namespace Sys2Proof.Machine

/-- Rotate a 32-bit word left (R14). -/
def rotl32 (x n : Nat) : Nat := (x * 2 ^ n + x / 2 ^ (32 - n)) % 2 ^ 32

/-- The round constants kc of R167. -/
def drawConst : List Nat := [0x9E3779B9, 0x3C6EF372, 0xDAA66D2B, 0x78DDE6E4]

/-- The rounds of R167 from a list of key words plus constants. -/
def drawRounds : List Nat → Nat × Nat × Nat × Nat → Nat × Nat × Nat × Nat
  | [], st => st
  | k :: ks, (a, b, c, d) =>
    let a' := (a + k) % 2 ^ 32
    let b' := b ^^^ rotl32 a' 8
    let c' := (c + b') % 2 ^ 32
    let d' := d ^^^ rotl32 c' 12
    drawRounds ks (b', c', d', a')

/-- A 128-bit number's 32-bit words, lowest first. -/
def words4 (x : Nat) : List Nat := [x % 2 ^ 32, x / 2 ^ 32 % 2 ^ 32, x / 2 ^ 64 % 2 ^ 32, x / 2 ^ 96 % 2 ^ 32]

/-- The four output words (R167) for a 128-bit key and counter. -/
def drawWords (key counter : Nat) : Nat × Nat × Nat × Nat :=
  drawRounds (List.zipWith (fun k c => (k + c) % 2 ^ 32) (words4 key) drawConst)
    (counter % 2 ^ 32, counter / 2 ^ 32 % 2 ^ 32, counter / 2 ^ 64 % 2 ^ 32, counter / 2 ^ 96 % 2 ^ 32)

/-- The 32-bit draw: word 0. -/
def draw32 (key counter : Nat) : Nat := (drawWords key counter).1

/-- The draw counter's packing (R165). -/
def drawCounter (step layer mb element stream : Nat) : Nat :=
  step % 2 ^ 32 + layer % 2 ^ 20 * 2 ^ 32 + mb % 2 ^ 16 * 2 ^ 52 + element % 2 ^ 48 * 2 ^ 68 + stream % 2 ^ 12 * 2 ^ 116

end Sys2Proof.Machine
end

