-- ==== Sys2Proof/Machine/Num.lean ====
section
/-! DEFINITION. The number formats and the one rounding of chapter 05 (05_number_formats.md R110 to R129): values are
exact rationals, and every conversion rounds an exact value once. -/
namespace Sys2Proof.Machine

/-- 2 to an integer power, exactly. -/
def pow2 (e : Int) : Rat :=
  if e < 0 then 1 / (((2 ^ e.natAbs : Nat) : Int) : Rat) else (((2 ^ e.natAbs : Nat) : Int) : Rat)

/-- The magnitude of a rational. -/
def rabs (x : Rat) : Rat := if x < 0 then -x else x

/-- The greatest integer e with 2^e ≤ x, for a positive x: found from the lengths of numerator and denominator. -/
def floorLog2 (x : Rat) : Int :=
  let k : Int := (bitLen x.num.natAbs : Int) - (bitLen x.den : Int)
  if pow2 k ≤ x then k else k - 1

/-- A value read from a format: NaN, an infinity with its sign, or a finite value; a zero keeps a sign (R112, R114). -/
inductive Val
  | nan
  | inf (neg : Bool)
  | fin (x : Rat) (negZero : Bool)
  deriving DecidableEq, Repr

/-- The floating-point formats of R112. -/
inductive FFmt | e4m3 | e5m2 | bf16 | fp16 | fp32
  deriving DecidableEq, Repr

/-- Exponent bits (R112). -/
def FFmt.eb : FFmt → Nat | .e4m3 => 4 | .e5m2 => 5 | .bf16 => 8 | .fp16 => 5 | .fp32 => 8

/-- Mantissa bits (R112). -/
def FFmt.mb : FFmt → Nat | .e4m3 => 3 | .e5m2 => 2 | .bf16 => 7 | .fp16 => 10 | .fp32 => 23

/-- Bias (R112). -/
def FFmt.bias : FFmt → Nat | .e4m3 => 7 | .e5m2 => 15 | .bf16 => 127 | .fp16 => 15 | .fp32 => 127

/-- Bytes of an element. -/
def FFmt.bytes : FFmt → Nat | .e4m3 => 1 | .e5m2 => 1 | .bf16 => 2 | .fp16 => 2 | .fp32 => 4

/-- Width in bits. -/
def FFmt.width (f : FFmt) : Nat := 1 + f.eb + f.mb

/-- The code of the largest finite magnitude (R112). -/
def FFmt.maxCode : FFmt → Nat | .e4m3 => 0x7E | .e5m2 => 0x7B | .bf16 => 0x7F7F | .fp16 => 0x7BFF | .fp32 => 0x7F7FFFFF

/-- The canonical NaN (R114). -/
def FFmt.nanCode : FFmt → Nat | .e4m3 => 0x7F | .e5m2 => 0x7E | .bf16 => 0x7FC0 | .fp16 => 0x7E00 | .fp32 => 0x7FC00000

/-- The code of an infinity with the sign bit clear; E4M3 has none, and gives NaN (R116). -/
def FFmt.infCode : FFmt → Nat | .e4m3 => 0x7F | .e5m2 => 0x7C | .bf16 => 0x7F80 | .fp16 => 0x7C00 | .fp32 => 0x7F800000

/-- The value a code stands for (R112). -/
def fpDecode (f : FFmt) (c : Nat) : Val :=
  let s := bit c (f.eb + f.mb)
  let e := bits c (f.eb + f.mb - 1) f.mb
  let m := c % 2 ^ f.mb
  let sgn : Rat := if s then -1 else 1
  let top := decide (e = 2 ^ f.eb - 1)
  if top && (f == .e4m3) && decide (m = 7) then .nan
  else if top && (f != .e4m3) then (if m = 0 then .inf s else .nan)
  else if e = 0 then .fin (sgn * (((m : Nat) : Int) : Rat) * pow2 (1 - (f.bias : Int) - (f.mb : Int))) (s && m == 0)
  else .fin (sgn * (((2 ^ f.mb + m : Nat) : Int) : Rat) * pow2 ((e : Int) - (f.bias : Int) - (f.mb : Int))) false

/-- The rounding modes of R115; SR carries its 32-bit draw. -/
inductive Rnd
  | rne
  | rtz
  | sr (draw : Nat)
  deriving DecidableEq, Repr

/-- Round a magnitude given in last places to an integer (R115). -/
def roundMag (r : Rnd) (mag : Rat) : Nat :=
  let q := mag.floor.toNat
  let rest := mag - (((q : Nat) : Int) : Rat)
  match r with
  | .rtz => q
  | .rne => if rest * 2 > 1 then q + 1 else if rest * 2 = 1 then (if q % 2 = 1 then q + 1 else q) else q
  | .sr d => if (rest * (((2 ^ 32 : Nat) : Int) : Rat)).floor.toNat + d % 2 ^ 32 ≥ 2 ^ 32 then q + 1 else q

/-- Round to the nearest integer, ties to even, keeping the sign. -/
def rneInt (x : Rat) : Int :=
  let q : Int := (roundMag .rne (rabs x) : Nat)
  if x < 0 then -q else q

/-- The code that a finite value rounds to (R115, R116); a zero takes the sign given. -/
def fpRound (f : FFmt) (r : Rnd) (x : Rat) (negZero : Bool) : Nat :=
  let signBit := 2 ^ (f.eb + f.mb)
  if x = 0 then (if negZero then signBit else 0)
  else
    let mag := rabs x
    let low : Int := 1 - (f.bias : Int) - (f.mb : Int)
    let lp0 := floorLog2 mag - (f.mb : Int)
    let lp := if lp0 < low then low else lp0
    let q := roundMag r (mag / pow2 lp)
    let q2 := if q ≥ 2 ^ (f.mb + 1) then 2 ^ f.mb else q
    let lp2 := if q ≥ 2 ^ (f.mb + 1) then lp + 1 else lp
    let code := if q2 < 2 ^ f.mb then q2
      else ((lp2 - low).toNat + 1) * 2 ^ f.mb + (q2 - 2 ^ f.mb)
    min code f.maxCode + (if x < 0 then signBit else 0)

/-- Conversion of a value to a floating-point format (R116). -/
def fpConvert (f : FFmt) (r : Rnd) (v : Val) : Nat :=
  match v with
  | .nan => f.nanCode
  | .inf neg => if f = .e4m3 then f.nanCode else f.infCode + (if neg then 2 ^ (f.eb + f.mb) else 0)
  | .fin x nz => fpRound f r x nz

/-- S8 piece-0 codes read as values (R118, R121). -/
def s8Decode (c : Nat) : Val :=
  if c % 256 = 0x7F then .inf false else if c % 256 = 0x81 then .inf true else if c % 256 = 0x80 then .nan
  else .fin ((signed 8 c : Int) : Rat) false

/-- Conversion to an S8 piece-0 code (R121). -/
def s8Convert (r : Rnd) (v : Val) : Nat :=
  match v with
  | .nan => 0x80
  | .inf neg => if neg then 0x81 else 0x7F
  | .fin x _ =>
    let q : Int := ((min (roundMag r (rabs x)) 126 : Nat) : Int)
    unsignedOf 8 (if x < 0 then -q else q)

/-- The floating-point format of a storage code (R110). -/
def fmtOfCode : Nat → Option FFmt
  | 0 => some .e4m3 | 1 => some .e5m2 | 2 => some .bf16 | 3 => some .fp16 | 4 => some .fp32 | _ => none

/-- Bytes of one element of a storage code that compute units write: 0x00 to 0x05 and 0x0D (R110). -/
def codeBytes (c : Nat) : Nat := match fmtOfCode c with | some f => f.bytes | none => 1

/-- An element of storage code 0x00 to 0x05 or 0x0D (an unsigned byte) as a value. -/
def elemDecode (code c : Nat) : Val :=
  match fmtOfCode code with
  | some f => fpDecode f c
  | none => if code = 5 then s8Decode c else .fin ((((c % 256 : Nat) : Int)) : Rat) false

/-- Convert to a storage code 0x00 to 0x05 (R116, R121). -/
def elemConvert (code : Nat) (r : Rnd) (v : Val) : Nat :=
  match fmtOfCode code with
  | some f => fpConvert f r v
  | none => s8Convert r v

/-- A result code is non-finite in its format, E4M3 NaN and the S8 codes 127, −127 and −128 included (R150, R160). -/
def codeNonFinite (code c : Nat) : Bool :=
  match elemDecode code c with
  | .fin _ _ => false
  | _ => true

/-- The scale that an exponent byte stands for: 1 for 0, else 2^(B − 133) (R119, R148). -/
def expScale (b : Nat) : Rat := if b = 0 then 1 else pow2 ((b : Int) - 133)

/-- The unit exponent X of a group from its largest finite magnitude (R137): the smallest integer with M ≤ 126 × 2^X,
but not below −132. -/
def groupExp (m : Rat) : Int :=
  let k := floorLog2 m - 6
  let x := if m ≤ 126 * pow2 k then k else k + 1
  if x < -132 then -132 else x

/-- The exponent byte of a group (R119, R137); a magnitude of zero stands for a group with no non-zero finite element. -/
def groupByte (m : Rat) : Nat := if m = 0 then 0 else (groupExp m + 133).toNat

/-- The lower pieces of R138, from the last to the first, and what remains for the hi piece. -/
def splitLow : Nat → Int → List Int → List Int
  | 0, big, acc => big :: acc
  | k + 1, big, acc =>
    let m := big % 256
    let q := if m > 127 then m - 256 else m
    splitLow k ((big - q) / 256) (q :: acc)

/-- The pieces of a value under unit exponent X (R118, R138), hi piece first, as 8-bit codes. -/
def splitPieces (n : Nat) (x : Int) (v : Val) : List Nat :=
  match v with
  | .nan => 0x80 :: List.replicate (n - 1) 0
  | .inf neg => (if neg then 0x81 else 0x7F) :: List.replicate (n - 1) 0
  | .fin r _ => (splitLow (n - 1) (rneInt (r * pow2 (8 * ((n : Int) - 1) - x))) []).map (unsignedOf 8)

/-- G32 INVALID (R126). -/
def g32Invalid : Nat := 0x80000000

/-- Conversion into G32 under unit exponent U and guard count G (R127): the code, and what is counted
(0 nothing, 1 a non-finite value, 2 a saturation). -/
def g32Convert (u : Int) (g : Nat) (v : Val) : Nat × Nat :=
  match v with
  | .fin x _ =>
    let q := rneInt (x * pow2 (-u))
    if q.natAbs > 2 ^ (31 - g) - 1 then (g32Invalid, 2) else (unsignedOf 32 q, 0)
  | _ => (g32Invalid, 1)

/-- G32 addition (R128). -/
def g32Add (a b : Nat) : Nat :=
  if a = g32Invalid ∨ b = g32Invalid then g32Invalid
  else
    let s := signed 32 a + signed 32 b
    if s.natAbs > 2 ^ 31 - 1 then g32Invalid else unsignedOf 32 s

/-- A G32 element as a value (R129). -/
def g32Val (u : Int) (g : Nat) : Val :=
  if g = g32Invalid then .nan else .fin (((signed 32 g : Int) : Rat) * pow2 u) false

/-- ulp of a BF16 code (R124). -/
def bf16Ulp (c : Nat) : Rat := pow2 ((max (bits c 14 7) 1 : Nat) - (134 : Int))

/-- The value of a master-weight pair (R124). -/
def masterVal (hi lo : Nat) : Rat :=
  (match fpDecode .bf16 hi with | .fin x _ => x | _ => 0) + ((signed 32 lo : Int) : Rat) * bf16Ulp hi * pow2 (-32)

/-- A full value as a pair (R125). -/
def masterPair (w : Rat) : Nat × Nat :=
  let hi := fpRound .bf16 .rne w false
  let h := match fpDecode .bf16 hi with | .fin x _ => x | _ => 0
  let lo := rneInt ((w - h) / (bf16Ulp hi * pow2 (-32)))
  (hi, unsignedOf 32 (if lo > 2 ^ 31 - 1 then 2 ^ 31 - 1 else if lo < -(2 ^ 31) then -(2 ^ 31) else lo))

end Sys2Proof.Machine
end

