-- ==== Sys2Proof/Machine/Lacc.lean ====
section
/-! DEFINITION. The long accumulator and the output converter (06_long_accumulator_and_conversion.md R131 to R150). -/
namespace Sys2Proof.Machine

/-- A long accumulator: the 96-bit integer L and the side bits (R131). -/
structure Lacc where
  l : Nat
  pinf : Bool
  ninf : Bool
  nan : Bool
  deriving DecidableEq, Repr

/-- L = 0 with all side bits clear (R131, PSUM_SRC ZERO). -/
def Lacc.zero : Lacc := ⟨0, false, false, false⟩

/-- The 128-bit raw image (R136). -/
def Lacc.image (a : Lacc) : Nat := a.l % 2 ^ 96 + b2n a.pinf * 2 ^ 96 + b2n a.ninf * 2 ^ 97 + b2n a.nan * 2 ^ 98

/-- A raw image read back (R136). -/
def Lacc.ofImage (x : Nat) : Lacc := ⟨x % 2 ^ 96, bit x 96, bit x 97, bit x 98⟩

/-- Add an integer into L (R131, R134): a sum outside the range sets NAN and leaves the sum modulo 2^96. -/
def Lacc.addInt (a : Lacc) (i : Int) : Lacc :=
  let s := signed 96 a.l + i
  if -(2 ^ 95) ≤ s ∧ s < 2 ^ 95 then { a with l := unsignedOf 96 s }
  else { a with l := unsignedOf 96 s, nan := true }

/-- The formats of FEED operands: 0 E4M3, 1 E5M2, 2 S8 piece (R94). A piece is special only at position 0 (R120). -/
def feedVal (fmt pos c : Nat) : Val :=
  if fmt = 0 then fpDecode .e4m3 c else if fmt = 1 then fpDecode .e5m2 c
  else if pos = 0 then s8Decode c else .fin ((signed 8 c : Int) : Rat) false

/-- One product into the accumulator (R132, R135). FP8 products are multiples of 2^−32; a piece product at position p
weighs 2^(−8p). -/
def Lacc.product (a : Lacc) (actFmt wFmt pos ac wc : Nat) : Lacc :=
  match feedVal actFmt pos ac, feedVal wFmt pos wc with
  | .nan, _ => { a with nan := true }
  | _, .nan => { a with nan := true }
  | .inf n1, .inf n2 => if n1 = n2 then { a with pinf := true } else { a with ninf := true }
  | .inf n1, .fin y _ => if y = 0 then { a with nan := true } else if n1 = decide (y < 0) then { a with pinf := true } else { a with ninf := true }
  | .fin x _, .inf n2 => if x = 0 then { a with nan := true } else if n2 = decide (x < 0) then { a with pinf := true } else { a with ninf := true }
  | .fin x _, .fin y _ => a.addInt (x * y * pow2 (32 - 8 * (pos : Int))).floor

/-- The 16 products of one output column, strictly in order of k (R86). -/
def laccColumn (actFmt wFmt pos : Nat) : Lacc → List Nat → List Nat → Lacc
  | a, x :: xs, w :: ws => laccColumn actFmt wFmt pos (a.product actFmt wFmt pos x w) xs ws
  | a, _, _ => a

/-- A converter descriptor (R143, R144). -/
structure ConvDesc where
  colExp : List Nat
  bias : List Nat
  clipLo : Nat
  clipHi : Nat
  drawRow : Nat
  outFmt : Nat
  round : Nat
  rowKind : Nat
  biasEn : Bool
  clipEn : Bool
  rowTable : Nat
  drawStream : Nat
  drawCol : Nat
  deriving DecidableEq, Repr

/-- The default descriptor (R146): FP32 output, RNE, unit scales, no bias, no clip. -/
def ConvDesc.default : ConvDesc :=
  { colExp := List.replicate 16 0, bias := List.replicate 16 0, clipLo := 0, clipHi := 0, drawRow := 0, outFmt := 4,
    round := 0, rowKind := 0, biasEn := false, clipEn := false, rowTable := 0, drawStream := 0, drawCol := 0 }

/-- A value is finite. -/
def Val.isFin : Val → Bool | .fin _ _ => true | _ => false

/-- The real that a finite value is (zero otherwise). -/
def Val.real : Val → Rat | .fin x _ => x | _ => 0

/-- Read and judge a 64-byte descriptor (R143 to R145): none where it is invalid. -/
def convParse (b : List Byte) : Option ConvDesc :=
  let ctl := fieldAt b 0x38 8
  let colKind := bit ctl 8
  let biasEn := bit ctl 9
  let clipEn := bit ctl 10
  let rowKind := bits ctl 7 6
  let col := (b.take 16).map (·.toNat)
  let bias := (List.range 16).map (fun n => fieldAt b (0x10 + 2 * n) 2)
  let lo := fieldAt b 0x30 2
  let hi := fieldAt b 0x32 2
  let drawRow := fieldAt b 0x34 4
  let table := bits ctl 31 12
  let vlo := fpDecode .bf16 lo
  let vhi := fpDecode .bf16 hi
  if bits ctl 3 0 > 5 ∨ bits ctl 5 4 = 3 ∨ rowKind = 3 ∨ bit ctl 11 = true ∨ table % 16 ≠ 0 ∨ drawRow ≥ 2 ^ 28 then none
  else if rowKind = 0 ∧ table ≠ 0 then none
  else if colKind = false ∧ col.any (· ≠ 0) then none
  else if biasEn = false ∧ bias.any (· ≠ 0) then none
  else if clipEn = false ∧ (lo ≠ 0 ∨ hi ≠ 0) then none
  else if clipEn = true ∧ ¬ (vlo.isFin = true ∧ vhi.isFin = true ∧ vlo.real ≤ vhi.real) then none
  else some { colExp := col, bias := bias, clipLo := lo, clipHi := hi, drawRow := drawRow, outFmt := bits ctl 3 0,
              round := bits ctl 5 4, rowKind := rowKind, biasEn := biasEn, clipEn := clipEn, rowTable := table,
              drawStream := bits ctl 43 32, drawCol := bits ctl 63 44 }

/-- Bytes of a row-scale table entry: 1 for EXP8, 4 for FP32, none for UNIT (R147). -/
def ConvDesc.rowEntry (d : ConvDesc) : Nat := if d.rowKind = 1 then 1 else if d.rowKind = 2 then 4 else 0

/-- The row scale that a table entry stands for (R148). -/
def ConvDesc.rowScale (d : ConvDesc) (entry : Nat) : Val :=
  if d.rowKind = 0 then .fin 1 false else if d.rowKind = 1 then .fin (expScale entry) false else fpDecode .fp32 entry

/-- The smaller of two rationals. -/
def rmin (x y : Rat) : Rat := if x ≤ y then x else y

/-- The larger of two rationals. -/
def rmax (x y : Rat) : Rat := if x ≤ y then y else x

/-- One converted output (R148): the accumulator, the row scale, the column and the draw. -/
def ConvDesc.convert (d : ConvDesc) (a : Lacc) (rs : Val) (n draw : Nat) : Nat :=
  let b := if d.biasEn then fpDecode .bf16 (d.bias.getD n 0) else .fin 0 false
  let cs := expScale (d.colExp.getD n 0)
  let out : Val :=
    if a.nan || (a.pinf && a.ninf) || !rs.isFin || !b.isFin then .nan
    else if a.pinf || a.ninf then
      (if rs.real = 0 then .nan else .inf (a.ninf != decide (rs.real < 0)))
    else
      let t := ((signed 96 a.l : Int) : Rat) * pow2 (-32) * rs.real * cs + b.real
      let t2 := if d.clipEn then rmin (rmax t (fpDecode .bf16 d.clipLo).real) (fpDecode .bf16 d.clipHi).real else t
      .fin t2 false
  elemConvert d.outFmt (if d.round = 0 then .rne else if d.round = 1 then .rtz else .sr draw) out

/-- The element field of the converter's draw counter (R149). -/
def ConvDesc.drawElement (d : ConvDesc) (scaleRow m n : Nat) : Nat :=
  (d.drawRow + scaleRow + m) % 2 ^ 28 * 2 ^ 20 + (d.drawCol + n) % 2 ^ 20

end Sys2Proof.Machine
end

