-- ==== Sys2Proof/Machine/Regs.lean ====
section
/-! DEFINITION. The registers of every block (01_module_at_a_glance.md R19 and the register tables of chapters 01 to 20):
a register's device address, its fields, and the table of access codes and reset values (00_scope.md R7, R11).
A definition named after a register gives its address; one named after a register and a field gives the field's bits. -/
namespace Sys2Proof.Machine

/-- A field of a register: its highest and lowest bit. -/
structure Fld where
  hi : Nat
  lo : Nat
  deriving DecidableEq, Repr

/-- The access codes of R7. -/
inductive Acc | ro | rw | wo | w1c | w1s | rc | rwl
  deriving DecidableEq, Repr

/-- A row of the register table: the offset in the block's instance, an array's length and stride, a group's count and
stride, the reset value (fuse, flash and image fields: zero) and the fields with their access codes. -/
structure RegRow where
  off : Nat
  n1 : Nat
  s1 : Nat
  n2 : Nat
  s2 : Nat
  rst : Nat
  fields : List (Fld × Acc)
  deriving DecidableEq, Repr

/-- The blocks of R19. -/
inductive Block | id | wk | zn | pd | si | tl | rt | uc | qh | kl | ce | av | hb | tc | me | vu
  deriving DecidableEq, Repr

/-- ID_DEVICE (01 R22). -/
def ID_DEVICE : Nat := 0x20000000000
def ID_DEVICE_VENDOR : Fld := ⟨63, 48⟩
def ID_DEVICE_PART : Fld := ⟨47, 32⟩
def ID_DEVICE_ARCH_GEN : Fld := ⟨31, 24⟩
def ID_DEVICE_STEPPING : Fld := ⟨23, 16⟩
def ID_DEVICE_GRADE : Fld := ⟨7, 0⟩
/-- ID_TILES (01 R22). -/
def ID_TILES : Nat := 0x20000000008
def ID_TILES_TILE_COLS : Fld := ⟨63, 56⟩
def ID_TILES_TILE_ROWS : Fld := ⟨55, 48⟩
def ID_TILES_TILES_DIE1 : Fld := ⟨47, 32⟩
def ID_TILES_TILES_DIE0 : Fld := ⟨31, 16⟩
def ID_TILES_LOGICAL_TILES : Fld := ⟨15, 0⟩
/-- ID_REGIONS (01 R22). -/
def ID_REGIONS : Nat := 0x20000000010
def ID_REGIONS_SPARES_PER_DIE : Fld := ⟨39, 32⟩
def ID_REGIONS_REGION_MASK_DIE1 : Fld := ⟨31, 16⟩
def ID_REGIONS_REGION_MASK_DIE0 : Fld := ⟨15, 0⟩
/-- ID_UNITS (01 R22). -/
def ID_UNITS : Nat := 0x20000000018
def ID_UNITS_HBM_MASK : Fld := ⟨63, 56⟩
def ID_UNITS_PORT_MASK : Fld := ⟨41, 32⟩
def ID_UNITS_CE_MASK : Fld := ⟨31, 24⟩
def ID_UNITS_ANVIL_MASK : Fld := ⟨23, 16⟩
def ID_UNITS_ANVIL_COUNT : Fld := ⟨15, 12⟩
def ID_UNITS_VU_PER_TILE : Fld := ⟨7, 4⟩
def ID_UNITS_ME_PER_TILE : Fld := ⟨3, 0⟩
/-- ID_MEMORY (01 R22). -/
def ID_MEMORY : Nat := 0x20000000020
def ID_MEMORY_HBM_PIN_MBPS : Fld := ⟨47, 32⟩
def ID_MEMORY_TILE_SRAM_KIB : Fld := ⟨31, 16⟩
def ID_MEMORY_HBM_STACKS : Fld := ⟨15, 8⟩
def ID_MEMORY_HBM_GIB_PER_STACK : Fld := ⟨7, 0⟩
/-- ID_QUEUES (01 R22). -/
def ID_QUEUES : Nat := 0x20000000028
def ID_QUEUES_CMD_WORD_BYTES : Fld := ⟨55, 48⟩
def ID_QUEUES_PARTITIONS : Fld := ⟨43, 40⟩
def ID_QUEUES_ENGINE_QUEUE_DEPTH : Fld := ⟨39, 32⟩
def ID_QUEUES_SYNC_COUNTERS : Fld := ⟨31, 24⟩
def ID_QUEUES_SYNC_FLAGS : Fld := ⟨23, 16⟩
def ID_QUEUES_QUEUES_PER_DIE : Fld := ⟨15, 0⟩
/-- ID_CLOCK (01 R22). -/
def ID_CLOCK : Nat := 0x20000000030
def ID_CLOCK_FMAX_MHZ : Fld := ⟨47, 32⟩
def ID_CLOCK_FNOM_MHZ : Fld := ⟨31, 16⟩
def ID_CLOCK_FMIN_MHZ : Fld := ⟨15, 0⟩
/-- ID_LIBRARY (01 R22). -/
def ID_LIBRARY : Nat := 0x20000000038
def ID_LIBRARY_ROUTINE_COUNT : Fld := ⟨63, 48⟩
def ID_LIBRARY_LIB_PATCH : Fld := ⟨47, 32⟩
def ID_LIBRARY_LIB_MINOR : Fld := ⟨31, 16⟩
def ID_LIBRARY_LIB_MAJOR : Fld := ⟨15, 0⟩
/-- ID_SERIAL (01 R22). -/
def ID_SERIAL : Nat := 0x20000000040
def ID_SERIAL_SERIAL : Fld := ⟨63, 0⟩
/-- WK_STATUS (18 R440). -/
def WK_STATUS : Nat := 0x20000010000
def WK_STATUS_MIN_SVN : Fld := ⟨47, 40⟩
def WK_STATUS_FW_SVN : Fld := ⟨39, 32⟩
def WK_STATUS_PLAN_PENDING : Fld := ⟨21, 21⟩
def WK_STATUS_FLASH_BUSY : Fld := ⟨20, 20⟩
def WK_STATUS_I3C_MODE : Fld := ⟨19, 18⟩
def WK_STATUS_BUF_OWNER : Fld := ⟨17, 16⟩
def WK_STATUS_DEBUG : Fld := ⟨13, 12⟩
def WK_STATUS_LC_PEND_VALID : Fld := ⟨11, 11⟩
def WK_STATUS_LC_PENDING : Fld := ⟨10, 8⟩
def WK_STATUS_LIFECYCLE : Fld := ⟨6, 4⟩
def WK_STATUS_BOOT_STATE : Fld := ⟨2, 0⟩
/-- WK_FW_MEAS (18 R440). -/
def WK_FW_MEAS (i : Nat) : Nat := 0x20000010008 + i * 0x8
def WK_FW_MEAS_MEAS : Fld := ⟨63, 0⟩
/-- WK_ERR (18 R440). -/
def WK_ERR : Nat := 0x20000010048
def WK_ERR_ROM_CAUSE : Fld := ⟨10, 8⟩
def WK_ERR_CAL_DEFAULT : Fld := ⟨4, 4⟩
def WK_ERR_RECORD_BAD : Fld := ⟨3, 3⟩
def WK_ERR_FLASH : Fld := ⟨2, 2⟩
def WK_ERR_LOG_WRAP : Fld := ⟨1, 1⟩
def WK_ERR_RECOVERY : Fld := ⟨0, 0⟩
/-- WK_ERR_EVENTS (18 R440). -/
def WK_ERR_EVENTS : Nat := 0x20000010050
def WK_ERR_EVENTS_COUNT : Fld := ⟨31, 0⟩
/-- WK_LOG (18 R440). -/
def WK_LOG : Nat := 0x20000010058
def WK_LOG_MIRRORED : Fld := ⟨63, 32⟩
def WK_LOG_NEXT_SEQ : Fld := ⟨31, 0⟩
/-- WK_SENS_SEL (18 R440). -/
def WK_SENS_SEL : Nat := 0x20000010060
def WK_SENS_SEL_SENSOR : Fld := ⟨15, 0⟩
/-- WK_SENS_DATA (18 R440). -/
def WK_SENS_DATA : Nat := 0x20000010068
def WK_SENS_DATA_VALID : Fld := ⟨63, 63⟩
def WK_SENS_DATA_VALUE : Fld := ⟨31, 0⟩
/-- WK_CAL_SEL (18 R440). -/
def WK_CAL_SEL : Nat := 0x20000010070
def WK_CAL_SEL_SENSOR : Fld := ⟨15, 0⟩
/-- WK_CAL_DATA (18 R440). -/
def WK_CAL_DATA : Nat := 0x20000010078
def WK_CAL_DATA_EFFECTIVE : Fld := ⟨47, 32⟩
def WK_CAL_DATA_USER : Fld := ⟨31, 16⟩
def WK_CAL_DATA_FACTORY : Fld := ⟨15, 0⟩
/-- WK_OSC_TRIM (18 R440). -/
def WK_OSC_TRIM : Nat := 0x20000010080
def WK_OSC_TRIM_EFFECTIVE : Fld := ⟨47, 32⟩
def WK_OSC_TRIM_USER : Fld := ⟨31, 16⟩
def WK_OSC_TRIM_FACTORY : Fld := ⟨15, 0⟩
/-- WK_I3C (18 R440). -/
def WK_I3C : Nat := 0x20000010088
def WK_I3C_I2C_EN : Fld := ⟨16, 16⟩
def WK_I3C_DYN_VALID : Fld := ⟨15, 15⟩
def WK_I3C_DYN_ADDR : Fld := ⟨14, 8⟩
def WK_I3C_STATIC_ADDR : Fld := ⟨6, 0⟩
/-- WK_PCAP (20 R464). -/
def WK_PCAP : Nat := 0x20000010090
def WK_PCAP_F_REQ_MHZ : Fld := ⟨47, 32⟩
def WK_PCAP_CAP_W : Fld := ⟨15, 0⟩
/-- WK_PWR_STATUS (20 R464). -/
def WK_PWR_STATUS : Nat := 0x20000010098
def WK_PWR_STATUS_F_HIGH_MHZ : Fld := ⟨63, 48⟩
def WK_PWR_STATUS_F_LOW_MHZ : Fld := ⟨47, 32⟩
def WK_PWR_STATUS_INPUT_W : Fld := ⟨31, 16⟩
def WK_PWR_STATUS_HBM_LIMIT : Fld := ⟨3, 3⟩
def WK_PWR_STATUS_THERMAL : Fld := ⟨2, 2⟩
def WK_PWR_STATUS_CAP : Fld := ⟨1, 1⟩
def WK_PWR_STATUS_VIN_LOW : Fld := ⟨0, 0⟩
/-- WK_PWR_ERR (20 R464). -/
def WK_PWR_ERR : Nat := 0x200000100A0
def WK_PWR_ERR_TRIP : Fld := ⟨5, 5⟩
def WK_PWR_ERR_FAST_LIMIT : Fld := ⟨4, 4⟩
def WK_PWR_ERR_HBM_LIMIT : Fld := ⟨3, 3⟩
def WK_PWR_ERR_THERMAL : Fld := ⟨2, 2⟩
def WK_PWR_ERR_CAP : Fld := ⟨1, 1⟩
def WK_PWR_ERR_VIN_LOW : Fld := ⟨0, 0⟩
/-- WK_PWR_EVENTS (20 R464). -/
def WK_PWR_EVENTS : Nat := 0x200000100A8
def WK_PWR_EVENTS_COUNT : Fld := ⟨31, 0⟩
/-- ZN_NOW (14 R359). -/
def ZN_NOW : Nat := 0x20000020000
def ZN_NOW_NS : Fld := ⟨63, 0⟩
/-- ZN_FRAC (14 R359). -/
def ZN_FRAC : Nat := 0x20000020008
def ZN_FRAC_FRAC : Fld := ⟨7, 0⟩
/-- ZN_STATUS (14 R359). -/
def ZN_STATUS : Nat := 0x20000020010
def ZN_STATUS_HOPS : Fld := ⟨47, 40⟩
def ZN_STATUS_PARENT : Fld := ⟨39, 36⟩
def ZN_STATUS_QUALITY : Fld := ⟨35, 34⟩
def ZN_STATUS_TOD_SLEW : Fld := ⟨33, 33⟩
def ZN_STATUS_TOD_VALID : Fld := ⟨32, 32⟩
def ZN_STATUS_ROOT : Fld := ⟨3, 3⟩
def ZN_STATUS_STATE : Fld := ⟨2, 0⟩
/-- ZN_OFFSET (14 R359). -/
def ZN_OFFSET : Nat := 0x20000020018
def ZN_OFFSET_MAX_ABS : Fld := ⟨63, 32⟩
def ZN_OFFSET_THETA : Fld := ⟨31, 0⟩
/-- ZN_ROOT (14 R359). -/
def ZN_ROOT : Nat := 0x20000020020
def ZN_ROOT_SERIAL : Fld := ⟨63, 0⟩
/-- ZN_ELECT (14 R359). -/
def ZN_ELECT : Nat := 0x20000020028
def ZN_ELECT_ELIGIBLE : Fld := ⟨8, 8⟩
def ZN_ELECT_PRIO : Fld := ⟨7, 0⟩
/-- ZN_REF_CFG (14 R359). -/
def ZN_REF_CFG : Nat := 0x20000020030
def ZN_REF_CFG_MISSED_EDGES : Fld := ⟨31, 16⟩
def ZN_REF_CFG_PPS_EN : Fld := ⟨2, 2⟩
def ZN_REF_CFG_CLK_SEL : Fld := ⟨1, 0⟩
/-- ZN_NEXT_SEC (14 R359). -/
def ZN_NEXT_SEC : Nat := 0x20000020038
def ZN_NEXT_SEC_SEC : Fld := ⟨63, 0⟩
/-- ZN_CTRL (14 R359). -/
def ZN_CTRL : Nat := 0x20000020040
def ZN_CTRL_REACQUIRE : Fld := ⟨0, 0⟩
/-- ZN_ERR (14 R359). -/
def ZN_ERR : Nat := 0x20000020048
def ZN_ERR_CAL_DEFAULT : Fld := ⟨7, 7⟩
def ZN_ERR_STOP_LATE : Fld := ⟨6, 6⟩
def ZN_ERR_STOP_REFUSED : Fld := ⟨5, 5⟩
def ZN_ERR_STEP_REFUSED : Fld := ⟨4, 4⟩
def ZN_ERR_REF_LOST : Fld := ⟨3, 3⟩
def ZN_ERR_ROOT_CHANGE : Fld := ⟨2, 2⟩
def ZN_ERR_PARENT_LOST : Fld := ⟨1, 1⟩
def ZN_ERR_LOCK_LOST : Fld := ⟨0, 0⟩
/-- ZN_ERR_EVENTS (14 R359). -/
def ZN_ERR_EVENTS : Nat := 0x20000020050
def ZN_ERR_EVENTS_COUNT : Fld := ⟨31, 0⟩
/-- ZN_OUT_CFG (14 R359). -/
def ZN_OUT_CFG : Nat := 0x20000020058
def ZN_OUT_CFG_TOD_EN : Fld := ⟨1, 1⟩
def ZN_OUT_CFG_PPS_EN : Fld := ⟨0, 0⟩
/-- ZN_CAL_PPS_IN (14 R359). -/
def ZN_CAL_PPS_IN : Nat := 0x20000020060
def ZN_CAL_PPS_IN_EFFECTIVE : Fld := ⟨47, 32⟩
def ZN_CAL_PPS_IN_USER : Fld := ⟨31, 16⟩
def ZN_CAL_PPS_IN_FACTORY : Fld := ⟨15, 0⟩
/-- ZN_CAL_PPS_OUT (14 R359). -/
def ZN_CAL_PPS_OUT : Nat := 0x20000020068
def ZN_CAL_PPS_OUT_EFFECTIVE : Fld := ⟨47, 32⟩
def ZN_CAL_PPS_OUT_USER : Fld := ⟨31, 16⟩
def ZN_CAL_PPS_OUT_FACTORY : Fld := ⟨15, 0⟩
/-- ZN_CAL_ASYM (14 R359). -/
def ZN_CAL_ASYM (i : Nat) : Nat := 0x20000020080 + i * 0x8
def ZN_CAL_ASYM_EFFECTIVE : Fld := ⟨47, 32⟩
def ZN_CAL_ASYM_USER : Fld := ⟨31, 16⟩
def ZN_CAL_ASYM_FACTORY : Fld := ⟨15, 0⟩
/-- ZN_STOP_STATE (14 R359). -/
def ZN_STOP_STATE : Nat := 0x20000020200
def ZN_STOP_STATE_STOPPED : Fld := ⟨39, 32⟩
def ZN_STOP_STATE_ALL : Fld := ⟨31, 31⟩
def ZN_STOP_STATE_LAST_ID : Fld := ⟨30, 0⟩
/-- ZN_STOP_T (14 R359). -/
def ZN_STOP_T : Nat := 0x20000020208
def ZN_STOP_T_T : Fld := ⟨63, 0⟩
/-- ZN_STOP_SCOPE (14 R359). -/
def ZN_STOP_SCOPE : Nat := 0x20000020210
def ZN_STOP_SCOPE_ALL : Fld := ⟨8, 8⟩
def ZN_STOP_SCOPE_SCOPE : Fld := ⟨7, 0⟩
/-- ZN_STOP_CMD (14 R359). -/
def ZN_STOP_CMD : Nat := 0x20000020218
def ZN_STOP_CMD_IMMEDIATE : Fld := ⟨2, 2⟩
def ZN_STOP_CMD_RESUME : Fld := ⟨1, 1⟩
def ZN_STOP_CMD_STOP : Fld := ⟨0, 0⟩
/-- ZN_STOP_REC_ADDR (14 R359). -/
def ZN_STOP_REC_ADDR : Nat := 0x20000020220
def ZN_STOP_REC_ADDR_ADDR : Fld := ⟨47, 0⟩
/-- ZN_STOP_LEAD (14 R359). -/
def ZN_STOP_LEAD : Nat := 0x20000020228
def ZN_STOP_LEAD_LEAD_US : Fld := ⟨31, 0⟩
/-- ZN_FRAME_SIG (14 R359). -/
def ZN_FRAME_SIG (g i : Nat) : Nat := 0x20000020400 + g * 0x40 + i * 0x8
def ZN_FRAME_SIG_ENABLE : Fld := ⟨63, 63⟩
def ZN_FRAME_SIG_COUNTER : Fld := ⟨22, 16⟩
def ZN_FRAME_SIG_TILE : Fld := ⟨15, 0⟩
/-- ZN_FRAME_COUNT (14 R359). -/
def ZN_FRAME_COUNT (g : Nat) : Nat := 0x20000020420 + g * 0x40
def ZN_FRAME_COUNT_MISSED : Fld := ⟨47, 32⟩
def ZN_FRAME_COUNT_FRAMES : Fld := ⟨31, 0⟩
/-- PD_STATUS (17 R418). -/
def PD_STATUS : Nat := 0x20000030000
def PD_STATUS_WAKE_CAUSE : Fld := ⟨11, 8⟩
def PD_STATUS_DRIZZLE : Fld := ⟨0, 0⟩
/-- PD_ERR (17 R418). -/
def PD_ERR : Nat := 0x20000030008
def PD_ERR_DZ_REFUSED : Fld := ⟨4, 4⟩
def PD_ERR_DZ_ALERT : Fld := ⟨3, 3⟩
def PD_ERR_TRANSITION_FAIL : Fld := ⟨2, 2⟩
def PD_ERR_HELD : Fld := ⟨1, 1⟩
def PD_ERR_VOTE_BAD : Fld := ⟨0, 0⟩
/-- PD_ERR_EVENTS (17 R418). -/
def PD_ERR_EVENTS : Nat := 0x20000030010
def PD_ERR_EVENTS_COUNT : Fld := ⟨31, 0⟩
/-- PD_HELD (17 R418). -/
def PD_HELD : Nat := 0x20000030018
def PD_HELD_COUNT : Fld := ⟨31, 0⟩
/-- PD_DZ_CTRL (17 R418). -/
def PD_DZ_CTRL : Nat := 0x20000030020
def PD_DZ_CTRL_ENTER : Fld := ⟨63, 63⟩
def PD_DZ_CTRL_WAKE_ON_ALERT : Fld := ⟨62, 62⟩
def PD_DZ_CTRL_RESUME_MASK : Fld := ⟨55, 48⟩
def PD_DZ_CTRL_INTERVAL_MS : Fld := ⟨13, 0⟩
/-- PD_DZ_STATUS (17 R418). -/
def PD_DZ_STATUS : Nat := 0x20000030028
def PD_DZ_STATUS_SAMPLES : Fld := ⟨63, 32⟩
def PD_DZ_STATUS_ALERTS : Fld := ⟨31, 16⟩
def PD_DZ_STATUS_EXITS : Fld := ⟨15, 0⟩
/-- PD_DZ_THR (17 R418). -/
def PD_DZ_THR (i : Nat) : Nat := 0x20000030040 + i * 0x8
def PD_DZ_THR_ENABLE : Fld := ⟨63, 63⟩
def PD_DZ_THR_HIGH : Fld := ⟨47, 32⟩
def PD_DZ_THR_LOW : Fld := ⟨31, 16⟩
def PD_DZ_THR_SENSOR : Fld := ⟨15, 0⟩
/-- PD_DOM (17 R418). -/
def PD_DOM (i : Nat) : Nat := 0x20000031000 + i * 0x8
def PD_DOM_TRANSITIONS : Fld := ⟨63, 48⟩
def PD_DOM_STATE : Fld := ⟨42, 40⟩
def PD_DOM_FLOOR : Fld := ⟨39, 38⟩
def PD_DOM_DEP : Fld := ⟨37, 36⟩
def PD_DOM_TARGET : Fld := ⟨35, 34⟩
def PD_DOM_IMAGE : Fld := ⟨7, 6⟩
def PD_DOM_WELKIN : Fld := ⟨5, 4⟩
def PD_DOM_LIB : Fld := ⟨3, 2⟩
def PD_DOM_HOST : Fld := ⟨1, 0⟩
/-- SI_LOCK_VIOL (02 R46). -/
def SI_LOCK_VIOL : Nat := 0x20000040000
def SI_LOCK_VIOL_COUNT : Fld := ⟨31, 0⟩
/-- SI_POLICY (02 R46). -/
def SI_POLICY : Nat := 0x20000040008
def SI_POLICY_KEY_SLOT_MASK : Fld := ⟨11, 8⟩
def SI_POLICY_REQUIRE_SIGNED : Fld := ⟨0, 0⟩
/-- SI_FORCE_PASS (06 R141). -/
def SI_FORCE_PASS : Nat := 0x20000040010
def SI_FORCE_PASS_REFUSED : Fld := ⟨47, 16⟩
def SI_FORCE_PASS_MODE : Fld := ⟨1, 0⟩
/-- SI_CTRL (02 R46). -/
def SI_CTRL (g : Nat) : Nat := 0x20000040100 + g * 0x100
def SI_CTRL_CMD : Fld := ⟨2, 0⟩
/-- SI_SRC (02 R46). -/
def SI_SRC (g : Nat) : Nat := 0x20000040108 + g * 0x100
def SI_SRC_ADDR : Fld := ⟨47, 0⟩
/-- SI_LEN (02 R46). -/
def SI_LEN (g : Nat) : Nat := 0x20000040110 + g * 0x100
def SI_LEN_LEN : Fld := ⟨31, 0⟩
/-- SI_ACT_NOT_BEFORE (02 R46). -/
def SI_ACT_NOT_BEFORE (g : Nat) : Nat := 0x20000040118 + g * 0x100
def SI_ACT_NOT_BEFORE_ZT : Fld := ⟨63, 0⟩
/-- SI_STATUS (02 R46). -/
def SI_STATUS (g : Nat) : Nat := 0x20000040120 + g * 0x100
def SI_STATUS_ENTRY : Fld := ⟨55, 32⟩
def SI_STATUS_SECTION : Fld := ⟨31, 24⟩
def SI_STATUS_REFUSE_CODE : Fld := ⟨23, 16⟩
def SI_STATUS_SLICE : Fld := ⟨15, 8⟩
def SI_STATUS_ACTIVE : Fld := ⟨3, 3⟩
def SI_STATUS_STAGE : Fld := ⟨2, 0⟩
/-- SI_ACT_TIME (02 R46). -/
def SI_ACT_TIME (g : Nat) : Nat := 0x20000040128 + g * 0x100
def SI_ACT_TIME_VALUE : Fld := ⟨63, 0⟩
/-- SI_ACT_DONE (02 R46). -/
def SI_ACT_DONE (g : Nat) : Nat := 0x20000040130 + g * 0x100
def SI_ACT_DONE_VALUE : Fld := ⟨63, 0⟩
/-- SI_REPORT_ADDR (02 R46). -/
def SI_REPORT_ADDR (g : Nat) : Nat := 0x20000040138 + g * 0x100
def SI_REPORT_ADDR_VALUE : Fld := ⟨47, 0⟩
/-- SI_EVENTS (02 R46). -/
def SI_EVENTS (g : Nat) : Nat := 0x20000040140 + g * 0x100
def SI_EVENTS_VALUE : Fld := ⟨63, 0⟩
/-- SI_DISCARDS (02 R46). -/
def SI_DISCARDS (g : Nat) : Nat := 0x20000040148 + g * 0x100
def SI_DISCARDS_VALUE : Fld := ⟨63, 0⟩
/-- SI_DRAW_KEY0 (07 R166). -/
def SI_DRAW_KEY0 (g : Nat) : Nat := 0x20000040150 + g * 0x100
def SI_DRAW_KEY0_KEY0 : Fld := ⟨63, 0⟩
/-- SI_DRAW_KEY1 (07 R166). -/
def SI_DRAW_KEY1 (g : Nat) : Nat := 0x20000040158 + g * 0x100
def SI_DRAW_KEY1_KEY1 : Fld := ⟨63, 0⟩
/-- SI_HALO_BASE (08 R194). -/
def SI_HALO_BASE (g : Nat) : Nat := 0x20000040160 + g * 0x100
def SI_HALO_BASE_ADDR : Fld := ⟨47, 0⟩
/-- SI_HALO_GEOM (08 R194). -/
def SI_HALO_GEOM (g : Nat) : Nat := 0x20000040168 + g * 0x100
def SI_HALO_GEOM_ENABLE : Fld := ⟨63, 63⟩
def SI_HALO_GEOM_SLOTS : Fld := ⟨47, 40⟩
def SI_HALO_GEOM_LAYERS : Fld := ⟨39, 20⟩
def SI_HALO_GEOM_LAYER_BASE : Fld := ⟨19, 0⟩
/-- SI_TEST_SAVE (15 R383). -/
def SI_TEST_SAVE (g : Nat) : Nat := 0x20000040170 + g * 0x100
def SI_TEST_SAVE_ADDR : Fld := ⟨47, 0⟩
/-- SI_TEST_STATUS (15 R383). -/
def SI_TEST_STATUS (g : Nat) : Nat := 0x20000040178 + g * 0x100
def SI_TEST_STATUS_FAILED : Fld := ⟨63, 48⟩
def SI_TEST_STATUS_SKIPPED_COND : Fld := ⟨47, 32⟩
def SI_TEST_STATUS_RUN : Fld := ⟨31, 0⟩
/-- SI_MEAS_STAGED (02 R46). -/
def SI_MEAS_STAGED (g i : Nat) : Nat := 0x20000040180 + g * 0x100 + i * 0x8
def SI_MEAS_STAGED_VALUE : Fld := ⟨63, 0⟩
/-- SI_MEAS_ACTIVE (02 R46). -/
def SI_MEAS_ACTIVE (g i : Nat) : Nat := 0x200000401C0 + g * 0x100 + i * 0x8
def SI_MEAS_ACTIVE_VALUE : Fld := ⟨63, 0⟩
/-- SI_SPARE_SEL (15 R368). -/
def SI_SPARE_SEL : Nat := 0x20000041000
def SI_SPARE_SEL_DIE : Fld := ⟨5, 5⟩
def SI_SPARE_SEL_ROW : Fld := ⟨4, 0⟩
/-- SI_SPARE_TILES (15 R368). -/
def SI_SPARE_TILES (i : Nat) : Nat := 0x20000041008 + i * 0x8
/-- SI_SPARE_UNITS (15 R368). -/
def SI_SPARE_UNITS : Nat := 0x20000041030
def SI_SPARE_UNITS_HBM : Fld := ⟨23, 16⟩
def SI_SPARE_UNITS_CE : Fld := ⟨15, 8⟩
def SI_SPARE_UNITS_ANVIL : Fld := ⟨7, 0⟩
/-- SI_SPARE_ERR (15 R368). -/
def SI_SPARE_ERR : Nat := 0x20000041038
def SI_SPARE_ERR_HALO_LOST : Fld := ⟨3, 3⟩
def SI_SPARE_ERR_FLASH : Fld := ⟨2, 2⟩
def SI_SPARE_ERR_DATA_LOSS : Fld := ⟨1, 1⟩
def SI_SPARE_ERR_FENCE : Fld := ⟨0, 0⟩
/-- SI_SPARE_EVENTS (15 R368). -/
def SI_SPARE_EVENTS : Nat := 0x20000041040
def SI_SPARE_EVENTS_COUNT : Fld := ⟨31, 0⟩
/-- SI_TEST_CTRL (15 R383). -/
def SI_TEST_CTRL : Nat := 0x20000041048
def SI_TEST_CTRL_ENABLE : Fld := ⟨0, 0⟩
/-- SI_TEST_COVER (15 R383). -/
def SI_TEST_COVER : Nat := 0x20000041050
def SI_TEST_COVER_PASSES : Fld := ⟨63, 40⟩
def SI_TEST_COVER_TESTED : Fld := ⟨39, 16⟩
def SI_TEST_COVER_FAILED : Fld := ⟨15, 0⟩
/-- SI_RESET (19 R448). -/
def SI_RESET : Nat := 0x20000041060
def SI_RESET_TILE : Fld := ⟨31, 16⟩
def SI_RESET_PARTITION : Fld := ⟨10, 8⟩
def SI_RESET_LEVEL : Fld := ⟨1, 0⟩
/-- SI_RESET_STATUS (19 R448). -/
def SI_RESET_STATUS : Nat := 0x20000041068
def SI_RESET_STATUS_REFUSED : Fld := ⟨63, 48⟩
def SI_RESET_STATUS_WARM : Fld := ⟨47, 40⟩
def SI_RESET_STATUS_PARTITION : Fld := ⟨39, 32⟩
def SI_RESET_STATUS_TILE : Fld := ⟨31, 16⟩
def SI_RESET_STATUS_LAST_LEVEL : Fld := ⟨2, 1⟩
def SI_RESET_STATUS_BUSY : Fld := ⟨0, 0⟩
/-- SI_RESET_ZT (19 R448). -/
def SI_RESET_ZT : Nat := 0x20000041070
def SI_RESET_ZT_ZT : Fld := ⟨63, 0⟩
/-- SI_START (19 R445). -/
def SI_START : Nat := 0x20000041078
def SI_START_HALT_CAUSE : Fld := ⟨23, 20⟩
def SI_START_HALT_PHASE : Fld := ⟨19, 16⟩
def SI_START_NO_PLAN : Fld := ⟨14, 14⟩
def SI_START_ZENITH_UNLOCKED : Fld := ⟨13, 13⟩
def SI_START_PORT_UNSETTLED : Fld := ⟨12, 12⟩
def SI_START_UCIE_DEGRADED : Fld := ⟨11, 11⟩
def SI_START_HBM_FAILED : Fld := ⟨10, 10⟩
def SI_START_MARKS_ADDED : Fld := ⟨9, 9⟩
def SI_START_FLASH_MARKS : Fld := ⟨8, 8⟩
def SI_START_PHASE : Fld := ⟨3, 0⟩
/-- SI_START_TIME (19 R445). -/
def SI_START_TIME (i : Nat) : Nat := 0x20000041080 + i * 0x8
def SI_START_TIME_END_HI : Fld := ⟨63, 32⟩
def SI_START_TIME_END_LO : Fld := ⟨31, 0⟩
/-- TL_SEL (16 R401). -/
def TL_SEL : Nat := 0x20000050000
def TL_SEL_INSTANCE : Fld := ⟨18, 8⟩
def TL_SEL_KIND : Fld := ⟨2, 0⟩
/-- TL_ERR (16 R401). -/
def TL_ERR : Nat := 0x20000050008
def TL_ERR_CFG_REFUSED : Fld := ⟨5, 5⟩
def TL_ERR_WATCH_NOT_FOUND : Fld := ⟨4, 4⟩
def TL_ERR_WATCH_DROP : Fld := ⟨3, 3⟩
def TL_ERR_TRACE_DROP : Fld := ⟨2, 2⟩
def TL_ERR_SNAP_CFG : Fld := ⟨1, 1⟩
def TL_ERR_SNAP_DROP : Fld := ⟨0, 0⟩
/-- TL_ERR_EVENTS (16 R401). -/
def TL_ERR_EVENTS : Nat := 0x20000050010
def TL_ERR_EVENTS_COUNT : Fld := ⟨31, 0⟩
/-- TL_CNT (16 R401). -/
def TL_CNT (i : Nat) : Nat := 0x20000050100 + i * 0x8
def TL_CNT_VALUE : Fld := ⟨63, 0⟩
/-- TL_CFGA (16 R401). -/
def TL_CFGA (i : Nat) : Nat := 0x20000050200 + i * 0x10
def TL_CFGA_CFGA : Fld := ⟨63, 0⟩
/-- TL_CFGB (16 R401). -/
def TL_CFGB (i : Nat) : Nat := 0x20000050208 + i * 0x10
def TL_CFGB_CFGB : Fld := ⟨63, 0⟩
/-- TL_ARANGE_BASE (16 R401). -/
def TL_ARANGE_BASE (i : Nat) : Nat := 0x20000050300 + i * 0x10
def TL_ARANGE_BASE_BASE : Fld := ⟨47, 0⟩
/-- TL_ARANGE_LIMIT (16 R401). -/
def TL_ARANGE_LIMIT (i : Nat) : Nat := 0x20000050308 + i * 0x10
def TL_ARANGE_LIMIT_LIMIT : Fld := ⟨47, 0⟩
/-- TL_LIST (16 R401). -/
def TL_LIST (i : Nat) : Nat := 0x20000050400 + i * 0x8
def TL_LIST_COUNT : Fld := ⟨31, 20⟩
def TL_LIST_FIRST : Fld := ⟨18, 8⟩
def TL_LIST_KIND : Fld := ⟨2, 0⟩
/-- TL_SNAP_START (16 R401). -/
def TL_SNAP_START (i : Nat) : Nat := 0x20000050600 + i * 0x40
def TL_SNAP_START_ZT : Fld := ⟨63, 0⟩
/-- TL_SNAP_CTRL (16 R401). -/
def TL_SNAP_CTRL (i : Nat) : Nat := 0x20000050608 + i * 0x40
def TL_SNAP_CTRL_ENABLE : Fld := ⟨63, 63⟩
def TL_SNAP_CTRL_LIST_FIRST : Fld := ⟨61, 56⟩
def TL_SNAP_CTRL_LIST_COUNT : Fld := ⟨54, 48⟩
def TL_SNAP_CTRL_PERIOD_NS : Fld := ⟨39, 0⟩
/-- TL_SNAP_RING (16 R401). -/
def TL_SNAP_RING (i : Nat) : Nat := 0x20000050610 + i * 0x40
def TL_SNAP_RING_SLOTS_LOG2 : Fld := ⟨63, 60⟩
def TL_SNAP_RING_SLOT_LOG2 : Fld := ⟨52, 48⟩
def TL_SNAP_RING_BASE : Fld := ⟨47, 0⟩
/-- TL_SNAP_PTR (16 R401). -/
def TL_SNAP_PTR (i : Nat) : Nat := 0x20000050618 + i * 0x40
def TL_SNAP_PTR_HEAD : Fld := ⟨63, 32⟩
def TL_SNAP_PTR_TAIL : Fld := ⟨31, 0⟩
/-- TL_SNAP_STAT (16 R401). -/
def TL_SNAP_STAT (i : Nat) : Nat := 0x20000050620 + i * 0x40
def TL_SNAP_STAT_DROPPED : Fld := ⟨63, 32⟩
def TL_SNAP_STAT_SEQ : Fld := ⟨31, 0⟩
/-- TL_TRACE_CTRL (16 R401). -/
def TL_TRACE_CTRL : Nat := 0x20000050800
def TL_TRACE_CTRL_ENABLE : Fld := ⟨63, 63⟩
def TL_TRACE_CTRL_KIND_MASK : Fld := ⟨53, 49⟩
def TL_TRACE_CTRL_UNIT_MASK : Fld := ⟨48, 40⟩
def TL_TRACE_CTRL_PART_MASK : Fld := ⟨39, 32⟩
/-- TL_TRACE_MATCH (16 R401). -/
def TL_TRACE_MATCH : Nat := 0x20000050808
def TL_TRACE_MATCH_MATCH : Fld := ⟨63, 0⟩
/-- TL_TRACE_TILES (16 R401). -/
def TL_TRACE_TILES : Nat := 0x20000050810
def TL_TRACE_TILES_COUNT : Fld := ⟨31, 16⟩
def TL_TRACE_TILES_FIRST : Fld := ⟨15, 0⟩
/-- TL_TRACE_BASE (16 R401). -/
def TL_TRACE_BASE (i : Nat) : Nat := 0x20000050820 + i * 0x10
def TL_TRACE_BASE_SIZE_LOG2 : Fld := ⟨52, 48⟩
def TL_TRACE_BASE_ADDR : Fld := ⟨47, 0⟩
/-- TL_TRACE_PTR (16 R401). -/
def TL_TRACE_PTR (i : Nat) : Nat := 0x20000050828 + i * 0x10
def TL_TRACE_PTR_DROPPED : Fld := ⟨63, 48⟩
def TL_TRACE_PTR_HEAD : Fld := ⟨47, 32⟩
def TL_TRACE_PTR_TAIL : Fld := ⟨15, 0⟩
/-- TL_WATCH_CTRL (16 R401). -/
def TL_WATCH_CTRL (i : Nat) : Nat := 0x20000050900 + i * 0x10
def TL_WATCH_CTRL_ENABLE : Fld := ⟨63, 63⟩
def TL_WATCH_CTRL_STATE : Fld := ⟨62, 60⟩
def TL_WATCH_CTRL_PARTITION : Fld := ⟨58, 56⟩
def TL_WATCH_CTRL_REMAIN : Fld := ⟨55, 44⟩
def TL_WATCH_CTRL_MAX_KIB : Fld := ⟨43, 32⟩
def TL_WATCH_CTRL_HANDLE : Fld := ⟨31, 0⟩
/-- TL_WATCH_STEP (16 R401). -/
def TL_WATCH_STEP (i : Nat) : Nat := 0x20000050908 + i * 0x10
def TL_WATCH_STEP_TRIGGERS : Fld := ⟨63, 32⟩
def TL_WATCH_STEP_STEP : Fld := ⟨31, 0⟩
/-- TL_DBG_BASE (16 R401). -/
def TL_DBG_BASE : Nat := 0x20000050A00
def TL_DBG_BASE_ADDR : Fld := ⟨47, 0⟩
/-- TL_DBG_PTR (16 R401). -/
def TL_DBG_PTR : Nat := 0x20000050A08
def TL_DBG_PTR_HEAD : Fld := ⟨63, 32⟩
def TL_DBG_PTR_TAIL : Fld := ⟨31, 0⟩
/-- TL_DBG_SIZE (16 R401). -/
def TL_DBG_SIZE : Nat := 0x20000050A10
def TL_DBG_SIZE_SIZE_LOG2 : Fld := ⟨4, 0⟩
/-- TL_PCTRL (16 R401). -/
def TL_PCTRL (g : Nat) : Nat := 0x20000052000 + g * 0x200
def TL_PCTRL_USER_EN : Fld := ⟨0, 0⟩
/-- TL_PSEL (16 R401). -/
def TL_PSEL (g : Nat) : Nat := 0x20000052008 + g * 0x200
def TL_PSEL_SEL : Fld := ⟨63, 0⟩
/-- TL_PCNT (16 R401). -/
def TL_PCNT (g i : Nat) : Nat := 0x20000052010 + g * 0x200 + i * 0x8
def TL_PCNT_VALUE : Fld := ⟨63, 0⟩
/-- TL_PCFGA (16 R401). -/
def TL_PCFGA (g i : Nat) : Nat := 0x20000052100 + g * 0x200 + i * 0x10
def TL_PCFGA_CFGA : Fld := ⟨63, 0⟩
/-- TL_PCFGB (16 R401). -/
def TL_PCFGB (g i : Nat) : Nat := 0x20000052108 + g * 0x200 + i * 0x10
def TL_PCFGB_CFGB : Fld := ⟨63, 0⟩
/-- RT_STATUS (12 R303). -/
def RT_STATUS : Nat := 0x20000060000
def RT_STATUS_PORTS_UP : Fld := ⟨25, 16⟩
def RT_STATUS_COORD_VALID : Fld := ⟨1, 1⟩
def RT_STATUS_PRESENT : Fld := ⟨0, 0⟩
/-- RT_COORD (12 R303). -/
def RT_COORD : Nat := 0x20000060008
def RT_COORD_VALID : Fld := ⟨63, 63⟩
def RT_COORD_SIZE_W : Fld := ⟨43, 38⟩
def RT_COORD_SIZE_Z : Fld := ⟨37, 32⟩
def RT_COORD_SIZE_Y : Fld := ⟨31, 26⟩
def RT_COORD_SIZE_X : Fld := ⟨25, 20⟩
def RT_COORD_COORD : Fld := ⟨19, 0⟩
/-- RT_DISCARD0 (12 R303). -/
def RT_DISCARD0 : Nat := 0x20000060010
def RT_DISCARD0_NO_ROUTE : Fld := ⟨63, 48⟩
def RT_DISCARD0_NO_TABLE : Fld := ⟨47, 32⟩
def RT_DISCARD0_PARTITION_DENIED : Fld := ⟨31, 16⟩
def RT_DISCARD0_BAD_HEADER : Fld := ⟨15, 0⟩
/-- RT_DISCARD1 (12 R303). -/
def RT_DISCARD1 : Nat := 0x20000060018
def RT_DISCARD1_NO_ENGINE : Fld := ⟨63, 48⟩
def RT_DISCARD1_NO_QUEUE : Fld := ⟨47, 32⟩
def RT_DISCARD1_NO_SHARE : Fld := ⟨31, 16⟩
def RT_DISCARD1_WRAP_DENIED : Fld := ⟨15, 0⟩
/-- RT_ERR (12 R303). -/
def RT_ERR : Nat := 0x20000060020
def RT_ERR_CLOSE_LATE : Fld := ⟨5, 5⟩
def RT_ERR_COORD_BAD : Fld := ⟨4, 4⟩
def RT_ERR_CLOSE_TIMEOUT : Fld := ⟨3, 3⟩
def RT_ERR_EPOCH_REFUSED : Fld := ⟨2, 2⟩
def RT_ERR_TC0_OVER : Fld := ⟨1, 1⟩
def RT_ERR_DISCARD : Fld := ⟨0, 0⟩
/-- RT_ERR_EVENTS (12 R303). -/
def RT_ERR_EVENTS : Nat := 0x20000060028
def RT_ERR_EVENTS_COUNT : Fld := ⟨31, 0⟩
/-- RT_POL_SEL (12 R303). -/
def RT_POL_SEL : Nat := 0x20000060030
def RT_POL_SEL_CLASS : Fld := ⟨10, 8⟩
def RT_POL_SEL_PARTITION : Fld := ⟨6, 4⟩
def RT_POL_SEL_PORT : Fld := ⟨3, 0⟩
/-- RT_POL_DATA (12 R303). -/
def RT_POL_DATA : Nat := 0x20000060038
def RT_POL_DATA_OVER_SHARE : Fld := ⟨63, 32⟩
def RT_POL_DATA_IN_SHARE : Fld := ⟨31, 0⟩
/-- RT_VC_SEL (12 R303). -/
def RT_VC_SEL : Nat := 0x20000060040
def RT_VC_SEL_CHANNEL : Fld := ⟨7, 4⟩
def RT_VC_SEL_PORT : Fld := ⟨3, 0⟩
/-- RT_VC_DATA (12 R303). -/
def RT_VC_DATA : Nat := 0x20000060048
def RT_VC_DATA_CREDIT_WAITS : Fld := ⟨63, 32⟩
def RT_VC_DATA_OCCUPANCY : Fld := ⟨31, 16⟩
def RT_VC_DATA_CREDITS : Fld := ⟨15, 0⟩
/-- RT_TBL_SEL (12 R303). -/
def RT_TBL_SEL : Nat := 0x20000060050
def RT_TBL_SEL_COORD : Fld := ⟨10, 6⟩
def RT_TBL_SEL_AXIS : Fld := ⟨5, 4⟩
def RT_TBL_SEL_VERSION : Fld := ⟨3, 3⟩
def RT_TBL_SEL_PARTITION : Fld := ⟨2, 0⟩
/-- RT_TBL_DATA (12 R303). -/
def RT_TBL_DATA : Nat := 0x20000060058
def RT_TBL_DATA_VALID : Fld := ⟨63, 63⟩
def RT_TBL_DATA_DATELINE : Fld := ⟨2, 2⟩
def RT_TBL_DATA_DIR : Fld := ⟨1, 0⟩
/-- RT_EPOCH_STATE (12 R303). -/
def RT_EPOCH_STATE (g : Nat) : Nat := 0x20000060100 + g * 0x40
def RT_EPOCH_STATE_SWITCHES : Fld := ⟨63, 32⟩
def RT_EPOCH_STATE_CLOSE_SEEN : Fld := ⟨31, 16⟩
def RT_EPOCH_STATE_WRAP_OWNED : Fld := ⟨11, 8⟩
def RT_EPOCH_STATE_CLOSES_SENT : Fld := ⟨6, 6⟩
def RT_EPOCH_STATE_VALID1 : Fld := ⟨5, 5⟩
def RT_EPOCH_STATE_VALID0 : Fld := ⟨4, 4⟩
def RT_EPOCH_STATE_CURRENT : Fld := ⟨3, 3⟩
def RT_EPOCH_STATE_STATE : Fld := ⟨2, 0⟩
/-- RT_EPOCH_CTRL (12 R303). -/
def RT_EPOCH_CTRL (g : Nat) : Nat := 0x20000060108 + g * 0x40
def RT_EPOCH_CTRL_FORCE_DONE : Fld := ⟨1, 1⟩
def RT_EPOCH_CTRL_SWITCH : Fld := ⟨0, 0⟩
/-- RT_SWITCH_AT (12 R303). -/
def RT_SWITCH_AT (g : Nat) : Nat := 0x20000060110 + g * 0x40
def RT_SWITCH_AT_ZT : Fld := ⟨63, 0⟩
/-- RT_CLOSE_LIST (12 R303). -/
def RT_CLOSE_LIST (g : Nat) : Nat := 0x20000060118 + g * 0x40
def RT_CLOSE_LIST_COUNT : Fld := ⟨59, 48⟩
def RT_CLOSE_LIST_ADDR : Fld := ⟨47, 0⟩
/-- RT_CLOSE_EXPECT (12 R303). -/
def RT_CLOSE_EXPECT (g : Nat) : Nat := 0x20000060120 + g * 0x40
def RT_CLOSE_EXPECT_TIMEOUT_US : Fld := ⟨63, 40⟩
def RT_CLOSE_EXPECT_SIG_COUNTER : Fld := ⟨38, 32⟩
def RT_CLOSE_EXPECT_SIG_TILE : Fld := ⟨31, 16⟩
def RT_CLOSE_EXPECT_EXPECT : Fld := ⟨15, 0⟩
/-- RT_EPOCH_DONE_ZT (12 R303). -/
def RT_EPOCH_DONE_ZT (g : Nat) : Nat := 0x20000060128 + g * 0x40
def RT_EPOCH_DONE_ZT_ZT : Fld := ⟨63, 0⟩
/-- UC_STATUS (10 R249). -/
def UC_STATUS (n : Nat) : Nat := 0x20000080000 + n * 0x10000
def UC_STATUS_REPAIRED : Fld := ⟨55, 48⟩
def UC_STATUS_RETRAINS : Fld := ⟨47, 40⟩
def UC_STATUS_WIDTH : Fld := ⟨39, 32⟩
def UC_STATUS_RATE : Fld := ⟨31, 16⟩
def UC_STATUS_STATE : Fld := ⟨2, 0⟩
/-- UC_ERR (10 R249). -/
def UC_ERR (n : Nat) : Nat := 0x20000080008 + n * 0x10000
def UC_ERR_HOST_UE : Fld := ⟨4, 4⟩
def UC_ERR_ACCESS : Fld := ⟨3, 3⟩
def UC_ERR_LINK_DOWN : Fld := ⟨2, 2⟩
def UC_ERR_RETRAIN : Fld := ⟨1, 1⟩
def UC_ERR_REPLAY : Fld := ⟨0, 0⟩
/-- UC_ERR_EVENTS (10 R249). -/
def UC_ERR_EVENTS (n : Nat) : Nat := 0x20000080010 + n * 0x10000
def UC_ERR_EVENTS_COUNT : Fld := ⟨31, 0⟩
/-- UC_REPLAYS (10 R249). -/
def UC_REPLAYS (n : Nat) : Nat := 0x20000080018 + n * 0x10000
def UC_REPLAYS_CRC_ERRORS : Fld := ⟨63, 32⟩
def UC_REPLAYS_REPLAYS : Fld := ⟨31, 0⟩
/-- UC_ACCESS (10 R249). -/
def UC_ACCESS (n : Nat) : Nat := 0x20000080020 + n * 0x10000
def UC_ACCESS_COUNT : Fld := ⟨31, 0⟩
/-- UC_ACCESS_INFO (10 R249). -/
def UC_ACCESS_INFO (n : Nat) : Nat := 0x20000080028 + n * 0x10000
def UC_ACCESS_INFO_CTX : Fld := ⟨63, 59⟩
def UC_ACCESS_INFO_OP : Fld := ⟨58, 56⟩
def UC_ACCESS_INFO_ADDR : Fld := ⟨47, 0⟩
/-- UC_MSI_SENT (10 R249). -/
def UC_MSI_SENT (n : Nat) : Nat := 0x20000080030 + n * 0x10000
def UC_MSI_SENT_COUNT : Fld := ⟨63, 0⟩
/-- UC_MSI_ADDR (10 R249). -/
def UC_MSI_ADDR (n i : Nat) : Nat := 0x20000088000 + n * 0x10000 + i * 0x10
def UC_MSI_ADDR_ADDR : Fld := ⟨47, 2⟩
/-- UC_MSI_DATA (10 R249). -/
def UC_MSI_DATA (n i : Nat) : Nat := 0x20000088008 + n * 0x10000 + i * 0x10
def UC_MSI_DATA_MASK : Fld := ⟨63, 63⟩
def UC_MSI_DATA_PENDING : Fld := ⟨62, 62⟩
def UC_MSI_DATA_DATA : Fld := ⟨31, 0⟩
/-- QH_STATUS (10 R239). -/
def QH_STATUS (n : Nat) : Nat := 0x20000100000 + n * 0x10000
def QH_STATUS_PASS_POS : Fld := ⟨45, 32⟩
def QH_STATUS_WBUF : Fld := ⟨24, 16⟩
def QH_STATUS_PRESENT : Fld := ⟨0, 0⟩
/-- QH_ACCEPTED (10 R239). -/
def QH_ACCEPTED (n : Nat) : Nat := 0x20000100008 + n * 0x10000
def QH_ACCEPTED_COUNT : Fld := ⟨63, 0⟩
/-- QH_STALLS (10 R239). -/
def QH_STALLS (n : Nat) : Nat := 0x20000100010 + n * 0x10000
def QH_STALLS_FULL_SKIPS : Fld := ⟨63, 32⟩
def QH_STALLS_WBUF_FULL : Fld := ⟨31, 0⟩
/-- QH_ERR (10 R239). -/
def QH_ERR (n : Nat) : Nat := 0x20000100018 + n * 0x10000
def QH_ERR_EV_DROP : Fld := ⟨4, 4⟩
def QH_ERR_CFG_REFUSED : Fld := ⟨3, 3⟩
def QH_ERR_REDIRECTED : Fld := ⟨2, 2⟩
def QH_ERR_HEAD_BAD : Fld := ⟨1, 1⟩
def QH_ERR_DOORBELL_BAD : Fld := ⟨0, 0⟩
/-- QH_ERR_EVENTS (10 R239). -/
def QH_ERR_EVENTS (n : Nat) : Nat := 0x20000100020 + n * 0x10000
def QH_ERR_EVENTS_COUNT : Fld := ⟨31, 0⟩
/-- QH_EV_DROPS (10 R239). -/
def QH_EV_DROPS (n : Nat) : Nat := 0x20000100028 + n * 0x10000
def QH_EV_DROPS_COUNT : Fld := ⟨31, 0⟩
/-- QH_DOORBELL (10 R239). -/
def QH_DOORBELL (n : Nat) : Nat := 0x20000100100 + n * 0x10000
def QH_DOORBELL_DB : Fld := ⟨63, 0⟩
/-- QH_WSEL (10 R239). -/
def QH_WSEL (n : Nat) : Nat := 0x20000100108 + n * 0x10000
def QH_WSEL_QUEUE : Fld := ⟨13, 0⟩
/-- QH_WDESC0 (10 R239). -/
def QH_WDESC0 (n : Nat) : Nat := 0x20000100110 + n * 0x10000
def QH_WDESC0_ENABLE : Fld := ⟨63, 63⟩
def QH_WDESC0_TYPE : Fld := ⟨62, 60⟩
def QH_WDESC0_ENTRY64 : Fld := ⟨59, 59⟩
def QH_WDESC0_SIZE_LOG2 : Fld := ⟨58, 54⟩
def QH_WDESC0_HOST_ROLE : Fld := ⟨53, 52⟩
def QH_WDESC0_USER_DB : Fld := ⟨51, 51⟩
def QH_WDESC0_BASE : Fld := ⟨47, 0⟩
/-- QH_WDESC1 (10 R239). -/
def QH_WDESC1 (n : Nat) : Nat := 0x20000100118 + n * 0x10000
def QH_WDESC1_THRESHOLD : Fld := ⟨63, 48⟩
def QH_WDESC1_VECTOR : Fld := ⟨47, 37⟩
def QH_WDESC1_SIG_TILE : Fld := ⟨31, 16⟩
def QH_WDESC1_SIG_COUNTER : Fld := ⟨14, 8⟩
/-- QH_WDESC2 (10 R239). -/
def QH_WDESC2 (n : Nat) : Nat := 0x20000100120 + n * 0x10000
def QH_WDESC2_HEAD_ADDR : Fld := ⟨47, 0⟩
/-- QH_WPTR (10 R239). -/
def QH_WPTR (n : Nat) : Nat := 0x20000100128 + n * 0x10000
def QH_WPTR_PROD : Fld := ⟨63, 32⟩
def QH_WPTR_CONS : Fld := ⟨31, 0⟩
/-- QH_WINFO (10 R239). -/
def QH_WINFO (n : Nat) : Nat := 0x20000100130 + n * 0x10000
def QH_WINFO_OCCUPANCY : Fld := ⟨46, 30⟩
def QH_WINFO_FIRED : Fld := ⟨7, 7⟩
def QH_WINFO_ARMED : Fld := ⟨6, 6⟩
def QH_WINFO_CFG_REFUSED : Fld := ⟨5, 5⟩
def QH_WINFO_OWNED : Fld := ⟨4, 4⟩
def QH_WINFO_OWNER : Fld := ⟨2, 0⟩
/-- QH_WCTRL (10 R239). -/
def QH_WCTRL (n : Nat) : Nat := 0x20000100138 + n * 0x10000
def QH_WCTRL_DISARM : Fld := ⟨2, 2⟩
def QH_WCTRL_ARM : Fld := ⟨1, 1⟩
def QH_WCTRL_RESET : Fld := ⟨0, 0⟩
/-- QH_WEVQ (10 R239). -/
def QH_WEVQ (n : Nat) : Nat := 0x20000100140 + n * 0x10000
def QH_WEVQ_VALID : Fld := ⟨63, 63⟩
def QH_WEVQ_QUEUE : Fld := ⟨13, 0⟩
/-- KL_STATUS (11 R277). -/
def KL_STATUS (n : Nat) : Nat := 0x20000200000 + n * 0x10000
def KL_STATUS_CHECK : Fld := ⟨39, 36⟩
def KL_STATUS_CAUSE : Fld := ⟨35, 32⟩
def KL_STATUS_WIDTH_RX : Fld := ⟨31, 28⟩
def KL_STATUS_WIDTH_TX : Fld := ⟨27, 24⟩
def KL_STATUS_SPARE_RX : Fld := ⟨23, 23⟩
def KL_STATUS_SPARE_TX : Fld := ⟨22, 22⟩
def KL_STATUS_MEDIUM : Fld := ⟨21, 20⟩
def KL_STATUS_STATE : Fld := ⟨3, 0⟩
/-- KL_CTRL (11 R277). -/
def KL_CTRL (n : Nat) : Nat := 0x20000200008 + n * 0x10000
def KL_CTRL_DISABLE : Fld := ⟨3, 3⟩
def KL_CTRL_RECHECK : Fld := ⟨2, 2⟩
def KL_CTRL_RETRAIN : Fld := ⟨1, 1⟩
def KL_CTRL_ADMIT : Fld := ⟨0, 0⟩
/-- KL_PLAN (11 R277). -/
def KL_PLAN (n : Nat) : Nat := 0x20000200010 + n * 0x10000
def KL_PLAN_AUTO_RETRAIN : Fld := ⟨47, 47⟩
def KL_PLAN_PEER_PORT : Fld := ⟨43, 40⟩
def KL_PLAN_PART_MASK : Fld := ⟨39, 32⟩
def KL_PLAN_PEER_COORD : Fld := ⟨31, 12⟩
def KL_PLAN_EXPECT : Fld := ⟨1, 0⟩
/-- KL_MACHINE (11 R277). -/
def KL_MACHINE (n : Nat) : Nat := 0x20000200018 + n * 0x10000
def KL_MACHINE_MACHINE_ID : Fld := ⟨31, 0⟩
/-- KL_PEER (11 R277). -/
def KL_PEER (n : Nat) : Nat := 0x20000200020 + n * 0x10000
def KL_PEER_DISCOVER : Fld := ⟨63, 0⟩
/-- KL_PEER_SERIAL (11 R277). -/
def KL_PEER_SERIAL (n : Nat) : Nat := 0x20000200028 + n * 0x10000
def KL_PEER_SERIAL_SERIAL : Fld := ⟨63, 0⟩
/-- KL_DELAY (11 R277). -/
def KL_DELAY (n : Nat) : Nat := 0x20000200030 + n * 0x10000
def KL_DELAY_ROUND_TRIP_PS : Fld := ⟨31, 0⟩
/-- KL_LANES (11 R277). -/
def KL_LANES (n : Nat) : Nat := 0x20000200038 + n * 0x10000
def KL_LANES_FAILED_RX : Fld := ⟨49, 41⟩
def KL_LANES_FAILED_TX : Fld := ⟨40, 32⟩
/-- KL_FEC (11 R277). -/
def KL_FEC (n : Nat) : Nat := 0x20000200040 + n * 0x10000
def KL_FEC_UNCORRECTABLE : Fld := ⟨63, 32⟩
def KL_FEC_CORRECTED : Fld := ⟨31, 0⟩
/-- KL_REPLAY (11 R277). -/
def KL_REPLAY (n : Nat) : Nat := 0x20000200048 + n * 0x10000
def KL_REPLAY_NAKS_SENT : Fld := ⟨63, 32⟩
def KL_REPLAY_FLITS_REPLAYED : Fld := ⟨31, 0⟩
/-- KL_LIMITS (11 R277). -/
def KL_LIMITS (n : Nat) : Nat := 0x20000200050 + n * 0x10000
def KL_LIMITS_STORAGE_TIMEOUT : Fld := ⟨63, 32⟩
def KL_LIMITS_SER_LIMIT : Fld := ⟨31, 0⟩
/-- KL_EQ_SEL (11 R277). -/
def KL_EQ_SEL (n : Nat) : Nat := 0x20000200058 + n * 0x10000
def KL_EQ_SEL_LANE : Fld := ⟨3, 0⟩
/-- KL_EQ_FACTORY (11 R277). -/
def KL_EQ_FACTORY (n : Nat) : Nat := 0x20000200060 + n * 0x10000
def KL_EQ_FACTORY_CTLE : Fld := ⟨27, 23⟩
def KL_EQ_FACTORY_POST1 : Fld := ⟨22, 17⟩
def KL_EQ_FACTORY_MAIN : Fld := ⟨16, 10⟩
def KL_EQ_FACTORY_PRE1 : Fld := ⟨9, 4⟩
def KL_EQ_FACTORY_PRE2 : Fld := ⟨3, 0⟩
/-- KL_EQ_USER (11 R277). -/
def KL_EQ_USER (n : Nat) : Nat := 0x20000200068 + n * 0x10000
def KL_EQ_USER_OFFSETS : Fld := ⟨27, 0⟩
/-- KL_EQ_EFFECTIVE (11 R277). -/
def KL_EQ_EFFECTIVE (n : Nat) : Nat := 0x20000200070 + n * 0x10000
def KL_EQ_EFFECTIVE_VALUES : Fld := ⟨27, 0⟩
/-- KL_EQ_TRAINED (11 R277). -/
def KL_EQ_TRAINED (n : Nat) : Nat := 0x20000200078 + n * 0x10000
def KL_EQ_TRAINED_VALUES : Fld := ⟨27, 0⟩
/-- KL_DISCARD0 (11 R277). -/
def KL_DISCARD0 (n : Nat) : Nat := 0x20000200080 + n * 0x10000
def KL_DISCARD0_TC3 : Fld := ⟨63, 48⟩
def KL_DISCARD0_TC2 : Fld := ⟨47, 32⟩
def KL_DISCARD0_TC1 : Fld := ⟨31, 16⟩
def KL_DISCARD0_TC0 : Fld := ⟨15, 0⟩
/-- KL_DISCARD1 (11 R277). -/
def KL_DISCARD1 (n : Nat) : Nat := 0x20000200088 + n * 0x10000
def KL_DISCARD1_TC5 : Fld := ⟨31, 16⟩
def KL_DISCARD1_TC4 : Fld := ⟨15, 0⟩
/-- KL_ERR (11 R277). -/
def KL_ERR (n : Nat) : Nat := 0x20000200090 + n * 0x10000
def KL_ERR_EQ_DEFAULT : Fld := ⟨6, 6⟩
def KL_ERR_ADMIT_IGNORED : Fld := ⟨5, 5⟩
def KL_ERR_CONTRAIL : Fld := ⟨4, 4⟩
def KL_ERR_MISMATCH : Fld := ⟨3, 3⟩
def KL_ERR_LANE_FAILED : Fld := ⟨2, 2⟩
def KL_ERR_LOSS : Fld := ⟨1, 1⟩
def KL_ERR_TRAIN_FAIL : Fld := ⟨0, 0⟩
/-- KL_ERR_EVENTS (11 R277). -/
def KL_ERR_EVENTS (n : Nat) : Nat := 0x20000200098 + n * 0x10000
def KL_ERR_EVENTS_COUNT : Fld := ⟨31, 0⟩
/-- KL_CONTRAIL (11 R277). -/
def KL_CONTRAIL (n : Nat) : Nat := 0x200002000A0 + n * 0x10000
def KL_CONTRAIL_BIAS_ALARM : Fld := ⟨35, 35⟩
def KL_CONTRAIL_BIAS_WARN : Fld := ⟨34, 34⟩
def KL_CONTRAIL_LIFE_END : Fld := ⟨33, 33⟩
def KL_CONTRAIL_LIFE_WARN : Fld := ⟨32, 32⟩
def KL_CONTRAIL_EQ_HOURS : Fld := ⟨31, 0⟩
/-- KL_CONTRAIL_SENS (11 R277). -/
def KL_CONTRAIL_SENS (n : Nat) : Nat := 0x200002000A8 + n * 0x10000
def KL_CONTRAIL_SENS_RX_MIN_UW : Fld := ⟨63, 48⟩
def KL_CONTRAIL_SENS_BIAS_DRIFT : Fld := ⟨47, 32⟩
def KL_CONTRAIL_SENS_VCC_MV : Fld := ⟨31, 16⟩
def KL_CONTRAIL_SENS_CASE_TEMP : Fld := ⟨15, 0⟩
/-- KL_LANE_ERR (11 R277). -/
def KL_LANE_ERR (n i : Nat) : Nat := 0x200002000B0 + n * 0x10000 + i * 0x8
def KL_LANE_ERR_WINDOW_MAX : Fld := ⟨63, 32⟩
def KL_LANE_ERR_TOTAL : Fld := ⟨31, 0⟩
/-- CE_STATUS (13 R331). -/
def CE_STATUS (n : Nat) : Nat := 0x20000300000 + n * 0x10000
def CE_STATUS_BREAK_B : Fld := ⟨23, 19⟩
def CE_STATUS_BREAK_A : Fld := ⟨18, 14⟩
def CE_STATUS_BREAK_COUNT : Fld := ⟨13, 12⟩
def CE_STATUS_RUNNING : Fld := ⟨11, 4⟩
def CE_STATUS_AXIS : Fld := ⟨3, 2⟩
def CE_STATUS_FENCED : Fld := ⟨1, 1⟩
def CE_STATUS_PRESENT : Fld := ⟨0, 0⟩
/-- CE_ERR (13 R331). -/
def CE_ERR (n : Nat) : Nat := 0x20000300008 + n * 0x10000
def CE_ERR_READY_OVERFLOW : Fld := ⟨7, 7⟩
def CE_ERR_CFG_REFUSED : Fld := ⟨6, 6⟩
def CE_ERR_PROD_BAD : Fld := ⟨5, 5⟩
def CE_ERR_REJECTED : Fld := ⟨4, 4⟩
def CE_ERR_STALE : Fld := ⟨3, 3⟩
def CE_ERR_TAG_MISMATCH : Fld := ⟨2, 2⟩
def CE_ERR_BREAK : Fld := ⟨1, 1⟩
def CE_ERR_OP_FAILED : Fld := ⟨0, 0⟩
/-- CE_ERR_EVENTS (13 R331). -/
def CE_ERR_EVENTS (n : Nat) : Nat := 0x20000300010 + n * 0x10000
def CE_ERR_EVENTS_COUNT : Fld := ⟨31, 0⟩
/-- CE_OPS (13 R331). -/
def CE_OPS (n : Nat) : Nat := 0x20000300018 + n * 0x10000
def CE_OPS_COMPLETED : Fld := ⟨63, 32⟩
def CE_OPS_FAILED : Fld := ⟨31, 16⟩
def CE_OPS_RESTARTS : Fld := ⟨15, 0⟩
/-- CE_BYTES (13 R331). -/
def CE_BYTES (n : Nat) : Nat := 0x20000300020 + n * 0x10000
def CE_BYTES_SENT : Fld := ⟨63, 0⟩
/-- CE_CTRL (13 R331). -/
def CE_CTRL (n : Nat) : Nat := 0x20000300028 + n * 0x10000
def CE_CTRL_CLEAR_BREAK : Fld := ⟨0, 0⟩
/-- CE_REPLY (13 R331). -/
def CE_REPLY (n : Nat) : Nat := 0x20000300030 + n * 0x10000
def CE_REPLY_FAULTS : Fld := ⟨63, 32⟩
def CE_REPLY_REQUESTS : Fld := ⟨31, 0⟩
/-- CE_RING (13 R331). -/
def CE_RING (n g : Nat) : Nat := 0x20000300100 + n * 0x10000 + g * 0x40
def CE_RING_ENABLE : Fld := ⟨63, 63⟩
def CE_RING_SIZE_LOG2 : Fld := ⟨52, 48⟩
def CE_RING_BASE : Fld := ⟨47, 0⟩
/-- CE_PROD_ADDR (13 R331). -/
def CE_PROD_ADDR (n g : Nat) : Nat := 0x20000300108 + n * 0x10000 + g * 0x40
def CE_PROD_ADDR_ADDR : Fld := ⟨47, 0⟩
/-- CE_PTR (13 R331). -/
def CE_PTR (n g : Nat) : Nat := 0x20000300110 + n * 0x10000 + g * 0x40
def CE_PTR_PROD : Fld := ⟨63, 32⟩
def CE_PTR_CONS : Fld := ⟨31, 0⟩
/-- CE_LIMIT (13 R331). -/
def CE_LIMIT (n g : Nat) : Nat := 0x20000300118 + n * 0x10000 + g * 0x40
def CE_LIMIT_TIMEOUT_US : Fld := ⟨31, 0⟩
/-- CE_RUN (13 R331). -/
def CE_RUN (n g : Nat) : Nat := 0x20000300120 + n * 0x10000 + g * 0x40
def CE_RUN_RUNNING : Fld := ⟨34, 32⟩
def CE_RUN_HEAD_TAG : Fld := ⟨31, 0⟩
/-- AV_STATUS (08 R199). -/
def AV_STATUS (n : Nat) : Nat := 0x20000400000 + n * 0x10000
def AV_STATUS_INPUT : Fld := ⟨47, 40⟩
def AV_STATUS_OPCODE : Fld := ⟨39, 32⟩
def AV_STATUS_SERVES : Fld := ⟨31, 24⟩
def AV_STATUS_BUSY : Fld := ⟨2, 2⟩
def AV_STATUS_FENCED : Fld := ⟨1, 1⟩
def AV_STATUS_PRESENT : Fld := ⟨0, 0⟩
/-- AV_PARAMS (08 R199). -/
def AV_PARAMS (n : Nat) : Nat := 0x20000400008 + n * 0x10000
def AV_PARAMS_PARAMS : Fld := ⟨63, 0⟩
/-- AV_HALO (08 R199). -/
def AV_HALO (n : Nat) : Nat := 0x20000400010 + n * 0x10000
def AV_HALO_LATE : Fld := ⟨63, 32⟩
def AV_HALO_APPLIED : Fld := ⟨31, 0⟩
/-- AV_FAULT (08 R199). -/
def AV_FAULT (n : Nat) : Nat := 0x20000400018 + n * 0x10000
def AV_FAULT_HALO_LATE : Fld := ⟨4, 4⟩
def AV_FAULT_DATA : Fld := ⟨3, 3⟩
def AV_FAULT_STACK_SET : Fld := ⟨2, 2⟩
def AV_FAULT_ACCESS : Fld := ⟨1, 1⟩
def AV_FAULT_DESCRIPTOR : Fld := ⟨0, 0⟩
/-- AV_FAULT_EVENTS (08 R199). -/
def AV_FAULT_EVENTS (n : Nat) : Nat := 0x20000400020 + n * 0x10000
def AV_FAULT_EVENTS_COUNT : Fld := ⟨31, 0⟩
/-- AV_FAULT_INFO (08 R199). -/
def AV_FAULT_INFO (n : Nat) : Nat := 0x20000400028 + n * 0x10000
def AV_FAULT_INFO_STATUS : Fld := ⟨63, 56⟩
def AV_FAULT_INFO_OPCODE : Fld := ⟨55, 48⟩
def AV_FAULT_INFO_TILE : Fld := ⟨47, 32⟩
def AV_FAULT_INFO_ELEMENT : Fld := ⟨31, 0⟩
/-- AV_FAULT_ADDR (08 R199). -/
def AV_FAULT_ADDR (n : Nat) : Nat := 0x20000400030 + n * 0x10000
def AV_FAULT_ADDR_ADDR : Fld := ⟨47, 0⟩
/-- HB_STATUS (09 R223). -/
def HB_STATUS (n : Nat) : Nat := 0x20000500000 + n * 0x10000
def HB_STATUS_REPAIRED : Fld := ⟨47, 40⟩
def HB_STATUS_TRAIN_CODE : Fld := ⟨39, 32⟩
def HB_STATUS_ATTEMPTS : Fld := ⟨31, 24⟩
def HB_STATUS_FENCED : Fld := ⟨5, 5⟩
def HB_STATUS_REFRESH_X2 : Fld := ⟨4, 4⟩
def HB_STATUS_STATE : Fld := ⟨3, 1⟩
def HB_STATUS_PRESENT : Fld := ⟨0, 0⟩
/-- HB_TRAIN_ZT (09 R223). -/
def HB_TRAIN_ZT (n : Nat) : Nat := 0x20000500008 + n * 0x10000
def HB_TRAIN_ZT_ZT : Fld := ⟨63, 0⟩
/-- HB_LANE (09 R223). -/
def HB_LANE (n i : Nat) : Nat := 0x20000500010 + n * 0x10000 + i * 0x8
/-- HB_ARB (09 R223). -/
def HB_ARB (n : Nat) : Nat := 0x20000500030 + n * 0x10000
def HB_ARB_LC_SHARE : Fld := ⟨47, 32⟩
def HB_ARB_W_HIGH : Fld := ⟨23, 16⟩
def HB_ARB_W_NORMAL : Fld := ⟨15, 8⟩
def HB_ARB_W_LOW : Fld := ⟨7, 0⟩
/-- HB_LC (09 R223). -/
def HB_LC (n : Nat) : Nat := 0x20000500038 + n * 0x10000
def HB_LC_DEMOTED : Fld := ⟨63, 32⟩
def HB_LC_MAX_WAIT : Fld := ⟨15, 0⟩
/-- HB_CE (09 R223). -/
def HB_CE (n : Nat) : Nat := 0x20000500040 + n * 0x10000
def HB_CE_CTRL : Fld := ⟨63, 32⟩
def HB_CE_ONDIE : Fld := ⟨31, 0⟩
/-- HB_UE (09 R223). -/
def HB_UE (n : Nat) : Nat := 0x20000500048 + n * 0x10000
def HB_UE_SCRUB : Fld := ⟨63, 48⟩
def HB_UE_WRITE : Fld := ⟨47, 32⟩
def HB_UE_READ : Fld := ⟨31, 0⟩
/-- HB_CE_THRESH (09 R223). -/
def HB_CE_THRESH (n : Nat) : Nat := 0x20000500050 + n * 0x10000
def HB_CE_THRESH_THRESH : Fld := ⟨15, 0⟩
/-- HB_ERR (09 R223). -/
def HB_ERR (n : Nat) : Nat := 0x20000500058 + n * 0x10000
def HB_ERR_LOG_DROP : Fld := ⟨7, 7⟩
def HB_ERR_TRAIN_FAIL : Fld := ⟨6, 6⟩
def HB_ERR_HELD : Fld := ⟨5, 5⟩
def HB_ERR_LC_DEMOTE : Fld := ⟨4, 4⟩
def HB_ERR_CE_THRESHOLD : Fld := ⟨3, 3⟩
def HB_ERR_UE_SCRUB : Fld := ⟨2, 2⟩
def HB_ERR_UE_WRITE : Fld := ⟨1, 1⟩
def HB_ERR_UE_READ : Fld := ⟨0, 0⟩
/-- HB_ERR_EVENTS (09 R223). -/
def HB_ERR_EVENTS (n : Nat) : Nat := 0x20000500060 + n * 0x10000
def HB_ERR_EVENTS_COUNT : Fld := ⟨31, 0⟩
/-- HB_ERR_ADDR (09 R223). -/
def HB_ERR_ADDR (n : Nat) : Nat := 0x20000500068 + n * 0x10000
def HB_ERR_ADDR_KIND : Fld := ⟨63, 56⟩
def HB_ERR_ADDR_ADDR : Fld := ⟨47, 0⟩
/-- HB_LOG_BASE (09 R223). -/
def HB_LOG_BASE (n : Nat) : Nat := 0x20000500070 + n * 0x10000
def HB_LOG_BASE_ADDR : Fld := ⟨47, 0⟩
/-- HB_LOG_CTRL (09 R223). -/
def HB_LOG_CTRL (n : Nat) : Nat := 0x20000500078 + n * 0x10000
def HB_LOG_CTRL_DROPPED : Fld := ⟨63, 48⟩
def HB_LOG_CTRL_TAIL : Fld := ⟨47, 32⟩
def HB_LOG_CTRL_HEAD : Fld := ⟨31, 16⟩
def HB_LOG_CTRL_SIZE_LOG2 : Fld := ⟨4, 0⟩
/-- HB_SCRUB (09 R223). -/
def HB_SCRUB (n : Nat) : Nat := 0x20000500080 + n * 0x10000
def HB_SCRUB_ENABLE : Fld := ⟨63, 63⟩
def HB_SCRUB_PERIOD_H : Fld := ⟨47, 40⟩
def HB_SCRUB_POSITION : Fld := ⟨39, 0⟩
/-- HB_HELD (09 R223). -/
def HB_HELD (n : Nat) : Nat := 0x20000500088 + n * 0x10000
def HB_HELD_COUNT : Fld := ⟨31, 0⟩
/-- TC_INFO (03 R84). -/
def TC_INFO (n : Nat) : Nat := 0x20010000000 + n * 0x10000
def TC_INFO_SLOT : Fld := ⟨55, 48⟩
def TC_INFO_PHYS_COL : Fld := ⟨47, 42⟩
def TC_INFO_PHYS_ROW : Fld := ⟨41, 37⟩
def TC_INFO_REGION : Fld := ⟨36, 32⟩
def TC_INFO_CLUSTER_ID : Fld := ⟨31, 16⟩
def TC_INFO_STATE : Fld := ⟨3, 0⟩
/-- TC_QSTATE (03 R84). -/
def TC_QSTATE (n : Nat) : Nat := 0x20010000008 + n * 0x10000
/-- TC_QCTRL (03 R84). -/
def TC_QCTRL (n : Nat) : Nat := 0x20010000010 + n * 0x10000
def TC_QCTRL_FLUSH : Fld := ⟨15, 8⟩
def TC_QCTRL_RESUME : Fld := ⟨7, 0⟩
/-- TC_FAULT (03 R84). -/
def TC_FAULT (n : Nat) : Nat := 0x20010000018 + n * 0x10000
def TC_FAULT_ENTRY_TYPE : Fld := ⟨7, 7⟩
def TC_FAULT_SYNC_WRAP : Fld := ⟨6, 6⟩
def TC_FAULT_REFUSAL : Fld := ⟨5, 5⟩
def TC_FAULT_ROUTINE : Fld := ⟨4, 4⟩
def TC_FAULT_ACCESS : Fld := ⟨3, 3⟩
def TC_FAULT_DATA : Fld := ⟨2, 2⟩
def TC_FAULT_OVERRUN : Fld := ⟨1, 1⟩
def TC_FAULT_UNDERRUN : Fld := ⟨0, 0⟩
/-- TC_FAULT_EVENTS (03 R84). -/
def TC_FAULT_EVENTS (n : Nat) : Nat := 0x20010000020 + n * 0x10000
def TC_FAULT_EVENTS_COUNT : Fld := ⟨31, 0⟩
/-- TC_REFUSALS (03 R84). -/
def TC_REFUSALS (n : Nat) : Nat := 0x20010000028 + n * 0x10000
def TC_REFUSALS_OTHER : Fld := ⟨63, 48⟩
def TC_REFUSALS_BAD_COMMAND : Fld := ⟨47, 32⟩
def TC_REFUSALS_FENCED : Fld := ⟨31, 16⟩
def TC_REFUSALS_ABSENT : Fld := ⟨15, 0⟩
/-- TC_FETCH (03 R84). -/
def TC_FETCH (n : Nat) : Nat := 0x20010000030 + n * 0x10000
def TC_FETCH_BUFFERED : Fld := ⟨57, 56⟩
def TC_FETCH_WORD_INDEX : Fld := ⟨51, 32⟩
def TC_FETCH_LAUNCH_SEQ : Fld := ⟨31, 0⟩
/-- TC_FAULT_INFO (03 R84). -/
def TC_FAULT_INFO (n i : Nat) : Nat := 0x20010000040 + n * 0x10000 + i * 0x8
def TC_FAULT_INFO_STATUS : Fld := ⟨63, 56⟩
def TC_FAULT_INFO_WORD_INDEX : Fld := ⟨51, 32⟩
def TC_FAULT_INFO_OP_ID : Fld := ⟨31, 20⟩
def TC_FAULT_INFO_LAYER_ID : Fld := ⟨19, 0⟩
/-- TC_FAULT_ADDR (03 R84). -/
def TC_FAULT_ADDR (n : Nat) : Nat := 0x20010000080 + n * 0x10000
def TC_FAULT_ADDR_ADDR : Fld := ⟨47, 0⟩
/-- TC_FLAGS0 (03 R84). -/
def TC_FLAGS0 (n : Nat) : Nat := 0x20010000100 + n * 0x10000
def TC_FLAGS0_FLAG : Fld := ⟨63, 0⟩
/-- TC_FLAGS1 (03 R84). -/
def TC_FLAGS1 (n : Nat) : Nat := 0x20010000108 + n * 0x10000
def TC_FLAGS1_FLAG : Fld := ⟨63, 0⟩
/-- TC_COUNTER (03 R84). -/
def TC_COUNTER (n i : Nat) : Nat := 0x20010000200 + n * 0x10000 + i * 0x8
def TC_COUNTER_VALUE : Fld := ⟨31, 0⟩
/-- ME_STATUS (04 R108). -/
def ME_STATUS (n g : Nat) : Nat := 0x20020000000 + n * 0x10000 + g * 0x100
def ME_STATUS_TOKENS : Fld := ⟨27, 24⟩
def ME_STATUS_IN_FLIGHT : Fld := ⟨23, 20⟩
def ME_STATUS_DRAINING : Fld := ⟨19, 19⟩
def ME_STATUS_STORE_BUSY : Fld := ⟨18, 18⟩
def ME_STATUS_LOAD_BUSY : Fld := ⟨17, 17⟩
def ME_STATUS_FEED_BUSY : Fld := ⟨16, 16⟩
def ME_STATUS_FENCED : Fld := ⟨1, 1⟩
def ME_STATUS_PRESENT : Fld := ⟨0, 0⟩
/-- ME_VALID (04 R108). -/
def ME_VALID (n g : Nat) : Nat := 0x20020000008 + n * 0x10000 + g * 0x100
def ME_VALID_SHADOW : Fld := ⟨47, 32⟩
def ME_VALID_ENTRY : Fld := ⟨31, 0⟩
/-- ME_FAULT (04 R108). -/
def ME_FAULT (n g : Nat) : Nat := 0x20020000010 + n * 0x10000 + g * 0x100
def ME_FAULT_DATA : Fld := ⟨7, 7⟩
def ME_FAULT_ACCESS : Fld := ⟨6, 6⟩
def ME_FAULT_OVERRUN_SHADOW : Fld := ⟨5, 5⟩
def ME_FAULT_OVERRUN_CHAIN : Fld := ⟨4, 4⟩
def ME_FAULT_OVERRUN_BUFFER : Fld := ⟨3, 3⟩
def ME_FAULT_UNDERRUN_SHADOW : Fld := ⟨2, 2⟩
def ME_FAULT_UNDERRUN_STORE : Fld := ⟨1, 1⟩
def ME_FAULT_UNDERRUN_PSUM : Fld := ⟨0, 0⟩
/-- ME_FAULT_EVENTS (04 R108). -/
def ME_FAULT_EVENTS (n g : Nat) : Nat := 0x20020000018 + n * 0x10000 + g * 0x100
def ME_FAULT_EVENTS_COUNT : Fld := ⟨31, 0⟩
/-- ME_FAULT_DETAIL (04 R108). -/
def ME_FAULT_DETAIL (n g : Nat) : Nat := 0x20020000020 + n * 0x10000 + g * 0x100
def ME_FAULT_DETAIL_OPCODE : Fld := ⟨55, 48⟩
def ME_FAULT_DETAIL_PEER : Fld := ⟨41, 40⟩
def ME_FAULT_DETAIL_INDEX : Fld := ⟨20, 16⟩
def ME_FAULT_DETAIL_ROW : Fld := ⟨10, 0⟩
/-- VU_STATUS (07 R169). -/
def VU_STATUS (n : Nat) : Nat := 0x20030000000 + n * 0x10000
def VU_STATUS_OPCODE : Fld := ⟨15, 8⟩
def VU_STATUS_BUSY : Fld := ⟨2, 2⟩
def VU_STATUS_FENCED : Fld := ⟨1, 1⟩
def VU_STATUS_PRESENT : Fld := ⟨0, 0⟩
/-- VU_XSR (07 R169). -/
def VU_XSR (n i : Nat) : Nat := 0x20030000008 + n * 0x10000 + i * 0x8
def VU_XSR_S_PART : Fld := ⟨63, 0⟩
/-- VU_XSR_SIDE (07 R169). -/
def VU_XSR_SIDE (n : Nat) : Nat := 0x20030000030 + n * 0x10000
def VU_XSR_SIDE_NAN : Fld := ⟨50, 50⟩
def VU_XSR_SIDE_NINF : Fld := ⟨49, 49⟩
def VU_XSR_SIDE_PINF : Fld := ⟨48, 48⟩
def VU_XSR_SIDE_COUNT : Fld := ⟨47, 0⟩
/-- The ID_ block's register table. -/
def rowsId : List RegRow := [
  ⟨0x0, 1, 0x0, 1, 0x0, 0xD31C720001000000, [(⟨63, 48⟩, .ro), (⟨47, 32⟩, .ro), (⟨31, 24⟩, .ro), (⟨23, 16⟩, .ro), (⟨7, 0⟩, .ro)]⟩,
  ⟨0x8, 1, 0x0, 1, 0x0, 0x2000000000000000, [(⟨63, 56⟩, .ro), (⟨55, 48⟩, .ro), (⟨47, 32⟩, .ro), (⟨31, 16⟩, .ro), (⟨15, 0⟩, .ro)]⟩,
  ⟨0x10, 1, 0x0, 1, 0x0, 0x2000000000, [(⟨39, 32⟩, .ro), (⟨31, 16⟩, .ro), (⟨15, 0⟩, .ro)]⟩,
  ⟨0x18, 1, 0x0, 1, 0x0, 0x14, [(⟨63, 56⟩, .ro), (⟨41, 32⟩, .ro), (⟨31, 24⟩, .ro), (⟨23, 16⟩, .ro), (⟨15, 12⟩, .ro), (⟨7, 4⟩, .ro), (⟨3, 0⟩, .ro)]⟩,
  ⟨0x20, 1, 0x0, 1, 0x0, 0x258004000830, [(⟨47, 32⟩, .ro), (⟨31, 16⟩, .ro), (⟨15, 8⟩, .ro), (⟨7, 0⟩, .ro)]⟩,
  ⟨0x28, 1, 0x0, 1, 0x0, 0x20081080804000, [(⟨55, 48⟩, .ro), (⟨43, 40⟩, .ro), (⟨39, 32⟩, .ro), (⟨31, 24⟩, .ro), (⟨23, 16⟩, .ro), (⟨15, 0⟩, .ro)]⟩,
  ⟨0x30, 1, 0x0, 1, 0x0, 0x70806400320, [(⟨47, 32⟩, .ro), (⟨31, 16⟩, .ro), (⟨15, 0⟩, .ro)]⟩,
  ⟨0x38, 1, 0x0, 1, 0x0, 0x0, [(⟨63, 48⟩, .ro), (⟨47, 32⟩, .ro), (⟨31, 16⟩, .ro), (⟨15, 0⟩, .ro)]⟩,
  ⟨0x40, 1, 0x0, 1, 0x0, 0x0, [(⟨63, 0⟩, .ro)]⟩]
/-- The WK_ block's register table. -/
def rowsWk : List RegRow := [
  ⟨0x0, 1, 0x0, 1, 0x0, 0x0, [(⟨47, 40⟩, .ro), (⟨39, 32⟩, .ro), (⟨21, 21⟩, .ro), (⟨20, 20⟩, .ro), (⟨19, 18⟩, .ro), (⟨17, 16⟩, .ro), (⟨13, 12⟩, .ro), (⟨11, 11⟩, .ro), (⟨10, 8⟩, .ro), (⟨6, 4⟩, .ro), (⟨2, 0⟩, .ro)]⟩,
  ⟨0x8, 8, 0x8, 1, 0x0, 0x0, [(⟨63, 0⟩, .ro)]⟩,
  ⟨0x48, 1, 0x0, 1, 0x0, 0x0, [(⟨10, 8⟩, .ro), (⟨4, 4⟩, .w1c), (⟨3, 3⟩, .w1c), (⟨2, 2⟩, .w1c), (⟨1, 1⟩, .w1c), (⟨0, 0⟩, .w1c)]⟩,
  ⟨0x50, 1, 0x0, 1, 0x0, 0x0, [(⟨31, 0⟩, .ro)]⟩,
  ⟨0x58, 1, 0x0, 1, 0x0, 0x0, [(⟨63, 32⟩, .ro), (⟨31, 0⟩, .ro)]⟩,
  ⟨0x60, 1, 0x0, 1, 0x0, 0x0, [(⟨15, 0⟩, .rw)]⟩,
  ⟨0x68, 1, 0x0, 1, 0x0, 0x0, [(⟨63, 63⟩, .ro), (⟨31, 0⟩, .ro)]⟩,
  ⟨0x70, 1, 0x0, 1, 0x0, 0x0, [(⟨15, 0⟩, .rw)]⟩,
  ⟨0x78, 1, 0x0, 1, 0x0, 0x0, [(⟨47, 32⟩, .ro), (⟨31, 16⟩, .rw), (⟨15, 0⟩, .ro)]⟩,
  ⟨0x80, 1, 0x0, 1, 0x0, 0x0, [(⟨47, 32⟩, .ro), (⟨31, 16⟩, .rw), (⟨15, 0⟩, .ro)]⟩,
  ⟨0x88, 1, 0x0, 1, 0x0, 0x1003A, [(⟨16, 16⟩, .rw), (⟨15, 15⟩, .ro), (⟨14, 8⟩, .ro), (⟨6, 0⟩, .rw)]⟩,
  ⟨0x90, 1, 0x0, 1, 0x0, 0x6400000076C, [(⟨47, 32⟩, .rw), (⟨15, 0⟩, .rw)]⟩,
  ⟨0x98, 1, 0x0, 1, 0x0, 0x0, [(⟨63, 48⟩, .ro), (⟨47, 32⟩, .ro), (⟨31, 16⟩, .ro), (⟨3, 3⟩, .ro), (⟨2, 2⟩, .ro), (⟨1, 1⟩, .ro), (⟨0, 0⟩, .ro)]⟩,
  ⟨0xA0, 1, 0x0, 1, 0x0, 0x0, [(⟨5, 5⟩, .w1c), (⟨4, 4⟩, .w1c), (⟨3, 3⟩, .w1c), (⟨2, 2⟩, .w1c), (⟨1, 1⟩, .w1c), (⟨0, 0⟩, .w1c)]⟩,
  ⟨0xA8, 1, 0x0, 1, 0x0, 0x0, [(⟨31, 0⟩, .ro)]⟩]
/-- The ZN_ block's register table, part 0. -/
def rowsZn0 : List RegRow := [
  ⟨0x0, 1, 0x0, 1, 0x0, 0x0, [(⟨63, 0⟩, .ro)]⟩,
  ⟨0x8, 1, 0x0, 1, 0x0, 0x0, [(⟨7, 0⟩, .ro)]⟩,
  ⟨0x10, 1, 0x0, 1, 0x0, 0xF000000001, [(⟨47, 40⟩, .ro), (⟨39, 36⟩, .ro), (⟨35, 34⟩, .ro), (⟨33, 33⟩, .ro), (⟨32, 32⟩, .ro), (⟨3, 3⟩, .ro), (⟨2, 0⟩, .ro)]⟩,
  ⟨0x18, 1, 0x0, 1, 0x0, 0x0, [(⟨63, 32⟩, .rc), (⟨31, 0⟩, .ro)]⟩,
  ⟨0x20, 1, 0x0, 1, 0x0, 0x0, [(⟨63, 0⟩, .ro)]⟩,
  ⟨0x28, 1, 0x0, 1, 0x0, 0x0, [(⟨8, 8⟩, .rw), (⟨7, 0⟩, .rw)]⟩,
  ⟨0x30, 1, 0x0, 1, 0x0, 0x0, [(⟨31, 16⟩, .ro), (⟨2, 2⟩, .rw), (⟨1, 0⟩, .rw)]⟩,
  ⟨0x38, 1, 0x0, 1, 0x0, 0x0, [(⟨63, 0⟩, .wo)]⟩,
  ⟨0x40, 1, 0x0, 1, 0x0, 0x0, [(⟨0, 0⟩, .wo)]⟩,
  ⟨0x48, 1, 0x0, 1, 0x0, 0x0, [(⟨7, 7⟩, .w1c), (⟨6, 6⟩, .w1c), (⟨5, 5⟩, .w1c), (⟨4, 4⟩, .w1c), (⟨3, 3⟩, .w1c), (⟨2, 2⟩, .w1c), (⟨1, 1⟩, .w1c), (⟨0, 0⟩, .w1c)]⟩,
  ⟨0x50, 1, 0x0, 1, 0x0, 0x0, [(⟨31, 0⟩, .ro)]⟩,
  ⟨0x58, 1, 0x0, 1, 0x0, 0x3, [(⟨1, 1⟩, .rw), (⟨0, 0⟩, .rw)]⟩,
  ⟨0x60, 1, 0x0, 1, 0x0, 0x0, [(⟨47, 32⟩, .ro), (⟨31, 16⟩, .rw), (⟨15, 0⟩, .ro)]⟩,
  ⟨0x68, 1, 0x0, 1, 0x0, 0x0, [(⟨47, 32⟩, .ro), (⟨31, 16⟩, .rw), (⟨15, 0⟩, .ro)]⟩,
  ⟨0x80, 8, 0x8, 1, 0x0, 0x0, [(⟨47, 32⟩, .ro), (⟨31, 16⟩, .rw), (⟨15, 0⟩, .ro)]⟩,
  ⟨0x200, 1, 0x0, 1, 0x0, 0x0, [(⟨39, 32⟩, .ro), (⟨31, 31⟩, .ro), (⟨30, 0⟩, .ro)]⟩]
/-- The ZN_ block's register table, part 1. -/
def rowsZn1 : List RegRow := [
  ⟨0x208, 1, 0x0, 1, 0x0, 0x0, [(⟨63, 0⟩, .rw)]⟩,
  ⟨0x210, 1, 0x0, 1, 0x0, 0x0, [(⟨8, 8⟩, .rw), (⟨7, 0⟩, .rw)]⟩,
  ⟨0x218, 1, 0x0, 1, 0x0, 0x0, [(⟨2, 2⟩, .wo), (⟨1, 1⟩, .wo), (⟨0, 0⟩, .wo)]⟩,
  ⟨0x220, 1, 0x0, 1, 0x0, 0x0, [(⟨47, 0⟩, .rw)]⟩,
  ⟨0x228, 1, 0x0, 1, 0x0, 0x64, [(⟨31, 0⟩, .rw)]⟩,
  ⟨0x400, 4, 0x8, 8, 0x40, 0x0, [(⟨63, 63⟩, .rwl), (⟨22, 16⟩, .rwl), (⟨15, 0⟩, .rwl)]⟩,
  ⟨0x420, 1, 0x0, 8, 0x40, 0x0, [(⟨47, 32⟩, .ro), (⟨31, 0⟩, .ro)]⟩]
/-- The ZN_ block's register table. -/
def rowsZn : List RegRow := rowsZn0 ++ rowsZn1
/-- The PD_ block's register table. -/
def rowsPd : List RegRow := [
  ⟨0x0, 1, 0x0, 1, 0x0, 0x0, [(⟨11, 8⟩, .ro), (⟨0, 0⟩, .ro)]⟩,
  ⟨0x8, 1, 0x0, 1, 0x0, 0x0, [(⟨4, 4⟩, .w1c), (⟨3, 3⟩, .w1c), (⟨2, 2⟩, .w1c), (⟨1, 1⟩, .w1c), (⟨0, 0⟩, .w1c)]⟩,
  ⟨0x10, 1, 0x0, 1, 0x0, 0x0, [(⟨31, 0⟩, .ro)]⟩,
  ⟨0x18, 1, 0x0, 1, 0x0, 0x0, [(⟨31, 0⟩, .ro)]⟩,
  ⟨0x20, 1, 0x0, 1, 0x0, 0x3E8, [(⟨63, 63⟩, .wo), (⟨62, 62⟩, .rw), (⟨55, 48⟩, .rw), (⟨13, 0⟩, .rw)]⟩,
  ⟨0x28, 1, 0x0, 1, 0x0, 0x0, [(⟨63, 32⟩, .ro), (⟨31, 16⟩, .ro), (⟨15, 0⟩, .ro)]⟩,
  ⟨0x40, 16, 0x8, 1, 0x0, 0x0, [(⟨63, 63⟩, .rw), (⟨47, 32⟩, .rw), (⟨31, 16⟩, .rw), (⟨15, 0⟩, .rw)]⟩,
  ⟨0x1000, 102, 0x8, 1, 0x0, 0x10000000000, [(⟨63, 48⟩, .ro), (⟨42, 40⟩, .ro), (⟨39, 38⟩, .ro), (⟨37, 36⟩, .ro), (⟨35, 34⟩, .ro), (⟨7, 6⟩, .ro), (⟨5, 4⟩, .rw), (⟨3, 2⟩, .rw), (⟨1, 0⟩, .rw)]⟩]
/-- The SI_ block's register table, part 0. -/
def rowsSi0 : List RegRow := [
  ⟨0x0, 1, 0x0, 1, 0x0, 0x0, [(⟨31, 0⟩, .rc)]⟩,
  ⟨0x8, 1, 0x0, 1, 0x0, 0x0, [(⟨11, 8⟩, .ro), (⟨0, 0⟩, .rw)]⟩,
  ⟨0x10, 1, 0x0, 1, 0x0, 0x0, [(⟨47, 16⟩, .ro), (⟨1, 0⟩, .rw)]⟩,
  ⟨0x100, 1, 0x0, 8, 0x100, 0x0, [(⟨2, 0⟩, .wo)]⟩,
  ⟨0x108, 1, 0x0, 8, 0x100, 0x0, [(⟨47, 0⟩, .rw)]⟩,
  ⟨0x110, 1, 0x0, 8, 0x100, 0x0, [(⟨31, 0⟩, .rw)]⟩,
  ⟨0x118, 1, 0x0, 8, 0x100, 0x0, [(⟨63, 0⟩, .rw)]⟩,
  ⟨0x120, 1, 0x0, 8, 0x100, 0x100, [(⟨55, 32⟩, .ro), (⟨31, 24⟩, .ro), (⟨23, 16⟩, .ro), (⟨15, 8⟩, .ro), (⟨3, 3⟩, .ro), (⟨2, 0⟩, .ro)]⟩,
  ⟨0x128, 1, 0x0, 8, 0x100, 0x0, [(⟨63, 0⟩, .ro)]⟩,
  ⟨0x130, 1, 0x0, 8, 0x100, 0x0, [(⟨63, 0⟩, .ro)]⟩,
  ⟨0x138, 1, 0x0, 8, 0x100, 0x0, [(⟨47, 0⟩, .rw)]⟩,
  ⟨0x140, 1, 0x0, 8, 0x100, 0x0, [(⟨63, 0⟩, .ro)]⟩,
  ⟨0x148, 1, 0x0, 8, 0x100, 0x0, [(⟨63, 0⟩, .ro)]⟩,
  ⟨0x150, 1, 0x0, 8, 0x100, 0x0, [(⟨63, 0⟩, .rwl)]⟩,
  ⟨0x158, 1, 0x0, 8, 0x100, 0x0, [(⟨63, 0⟩, .rwl)]⟩,
  ⟨0x160, 1, 0x0, 8, 0x100, 0x0, [(⟨47, 0⟩, .rwl)]⟩]
/-- The SI_ block's register table, part 1. -/
def rowsSi1 : List RegRow := [
  ⟨0x168, 1, 0x0, 8, 0x100, 0x0, [(⟨63, 63⟩, .rwl), (⟨47, 40⟩, .rwl), (⟨39, 20⟩, .rwl), (⟨19, 0⟩, .rwl)]⟩,
  ⟨0x170, 1, 0x0, 8, 0x100, 0x0, [(⟨47, 0⟩, .rwl)]⟩,
  ⟨0x178, 1, 0x0, 8, 0x100, 0x0, [(⟨63, 48⟩, .ro), (⟨47, 32⟩, .ro), (⟨31, 0⟩, .ro)]⟩,
  ⟨0x180, 8, 0x8, 8, 0x100, 0x0, [(⟨63, 0⟩, .ro)]⟩,
  ⟨0x1C0, 8, 0x8, 8, 0x100, 0x0, [(⟨63, 0⟩, .ro)]⟩,
  ⟨0x1000, 1, 0x0, 1, 0x0, 0x0, [(⟨5, 5⟩, .rw), (⟨4, 0⟩, .rw)]⟩,
  ⟨0x1008, 5, 0x8, 1, 0x0, 0x0, [(⟨7, 0⟩, .ro), (⟨15, 8⟩, .ro), (⟨23, 16⟩, .ro), (⟨31, 24⟩, .ro), (⟨39, 32⟩, .ro), (⟨47, 40⟩, .ro), (⟨55, 48⟩, .ro), (⟨63, 56⟩, .ro)]⟩,
  ⟨0x1030, 1, 0x0, 1, 0x0, 0x0, [(⟨23, 16⟩, .ro), (⟨15, 8⟩, .ro), (⟨7, 0⟩, .ro)]⟩,
  ⟨0x1038, 1, 0x0, 1, 0x0, 0x0, [(⟨3, 3⟩, .w1c), (⟨2, 2⟩, .w1c), (⟨1, 1⟩, .w1c), (⟨0, 0⟩, .w1c)]⟩,
  ⟨0x1040, 1, 0x0, 1, 0x0, 0x0, [(⟨31, 0⟩, .ro)]⟩,
  ⟨0x1048, 1, 0x0, 1, 0x0, 0x0, [(⟨0, 0⟩, .rw)]⟩,
  ⟨0x1050, 1, 0x0, 1, 0x0, 0x0, [(⟨63, 40⟩, .ro), (⟨39, 16⟩, .ro), (⟨15, 0⟩, .ro)]⟩,
  ⟨0x1060, 1, 0x0, 1, 0x0, 0x0, [(⟨31, 16⟩, .wo), (⟨10, 8⟩, .wo), (⟨1, 0⟩, .wo)]⟩,
  ⟨0x1068, 1, 0x0, 1, 0x0, 0x0, [(⟨63, 48⟩, .ro), (⟨47, 40⟩, .ro), (⟨39, 32⟩, .ro), (⟨31, 16⟩, .ro), (⟨2, 1⟩, .ro), (⟨0, 0⟩, .ro)]⟩,
  ⟨0x1070, 1, 0x0, 1, 0x0, 0x0, [(⟨63, 0⟩, .ro)]⟩,
  ⟨0x1078, 1, 0x0, 1, 0x0, 0x0, [(⟨23, 20⟩, .ro), (⟨19, 16⟩, .ro), (⟨14, 14⟩, .ro), (⟨13, 13⟩, .ro), (⟨12, 12⟩, .ro), (⟨11, 11⟩, .ro), (⟨10, 10⟩, .ro), (⟨9, 9⟩, .ro), (⟨8, 8⟩, .ro), (⟨3, 0⟩, .ro)]⟩]
/-- The SI_ block's register table, part 2. -/
def rowsSi2 : List RegRow := [
  ⟨0x1080, 4, 0x8, 1, 0x0, 0x0, [(⟨63, 32⟩, .ro), (⟨31, 0⟩, .ro)]⟩]
/-- The SI_ block's register table. -/
def rowsSi : List RegRow := rowsSi0 ++ rowsSi1 ++ rowsSi2
/-- The TL_ block's register table, part 0. -/
def rowsTl0 : List RegRow := [
  ⟨0x0, 1, 0x0, 1, 0x0, 0x0, [(⟨18, 8⟩, .rw), (⟨2, 0⟩, .rw)]⟩,
  ⟨0x8, 1, 0x0, 1, 0x0, 0x0, [(⟨5, 5⟩, .w1c), (⟨4, 4⟩, .w1c), (⟨3, 3⟩, .w1c), (⟨2, 2⟩, .w1c), (⟨1, 1⟩, .w1c), (⟨0, 0⟩, .w1c)]⟩,
  ⟨0x10, 1, 0x0, 1, 0x0, 0x0, [(⟨31, 0⟩, .ro)]⟩,
  ⟨0x100, 16, 0x8, 1, 0x0, 0x0, [(⟨63, 0⟩, .rw)]⟩,
  ⟨0x200, 16, 0x10, 1, 0x0, 0x0, [(⟨63, 0⟩, .rw)]⟩,
  ⟨0x208, 16, 0x10, 1, 0x0, 0x0, [(⟨63, 0⟩, .rw)]⟩,
  ⟨0x300, 4, 0x10, 1, 0x0, 0x0, [(⟨47, 0⟩, .rw)]⟩,
  ⟨0x308, 4, 0x10, 1, 0x0, 0x0, [(⟨47, 0⟩, .rw)]⟩,
  ⟨0x400, 64, 0x8, 1, 0x0, 0x0, [(⟨31, 20⟩, .rw), (⟨18, 8⟩, .rw), (⟨2, 0⟩, .rw)]⟩,
  ⟨0x600, 4, 0x40, 1, 0x0, 0x0, [(⟨63, 0⟩, .rw)]⟩,
  ⟨0x608, 4, 0x40, 1, 0x0, 0x0, [(⟨63, 63⟩, .rw), (⟨61, 56⟩, .rw), (⟨54, 48⟩, .rw), (⟨39, 0⟩, .rw)]⟩,
  ⟨0x610, 4, 0x40, 1, 0x0, 0x0, [(⟨63, 60⟩, .rw), (⟨52, 48⟩, .rw), (⟨47, 0⟩, .rw)]⟩,
  ⟨0x618, 4, 0x40, 1, 0x0, 0x0, [(⟨63, 32⟩, .ro), (⟨31, 0⟩, .rw)]⟩,
  ⟨0x620, 4, 0x40, 1, 0x0, 0x0, [(⟨63, 32⟩, .ro), (⟨31, 0⟩, .ro)]⟩,
  ⟨0x800, 1, 0x0, 1, 0x0, 0x0, [(⟨63, 63⟩, .rw), (⟨53, 49⟩, .rw), (⟨48, 40⟩, .rw), (⟨39, 32⟩, .rw)]⟩,
  ⟨0x808, 1, 0x0, 1, 0x0, 0x0, [(⟨63, 0⟩, .rw)]⟩]
/-- The TL_ block's register table, part 1. -/
def rowsTl1 : List RegRow := [
  ⟨0x810, 1, 0x0, 1, 0x0, 0x0, [(⟨31, 16⟩, .rw), (⟨15, 0⟩, .rw)]⟩,
  ⟨0x820, 2, 0x10, 1, 0x0, 0x0, [(⟨52, 48⟩, .rw), (⟨47, 0⟩, .rw)]⟩,
  ⟨0x828, 2, 0x10, 1, 0x0, 0x0, [(⟨63, 48⟩, .ro), (⟨47, 32⟩, .ro), (⟨15, 0⟩, .rw)]⟩,
  ⟨0x900, 8, 0x10, 1, 0x0, 0x0, [(⟨63, 63⟩, .rw), (⟨62, 60⟩, .ro), (⟨58, 56⟩, .rw), (⟨55, 44⟩, .rw), (⟨43, 32⟩, .rw), (⟨31, 0⟩, .rw)]⟩,
  ⟨0x908, 8, 0x10, 1, 0x0, 0x0, [(⟨63, 32⟩, .ro), (⟨31, 0⟩, .rw)]⟩,
  ⟨0xA00, 1, 0x0, 1, 0x0, 0x0, [(⟨47, 0⟩, .rw)]⟩,
  ⟨0xA08, 1, 0x0, 1, 0x0, 0x0, [(⟨63, 32⟩, .ro), (⟨31, 0⟩, .rw)]⟩,
  ⟨0xA10, 1, 0x0, 1, 0x0, 0x0, [(⟨4, 0⟩, .rw)]⟩,
  ⟨0x2000, 1, 0x0, 8, 0x200, 0x0, [(⟨0, 0⟩, .rw)]⟩,
  ⟨0x2008, 1, 0x0, 8, 0x200, 0x0, [(⟨63, 0⟩, .rw)]⟩,
  ⟨0x2010, 16, 0x8, 8, 0x200, 0x0, [(⟨63, 0⟩, .ro)]⟩,
  ⟨0x2100, 16, 0x10, 8, 0x200, 0x0, [(⟨63, 0⟩, .rw)]⟩,
  ⟨0x2108, 16, 0x10, 8, 0x200, 0x0, [(⟨63, 0⟩, .rw)]⟩]
/-- The TL_ block's register table. -/
def rowsTl : List RegRow := rowsTl0 ++ rowsTl1
/-- The RT_ block's register table, part 0. -/
def rowsRt0 : List RegRow := [
  ⟨0x0, 1, 0x0, 1, 0x0, 0x1, [(⟨25, 16⟩, .ro), (⟨1, 1⟩, .ro), (⟨0, 0⟩, .ro)]⟩,
  ⟨0x8, 1, 0x0, 1, 0x0, 0x0, [(⟨63, 63⟩, .rw), (⟨43, 38⟩, .rw), (⟨37, 32⟩, .rw), (⟨31, 26⟩, .rw), (⟨25, 20⟩, .rw), (⟨19, 0⟩, .rw)]⟩,
  ⟨0x10, 1, 0x0, 1, 0x0, 0x0, [(⟨63, 48⟩, .ro), (⟨47, 32⟩, .ro), (⟨31, 16⟩, .ro), (⟨15, 0⟩, .ro)]⟩,
  ⟨0x18, 1, 0x0, 1, 0x0, 0x0, [(⟨63, 48⟩, .ro), (⟨47, 32⟩, .ro), (⟨31, 16⟩, .ro), (⟨15, 0⟩, .ro)]⟩,
  ⟨0x20, 1, 0x0, 1, 0x0, 0x0, [(⟨5, 5⟩, .w1c), (⟨4, 4⟩, .w1c), (⟨3, 3⟩, .w1c), (⟨2, 2⟩, .w1c), (⟨1, 1⟩, .w1c), (⟨0, 0⟩, .w1c)]⟩,
  ⟨0x28, 1, 0x0, 1, 0x0, 0x0, [(⟨31, 0⟩, .ro)]⟩,
  ⟨0x30, 1, 0x0, 1, 0x0, 0x0, [(⟨10, 8⟩, .rw), (⟨6, 4⟩, .rw), (⟨3, 0⟩, .rw)]⟩,
  ⟨0x38, 1, 0x0, 1, 0x0, 0x0, [(⟨63, 32⟩, .ro), (⟨31, 0⟩, .ro)]⟩,
  ⟨0x40, 1, 0x0, 1, 0x0, 0x0, [(⟨7, 4⟩, .rw), (⟨3, 0⟩, .rw)]⟩,
  ⟨0x48, 1, 0x0, 1, 0x0, 0x0, [(⟨63, 32⟩, .ro), (⟨31, 16⟩, .ro), (⟨15, 0⟩, .ro)]⟩,
  ⟨0x50, 1, 0x0, 1, 0x0, 0x0, [(⟨10, 6⟩, .rw), (⟨5, 4⟩, .rw), (⟨3, 3⟩, .rw), (⟨2, 0⟩, .rw)]⟩,
  ⟨0x58, 1, 0x0, 1, 0x0, 0x0, [(⟨63, 63⟩, .ro), (⟨2, 2⟩, .ro), (⟨1, 0⟩, .ro)]⟩,
  ⟨0x100, 1, 0x0, 8, 0x40, 0x0, [(⟨63, 32⟩, .ro), (⟨31, 16⟩, .ro), (⟨11, 8⟩, .ro), (⟨6, 6⟩, .ro), (⟨5, 5⟩, .ro), (⟨4, 4⟩, .ro), (⟨3, 3⟩, .ro), (⟨2, 0⟩, .ro)]⟩,
  ⟨0x108, 1, 0x0, 8, 0x40, 0x0, [(⟨1, 1⟩, .wo), (⟨0, 0⟩, .wo)]⟩,
  ⟨0x110, 1, 0x0, 8, 0x40, 0x0, [(⟨63, 0⟩, .rw)]⟩,
  ⟨0x118, 1, 0x0, 8, 0x40, 0x0, [(⟨59, 48⟩, .rw), (⟨47, 0⟩, .rw)]⟩]
/-- The RT_ block's register table, part 1. -/
def rowsRt1 : List RegRow := [
  ⟨0x120, 1, 0x0, 8, 0x40, 0xFFFF0000, [(⟨63, 40⟩, .rw), (⟨38, 32⟩, .rw), (⟨31, 16⟩, .rw), (⟨15, 0⟩, .rw)]⟩,
  ⟨0x128, 1, 0x0, 8, 0x40, 0x0, [(⟨63, 0⟩, .ro)]⟩]
/-- The RT_ block's register table. -/
def rowsRt : List RegRow := rowsRt0 ++ rowsRt1
/-- The UC_ block's register table. -/
def rowsUc : List RegRow := [
  ⟨0x0, 1, 0x0, 1, 0x0, 0x0, [(⟨55, 48⟩, .ro), (⟨47, 40⟩, .ro), (⟨39, 32⟩, .ro), (⟨31, 16⟩, .ro), (⟨2, 0⟩, .ro)]⟩,
  ⟨0x8, 1, 0x0, 1, 0x0, 0x0, [(⟨4, 4⟩, .w1c), (⟨3, 3⟩, .w1c), (⟨2, 2⟩, .w1c), (⟨1, 1⟩, .w1c), (⟨0, 0⟩, .w1c)]⟩,
  ⟨0x10, 1, 0x0, 1, 0x0, 0x0, [(⟨31, 0⟩, .ro)]⟩,
  ⟨0x18, 1, 0x0, 1, 0x0, 0x0, [(⟨63, 32⟩, .ro), (⟨31, 0⟩, .ro)]⟩,
  ⟨0x20, 1, 0x0, 1, 0x0, 0x0, [(⟨31, 0⟩, .ro)]⟩,
  ⟨0x28, 1, 0x0, 1, 0x0, 0x0, [(⟨63, 59⟩, .ro), (⟨58, 56⟩, .ro), (⟨47, 0⟩, .ro)]⟩,
  ⟨0x30, 1, 0x0, 1, 0x0, 0x0, [(⟨63, 0⟩, .ro)]⟩,
  ⟨0x8000, 2048, 0x10, 1, 0x0, 0x0, [(⟨47, 2⟩, .rw)]⟩,
  ⟨0x8008, 2048, 0x10, 1, 0x0, 0x8000000000000000, [(⟨63, 63⟩, .rw), (⟨62, 62⟩, .ro), (⟨31, 0⟩, .rw)]⟩]
/-- The QH_ block's register table. -/
def rowsQh : List RegRow := [
  ⟨0x0, 1, 0x0, 1, 0x0, 0x0, [(⟨45, 32⟩, .ro), (⟨24, 16⟩, .ro), (⟨0, 0⟩, .ro)]⟩,
  ⟨0x8, 1, 0x0, 1, 0x0, 0x0, [(⟨63, 0⟩, .ro)]⟩,
  ⟨0x10, 1, 0x0, 1, 0x0, 0x0, [(⟨63, 32⟩, .ro), (⟨31, 0⟩, .ro)]⟩,
  ⟨0x18, 1, 0x0, 1, 0x0, 0x0, [(⟨4, 4⟩, .w1c), (⟨3, 3⟩, .w1c), (⟨2, 2⟩, .w1c), (⟨1, 1⟩, .w1c), (⟨0, 0⟩, .w1c)]⟩,
  ⟨0x20, 1, 0x0, 1, 0x0, 0x0, [(⟨31, 0⟩, .ro)]⟩,
  ⟨0x28, 1, 0x0, 1, 0x0, 0x0, [(⟨31, 0⟩, .ro)]⟩,
  ⟨0x100, 1, 0x0, 1, 0x0, 0x0, [(⟨63, 0⟩, .wo)]⟩,
  ⟨0x108, 1, 0x0, 1, 0x0, 0x0, [(⟨13, 0⟩, .rw)]⟩,
  ⟨0x110, 1, 0x0, 1, 0x0, 0x0, [(⟨63, 63⟩, .rw), (⟨62, 60⟩, .rw), (⟨59, 59⟩, .rw), (⟨58, 54⟩, .rw), (⟨53, 52⟩, .rw), (⟨51, 51⟩, .rw), (⟨47, 0⟩, .rw)]⟩,
  ⟨0x118, 1, 0x0, 1, 0x0, 0x0, [(⟨63, 48⟩, .rw), (⟨47, 37⟩, .rw), (⟨31, 16⟩, .rw), (⟨14, 8⟩, .rw)]⟩,
  ⟨0x120, 1, 0x0, 1, 0x0, 0x0, [(⟨47, 0⟩, .rw)]⟩,
  ⟨0x128, 1, 0x0, 1, 0x0, 0x0, [(⟨63, 32⟩, .ro), (⟨31, 0⟩, .ro)]⟩,
  ⟨0x130, 1, 0x0, 1, 0x0, 0x0, [(⟨46, 30⟩, .ro), (⟨7, 7⟩, .ro), (⟨6, 6⟩, .ro), (⟨5, 5⟩, .ro), (⟨4, 4⟩, .ro), (⟨2, 0⟩, .ro)]⟩,
  ⟨0x138, 1, 0x0, 1, 0x0, 0x0, [(⟨2, 2⟩, .wo), (⟨1, 1⟩, .wo), (⟨0, 0⟩, .wo)]⟩,
  ⟨0x140, 1, 0x0, 1, 0x0, 0x0, [(⟨63, 63⟩, .rw), (⟨13, 0⟩, .rw)]⟩]
/-- The KL_ block's register table, part 0. -/
def rowsKl0 : List RegRow := [
  ⟨0x0, 1, 0x0, 1, 0x0, 0x0, [(⟨39, 36⟩, .ro), (⟨35, 32⟩, .ro), (⟨31, 28⟩, .ro), (⟨27, 24⟩, .ro), (⟨23, 23⟩, .ro), (⟨22, 22⟩, .ro), (⟨21, 20⟩, .ro), (⟨3, 0⟩, .ro)]⟩,
  ⟨0x8, 1, 0x0, 1, 0x0, 0x0, [(⟨3, 3⟩, .wo), (⟨2, 2⟩, .wo), (⟨1, 1⟩, .wo), (⟨0, 0⟩, .wo)]⟩,
  ⟨0x10, 1, 0x0, 1, 0x0, 0x800000000000, [(⟨47, 47⟩, .rw), (⟨43, 40⟩, .rw), (⟨39, 32⟩, .rw), (⟨31, 12⟩, .rw), (⟨1, 0⟩, .rw)]⟩,
  ⟨0x18, 1, 0x0, 1, 0x0, 0x0, [(⟨31, 0⟩, .rw)]⟩,
  ⟨0x20, 1, 0x0, 1, 0x0, 0x0, [(⟨63, 0⟩, .ro)]⟩,
  ⟨0x28, 1, 0x0, 1, 0x0, 0x0, [(⟨63, 0⟩, .ro)]⟩,
  ⟨0x30, 1, 0x0, 1, 0x0, 0x0, [(⟨31, 0⟩, .ro)]⟩,
  ⟨0x38, 1, 0x0, 1, 0x0, 0x0, [(⟨49, 41⟩, .ro), (⟨40, 32⟩, .ro)]⟩,
  ⟨0x40, 1, 0x0, 1, 0x0, 0x0, [(⟨63, 32⟩, .ro), (⟨31, 0⟩, .ro)]⟩,
  ⟨0x48, 1, 0x0, 1, 0x0, 0x0, [(⟨63, 32⟩, .ro), (⟨31, 0⟩, .ro)]⟩,
  ⟨0x50, 1, 0x0, 1, 0x0, 0x271000004000, [(⟨63, 32⟩, .rw), (⟨31, 0⟩, .rw)]⟩,
  ⟨0x58, 1, 0x0, 1, 0x0, 0x0, [(⟨3, 0⟩, .rw)]⟩,
  ⟨0x60, 1, 0x0, 1, 0x0, 0x0, [(⟨27, 23⟩, .ro), (⟨22, 17⟩, .ro), (⟨16, 10⟩, .ro), (⟨9, 4⟩, .ro), (⟨3, 0⟩, .ro)]⟩,
  ⟨0x68, 1, 0x0, 1, 0x0, 0x0, [(⟨27, 0⟩, .rw)]⟩,
  ⟨0x70, 1, 0x0, 1, 0x0, 0x0, [(⟨27, 0⟩, .ro)]⟩,
  ⟨0x78, 1, 0x0, 1, 0x0, 0x0, [(⟨27, 0⟩, .ro)]⟩]
/-- The KL_ block's register table, part 1. -/
def rowsKl1 : List RegRow := [
  ⟨0x80, 1, 0x0, 1, 0x0, 0x0, [(⟨63, 48⟩, .ro), (⟨47, 32⟩, .ro), (⟨31, 16⟩, .ro), (⟨15, 0⟩, .ro)]⟩,
  ⟨0x88, 1, 0x0, 1, 0x0, 0x0, [(⟨31, 16⟩, .ro), (⟨15, 0⟩, .ro)]⟩,
  ⟨0x90, 1, 0x0, 1, 0x0, 0x0, [(⟨6, 6⟩, .w1c), (⟨5, 5⟩, .w1c), (⟨4, 4⟩, .w1c), (⟨3, 3⟩, .w1c), (⟨2, 2⟩, .w1c), (⟨1, 1⟩, .w1c), (⟨0, 0⟩, .w1c)]⟩,
  ⟨0x98, 1, 0x0, 1, 0x0, 0x0, [(⟨31, 0⟩, .ro)]⟩,
  ⟨0xA0, 1, 0x0, 1, 0x0, 0x0, [(⟨35, 35⟩, .ro), (⟨34, 34⟩, .ro), (⟨33, 33⟩, .ro), (⟨32, 32⟩, .ro), (⟨31, 0⟩, .ro)]⟩,
  ⟨0xA8, 1, 0x0, 1, 0x0, 0x0, [(⟨63, 48⟩, .ro), (⟨47, 32⟩, .ro), (⟨31, 16⟩, .ro), (⟨15, 0⟩, .ro)]⟩,
  ⟨0xB0, 9, 0x8, 1, 0x0, 0x0, [(⟨63, 32⟩, .rc), (⟨31, 0⟩, .ro)]⟩]
/-- The KL_ block's register table. -/
def rowsKl : List RegRow := rowsKl0 ++ rowsKl1
/-- The CE_ block's register table. -/
def rowsCe : List RegRow := [
  ⟨0x0, 1, 0x0, 1, 0x0, 0x0, [(⟨23, 19⟩, .ro), (⟨18, 14⟩, .ro), (⟨13, 12⟩, .ro), (⟨11, 4⟩, .ro), (⟨3, 2⟩, .ro), (⟨1, 1⟩, .ro), (⟨0, 0⟩, .ro)]⟩,
  ⟨0x8, 1, 0x0, 1, 0x0, 0x0, [(⟨7, 7⟩, .w1c), (⟨6, 6⟩, .w1c), (⟨5, 5⟩, .w1c), (⟨4, 4⟩, .w1c), (⟨3, 3⟩, .w1c), (⟨2, 2⟩, .w1c), (⟨1, 1⟩, .w1c), (⟨0, 0⟩, .w1c)]⟩,
  ⟨0x10, 1, 0x0, 1, 0x0, 0x0, [(⟨31, 0⟩, .ro)]⟩,
  ⟨0x18, 1, 0x0, 1, 0x0, 0x0, [(⟨63, 32⟩, .ro), (⟨31, 16⟩, .ro), (⟨15, 0⟩, .ro)]⟩,
  ⟨0x20, 1, 0x0, 1, 0x0, 0x0, [(⟨63, 0⟩, .ro)]⟩,
  ⟨0x28, 1, 0x0, 1, 0x0, 0x0, [(⟨0, 0⟩, .wo)]⟩,
  ⟨0x30, 1, 0x0, 1, 0x0, 0x0, [(⟨63, 32⟩, .ro), (⟨31, 0⟩, .ro)]⟩,
  ⟨0x100, 1, 0x0, 8, 0x40, 0x0, [(⟨63, 63⟩, .rw), (⟨52, 48⟩, .rw), (⟨47, 0⟩, .rw)]⟩,
  ⟨0x108, 1, 0x0, 8, 0x40, 0x0, [(⟨47, 0⟩, .rw)]⟩,
  ⟨0x110, 1, 0x0, 8, 0x40, 0x0, [(⟨63, 32⟩, .ro), (⟨31, 0⟩, .ro)]⟩,
  ⟨0x118, 1, 0x0, 8, 0x40, 0x0, [(⟨31, 0⟩, .rw)]⟩,
  ⟨0x120, 1, 0x0, 8, 0x40, 0x0, [(⟨34, 32⟩, .ro), (⟨31, 0⟩, .ro)]⟩]
/-- The AV_ block's register table. -/
def rowsAv : List RegRow := [
  ⟨0x0, 1, 0x0, 1, 0x0, 0x0, [(⟨47, 40⟩, .ro), (⟨39, 32⟩, .ro), (⟨31, 24⟩, .ro), (⟨2, 2⟩, .ro), (⟨1, 1⟩, .ro), (⟨0, 0⟩, .ro)]⟩,
  ⟨0x8, 1, 0x0, 1, 0x0, 0x0, [(⟨63, 0⟩, .ro)]⟩,
  ⟨0x10, 1, 0x0, 1, 0x0, 0x0, [(⟨63, 32⟩, .ro), (⟨31, 0⟩, .ro)]⟩,
  ⟨0x18, 1, 0x0, 1, 0x0, 0x0, [(⟨4, 4⟩, .w1c), (⟨3, 3⟩, .w1c), (⟨2, 2⟩, .w1c), (⟨1, 1⟩, .w1c), (⟨0, 0⟩, .w1c)]⟩,
  ⟨0x20, 1, 0x0, 1, 0x0, 0x0, [(⟨31, 0⟩, .ro)]⟩,
  ⟨0x28, 1, 0x0, 1, 0x0, 0x0, [(⟨63, 56⟩, .ro), (⟨55, 48⟩, .ro), (⟨47, 32⟩, .ro), (⟨31, 0⟩, .ro)]⟩,
  ⟨0x30, 1, 0x0, 1, 0x0, 0x0, [(⟨47, 0⟩, .ro)]⟩]
/-- The HB_ block's register table. -/
def rowsHb : List RegRow := [
  ⟨0x0, 1, 0x0, 1, 0x0, 0x0, [(⟨47, 40⟩, .ro), (⟨39, 32⟩, .ro), (⟨31, 24⟩, .ro), (⟨5, 5⟩, .ro), (⟨4, 4⟩, .ro), (⟨3, 1⟩, .ro), (⟨0, 0⟩, .ro)]⟩,
  ⟨0x8, 1, 0x0, 1, 0x0, 0x0, [(⟨63, 0⟩, .ro)]⟩,
  ⟨0x10, 4, 0x8, 1, 0x0, 0x0, [(⟨7, 7⟩, .ro), (⟨15, 15⟩, .ro), (⟨23, 23⟩, .ro), (⟨31, 31⟩, .ro), (⟨39, 39⟩, .ro), (⟨47, 47⟩, .ro), (⟨55, 55⟩, .ro), (⟨63, 63⟩, .ro), (⟨6, 6⟩, .ro), (⟨14, 14⟩, .ro), (⟨22, 22⟩, .ro), (⟨30, 30⟩, .ro), (⟨38, 38⟩, .ro), (⟨46, 46⟩, .ro), (⟨54, 54⟩, .ro), (⟨62, 62⟩, .ro), (⟨4, 0⟩, .ro), (⟨12, 8⟩, .ro), (⟨20, 16⟩, .ro), (⟨28, 24⟩, .ro), (⟨36, 32⟩, .ro), (⟨44, 40⟩, .ro), (⟨52, 48⟩, .ro), (⟨60, 56⟩, .ro)]⟩,
  ⟨0x30, 1, 0x0, 1, 0x0, 0x100000080401, [(⟨47, 32⟩, .ro), (⟨23, 16⟩, .rw), (⟨15, 8⟩, .rw), (⟨7, 0⟩, .rw)]⟩,
  ⟨0x38, 1, 0x0, 1, 0x0, 0x0, [(⟨63, 32⟩, .ro), (⟨15, 0⟩, .rc)]⟩,
  ⟨0x40, 1, 0x0, 1, 0x0, 0x0, [(⟨63, 32⟩, .ro), (⟨31, 0⟩, .ro)]⟩,
  ⟨0x48, 1, 0x0, 1, 0x0, 0x0, [(⟨63, 48⟩, .ro), (⟨47, 32⟩, .ro), (⟨31, 0⟩, .ro)]⟩,
  ⟨0x50, 1, 0x0, 1, 0x0, 0x100, [(⟨15, 0⟩, .rw)]⟩,
  ⟨0x58, 1, 0x0, 1, 0x0, 0x0, [(⟨7, 7⟩, .w1c), (⟨6, 6⟩, .w1c), (⟨5, 5⟩, .w1c), (⟨4, 4⟩, .w1c), (⟨3, 3⟩, .w1c), (⟨2, 2⟩, .w1c), (⟨1, 1⟩, .w1c), (⟨0, 0⟩, .w1c)]⟩,
  ⟨0x60, 1, 0x0, 1, 0x0, 0x0, [(⟨31, 0⟩, .ro)]⟩,
  ⟨0x68, 1, 0x0, 1, 0x0, 0x0, [(⟨63, 56⟩, .ro), (⟨47, 0⟩, .ro)]⟩,
  ⟨0x70, 1, 0x0, 1, 0x0, 0x0, [(⟨47, 0⟩, .rw)]⟩,
  ⟨0x78, 1, 0x0, 1, 0x0, 0x0, [(⟨63, 48⟩, .ro), (⟨47, 32⟩, .rw), (⟨31, 16⟩, .ro), (⟨4, 0⟩, .rw)]⟩,
  ⟨0x80, 1, 0x0, 1, 0x0, 0x8000180000000000, [(⟨63, 63⟩, .rw), (⟨47, 40⟩, .rw), (⟨39, 0⟩, .ro)]⟩,
  ⟨0x88, 1, 0x0, 1, 0x0, 0x0, [(⟨31, 0⟩, .ro)]⟩]
/-- The TC_ block's register table. -/
def rowsTc : List RegRow := [
  ⟨0x0, 1, 0x0, 1, 0x0, 0x0, [(⟨55, 48⟩, .ro), (⟨47, 42⟩, .ro), (⟨41, 37⟩, .ro), (⟨36, 32⟩, .ro), (⟨31, 16⟩, .ro), (⟨3, 0⟩, .ro)]⟩,
  ⟨0x8, 1, 0x0, 1, 0x0, 0x0, [(⟨6, 6⟩, .ro), (⟨14, 14⟩, .ro), (⟨22, 22⟩, .ro), (⟨30, 30⟩, .ro), (⟨38, 38⟩, .ro), (⟨46, 46⟩, .ro), (⟨54, 54⟩, .ro), (⟨62, 62⟩, .ro), (⟨5, 5⟩, .ro), (⟨13, 13⟩, .ro), (⟨21, 21⟩, .ro), (⟨29, 29⟩, .ro), (⟨37, 37⟩, .ro), (⟨45, 45⟩, .ro), (⟨53, 53⟩, .ro), (⟨61, 61⟩, .ro), (⟨4, 0⟩, .ro), (⟨12, 8⟩, .ro), (⟨20, 16⟩, .ro), (⟨28, 24⟩, .ro), (⟨36, 32⟩, .ro), (⟨44, 40⟩, .ro), (⟨52, 48⟩, .ro), (⟨60, 56⟩, .ro)]⟩,
  ⟨0x10, 1, 0x0, 1, 0x0, 0x0, [(⟨15, 8⟩, .wo), (⟨7, 0⟩, .wo)]⟩,
  ⟨0x18, 1, 0x0, 1, 0x0, 0x0, [(⟨7, 7⟩, .w1c), (⟨6, 6⟩, .w1c), (⟨5, 5⟩, .w1c), (⟨4, 4⟩, .w1c), (⟨3, 3⟩, .w1c), (⟨2, 2⟩, .w1c), (⟨1, 1⟩, .w1c), (⟨0, 0⟩, .w1c)]⟩,
  ⟨0x20, 1, 0x0, 1, 0x0, 0x0, [(⟨31, 0⟩, .ro)]⟩,
  ⟨0x28, 1, 0x0, 1, 0x0, 0x0, [(⟨63, 48⟩, .ro), (⟨47, 32⟩, .ro), (⟨31, 16⟩, .ro), (⟨15, 0⟩, .ro)]⟩,
  ⟨0x30, 1, 0x0, 1, 0x0, 0x0, [(⟨57, 56⟩, .ro), (⟨51, 32⟩, .ro), (⟨31, 0⟩, .ro)]⟩,
  ⟨0x40, 8, 0x8, 1, 0x0, 0x0, [(⟨63, 56⟩, .ro), (⟨51, 32⟩, .ro), (⟨31, 20⟩, .ro), (⟨19, 0⟩, .ro)]⟩,
  ⟨0x80, 1, 0x0, 1, 0x0, 0x0, [(⟨47, 0⟩, .ro)]⟩,
  ⟨0x100, 1, 0x0, 1, 0x0, 0x0, [(⟨63, 0⟩, .rw)]⟩,
  ⟨0x108, 1, 0x0, 1, 0x0, 0x0, [(⟨63, 0⟩, .rw)]⟩,
  ⟨0x200, 128, 0x8, 1, 0x0, 0x0, [(⟨31, 0⟩, .rw)]⟩]
/-- The ME_ block's register table. -/
def rowsMe : List RegRow := [
  ⟨0x0, 1, 0x0, 4, 0x100, 0x0, [(⟨27, 24⟩, .ro), (⟨23, 20⟩, .ro), (⟨19, 19⟩, .ro), (⟨18, 18⟩, .ro), (⟨17, 17⟩, .ro), (⟨16, 16⟩, .ro), (⟨1, 1⟩, .ro), (⟨0, 0⟩, .ro)]⟩,
  ⟨0x8, 1, 0x0, 4, 0x100, 0x0, [(⟨47, 32⟩, .ro), (⟨31, 0⟩, .ro)]⟩,
  ⟨0x10, 1, 0x0, 4, 0x100, 0x0, [(⟨7, 7⟩, .w1c), (⟨6, 6⟩, .w1c), (⟨5, 5⟩, .w1c), (⟨4, 4⟩, .w1c), (⟨3, 3⟩, .w1c), (⟨2, 2⟩, .w1c), (⟨1, 1⟩, .w1c), (⟨0, 0⟩, .w1c)]⟩,
  ⟨0x18, 1, 0x0, 4, 0x100, 0x0, [(⟨31, 0⟩, .ro)]⟩,
  ⟨0x20, 1, 0x0, 4, 0x100, 0x0, [(⟨55, 48⟩, .ro), (⟨41, 40⟩, .ro), (⟨20, 16⟩, .ro), (⟨10, 0⟩, .ro)]⟩]
/-- The VU_ block's register table. -/
def rowsVu : List RegRow := [
  ⟨0x0, 1, 0x0, 1, 0x0, 0x0, [(⟨15, 8⟩, .ro), (⟨2, 2⟩, .ro), (⟨1, 1⟩, .ro), (⟨0, 0⟩, .ro)]⟩,
  ⟨0x8, 5, 0x8, 1, 0x0, 0x0, [(⟨63, 0⟩, .ro)]⟩,
  ⟨0x30, 1, 0x0, 1, 0x0, 0x0, [(⟨50, 50⟩, .ro), (⟨49, 49⟩, .ro), (⟨48, 48⟩, .ro), (⟨47, 0⟩, .ro)]⟩]
/-- The register table of a block. -/
def blockRows : Block → List RegRow
  | .id => rowsId
  | .wk => rowsWk
  | .zn => rowsZn
  | .pd => rowsPd
  | .si => rowsSi
  | .tl => rowsTl
  | .rt => rowsRt
  | .uc => rowsUc
  | .qh => rowsQh
  | .kl => rowsKl
  | .ce => rowsCe
  | .av => rowsAv
  | .hb => rowsHb
  | .tc => rowsTc
  | .me => rowsMe
  | .vu => rowsVu
/-- The block and instance whose 64 KiB an address lies in, and the offset (R19). -/
def blockOf (a : Nat) : Option (Block × Nat × Nat) :=
  if 0x20000000000 ≤ a ∧ a < 0x20000010000 then some (.id, (a - 0x20000000000) / 0x10000, a % 0x10000)
  else if 0x20000010000 ≤ a ∧ a < 0x20000020000 then some (.wk, (a - 0x20000010000) / 0x10000, a % 0x10000)
  else if 0x20000020000 ≤ a ∧ a < 0x20000030000 then some (.zn, (a - 0x20000020000) / 0x10000, a % 0x10000)
  else if 0x20000030000 ≤ a ∧ a < 0x20000040000 then some (.pd, (a - 0x20000030000) / 0x10000, a % 0x10000)
  else if 0x20000040000 ≤ a ∧ a < 0x20000050000 then some (.si, (a - 0x20000040000) / 0x10000, a % 0x10000)
  else if 0x20000050000 ≤ a ∧ a < 0x20000060000 then some (.tl, (a - 0x20000050000) / 0x10000, a % 0x10000)
  else if 0x20000060000 ≤ a ∧ a < 0x20000070000 then some (.rt, (a - 0x20000060000) / 0x10000, a % 0x10000)
  else if 0x20000080000 ≤ a ∧ a < 0x200000A0000 then some (.uc, (a - 0x20000080000) / 0x10000, a % 0x10000)
  else if 0x20000100000 ≤ a ∧ a < 0x20000120000 then some (.qh, (a - 0x20000100000) / 0x10000, a % 0x10000)
  else if 0x20000200000 ≤ a ∧ a < 0x200002A0000 then some (.kl, (a - 0x20000200000) / 0x10000, a % 0x10000)
  else if 0x20000300000 ≤ a ∧ a < 0x20000380000 then some (.ce, (a - 0x20000300000) / 0x10000, a % 0x10000)
  else if 0x20000400000 ≤ a ∧ a < 0x20000480000 then some (.av, (a - 0x20000400000) / 0x10000, a % 0x10000)
  else if 0x20000500000 ≤ a ∧ a < 0x20000580000 then some (.hb, (a - 0x20000500000) / 0x10000, a % 0x10000)
  else if 0x20010000000 ≤ a ∧ a < 0x20018000000 then some (.tc, (a - 0x20010000000) / 0x10000, a % 0x10000)
  else if 0x20020000000 ≤ a ∧ a < 0x20028000000 then some (.me, (a - 0x20020000000) / 0x10000, a % 0x10000)
  else if 0x20030000000 ≤ a ∧ a < 0x20038000000 then some (.vu, (a - 0x20030000000) / 0x10000, a % 0x10000)
  else none
/-- A row holds an offset, at a place of its array in a group. -/
def RegRow.covers (r : RegRow) (o : Nat) : Bool :=
  decide (r.off ≤ o) &&
    (let x := o - r.off
     if r.s2 = 0 then (if r.s1 = 0 then x == 0 else x % r.s1 == 0 && decide (x / r.s1 < r.n1))
     else
       let y := x % r.s2
       decide (x / r.s2 < r.n2) && (if r.s1 = 0 then y == 0 else y % r.s1 == 0 && decide (y / r.s1 < r.n1)))

/-- The register table's row for a device address. -/
def rowOf (a : Nat) : Option RegRow :=
  match blockOf a with
  | some (b, _, o) => (blockRows b).find? (·.covers o)
  | none => none

/-- What a register holds after power-on reset by its table (R11), as a first address, instances, a group's count and stride,
an array's length and stride, and the value. -/
def resetRows : List (Nat × Nat × Nat × Nat × Nat × Nat × Nat) := [
  (0x20000000000, 1, 1, 0x0, 1, 0x0, 0xD31C720001000000),
  (0x20000000008, 1, 1, 0x0, 1, 0x0, 0x2000000000000000),
  (0x20000000010, 1, 1, 0x0, 1, 0x0, 0x2000000000),
  (0x20000000018, 1, 1, 0x0, 1, 0x0, 0x14),
  (0x20000000020, 1, 1, 0x0, 1, 0x0, 0x258004000830),
  (0x20000000028, 1, 1, 0x0, 1, 0x0, 0x20081080804000),
  (0x20000000030, 1, 1, 0x0, 1, 0x0, 0x70806400320),
  (0x20000010088, 1, 1, 0x0, 1, 0x0, 0x1003A),
  (0x20000010090, 1, 1, 0x0, 1, 0x0, 0x6400000076C),
  (0x20000020010, 1, 1, 0x0, 1, 0x0, 0xF000000001),
  (0x20000020058, 1, 1, 0x0, 1, 0x0, 0x3),
  (0x20000020228, 1, 1, 0x0, 1, 0x0, 0x64),
  (0x20000030020, 1, 1, 0x0, 1, 0x0, 0x3E8),
  (0x20000031000, 1, 1, 0x0, 102, 0x8, 0x10000000000),
  (0x20000040120, 1, 8, 0x100, 1, 0x0, 0x100),
  (0x20000060000, 1, 1, 0x0, 1, 0x0, 0x1),
  (0x20000060120, 1, 8, 0x40, 1, 0x0, 0xFFFF0000),
  (0x20000088008, 2, 1, 0x0, 2048, 0x10, 0x8000000000000000),
  (0x20000200010, 10, 1, 0x0, 1, 0x0, 0x800000000000),
  (0x20000200050, 10, 1, 0x0, 1, 0x0, 0x271000004000),
  (0x20000500030, 8, 1, 0x0, 1, 0x0, 0x100000080401),
  (0x20000500050, 8, 1, 0x0, 1, 0x0, 0x100),
  (0x20000500080, 8, 1, 0x0, 1, 0x0, 0x8000180000000000)]

/-- An address is one of a reset row's registers. -/
def resetRowHas (a : Nat) (r : Nat × Nat × Nat × Nat × Nat × Nat × Nat) : Bool :=
  let x := a - r.1
  let y := x % 0x10000
  let z := if r.2.2.2.1 = 0 then y else y % r.2.2.2.1
  decide (r.1 ≤ a) && decide (x / 0x10000 < r.2.1) &&
    (if r.2.2.2.1 = 0 then true else decide (y / r.2.2.2.1 < r.2.2.1)) &&
    (if r.2.2.2.2.2.1 = 0 then z == 0 else z % r.2.2.2.2.2.1 == 0 && decide (z / r.2.2.2.2.2.1 < r.2.2.2.2.1))

/-- The reset value of the register at an address (R11); fuse, flash and image fields are zero here. -/
def regReset (a : Nat) : Word :=
  match resetRows.find? (resetRowHas a) with
  | some r => BitVec.ofNat 64 r.2.2.2.2.2.2
  | none => 0

end Sys2Proof.Machine
end

