-- ==== Sys2Proof/Machine/Sparse.lean ====
section
/-! DEFINITION. Sparse maps in one canonical form: numbers strictly rising, and no entry that equals what an unlisted
number reads as, so that equal maps are equal data. -/
namespace Sys2Proof.Machine

/-- What a number holds; d gives the value of an unlisted number. -/
def sget {α : Type} (d : Nat → α) : Sparse α → Nat → α
  | [], n => d n
  | (k, v) :: t, n => if k = n then v else sget d t n

/-- Put an entry in its place, replacing the one of the same number. -/
def sinsert {α : Type} : Sparse α → Nat → α → Sparse α
  | [], n, x => [(n, x)]
  | (k, v) :: t, n, x => if n < k then (n, x) :: (k, v) :: t else if k = n then (n, x) :: t else (k, v) :: sinsert t n x

/-- Remove the entry of a number. -/
def serase {α : Type} : Sparse α → Nat → Sparse α
  | [], _ => []
  | (k, v) :: t, n => if k = n then serase t n else (k, v) :: serase t n

/-- Set a number's value; a value that an unlisted number reads as removes the entry. -/
def sset {α : Type} [DecidableEq α] (d : Nat → α) (l : Sparse α) (n : Nat) (x : α) : Sparse α :=
  if x = d n then serase l n else sinsert l n x

/-- Numbers strictly rising from a bound, and no entry at its default. -/
def swfFrom {α : Type} [DecidableEq α] (d : Nat → α) : Nat → Sparse α → Bool
  | _, [] => true
  | b, (k, v) :: t => decide (b ≤ k) && decide (v ≠ d k) && swfFrom d (k + 1) t

/-- The canonical form. -/
def swf {α : Type} [DecidableEq α] (d : Nat → α) (l : Sparse α) : Bool := swfFrom d 0 l

end Sys2Proof.Machine
end

