-- ==== Sys2Proof/Machine/State.lean ====
section
/-! DEFINITION. The state of the module as plain data: every register (one sparse map), memory, and the state of every
unit that the spec gives beside its registers; the reasons a command can stop; and the state right after power-on reset. -/
namespace Sys2Proof.Machine

/-! ## The structure image (chapter 02) -/

/-- A CLUSTERS entry (R32). -/
structure Cluster where
  id : Nat
  die : Nat
  row0 : Nat
  col0 : Nat
  rows : Nat
  cols : Nat
  entryQueue : Nat
  deriving DecidableEq, Repr

/-- A TILE_MAP entry (R33): a logical tile and the physical row and column of its own die that serve it. -/
structure TileMapEntry where
  logical : Nat
  physDie : Nat
  physRow : Nat
  physCol : Nat
  deriving DecidableEq, Repr

/-- A STREAM_ROUTES entry (R34). -/
structure Route where
  id : Nat
  src : Nat
  dst : Nat
  waypoint : Nat
  depth : Nat
  lanes : Nat
  dstCounter : Nat
  deriving DecidableEq, Repr

/-- A NUMERICS entry (R37). -/
structure NumMark where
  first : Nat
  last : Nat
  operator : Nat
  fast : Bool
  deriving DecidableEq, Repr

/-- A TEST_WINDOWS entry (R38). -/
structure TestWin where
  offsetUs : Nat
  lenUs : Nat
  kinds : Nat
  regionMask : Nat
  deriving DecidableEq, Repr

/-- A BANDWIDTH_PLAN entry (R39). -/
structure Share where
  port : Nat
  cls : Nat
  share : Nat
  burst : Nat
  deriving DecidableEq, Repr

/-- A ROUTING entry (R41). -/
structure RouteEntry where
  axis : Nat
  coord : Nat
  dir : Nat
  dateline : Bool
  deriving DecidableEq, Repr

/-- A PLACEMENT entry (R42). -/
structure Placement where
  handle : Nat
  layer : Nat
  addr : Nat
  size : Nat
  format : Nat
  pieces : Nat
  protect : Nat
  deriving DecidableEq, Repr

/-- A directory entry (R28). -/
structure SectionEntry where
  ty : Nat
  optional : Bool
  count : Nat
  offset : Nat
  length : Nat
  deriving DecidableEq, Repr

/-- The header of an image (R27). -/
structure Header where
  sliceable : Bool
  isSigned : Bool
  totalLen : Nat
  measuredLen : Nat
  frameUs : Nat
  sections : Nat
  partition : Nat
  maxSlice : Nat
  imageId : Nat
  version : Nat
  libMajor : Nat
  libMinor : Nat
  deriving DecidableEq, Repr

/-- A checked image, as the loader holds it (R47). -/
structure Image where
  head : Header
  dir : List SectionEntry
  regionMask : Nat
  wrapOwned : Nat
  queues : List (Nat × Nat)
  hbm : List (Nat × Nat)
  clusters : List Cluster
  tileMap : List TileMapEntry
  routes : List Route
  keep : List (Nat × Nat)
  numerics : List NumMark
  windows : List TestWin
  shares : List Share
  routing : List RouteEntry
  placements : List Placement
  regValues : List (Nat × Nat)
  measurement : BitVec 512
  deriving DecidableEq, Repr

/-- A launch descriptor (R57), with the number under which its completion is tracked, and whether it is malformed. -/
structure Launch where
  id : Nat
  base : Nat
  stride : Nat
  words : Nat
  seq : Nat
  cq : Nat
  doneRecord : Bool
  step : Nat
  mb : Nat
  priv : Nat
  malformed : Bool := false
  deriving DecidableEq, Repr

/-- A launch that a cluster has not finished: the tiles still to finish, and whether one abandoned it (R57). -/
structure LaunchTrack where
  launch : Launch
  part : Nat
  cluster : Nat
  die : Nat
  lowTile : Nat
  tiles : List Nat
  abandoned : Bool
  deriving DecidableEq, Repr

/-- What the loader and the library hold for a partition beside its SI_ registers: the staged and the active image, the
tile map in effect, the positions whose physical tiles the logical tiles of a sliced image use (R51, 03 R80; one not listed its own), the
substitutions of R51, the armed removal, the counts of an activation in progress, the stream
queues of its routes and what is on its way to them, the time-slice slots, the launches not finished, and whether the RWL fields of its groups are locked (R7, R8),
an activation report that waits for its memory (R26, 17 R411), and the STEP of the launch delivered last. -/
structure PartSt where
  staged : Option Image := none
  active : Option Image := none
  unloading : Bool := false
  regions : Nat := 0
  newRegions : Nat := 0
  map : Sparse Nat := []
  newMap : Sparse Nat := []
  homes : Sparse Nat := []
  newHomes : Sparse Nat := []
  subs : List (Nat × Nat) := []
  newSlice : Nat := 1
  slots : Sparse Nat := []
  newSlots : Sparse Nat := []
  resident : Nat := 0
  sliceLaunch : Sparse (List Byte) := []
  loadCtx : Nat := 0
  loadAt : Nat × Nat := (0, 0)
  tQ : Nat := 0
  cmdsEnded : Nat := 0
  streamEnded : Nat := 0
  streams : Sparse (List (List Byte)) := []
  transit : Sparse (List (List Byte)) := []
  tracks : List LaunchTrack := []
  aborted : List LaunchTrack := []
  noDeliver : Bool := false
  locked : Bool := false
  report : Option (Nat × List Byte) := none
  step : Option Nat := none
  routes : Option Nat := none
  newRoutes : Option Nat := none
  deriving DecidableEq, Repr

/-! ## Tiles (chapter 03) -/

/-- A command that a control core holds or has issued: its word, its index in the stream, what its launch supplies
(R57), the launch's number, the index a routine gave it (none for a stream word), the call that
issued it, whether RECOMPUTE issued it (08 R193), and for a forwarded Anvil command its
number and whether its tile was reset since (08 R200). -/
structure Cmd where
  word : CmdWord := 0
  index : Nat := 0
  launch : Nat := 0
  seq : Nat := 0
  step : Nat := 0
  mb : Nat := 0
  cq : Nat := 0
  part : Nat := 0
  priv : Nat := 1
  rix : Option Nat := none
  rin : Nat := 0
  recomp : Bool := false
  fwd : Nat := 0
  dead : Bool := false
  deriving DecidableEq, Repr

/-- A command that has ended and has not yet been completed by R77: its queue, status, fault address, DETAIL, and
the extents (address, bytes) that it wrote, and when it ended. -/
structure Ended where
  q : Nat
  cmd : Cmd
  status : Nat
  addr : Nat
  detail : Nat
  wrote : List (Nat × Nat) := []
  zt : Nat := 0
  deriving DecidableEq, Repr

/-- A routine that a control core is running (R70): its number, the number of its call, its progress, what it has read of its arguments, how many
commands it has issued, and the first failing command (its index, status); collective operations that it has under way, and the first that
failed (its index, status; 15 R371, R373). -/
structure Routine where
  number : Nat
  inst : Nat := 0
  phase : Nat := 0
  pos : Nat := 0
  issued : Nat := 0
  failed : Option (Nat × Nat) := none
  vals : List Nat := []
  libOps : Nat := 0
  libFail : Option (Nat × Nat) := none
  deriving DecidableEq, Repr

/-- A sync-object update on its way to a tile (R66): source tile or unit, destination, object, operation, value. -/
structure Sig where
  src : Nat
  dst : Nat
  obj : Nat
  op : Nat
  value : Nat
  deriving DecidableEq, Repr

/-- What the present cycle has done to a sync object (R65): its value at the cycle's start, its value after the cycle's wait takes, and the
updates (operation, value) of the cycle, in order. -/
structure SyncLog where
  obj : Nat
  start : Nat
  base : Nat
  ops : List (Nat × Nat)
  deriving DecidableEq, Repr

/-! ## Matrix engines (chapter 04) -/

/-- A result-buffer entry (R101): its valid tag, its format tag (16 for raw LACC, else a storage code), 16 values, and
whether its parity is bad (R105). -/
structure Entry where
  valid : Bool := false
  fmt : Nat := 0
  vals : List Nat := []
  bad : Bool := false
  deriving DecidableEq, Repr

/-- A FEED that has started (R87): its number in start order, its start cycle, the converter context it captured, the
plane rows its swap or its rows have met, the rows in the pipeline (activations, and raw partial sums where it reads
them), how many rows have entered and landed, and its non-finite outputs (R150). -/
structure FeedRun where
  cmd : Cmd
  no : Nat
  start : Nat
  ctx : ConvDesc
  weights : List (List Nat)
  rows : List (List Nat × List Nat)
  entered : Nat
  landed : Nat
  count : Nat
  deriving DecidableEq, Repr

/-- A WLOAD, CONV or DRAIN that has started: its number, its start cycle and the bytes read so far. -/
structure PortRun where
  cmd : Cmd
  no : Nat
  start : Nat
  data : List Byte
  deriving DecidableEq, Repr

/-- A STORE that has started (R96): the next row, and the offset and bytes of the row being written. -/
structure StoreRun where
  cmd : Cmd
  no : Nat
  start : Nat
  row : Nat
  off : Nat
  left : List Byte
  deriving DecidableEq, Repr

/-- A matrix engine (R101, R100, R107, R95): result buffer, shadow and active planes (a row not listed is zero), shadow
tags, rows with bad parity, the cycles at whose end a swap clears a row's tag, converter contexts, chain tokens, the last start, the entries that INVAL
cleared in a cycle though that cycle's reads still find them valid (R101), and what has started. -/
structure MeSt where
  buf : Sparse Entry := []
  shadow : Sparse (List Nat) := []
  shadowTag : Nat := 0
  shadowBad : Nat := 0
  clears : List (Nat × Nat) := []
  active : Sparse (List Nat) := []
  activeBad : Nat := 0
  ctx0 : ConvDesc := ConvDesc.default
  ctx1 : ConvDesc := ConvDesc.default
  tokens : List Nat := []
  lastStart : Option Nat := none
  started : Nat := 0
  spared : Nat × List Nat := (0, [])
  feeds : List FeedRun := []
  wload : Option PortRun := none
  conv : Option PortRun := none
  drain : Option PortRun := none
  store : Option StoreRun := none
  deriving DecidableEq, Repr

/-- The exact-sum register of a vector unit (07 R161): S, the side bits and COUNT. -/
structure Xsr where
  s : Nat := 0
  pinf : Bool := false
  ninf : Bool := false
  nan : Bool := false
  count : Nat := 0
  deriving DecidableEq, Repr

/-- A Halo count on its way (08 R195, R196): partition, step, layer, the counts, and the tile that sends it. -/
structure HaloMsg where
  part : Nat
  step : Nat
  layer : Nat
  nonfinite : Nat := 0
  gNonfinite : Nat := 0
  gSat : Nat := 0
  tile : Nat := 0
  deriving DecidableEq, Repr

/-- What a vector-unit command does when it completes (07 R160, R163): its counts of non-finite values written (R160, and R127:
non-finite and saturated), and the exact-sum register that it commits on OK. -/
structure VuPend where
  nonfinite : Nat := 0
  gNonfinite : Nat := 0
  gSat : Nat := 0
  xsr : Option Xsr := none
  deriving DecidableEq, Repr

/-- A tile's control core, queues and engines: the running and the buffered launch, the next word's index, the fetched
word, the in-line command, the routine and the number of calls, the engine queues (0 to 5 and 7), the DMA's route progress, the forwarded Anvil
commands, the ended commands, the stopped queues, the matrix engines, the exact-sum register and what the vector unit's command leaves at its completion, the Halo combining buffer,
unattributed holder and outbound queue (08 R197), the commands of each queue that have started and not completed, oldest first, the cycle from which the oldest takes its queue's issue slots, and
the cycle after the one in which queue 6 last placed or refused a word (16 R387). -/
structure TileSt where
  launch : Option Launch := none
  next : Option Launch := none
  wordIx : Nat := 0
  fetched : Option CmdWord := none
  inl : Option Cmd := none
  started6 : Bool := false
  routine : Option Routine := none
  calls : Nat := 0
  queues : Sparse (List Cmd) := []
  moved : Option Nat := none
  outstanding : List Cmd := []
  ended : List Ended := []
  stopped : Nat := 0
  mes : Sparse MeSt := []
  xsr : Xsr := {}
  vuPend : Option VuPend := none
  halo : List HaloMsg := []
  haloHold : Option HaloMsg := none
  haloOut : List HaloMsg := []
  flight : Sparse (List Cmd) := []
  slotAt : Sparse Nat := []
  wordAt : Nat := 0
  slotTaken : Nat := 0
  deriving DecidableEq, Repr

/-! ## Queue hub and host link (chapter 10) -/

/-- A hardware queue (R225, R226, R232): its descriptor words, its counts, its notification, and the
counts of the entries that a user context's doorbell made available (16 R385). -/
structure QueueSt where
  desc0 : Nat := 0
  desc1 : Nat := 0
  desc2 : Nat := 0
  prod : Nat := 0
  cons : Nat := 0
  armed : Bool := false
  fired : Bool := false
  cfgRefused : Bool := false
  userSlots : List Nat := []
  deriving DecidableEq, Repr

/-- A completion record that a source holds (R236): the queue it names, the partition of its launch, its bytes, the level of its launch (16 R385). -/
structure CompRec where
  cq : Nat
  part : Nat
  bytes : List Byte
  priv : Nat := 1
  deriving DecidableEq, Repr

/-- A Queue hub half: the records held, by engine index, LAUNCH_DONE records that wait for a place of their source, and the write buffer (R236, R237). -/
structure HubSt where
  held : Sparse (List CompRec) := []
  late : List CompRec := []
  wbuf : List CompRec := []
  deriving DecidableEq, Repr

/-- A host request that waits (R243, R209, R250): the UCIe module, context, address, SEQ; of a read its tag, of a write its bytes;
and the number of bytes. -/
structure HostReq where
  um : Nat
  ctx : Ctx
  addr : Nat
  seq : Nat
  tag : Option Nat
  len : Nat
  data : List Byte
  deriving DecidableEq, Repr

/-- The host link's order (R243): the next SEQ, later ones already taken effect, the requests that wait, in order of arrival. -/
structure LinkSt where
  seqNext : Nat := 0
  ahead : List Nat := []
  held : List HostReq := []
  deriving DecidableEq, Repr

/-! ## Fuses and the spares map (chapters 00, 15, 18) -/

/-- What fuses hold (R2, R22, R431, R433, R437): grade, stepping, present Anvil units, serial number, life-cycle state,
MIN_SVN, the identity seed once generated, and the target of a life-cycle transition that awaits a reset (R432). -/
structure Fuses where
  grade : Nat := 0
  stepping : Nat := 0
  anvilMask : Nat := 0xFF
  serial : Nat := 0
  lifecycle : Nat := 0
  minSvn : Nat := 0
  seed : Option (List Byte) := none
  lcTarget : Option Nat := none
  deriving DecidableEq, Repr

/-- The spares map in force (15 R365): record bytes by physical tile (die × 1056 + row × 33 + column), and one bit for each
Anvil unit, collective engine and HBM stack. -/
structure SparesSt where
  tiles : Sparse Nat := []
  anvil : Nat := 0
  ce : Nat := 0
  hbm : Nat := 0
  deriving DecidableEq, Repr

/-! ## Counters (chapter 16) -/

/-- A record of the Tally unit that waits for its memory (R391, R396, R399): what wrote it (0 and 1 the trace of a die, 2 the debug
ring, 4 + s snapshot schedule s), its bytes, where they go, and HEAD once it is written. -/
structure TallyWrite where
  what : Nat
  addr : Nat
  bytes : List Byte
  head : Nat
  deriving DecidableEq, Repr

/-- The counters of the Tally unit (R384, R386): values and configuration by counter number
((kind × 4096 + instance) × 16 + n), the configuration generation of an
instance (kind × 4096 + instance), the trace records generated on each die, what each armed watch has looked up
(address and size, R397), records that wait to be written, and by snapshot schedule the next instant's number, the snapshots dropped
since the last one written, and the power domains whose counters restarted since the last one. -/
structure TallySt where
  value : Sparse Nat := []
  cfgA : Sparse Nat := []
  cfgB : Sparse Nat := []
  gen : Sparse Nat := []
  traceSeq : Sparse Nat := []
  waiting : List TallyWrite := []
  instant : Sparse Nat := []
  dropped : Sparse Nat := []
  lost : Sparse Nat := []
  watchAt : Sparse (Nat × Nat) := []
  taken : List (Nat × Nat × List Byte) := []
  deriving DecidableEq, Repr

/-! ## Anvil units (chapter 08) and power (chapter 17) -/

/-- An Anvil unit's input: the issuing tile and the command, oldest first, at most 32 (08 R175); and of a running command whose partition was reset
since, its number and what the loader held for the partition, under which it completes (08 R200). -/
structure AnvilSt where
  input : List (Nat × Cmd) := []
  under : Option (Nat × PartSt) := none
  deriving DecidableEq, Repr

/-- Power votes and Drizzle mode beside the PD_ registers: the partitions whose images vote for each domain (17 R410), the
state that each domain in transition left, the domains that FAILED training (R412); Drizzle: the threshold entries whose last evaluated
reading lay outside, the wake sources that take effect at the first sample, the next sample instant, the domains that Welkin's resume
vote holds, an exit whose event waits for the hub of die 0 (WAKE_CAUSE, SAMPLES, ALERTS), and the time of the last exit (R415 to R417,
R419). -/
structure PowerSt where
  image : Sparse Nat := []
  moving : Sparse Nat := []
  failed : Nat := 0
  outside : Nat := 0
  wake : Nat := 0
  sampleAt : Nat := 0
  resumed : Nat := 0
  exitEvent : Option (Nat × Nat × Nat) := none
  wokeAt : Option Nat := none
  deriving DecidableEq, Repr

/-! ## Welkin (chapter 18) -/

/-- A request frame that waits for Welkin (R422, 10 R248): its interface, SEQ and payload. -/
structure WkFrame where
  i3c : Bool
  seq : Nat
  payload : List Byte
  deriving DecidableEq, Repr

/-- The staging buffer (R424): its owner, LEN, its bytes by offset, and the time of the owner's last buffer request. -/
structure WkBuffer where
  i3c : Bool
  len : Nat
  bytes : Sparse Byte := []
  last : Nat
  deriving DecidableEq, Repr

/-- A request whose answer comes later (R438, R439): its interface and SEQ, a fabric request's tag and the time of its sending, the
UCIe modules still to train. -/
structure WkWait where
  i3c : Bool
  seq : Nat
  tag : Nat := 0
  at_ : Nat := 0
  mask : Nat := 0
  deriving DecidableEq, Repr

/-- Welkin's stores (R420, R427, R428): the firmware range of the flash, the record store, the records that verified at
the last load or write and are in force, those whose effect waits for an image (R429), the event-log ring, oldest first, each with
whether it is mirrored, the mirror in flash, the equivalent hours last logged for each Contrail serial (11 R275); requests not yet taken,
in order of arrival, the answers of the I3C port not yet read (R422), the fabric and the retrain requests under way, MGMT requests received
(source, tag, payload; R439), the next tag, the buffer, the challenge and the time of its issue (R432), how often entropy was drawn, the
plan in the always-on SRAM and in the flash (R438), the fence marks in the flash (15 R367), the parity errors and bad tile-SRAM lines of the last 24 hours (what, which, when), the time of the last mirroring, and the user
offsets of the sensors (R430, R440). -/
structure WelkinSt where
  fw : List Byte := []
  records : List (List Byte) := []
  inForce : List (List Byte) := []
  deferred : List (List Byte) := []
  log : List (Bool × List Byte) := []
  mirror : List (List Byte) := []
  hours : List (Nat × Nat) := []
  reqs : List WkFrame := []
  answers : List (List Byte) := []
  fabric : Option WkWait := none
  retrain : Option WkWait := none
  mgmt : List (Nat × Nat × List Byte) := []
  nextTag : Nat := 0
  buffer : Option WkBuffer := none
  challenge : Option (List Byte × Nat) := none
  draws : Nat := 0
  plan : Option (List Byte) := none
  planFlash : Option (List Byte) := none
  marks : SparesSt := {}
  seen : List (Nat × Nat × Nat) := []
  mirroredAt : Nat := 0
  calUser : Sparse Nat := []
  deriving DecidableEq, Repr

/-! ## Packets, ports and the router (chapters 11, 12) -/

/-- A packet (R278): its 256-bit header and its payload. -/
structure Packet where
  hdr : Nat
  body : List Byte
  deriving DecidableEq, Repr

/-- A Contrail module in a port's cage (R274, R275): its serial, whether its certificate verified, equivalent hours in units
of 2^−32 hour, the minute and the sum and number of its temperature readings, bias currents at first laser-on, its certificate,
the time and the count last written to its own memory, and the transmit and receive powers read last. -/
structure ContrailSt where
  serial : Nat
  ok : Bool
  hours : Nat
  minute : Nat
  tempSum : Int := 0
  tempCount : Nat := 0
  bias0 : List Nat
  bodyBytes : List Byte := []
  writtenAt : Nat := 0
  stored : Nat := 0
  power : List (Nat × Nat) := []
  deriving DecidableEq, Repr

/-- An outstanding storage request (R271, R272): the tag of the engine, the queue and slot of its entry, the entry, the owner,
the ranges received, the bytes transferred, an uncorrectable local error, and the time of its last packet. -/
structure StorageReq where
  tag : Nat
  die : Nat
  queue : Nat
  slot : Nat
  entry : List Byte
  owner : Option Nat
  got : List (Nat × Nat) := []
  moved : Nat := 0
  ue : Bool := false
  last : Nat
  deriving DecidableEq, Repr

/-- A completion record of a storage or a collective engine that waits for its queue (R273, 13 R318): die, owner, queue,
bytes. -/
structure DoneRec where
  die : Nat
  owner : Option Nat
  cq : Nat
  bytes : List Byte
  deriving DecidableEq, Repr

/-- A Kwebel port beside its registers: the time of its last state change, the state it returns to after a repeated DISCOVER
or SLEEP, the content of the last DISCOVER (R263, R267); lanes (trained and user equalisation values, window counts, degrade
retrains in progress); transmit and receive sequence, replay buffer and partly received packet (R257); CONTROL flits received
and due; whether credits were granted, credits used and freed by channel (R283); a software DISABLE (R277); the bits of the block being sent and the flits not yet in a
slot (R255); the last DISCOVER flit received (its TX_ZT, its arrival, bytes 0x00 to 0x17), the exchanges measured and their sum in ns
(R262); the SLEEP exchange (R269); the Contrail module; the storage engine. -/
structure PortSt where
  since : Nat := 0
  back : Option Nat := none
  recheck : Bool := false
  content : Option (List Byte) := none
  retrainAfter : Bool := false
  degRx : Bool := false
  degTx : Bool := false
  trained : Sparse Nat := []
  eqUser : Sparse Nat := []
  window : Sparse (Nat × Nat) := []
  txSeq : Nat := 0
  ackSeq : Nat := 0
  replay : List (Nat × Nat × Packet) := []
  replayFrom : Option Nat := none
  rxSeq : Nat := 0
  rxPart : Option (Nat × List Byte) := none
  skipping : Bool := false
  uncorr : Nat := 0
  lastCtrl : Nat := 0
  ctrlIn : List (Nat × List Byte) := []
  nakDue : Bool := false
  ackSent : Nat := 0
  spareReq : Option Nat := none
  degReq : Option Nat := none
  freed : Sparse Nat := []
  used : Sparse Nat := []
  credited : Bool := false
  disabled : Bool := false
  block : Nat := 0
  flitsOut : Nat := 0
  heard : Option (Nat × Nat × List Byte) := none
  exchanges : Nat := 0
  echoNs : Nat := 0
  sleepTurn : Bool := false
  sleepSent : Bool := false
  sleepRcvd : Bool := false
  linkRun : Nat := 0
  copper : Bool := false
  contrail : Option ContrailSt := none
  nextTag : Nat := 0
  turn : Nat := 0
  reqs : List StorageReq := []
  dones : List DoneRec := []
  deriving DecidableEq, Repr

/-- A packet waiting at an egress port: where it came from (ingress 0 to 9 a port, 10 local, 11 the port's storage engine) and
on which channel, whether it enters the axis there (R285), how the shares judged it (0 not yet, 1 in-share, 2 over-share; R295), and whether it was
counted as waiting for credits. -/
structure EgPkt where
  pkt : Packet
  ingress : Nat
  chan : Nat
  enters : Bool
  judged : Nat := 0
  waited : Bool := false
  deriving DecidableEq, Repr

/-- A token bucket of an egress port (R295): its share and depth in force, its tokens in units of 1/(65,536 × 10,880) flit at the
time of its last refill. -/
structure Bucket where
  share : Nat
  burst : Nat
  tokens : Nat
  at_ : Nat
  deriving DecidableEq, Repr

/-- The router (R279 to R296): table entries, dir + 4 × dateline, by ((partition × 2 + version) × 4 + axis) × 32 + coordinate;
buckets by port × 64 + partition × 8 + class; receive buffers by ingress × 10 + channel; packets waiting at egress ports by
port × 10 + channel; packets taken by local units, by KIND, with their ingress; in-share and over-share flits by bucket;
packets that waited for credits by port × 10 + channel; the over-share pair served last by each port; the pair at which each port's deficit
round robin stands, and the deficits by port × 64 + pair (R296); the partitions whose SWITCH waits for its close list (17 R411); the window of the last
ROUTE_DISCARD event by die × 8 + cause; SEQ counts; new-epoch packets held; close lists read; partitions whose
switch has timed out, and the time by which stops extend a switch's timeout (14 R355). -/
structure RouterSt where
  tables : Sparse Nat := []
  buckets : Sparse (Option Bucket) := []
  rx : Sparse (List Packet) := []
  eg : Sparse (List EgPkt) := []
  inbox : Sparse (List (Nat × Packet)) := []
  sent : Sparse (Nat × Nat) := []
  waits : Sparse Nat := []
  turn : Sparse Nat := []
  drr : Sparse Nat := []
  deficits : Sparse Nat := []
  switchWait : List Nat := []
  limited : Sparse Nat := []
  seqs : Sparse Nat := []
  heldNew : List Packet := []
  closing : Sparse (List Nat) := []
  timedOut : List Nat := []
  extra : Sparse Nat := []
  deriving DecidableEq, Repr

/-! ## Collective engines (chapter 13) -/

/-- An operation of a collective pair (R306 to R323): its number in start order, axis, partition, descriptor and slot, its epoch;
whether the contribution decision is made and its range initialised; its attempt, mode (0 RING, 1 LINE) and members in
order; the contribution decision, the contributor mask, arrivals applied and packets sent (way, phase, offset, length, mask);
READYs matched (by side), members finished; whether the attempt was stopped by a break; the decision; the adopted shard; its
failure; the time of its last packet; DATA bytes sent; for PERMUTE, SEND and READ how far its own sends have come, and the requests
outstanding (tag, offset, length); the sum of its own squares and the number that its blocks' units depend on; the routine that posted it
(tile, instance, index), with the send table or the message that the library keeps for it (15 R371, R330); and whether an ABORT has been sent
or passed on (R323). -/
structure CeOp where
  no : Nat
  axis : Nat
  part : Nat
  desc : List Byte
  slot : Nat
  epoch : Nat
  ready0 : Bool := false
  attempt : Nat := 0
  mode : Nat := 0
  order : List Nat := []
  contrib : Option Bool := none
  mask : Nat := 0
  applied : List (Nat × Nat × Nat × Nat × Nat) := []
  sent : List (Nat × Nat × Nat × Nat) := []
  ready : List Nat := []
  done : Nat := 0
  stopped : Bool := false
  decided : Nat := 0
  adopted : Option Nat := none
  fault : Option (Nat × Nat) := none
  last : Nat := 0
  readAt : Nat := 0
  bytes : Nat := 0
  cursor : Nat := 0
  reqs : List (Nat × Nat × Nat) := []
  localSq : Xsr := {}
  units : Nat := 0
  lib : Option (Nat × Nat × Nat) := none
  table : List (List Byte) := []
  told : Bool := false
  priv : Nat := 1
  deriving DecidableEq, Repr

/-- A permute tag's place (R325): partition, OP_TAG, bytes counted, its packets, the time of its first packet, whether an address
outside the owned set was named, and whether bytes beyond COUNT were refused. -/
structure PermPlace where
  part : Nat
  tag : Nat
  bytes : Nat := 0
  packets : Nat := 0
  first : Nat
  denied : Bool := false
  excess : Bool := false
  deriving DecidableEq, Repr

/-- A collective pair (engines a and a + 4): its operations in start order and the number of the next, READYs held by
partition × 2 + side (OP_TAG, attempt, mode; side 0 the plus neighbour, 1 the minus neighbour), permute places, the next
request tag, the time of the last PROD read by partition, and each partition's last 8 ring operations that ended here (R322, R323; log
entry 58). -/
structure CeSt where
  ops : List CeOp := []
  started : Nat := 0
  readys : Sparse (List (Nat × Nat × Nat)) := []
  places : List PermPlace := []
  nextTag : Nat := 0
  pollAt : Sparse Nat := []
  past : List CeOp := []
  deriving DecidableEq, Repr

/-! ## Zenith (chapter 14) -/

/-- An announcement as last received on a port (R340, R346), with the time of its receipt. -/
structure Announce where
  quality : Nat
  prio : Nat
  hops : Nat
  serial : Nat
  state : Nat
  at_ : Nat
  deriving DecidableEq, Repr

/-- A window of 1 µs on a port (R343): when it began, the sum of (arrival stamp − TX_ZT), and the CONTROL flits. -/
structure ZnWindow where
  start : Nat
  sum : Int
  count : Nat
  deriving DecidableEq, Repr

/-- A received SYNC paired with an own window (R346): the window, both means and the asymmetries. -/
structure SyncPair where
  start : Nat
  own : Int
  parent : Int
  asym : Int
  deriving DecidableEq, Repr

/-- An Overcast stop or resume taken from a packet or a command (R352): T, STOP_ID, SCOPE, ALL, ACTION, IMMEDIATE, ORIGIN, the
kind recorded (0 SCHEDULED, 1 IMMEDIATE, 2 LATE), when this module stopped, its SMEAR_NS, and whether its record is written. -/
structure StopOrder where
  t : Nat
  id : Nat
  scope : Nat
  all : Bool
  action : Nat
  immediate : Bool
  origin : Nat
  kind : Nat := 0
  stoppedAt : Option Nat := none
  smear : Nat := 0
  written : Bool := false
  deriving DecidableEq, Repr

/-- Zenith beside its registers: whether the timing clock runs (19 R441), the fraction of the counter in 10^−9 ns, the increment's offset from 1 ns and its average
in 10^−9 ns, announcements, windows and the pair to use by port, windows in a row below 2 ns, the second named and the last
edge taken (R341) with the counter's value there, edges in a row that were good or not valid, the time of the last edge,
whether it has taken its parent's time since it entered ACQUIRE, the offset in force
(in 2^−8 ns), the last time of an announcement and of a SYNC by port, the last whole second, the second that a timecode will describe, the
next frame of each partition, the 8 STOP_IDs last seen and the orders in force. -/
structure ZenithSt where
  running : Bool := false
  acc : Nat := 0
  rate : Int := 0
  avg : Int := 0
  anns : Sparse (Option Announce) := []
  windows : Sparse (List ZnWindow) := []
  pairs : Sparse (Option SyncPair) := []
  quiet : Nat := 0
  lastWin : Nat := 0
  nextSec : Option Nat := none
  edgeSec : Option Nat := none
  edgeAt : Nat := 0
  goodEdges : Nat := 0
  badEdges : Nat := 0
  lastEdge : Nat := 0
  stepped : Bool := false
  theta : Option Int := none
  annSent : Sparse Nat := []
  syncSent : Sparse Nat := []
  ppsAt : Nat := 0
  todFor : Option Nat := none
  frameAt : Sparse Nat := []
  seen : List Nat := []
  orders : List StopOrder := []
  nextId : Nat := 0
  deriving DecidableEq, Repr


/-! ## In-service self-test (chapter 15) and frequency points (chapter 20) -/

/-- A self-test slice that runs (15 R380, R381): partition, logical tile, unit (0 to 3 a matrix engine, 4 the vector unit, 5 an SRAM
bank), bank, and the time at which it ends. -/
structure SliceRun where
  part : Nat
  tile : Nat
  unit : Nat
  bank : Nat
  ends : Nat
  deriving DecidableEq, Repr

/-- The library's in-service self-test: each partition's cursor, the units tested in the current pass (logical tile × 21 + place in the
cursor's order), the test windows opened by partition × 65536 + entry (the
frame + 1, doubled, plus one where slices may start), and the slices that run. -/
structure SelfTestSt where
  cursor : Sparse Nat := []
  tested : List Nat := []
  opened : Sparse Nat := []
  slices : List SliceRun := []
  deriving DecidableEq, Repr

/-- Frequency points and the input supervision (20 R455 to R460): the requested point and the cap in force, the cap point, each
region's thermal point (1,800 where nothing lowers it) and the time of its last step, the times by Welkin's clock of the last cap decision
and of the last raise, how many decisions in a row found the mean above the cap with every region at 800 MHz, consecutive 100 µs readings above the fast limit, the time at which the input fell into its ride-through
band, stacks limited, the sensors whose trip has not been released, and the readings of input power of the last 10 ms, latest first
(at most 100). -/
structure PwrSt where
  req : Nat := 1600
  capW : Nat := 1900
  cap : Nat := 1600
  thermal : Sparse Nat := []
  thermalAt : Sparse Nat := []
  decidedAt : Nat := 0
  raisedAt : Nat := 0
  overFor : Nat := 0
  fast : Nat := 0
  lowSince : Nat := 0
  hbmLimited : Nat := 0
  tripped : List Nat := []
  readings : List Nat := []
  deriving DecidableEq, Repr

/-! ## Start-up and reset (chapter 19) -/

/-- Start-up and reset beside their registers: Welkin's own clock in ns, its value when reset was released and when the present
phase began, how far that phase has come (0 not begun, 1 under way or over, 2 votes handed over), and the reset in progress (LEVEL, partition
or tile; R449). -/
structure StartSt where
  clock : Nat := 0
  releasedAt : Nat := 0
  phaseAt : Nat := 0
  step : Nat := 0
  resetting : Option (Nat × Nat) := none
  deriving DecidableEq, Repr

/-! ## What leaves the module -/

/-- What the module sends out: read data to the host (10 R242), interrupts (10 R246), DATA flits and CONTROL flits of a
port with their sequence number, channel and bytes (11 R255 to R257), a level of PPS_OUT and a timecode (14 R349, R350),
mailbox and I3C response frames (18), an I3C in-band interrupt, what a register read answers its reader. -/
inductive Output
  | cpl (um tag : Nat) (data : List Byte)
  | msi (vector seq addr value : Nat)
  | flit (port seq chan : Nat) (bytes : List Byte)
  | control (port : Nat) (bytes : List Byte)
  | pps (zt : Nat)
  | timecode (bytes : List Byte)
  | frame (mailbox : Bool) (bytes : List Byte)
  | ibi (bytes : List Byte)
  | read (ctx : Ctx) (addr value : Nat)
  deriving DecidableEq, Repr

/-- The machine's state: the commands that wait; how many free values were drawn (log entry 1); Zenith time; the registers by device
address (one not listed holds its reset value); memory by device address (HBM, tile SRAM); uncorrectable sectors and lines (R208, R218);
fuses; the spares map in force; the partitions; the tiles; the hardware queues by die × 16,384 + number; the hub halves; the queue
windows; PROD and CONS at the start of the present hub cycle of the queues that have changed in it (10 R231), and the vectors that fired in it (R247); the host link's order; signals on their way; by tile the cycle in which its sync objects last changed, and what it did (03 R65); launches delivered so far; the cycle count and the clock remainder of each
region; HBM error records generated and those that wait for their ring's memory (instance, bytes; R222); event
records that do (die, queue, bytes; 17 R411); the Tally unit; Halo messages
at their units; the Anvil inputs; forwards so far; votes and Drizzle; Welkin; the router; the ports; the collective pairs; the Zenith
unit; the self-test; frequency points; start-up and reset; sensor readings; work that waits for a domain (17 R411); corrected errors of
each pseudo-channel (R221); by stack the LC sectors of its window, and the window's number (R215); what has been sent out. -/
structure State where
  pending : List Instr := []
  free : Nat := 0
  zt : Nat := 0
  regs : Sparse Word := []
  mem : List Host.Cell := []
  ue : List Nat := []
  fuses : Fuses := {}
  spares : SparesSt := {}
  parts : Sparse PartSt := []
  tiles : Sparse TileSt := []
  queues : Sparse QueueSt := []
  hubs : Sparse HubSt := []
  win : Sparse (Nat × Nat) := []
  hubStart : List (Nat × Nat × Nat) := []
  msiFired : List Nat := []
  link : LinkSt := {}
  sigNet : List Sig := []
  sync : Sparse (Nat × List SyncLog) := []
  launchNo : Nat := 0
  regionCycle : Sparse Nat := []
  hbSeq : Sparse Nat := []
  tally : TallySt := {}
  haloNet : Sparse (List HaloMsg) := []
  anvils : Sparse AnvilSt := []
  forwards : Nat := 0
  power : PowerSt := {}
  welkin : WelkinSt := {}
  router : RouterSt := {}
  ports : Sparse PortSt := []
  ces : Sparse CeSt := []
  zenith : ZenithSt := {}
  tests : SelfTestSt := {}
  pwr : PwrSt := {}
  start : StartSt := {}
  sensors : Sparse (Nat × Nat) := []
  waits : List (Nat × Nat) := []
  pch : Sparse Nat := []
  lcCount : Sparse Nat := []
  lcWin : Sparse Nat := []
  hbPend : List (Nat × List Byte) := []
  evPend : List (Nat × Nat × List Byte) := []
  out : List Output := []
  deriving DecidableEq, Repr

/-- Why a command stops the machine: nothing does, since the spec gives every command of the table its effect. -/
inductive Fault
  deriving DecidableEq, Repr

/-- Why a command has no meaning. -/
inductive Refusal
  /-- The command is not modelled yet; raised by its arm of exec. Safe: the machine stops. -/
  | notModelled (mnemonic : String)
  deriving DecidableEq, Repr

/-- The outcome of a command. -/
abbrev Res := Host.Outcome State Fault Refusal

/-- The machine right after power-on reset. -/
def State.reset : State := {}

end Sys2Proof.Machine
end

