-- ==== Sys2Proof/Machine/Flags.lean ====
section
/-! DEFINITION. Registers, their fields, and the flags that stick (00_scope.md R6, R7, R9): every status, error and count bit of the
module is read and written through these. -/
namespace Sys2Proof.Machine

/-! ## Registers (R6, R7, R9) -/

/-- What the register at an address holds. -/
def State.rd (s : State) (a : Nat) : Nat := (sget regReset s.regs a).toNat

/-- The register at an address set to a value, which wraps at 64 bits. -/
def State.wr (s : State) (a v : Nat) : State := { s with regs := sset regReset s.regs a (BitVec.ofNat 64 v) }

/-- A field of a register. -/
def State.fld (s : State) (a : Nat) (f : Fld) : Nat := bits (s.rd a) f.hi f.lo

/-- A field of a register as one bit. -/
def State.flag (s : State) (a : Nat) (f : Fld) : Bool := s.fld a f == 1

/-- A register with one field set; the value wraps at the field's width. -/
def State.setFld (s : State) (a : Nat) (f : Fld) (v : Nat) : State := s.wr a (putBits (s.rd a) f.hi f.lo v)

/-- A register with one count field raised; it wraps. -/
def State.addFld (s : State) (a : Nat) (f : Fld) (k : Nat) : State := s.setFld a f (s.fld a f + k)

/-- A register with one count field raised; it saturates. -/
def State.satFld (s : State) (a : Nat) (f : Fld) (k : Nat) : State :=
  s.setFld a f (sat (f.hi + 1 - f.lo) (s.fld a f + k))

/-- A sticky bit set, with its register's adjacent event counter (R9): bits 31:0 of the counter count setting events. -/
def State.sticky (s : State) (errReg : Nat) (f : Fld) (evReg : Nat) : State :=
  (s.setFld errReg f 1).addFld evReg ⟨31, 0⟩ 1

end Sys2Proof.Machine
end

