-- ==== Sys2Proof/Machine/Ops.lean ====
section
/-! DEFINITION. The named operations that the meanings share: registers and sticky bits, units and domains, memory and
ownership, queues and events, signals, interrupts and access errors. -/
namespace Sys2Proof.Machine

/-- A fresh free value (log entry 1). -/
def State.fresh (s : State) : Nat × State := (Config.freeValue s.free, { s with free := s.free + 1 })

/-! ## Units -/

/-- The value of an access context's number (10 R244, R245). -/
def ctxNum : Ctx → Nat
  | .module => 0 | .kernel p => 8 + p.val | .user p => 16 + p.val | .library => 0x1E | .welkin => 0x1F | .reserved n => n.val

/-- The partition whose kernel or user context this is. -/
def ctxPart : Ctx → Option Nat
  | .kernel p => some p.val | .user p => some p.val | _ => none

/-- Welkin or the module context. -/
def ctxGlobal : Ctx → Bool | .module => true | .welkin => true | _ => false

/-- A tile (default: idle). -/
def State.tile (s : State) (t : Nat) : TileSt := sget (fun _ => {}) s.tiles t
def State.setTile (s : State) (t : Nat) (x : TileSt) : State := { s with tiles := sset (fun _ => {}) s.tiles t x }

/-- A matrix engine of a tile. -/
def TileSt.me (x : TileSt) (e : Nat) : MeSt := sget (fun _ => {}) x.mes e
def TileSt.setMe (x : TileSt) (e : Nat) (m : MeSt) : TileSt := { x with mes := sset (fun _ => {}) x.mes e m }

/-- An engine queue of a tile. -/
def TileSt.queue (x : TileSt) (q : Nat) : List Cmd := sget (fun _ => []) x.queues q
def TileSt.setQueue (x : TileSt) (q : Nat) (l : List Cmd) : TileSt := { x with queues := sset (fun _ => []) x.queues q l }

/-- A partition's loader state. -/
def State.part (s : State) (p : Nat) : PartSt := sget (fun _ => {}) s.parts p
def State.setPart (s : State) (p : Nat) (x : PartSt) : State := { s with parts := sset (fun _ => {}) s.parts p x }

/-- A hardware queue, by die and number. -/
def State.queue (s : State) (d q : Nat) : QueueSt := sget (fun _ => {}) s.queues (d * 16384 + q)
def State.setQueue (s : State) (d q : Nat) (x : QueueSt) : State :=
  { s with queues := sset (fun _ => {}) s.queues (d * 16384 + q) x }

/-- A Queue hub half. -/
def State.hub (s : State) (d : Nat) : HubSt := sget (fun _ => {}) s.hubs d
def State.setHub (s : State) (d : Nat) (x : HubSt) : State := { s with hubs := sset (fun _ => {}) s.hubs d x }

/-- Die, row and column of a logical tile (R15). -/
def tileDie (t : Nat) : Nat := t / 1024
def tileRow (t : Nat) : Nat := t % 1024 / 32
def tileCol (t : Nat) : Nat := t % 32

/-- The module-wide region of a logical tile (R15). -/
def tileRegion (t : Nat) : Nat := tileDie t * 16 + tileRow t / 8 * 4 + tileCol t / 8

/-- The logical tiles of a module-wide region, ascending (R15). -/
def regionTiles (r : Nat) : List Nat :=
  (List.range 64).map (fun k => r / 16 * 1024 + (r % 16 / 4 * 8 + k / 8) * 32 + r % 4 * 8 + k % 8)

/-- The logical tiles of the regions of a mask, ascending. -/
def maskTiles (mask : Nat) : List Nat :=
  ((List.range 2048).filter (fun t => bit mask (tileRegion t)))

/-- Regions in service, module-wide (R2, R3). -/
def Fuses.regionMask (f : Fuses) : Nat := if f.grade = 0 then 0xFFFFFFFF else 0x0FFF0FFF

/-- A sliced image runs a logical tile on the physical tile of another position (R51, 03 R80). -/
def PartSt.hosts (ps : PartSt) (t : Nat) : Bool := ps.active.isSome && ps.homes.any (fun e => e.1 == t)

/-- A logical tile is present: its region is in service, or a sliced image runs it on a tile of another region (R2, R3, 02 R51). -/
def State.tilePresent (s : State) (t : Nat) : Bool :=
  decide (t < 2048) && (bit s.fuses.regionMask (tileRegion t) || (List.range 8).any (fun p => (s.part p).hosts t))

/-- An Anvil unit is present (R4). -/
def State.anvilPresent (s : State) (u : Nat) : Bool := decide (u < 8) && bit s.fuses.anvilMask u

/-- The number of a physical tile in the spares map. -/
def physNo (die row col : Nat) : Nat := die * 1056 + row * 33 + col

/-- The record byte of a physical tile (15 R365). -/
def State.tileRecord (s : State) (n : Nat) : Nat := sget (fun _ => 0) s.spares.tiles n

/-- A physical tile is usable (15 R365). -/
def State.physUsable (s : State) (n : Nat) : Bool := decide (s.tileRecord n % 128 = 0)

/-- The physical tile that the identity map gives a logical tile (R33). -/
def identityPhys (t : Nat) : Nat := physNo (tileDie t) (tileRow t) (tileCol t)

/-- A partition's active image owns a logical tile: its region, or a sliced image's cluster tile of a dropped region (R51, log entry 19). -/
def PartSt.ownsTile (ps : PartSt) (t : Nat) : Bool := ps.active.isSome && (bit ps.regions (tileRegion t) || ps.hosts t)

/-- The partition whose active image owns a logical tile. -/
def State.tileOwner (s : State) (t : Nat) : Option Nat := (List.range 8).find? (fun p => (s.part p).ownsTile t)

/-- The partition whose active image owns a region. -/
def State.regionOwner (s : State) (r : Nat) : Option Nat :=
  (List.range 8).find? (fun p => (s.part p).active.isSome && bit (s.part p).regions r)

/-- The physical tile that serves a logical tile: the active map of its partition, else the identity map (R33, R51). -/
def State.physOf (s : State) (t : Nat) : Nat :=
  match s.tileOwner t with
  | some p => sget identityPhys (s.part p).map t
  | none => identityPhys t

/-- The region whose clock and supply a logical tile takes: that of the position whose physical tile it uses (R16, R51). -/
def State.servRegion (s : State) (t : Nat) : Nat :=
  match s.tileOwner t with
  | some p => tileRegion (sget (fun t => t) (s.part p).homes t)
  | none => tileRegion t

/-- The logical tiles of a region's positions, and those that a sliced image runs there. -/
def State.servedTiles (s : State) (r : Nat) : List Nat :=
  regionTiles r ++ ((List.range 8).flatMap (fun p => (s.part p).homes.map (·.1))).filter (fun t => s.servRegion t == r && tileRegion t != r)

/-- The logical tiles that a partition's image owns. -/
def PartSt.ownTiles (ps : PartSt) : List Nat :=
  if ps.active.isSome then maskTiles ps.regions ++ (ps.homes.map (·.1)).filter (fun t => !bit ps.regions (tileRegion t)) else []

/-- The cycle count of a tile's clock. -/
def State.cycle (s : State) (t : Nat) : Nat := sget (fun _ => 0) s.regionCycle (s.servRegion t)

/-- The record byte of the physical tile that serves a logical tile. -/
def State.recordOf (s : State) (t : Nat) : Nat := s.tileRecord (s.physOf t)

/-! ## Power domains (17 R403) -/

/-- A power domain's unit is reported present (R403, R5). -/
def State.domPresent (s : State) (i : Nat) : Bool :=
  if i < 64 then bit s.fuses.regionMask (i % 32) else if 84 ≤ i ∧ i < 92 then s.anvilPresent (i - 84) else decide (i < 102)

/-- The state of a power domain: 0 ABSENT, 1 OFF, 2 RETENTION, 3 ON, 4 TO_OFF, 5 TO_RETENTION, 6 TO_ON. -/
def State.domState (s : State) (i : Nat) : Nat := if s.domPresent i then s.fld (PD_DOM i) PD_DOM_STATE else 0

/-- A domain is ON. -/
def State.domOn (s : State) (i : Nat) : Bool := s.domState i == 3

/-- The Overcast stop holds a partition's regions, or every region (14 R354). -/
def State.stopHolds (s : State) (p : Option Nat) : Bool :=
  s.flag ZN_STOP_STATE ZN_STOP_STATE_ALL ||
    (match p with | some p => bit (s.fld ZN_STOP_STATE ZN_STOP_STATE_STOPPED) p | none => false)

/-- A tile reset of a tile has been accepted and is not complete (19 R449). -/
def State.tileInReset (s : State) (t : Nat) : Bool := s.start.resetting == some (1, t)

/-- A tile's clock runs: its region is ON and not stopped (17 R405, 14 R354), and no reset holds the tile (19 R449). -/
def State.tileRuns (s : State) (t : Nat) : Bool :=
  s.domOn (s.servRegion t) && !s.stopHolds (s.tileOwner t) && !s.tileInReset t

/-- A self-test slice keeps a queue of a tile from starting commands: its own unit's, and for an SRAM bank every queue (15 R381). -/
def State.sliceHolds (s : State) (t q : Nat) : Bool := s.tests.slices.any (fun r => r.tile == t && (r.unit == q || r.unit == 5))

/-- A tile's SRAM is held while one of its banks is tested (15 R381). -/
def State.sramHeld (s : State) (t : Nat) : Bool := s.tests.slices.any (fun r => r.tile == t && r.unit == 5)

/-- The frequency point of a region (20 R456): the lowest of the requested, the cap and its thermal point. -/
def State.regionMHz (s : State) (r : Nat) : Nat := min s.pwr.req (min s.pwr.cap (sget (fun _ => 1800) s.pwr.thermal r))

/-! ## Address map (09 R201 to R204) -/

/-- The size of an HBM stack. -/
def stackBytes : Nat := 0xC00000000

/-- The first tile SRAM address of a logical tile (R202). -/
def sramBase (t : Nat) : Nat := 0x010000000000 + t * 0x100000

/-- HBM. -/
def isHbm (a : Nat) : Bool := decide (a < 0x006000000000)

/-- Tile SRAM. -/
def isSram (a : Nat) : Bool := decide (0x010000000000 ≤ a) && decide (a < 0x010080000000)

/-- MMIO (R19, R20). -/
def isMmio (a : Nat) : Bool := decide (0x020000000000 ≤ a) && decide (a < 0x020038000000)

/-- The logical tile whose SRAM holds an address. -/
def sramTile (a : Nat) : Nat := (a - 0x010000000000) / 0x100000

/-- HBM or tile SRAM: memory that commands address. -/
def isMem (a : Nat) : Bool := isHbm a || isSram a

/-- The error unit that an address lies in: a 32-byte sector of HBM, a 16-byte line of tile SRAM (R208, R210). -/
def errUnit (a : Nat) : Nat := if isSram a then a / 16 * 16 else a / 32 * 32

/-- The bytes of that unit. -/
def errUnitBytes (a : Nat) : Nat := if isSram a then 16 else 32

/-- The pseudo-channel of an HBM address (R204). -/
def pseudoChannel (a : Nat) : Nat :=
  let g := a % stackBytes / 256
  (g ^^^ (g / 2 ^ 5) ^^^ (g / 2 ^ 10) ^^^ (g / 2 ^ 15)) % 32

/-- A stack has state FAILED (R212). -/
def State.stackFailed (s : State) (n : Nat) : Bool := s.fld (HB_STATUS n) HB_STATUS_STATE == 5

/-- An address lies in a FAILED stack. -/
def State.inFailed (s : State) (a : Nat) : Bool := isHbm a && s.stackFailed (a / stackBytes)

/-- The power domain that holds the memory at an address: the HBM PHY of its stack or its region's bank group. -/
def State.memDomain (s : State) (a : Nat) : Nat := if isSram a then 32 + s.servRegion (sramTile a) else 64 + a / stackBytes

/-- The HB_ instance that counts for an address: its stack, or the lowest of the die for tile SRAM (R208, R209). -/
def memHb (a : Nat) : Nat := if isSram a then tileDie (sramTile a) * 4 else a / stackBytes

/-! ## Memory -/

/-- What an unlisted byte reads as: zero, since start-up and the return of a bank group zero-fill (R209, R211, R224). -/
def memDefault : Nat → Byte := fun _ => 0

/-- The canonical form of memory. -/
def Memory.wf (m : List Host.Cell) : Bool := swf memDefault m

/-- The backing copy of a tile's SRAM in a sliced image (03 R83): the tiles of the clusters in ascending order lie at the
top of HBM_RANGE[0], rounded up to whole GiB. -/
def backingBase (img : Image) (clusterTiles : List Nat) (t : Nat) : Nat :=
  let r := img.hbm.getD 0 (0, 0)
  let area := roundUp (clusterTiles.length * 1052672) 0x40000000
  (r.1 + r.2) * 0x40000000 - area + (clusterTiles.findIdx (· == t)) * 1052672

/-- The logical tiles of a cluster, ascending (R32). -/
def clusterTiles (c : Cluster) : List Nat :=
  (List.range (c.rows * c.cols)).map (fun k => c.die * 1024 + (c.row0 + k / c.cols) * 32 + c.col0 + k % c.cols)

/-- The logical tiles of an image's clusters, ascending. -/
def imageTiles (img : Image) : List Nat :=
  let l := (img.clusters.map clusterTiles).flatten
  (List.range 2048).filter (fun t => l.contains t)

/-- Where the bytes of an address are kept: the SRAM of a tile that its partition's slicing holds out of residence is
redirected to its backing copy (03 R81). -/
def State.resolve (s : State) (a : Nat) : Nat :=
  if !isSram a then a
  else
    match s.tileOwner (sramTile a) with
    | none => a
    | some p =>
      let ps := s.part p
      match ps.active with
      | none => a
      | some img =>
        if s.fld (SI_STATUS p) SI_STATUS_SLICE ≤ 1 then a
        else if sget (fun _ => ps.resident) ps.slots (sramTile a) = ps.resident then a
        else backingBase img (imageTiles img) (sramTile a) + a % 0x100000

/-- One byte of memory: the SRAM of a tile that is not present reads as zero (R3). -/
def State.byte (s : State) (a : Nat) : Byte :=
  if isSram a && !s.tilePresent (sramTile a) then 0 else sget memDefault s.mem (s.resolve a)

/-- One byte written; the SRAM of an absent tile ignores writes (R3). -/
def State.setByte (s : State) (a : Nat) (b : Byte) : State :=
  if isSram a && !s.tilePresent (sramTile a) then s
  else { s with mem := sset memDefault s.mem (s.resolve a) b }

/-- n bytes from an address. -/
def State.readBytes (s : State) (a : Nat) : Nat → List Byte
  | 0 => []
  | n + 1 => s.byte a :: s.readBytes (a + 1) n

/-- Bytes written from an address on. -/
def State.writeBytes (s : State) (a : Nat) : List Byte → State
  | [] => s
  | b :: t => (s.setByte a b).writeBytes (a + 1) t

/-- A little-endian number of n bytes (R12). -/
def State.readNat (s : State) (a n : Nat) : Nat := leNat (s.readBytes a n)

/-- A number written as n little-endian bytes. -/
def State.writeNat (s : State) (a n v : Nat) : State := s.writeBytes a (leBytes n v)

/-- The listed bytes of a range, moved to start at another address. -/
def cellsMoved (m : List Host.Cell) (src n dst : Nat) : List Host.Cell :=
  (m.filter (fun c => decide (src ≤ c.1) && decide (c.1 < src + n))).map (fun c => (c.1 - src + dst, c.2))

/-- Memory with a range replaced by cells that lie in it. -/
def cellsReplace (m : List Host.Cell) (a n : Nat) (new : List Host.Cell) : List Host.Cell :=
  m.filter (fun c => decide (c.1 < a)) ++ new ++ m.filter (fun c => decide (a + n ≤ c.1))

/-- Memory with a range zero. -/
def cellsZero (m : List Host.Cell) (a n : Nat) : List Host.Cell := cellsReplace m a n []

/-- A range of memory copied to another, whatever its length, in one piece. -/
def State.moveRange (s : State) (src dst n : Nat) : State :=
  { s with mem := cellsReplace s.mem dst n (cellsMoved s.mem src n dst) }

/-! ## Ownership (R24, R25) -/

/-- The end of the owned stretch that holds an address: the address itself where it is not owned. -/
def State.ownedTo (s : State) (p a : Nat) : Nat :=
  match (s.part p).active with
  | none => a
  | some img =>
    if isHbm a then
      match img.hbm.find? (fun r => decide (r.1 * 0x40000000 ≤ a) && decide (a < (r.1 + r.2) * 0x40000000)) with
      | some r => (r.1 + r.2) * 0x40000000
      | none => a
    else if isSram a && (s.part p).ownsTile (sramTile a) then sramBase (sramTile a) + 0x100000
    else a

/-- The lowest address of an extent that its partition does not own, within the fuel. -/
def State.firstUnownedFuel (s : State) (p : Nat) : Nat → Nat → Nat → Option Nat
  | 0, _, _ => none
  | fuel + 1, a, stop =>
    if stop ≤ a then none
    else
      let e := s.ownedTo p a
      if e ≤ a then some a else s.firstUnownedFuel p fuel e stop

/-- The lowest address of an extent outside its partition's owned set (R25); an extent of length zero passes. -/
def State.firstUnowned (s : State) (p a n : Nat) : Option Nat := s.firstUnownedFuel p 4096 a (a + n)

/-- The extent is owned. -/
def State.owns (s : State) (p a n : Nat) : Bool := (s.firstUnowned p a n).isNone

/-- Every byte of an extent is mapped memory: it ends in the space it starts in. -/
def memExtent (a n : Nat) : Bool :=
  n == 0 || (isHbm a && decide (a + n ≤ 0x006000000000)) || (isSram a && decide (a + n ≤ 0x010080000000))

/-- The lowest bad sector or line of an extent, or the first address that a FAILED stack holds (R208, R212, R218). -/
def State.firstBad (s : State) (a n : Nat) : Option Nat :=
  if n = 0 then none
  else
    let failed := (List.range 8).filterMap (fun k =>
      if s.stackFailed k && decide (k * stackBytes < a + n) && decide (a < (k + 1) * stackBytes)
      then some (max a (k * stackBytes) / 32 * 32) else none)
    let bad := s.ue.filter (fun u => decide (u < a + n) && decide (a < u + errUnitBytes u))
    match failed ++ bad with
    | [] => none
    | x :: t => some (t.foldl min x)

/-- The first memory of an extent whose power domain is not ON (R209, R216): its first and last bytes and, in tile SRAM, the
first byte of every tile between; or that a self-test slice holds (15 R381). An access to a FAILED stack waits for nothing: it fails (R212). -/
def State.firstOff (s : State) (a n : Nat) : Option Nat :=
  let off := fun (x : Nat) => !(isSram x && !s.tilePresent (sramTile x)) && !s.inFailed x && (!s.domOn (s.memDomain x) || (isSram x && s.sramHeld (sramTile x)))
  let inner := if isSram a then (List.range ((a + n - 1) / 0x100000 - a / 0x100000)).map (fun k => (a / 0x100000 + k + 1) * 0x100000) else []
  if n = 0 then none else (a :: inner ++ [a + n - 1]).find? off

/-- The extent's memory is ON. -/
def State.memOn (s : State) (a n : Nat) : Bool := (s.firstOff a n).isNone

/-! ## Counters (16 R384 to R386) -/

/-- The attributes of an event (R385): the level (0 WELKIN, 1 KERNEL, 2 USER) and what the event carries. -/
structure Attr where
  priv : Option Nat := none
  part : Option Nat := none
  layerOp : Option (Nat × Nat) := none
  master : Option Nat := none
  cls : Option Nat := none
  addr : Option Nat := none
  deriving DecidableEq, Repr

/-- A mask field lets an event through: its "any" value always, else the bit of the attribute that the event carries. -/
def maskLets (mask width : Nat) (a : Option Nat) : Bool :=
  mask == 2 ^ width - 1 || (match a with | some k => bit mask k | none => false)

/-- A counter's configuration matches an event (R385, R386). -/
def State.counterMatches (s : State) (a b : Nat) (ev : Nat) (x : Attr) : Bool :=
  let ar := bits a 33 31
  bit a 8 && bits a 7 0 == ev && maskLets (bits a 12 10) 3 x.priv && maskLets (bits a 20 13) 8 x.part &&
  maskLets (bits a 26 21) 6 x.cls && (bits a 30 27 == 15 || x.master == some (bits a 30 27)) &&
  (ar == 0 || (match x.addr with
    | some ad => decide (s.fld (TL_ARANGE_BASE (ar - 1)) TL_ARANGE_BASE_BASE ≤ ad) &&
        decide (ad < s.fld (TL_ARANGE_LIMIT (ar - 1)) TL_ARANGE_LIMIT_LIMIT)
    | none => false)) &&
  (bits b 39 20 == 0 || (match x.layerOp with | some lo => lo.1 &&& bits b 39 20 == bits b 19 0 &&& bits b 39 20 | none => false)) &&
  (bits b 63 52 == 0 || (match x.layerOp with | some lo => lo.2 &&& bits b 63 52 == bits b 51 40 &&& bits b 63 52 | none => false))

/-- The number of an instance's counter 0. -/
def tallyKey (kind inst : Nat) : Nat := (kind * 4096 + inst) * 16

/-- Add to the counters of an instance that count an event (R385). Kinds: 0 TILE, 1 PORT, 2 HBM, 3 ANVIL, 4 CE. -/
def State.count (s : State) (kind inst ev k : Nat) (x : Attr) : State :=
  let hit := s.tally.cfgA.filter (fun c => decide (tallyKey kind inst ≤ c.1) && decide (c.1 < tallyKey kind inst + 16) &&
    s.counterMatches c.2 (sget (fun _ => 0) s.tally.cfgB c.1) ev x)
  let v := hit.foldl (fun v c => sset (fun _ => 0) v c.1 ((sget (fun _ => 0) v c.1 + k) % 2 ^ 64)) s.tally.value
  { s with tally := { s.tally with value := v } }

/-- A wait for a power domain, counted once in PD_HELD until the domain is ON; HELD set (17 R411). -/
def State.holdWork (s : State) (who dom : Nat) : State :=
  if s.waits.contains (dom, who) then s
  else ({ s with waits := s.waits ++ [(dom, who)] }.addFld PD_HELD PD_HELD_COUNT 1).sticky PD_ERR PD_ERR_HELD PD_ERR_EVENTS

/-- Who waits: a queue of a tile. -/
def waiter (t q : Nat) : Nat := t * 8 + q

/-- What a wait of a tile's queue counts with: the command in line, or at the queue's head, or the launch whose word is fetched; another's wait counts
with what it gives (16 R385). -/
def State.waitAttr (s : State) (who : Nat) (x : Attr) : Attr :=
  if 0x4000 ≤ who then x
  else
    let t := who / 8
    let q := who % 8
    let m := if q = 6 then 0 else if q = 5 then 1 else if q = 4 then 3 else 2
    match (if q = 6 then (s.tile t).inl else (sget (fun _ => []) (s.tile t).queues q).head?) with
    | some c => { priv := some c.priv, part := some c.part, master := some m, layerOp := some (bits c.word.toNat 131 112, bits c.word.toNat 143 132) }
    | none => { priv := (s.tile t).launch.map (·.priv), part := s.tileOwner t, master := some m }

/-- A memory access waits for the domain of its address: counted once in HB_HELD and PD_HELD (R209, R216, 17 R411). -/
def State.holdAccess (s : State) (who a : Nat) (x : Attr := {}) : State :=
  let n := memHb a
  if s.waits.contains (s.memDomain a, who) || s.domOn (s.memDomain a) then s
  else
    let s := (s.addFld (HB_HELD n) HB_HELD_COUNT 1).sticky (HB_ERR n) HB_ERR_HELD (HB_ERR_EVENTS n)
    let s := s.count 2 n 0x0A 1 { s.waitAttr who x with addr := some a }
    s.holdWork who (s.memDomain a)

/-- The first address of an extent that lies in a FAILED stack (R212). -/
def State.firstFailed (s : State) (a n : Nat) : Option Nat :=
  if n = 0 then none
  else if s.inFailed a then some (a / 32 * 32)
  else (List.range 8).findSome? (fun k => if s.stackFailed k && decide (a ≤ k * stackBytes) && decide (k * stackBytes < a + n) then some (k * stackBytes) else none)

/-! ## Queues (10 R225 to R229) -/

/-- The partition that owns a hardware queue: the one whose active image's range holds it (R227). -/
def State.queueOwner (s : State) (d q : Nat) : Option Nat :=
  (List.range 8).find? (fun p => match (s.part p).active with
    | none => false
    | some img => let r := img.queues.getD d (0, 0); decide (r.1 ≤ q) && decide (q < r.1 + r.2))

/-- The descriptor fields (R228, QH_WDESC0 to 2). -/
def QueueSt.enabled (x : QueueSt) : Bool := bit x.desc0 63
def QueueSt.ty (x : QueueSt) : Nat := bits x.desc0 62 60
def QueueSt.entryBytes (x : QueueSt) : Nat := if bit x.desc0 59 then 64 else 32
def QueueSt.sizeLog2 (x : QueueSt) : Nat := bits x.desc0 58 54
def QueueSt.size (x : QueueSt) : Nat := 2 ^ x.sizeLog2
def QueueSt.role (x : QueueSt) : Nat := bits x.desc0 53 52
def QueueSt.userDb (x : QueueSt) : Bool := bit x.desc0 51
def QueueSt.base (x : QueueSt) : Nat := bits x.desc0 47 0
def QueueSt.threshold (x : QueueSt) : Nat := bits x.desc1 63 48
def QueueSt.vector (x : QueueSt) : Nat := bits x.desc1 47 37
def QueueSt.sigTile (x : QueueSt) : Nat := bits x.desc1 31 16
def QueueSt.sigCounter (x : QueueSt) : Nat := bits x.desc1 14 8
def QueueSt.headAddr (x : QueueSt) : Nat := bits x.desc2 47 0

/-- The occupancy (R226). -/
def QueueSt.occupancy (x : QueueSt) : Nat := (x.prod + 2 ^ 32 - x.cons) % 2 ^ 32

/-- Room for k entries. -/
def QueueSt.room (x : QueueSt) (k : Nat) : Bool := decide (x.occupancy + k ≤ x.size)

/-- The address of an entry slot (R225, R226). -/
def QueueSt.slot (x : QueueSt) (i : Nat) : Nat := x.base + i % x.size * x.entryBytes

/-- PROD and CONS of a queue as they stood at the start of the present hub cycle (R231). -/
def State.startCounts (s : State) (d q : Nat) : Nat × Nat :=
  match s.hubStart.find? (fun e => e.1 == d * 16384 + q) with
  | some e => e.2
  | none => ((s.queue d q).prod, (s.queue d q).cons)

/-- A queue's counts are about to change: those of the cycle's start are kept (R231). -/
def State.noteCounts (s : State) (d q : Nat) : State :=
  if s.hubStart.any (fun e => e.1 == d * 16384 + q) then s
  else { s with hubStart := s.hubStart ++ [(d * 16384 + q, (s.queue d q).prod, (s.queue d q).cons)] }

/-- A queue's counts are no longer those that a cycle started with. -/
def State.forgetCounts (s : State) (d q : Nat) : State := { s with hubStart := s.hubStart.filter (fun e => e.1 != d * 16384 + q) }

/-- Room for k entries that the hub or the router writes: what a consumer has freed since the cycle's start does not count yet (R231). -/
def State.roomFor (s : State) (d q k : Nat) : Bool :=
  decide (((s.queue d q).prod + 2 ^ 32 - (s.startCounts d q).2) % 2 ^ 32 + k ≤ (s.queue d q).size)

/-- Entries that the hub may consume: those that stood in the queue at the cycle's start (R231). -/
def State.entriesSeen (s : State) (d q : Nat) : Nat :=
  if (s.startCounts d q).1 = (s.queue d q).prod then (s.queue d q).occupancy
  else (s.queue d q).occupancy - ((s.queue d q).prod + 2 ^ 32 - (s.startCounts d q).1) % 2 ^ 32

/-- A signal sent towards a tile (R66). -/
def State.sendSig (s : State) (g : Sig) : State := { s with sigNet := s.sigNet ++ [g] }

/-- PROD advances by k, with the queue's remote signal (R229). -/
def State.advanceProd (s : State) (d q k : Nat) : State :=
  let x := s.queue d q
  let s := (s.noteCounts d q).setQueue d q { x with prod := (x.prod + k) % 2 ^ 32 }
  if x.sigTile = 0xFFFF then s
  else s.sendSig { src := 0x10000 + d, dst := x.sigTile, obj := 128 + x.sigCounter, op := 3, value := k }

/-- Whole units that a write covers are no longer uncorrectable (R208, R218). -/
def State.cleanUnits (s : State) (a n : Nat) : State :=
  { s with ue := s.ue.filter (fun u => !(decide (a ≤ u) && decide (u + errUnitBytes u ≤ a + n))) }

/-- One entry written at PROD, then PROD advances (R226). -/
def State.pushEntry (s : State) (d q : Nat) (b : List Byte) : State :=
  let x := s.queue d q
  ((s.writeBytes (x.slot x.prod) b).cleanUnits (x.slot x.prod) b.length).advanceProd d q 1

/-! ## Events (10 R235) -/

/-- The window copy of a scope: 0 the module context, 1 + p partition p, 9 Welkin, 10 the library. -/
def scopeWin : Option Nat → Nat | none => 0 | some p => 1 + p

/-- QH_WSEL and QH_WEVQ of a window copy. -/
def State.window (s : State) (d w : Nat) : Nat × Nat := sget (fun _ => (0, 0)) s.win (d * 16 + w)
def State.setWindow (s : State) (d w : Nat) (x : Nat × Nat) : State :=
  { s with win := sset (fun _ => (0, 0)) s.win (d * 16 + w) x }

/-- The 64 bytes of an event record. -/
def eventBytes (zt kind source part die : Nat) (detail : List Byte) : List Byte :=
  leBytes 8 zt ++ leBytes 2 kind ++ leBytes 2 source ++ leBytes 1 part ++ leBytes 1 die ++ zeros 2 ++ padTo 48 detail

/-- An entry of Welkin's event log (18 R427): the ring holds the last 4,096, and overwriting one that is not mirrored sets
LOG_WRAP. -/
def State.logEntry (s : State) (code sev : Nat) (data : List Byte) : State :=
  let n := s.fld WK_LOG WK_LOG_NEXT_SEQ
  let e := leBytes 8 s.zt ++ leBytes 4 n ++ leBytes 2 code ++ leBytes 1 sev ++ zeros 1 ++ padTo 16 data
  let full := decide (4096 ≤ s.welkin.log.length)
  let lost := full && !(s.welkin.log.headD (true, [])).1
  let s := { s with welkin := { s.welkin with log := (if full then s.welkin.log.tail else s.welkin.log) ++ [(false, e)] } }
  let s := s.addFld WK_LOG WK_LOG_NEXT_SEQ 1
  if lost then s.sticky WK_ERR WK_ERR_LOG_WRAP WK_ERR_EVENTS else s

/-- A log entry whose severity the spec does not give: a free value (log entry 1). -/
def State.logFree (s : State) (code : Nat) (data : List Byte) : State :=
  let (v, s) := s.fresh
  s.logEntry code (v % 4) data

/-- An event is discarded (R235). -/
def State.dropEvent (s : State) (d : Nat) : State :=
  (s.sticky (QH_ERR d) QH_ERR_EV_DROP (QH_ERR_EVENTS d)).addFld (QH_EV_DROPS d) QH_EV_DROPS_COUNT 1

/-- The event records that wait for a queue's memory. -/
def State.eventsWaiting (s : State) (d q : Nat) : Nat := (s.evPend.filter (fun w => w.1 == d && w.2.1 == q)).length

/-- An event record written, or waiting behind those whose slot's memory is not ON (17 R411). -/
def State.putEvent (s : State) (d q : Nat) (b : List Byte) : State :=
  let a := (s.queue d q).slot (s.queue d q).prod
  if s.eventsWaiting d q != 0 then { s with evPend := s.evPend ++ [(d, q, b)] }
  else if s.memOn a 64 = false then { (s.holdAccess (0xE00000 + d * 16384 + q) a) with evPend := s.evPend ++ [(d, q, b)] }
  else s.pushEntry d q b

/-- The event records that waited are written, in order, as their memory comes ON; one whose queue cannot take it any more is
discarded. -/
def State.evFlushList (s : State) : List (Nat × Nat × List Byte) → List (Nat × Nat × List Byte) → State
  | kept, [] => { s with evPend := kept }
  | kept, w :: t =>
    let x := s.queue w.1 w.2.1
    if kept.any (fun k => k.1 == w.1 && k.2.1 == w.2.1) then s.evFlushList (kept ++ [w]) t
    else if !x.enabled || x.ty != 3 || !s.roomFor w.1 w.2.1 1 || s.inFailed x.base then (s.dropEvent w.1).evFlushList kept t
    else if s.memOn (x.slot x.prod) 64 = false then s.evFlushList (kept ++ [w]) t
    else (s.pushEntry w.1 w.2.1 w.2.2).evFlushList kept t
def State.evFlush (s : State) : State := if s.evPend = [] then s else s.evFlushList [] s.evPend

/-- An event to a scope's event queue on a die; it is discarded and counted where the queue cannot take it (R235); it is logged either way (18 R427). -/
def State.postEvent (s : State) (scope : Option Nat) (d kind source : Nat) (detail : List Byte) : State :=
  let ev := (s.window d (scopeWin scope)).2
  let q := ev % 16384
  let x := s.queue d q
  let s := s.logFree kind (leBytes 2 source ++ leBytes 1 (match scope with | some p => p | none => 0xFF) ++ leBytes 1 d ++ (padTo 12 detail))
  if bit ev 63 && x.enabled && x.ty == 3 && decide (s.queueOwner d q = scope) && s.roomFor d q (1 + s.eventsWaiting d q) && !s.inFailed x.base then
    s.putEvent d q (eventBytes s.zt kind source (match scope with | some p => p | none => 0xFF) d detail)
  else s.dropEvent d

/-! ## Interrupts (10 R246, R247) -/

/-- One MSI sent. -/
def State.sendMsi (s : State) (v : Nat) : State :=
  let n := s.rd (UC_MSI_SENT 0)
  ({ s with out := s.out ++ [Output.msi v n (s.fld (UC_MSI_ADDR 0 v) UC_MSI_ADDR_ADDR * 4) (s.fld (UC_MSI_DATA 0 v) UC_MSI_DATA_DATA)] }).wr (UC_MSI_SENT 0) (n + 1)

/-- A source fires its vector: an MSI where MASK is clear and the link is up, else PENDING; once only in a hub cycle (R247, R250). -/
def State.fireVector (s : State) (v : Nat) : State :=
  let up := s.fld (UC_STATUS 0) UC_STATUS_STATE
  if s.msiFired.contains v then s
  else
  let s := { s with msiFired := v :: s.msiFired }
  if s.flag (UC_MSI_DATA 0 v) UC_MSI_DATA_MASK || !(up == 2 || up == 3) then s.setFld (UC_MSI_DATA 0 v) UC_MSI_DATA_PENDING 1
  else s.sendMsi v

/-- A UCIe module's STATE has changed: a LINK_STATE event with UC_STATUS before and after (R235). -/
def State.linkNews (s : State) (um before : Nat) : State :=
  if bits before 2 0 = s.fld (UC_STATUS um) UC_STATUS_STATE then s
  else s.postEvent none 0 0x0006 0xFFFF (leBytes 8 before ++ leBytes 8 (s.rd (UC_STATUS um)))

/-- A UCIe module enters a STATE (R235, R249). -/
def State.setLink (s : State) (um state : Nat) : State := (s.setFld (UC_STATUS um) UC_STATUS_STATE state).linkNews um (s.rd (UC_STATUS um))

/-- A UC_ERR bit set on a UCIe module; vector 0 fires (R246, R249). -/
def State.ucErr (s : State) (um : Nat) (f : Fld) : State :=
  (s.sticky (UC_ERR um) f (UC_ERR_EVENTS um)).fireVector 0

/-- An access error (R245): counted and captured on a UCIe module, ACCESS set, an ACCESS_ERROR event posted on die 0. -/
def State.accessErrorOn (s : State) (um : Nat) (ctx : Ctx) (a op : Nat) : State :=
  let s := s.addFld (UC_ACCESS um) UC_ACCESS_COUNT 1
  let s := s.wr (UC_ACCESS_INFO um) (ctxNum ctx * 2 ^ 59 + op % 8 * 2 ^ 56 + a % 2 ^ 48)
  let s := s.ucErr um UC_ERR_ACCESS
  s.postEvent (ctxPart ctx) 0 0x0005 0xFFFF (leBytes 8 a ++ leBytes 1 op ++ leBytes 1 (ctxNum ctx))

/-- An access error of a register write (MMIO travels on module 0; internal accesses count there too). -/
def State.accessError (s : State) (ctx : Ctx) (a : Nat) : State := s.accessErrorOn 0 ctx a 2

/-! ## Memory errors (09 R208, R212, R218, R222; 15 R363) -/

/-- Who met an error: MASTER, SOURCE, the LAYER_OP of its command, its partition (R222), the level of what caused it (16 R385). -/
structure Master where
  master : Nat
  source : Nat := 0xFFFF
  layerOp : Nat := 0
  part : Option Nat := none
  priv : Option Nat := none
  deriving DecidableEq, Repr

/-- The attributes of a master's access (16 R385). -/
def Master.attr (m : Master) (a : Nat) : Attr :=
  { priv := m.priv, part := m.part, layerOp := some (m.layerOp % 2 ^ 20, m.layerOp / 2 ^ 20), master := some m.master, addr := some a }

/-- The 32 bytes of an error record (R222): ADDR, and the pseudo-channel. -/
def hbRecordBytes (zt n kind a pch seq : Nat) (m : Master) : List Byte :=
  leBytes 8 zt ++ leBytes 8 a ++ leBytes 1 kind ++ leBytes 1 m.master ++ leBytes 2 m.source ++
    leBytes 4 m.layerOp ++ leBytes 1 pch ++
    leBytes 1 (if isSram a then 0xFF else n) ++ leBytes 1 (match m.part with | some p => p | none => 0xFF) ++ zeros 1 ++ leBytes 4 seq

/-- The slot of the next record of an HB_ instance's error log. -/
def State.hbSlot (s : State) (n : Nat) : Nat := s.fld (HB_LOG_BASE n) HB_LOG_BASE_ADDR + s.fld (HB_LOG_CTRL n) HB_LOG_CTRL_HEAD * 32

/-- The ring of an HB_ instance's error log exists (R223). -/
def State.hbRing (s : State) (n : Nat) : Bool :=
  let z := s.fld (HB_LOG_CTRL n) HB_LOG_CTRL_SIZE_LOG2
  decide (4 ≤ z) && decide (z ≤ 16)

/-- A record waits while its slot's memory is not ON (R222). -/
def State.hbHolds (s : State) (n : Nat) : Bool := s.hbRing n && memExtent (s.hbSlot n) 32 && !s.inFailed (s.hbSlot n) && !s.memOn (s.hbSlot n) 32

/-- A record of an HB_ instance's error log, whose slot's memory is ON: written, or dropped (R222). -/
def State.hbPut (s : State) (n : Nat) (b : List Byte) : State :=
  if !s.hbRing n then s
  else
    let size := 2 ^ s.fld (HB_LOG_CTRL n) HB_LOG_CTRL_SIZE_LOG2
    let head := s.fld (HB_LOG_CTRL n) HB_LOG_CTRL_HEAD
    let slot := s.hbSlot n
    if (head + 1) % size = s.fld (HB_LOG_CTRL n) HB_LOG_CTRL_TAIL % size ∨ memExtent slot 32 = false ∨ s.inFailed slot = true then
      (s.addFld (HB_LOG_CTRL n) HB_LOG_CTRL_DROPPED 1).sticky (HB_ERR n) HB_ERR_LOG_DROP (HB_ERR_EVENTS n)
    else ((s.writeBytes slot b).cleanUnits slot 32).setFld (HB_LOG_CTRL n) HB_LOG_CTRL_HEAD ((head + 1) % size)

/-- A record generated: it is written or dropped, or waits behind those whose memory is not ON. -/
def State.hbLog (s : State) (n : Nat) (b : List Byte) : State :=
  if s.hbPend.any (fun w => w.1 == n) then { s with hbPend := s.hbPend ++ [(n, b)] }
  else if s.hbHolds n then { (s.holdAccess (0xD0000 + n) (s.hbSlot n)) with hbPend := s.hbPend ++ [(n, b)] }
  else s.hbPut n b

/-- The records that waited are written, in order, as their memory comes ON. -/
def State.hbFlushList (s : State) : List (Nat × List Byte) → List (Nat × List Byte) → State
  | kept, [] => { s with hbPend := kept }
  | kept, w :: t => if kept.any (fun k => k.1 == w.1) || s.hbHolds w.1 then s.hbFlushList (kept ++ [w]) t else (s.hbPut w.1 w.2).hbFlushList kept t
def State.hbFlush (s : State) : State := if s.hbPend = [] then s else s.hbFlushList [] s.hbPend

/-- Records generated by an HB_ instance, dropped ones included: the sum of what its counts show is kept apart. Kinds UE_READ,
UE_SCRUB, LANE_REPAIR and TRAIN_FAIL are also logged by Welkin (18 R427). -/
def State.hbRecordAt (s : State) (n kind a pch : Nat) (m : Master) : State :=
  let seq := sget (fun _ => 0) s.hbSeq n
  let s := if kind = 2 ∨ kind = 4 ∨ kind = 6 ∨ kind = 7 then s.logFree 5 (padTo 16 (hbRecordBytes s.zt n kind a pch seq m)) else s
  ({ s with hbSeq := sset (fun _ => 0) s.hbSeq n ((seq + 1) % 2 ^ 32) }).hbLog n (hbRecordBytes s.zt n kind a pch seq m)

/-- The record of an error at an address: its pseudo-channel, 0xFF in tile SRAM. -/
def State.hbRecord (s : State) (n kind a : Nat) (m : Master) : State :=
  s.hbRecordAt n kind a (if isSram a then 0xFF else pseudoChannel a) m

/-- The partition whose owned set holds an address (R25). -/
def State.memOwner (s : State) (a : Nat) : Option Nat := (List.range 8).find? (fun p => s.owns p a 1)

/-- The DATA_LOSS event of an uncorrectable sector (15 R363): it names the placement that holds the sector. -/
def State.dataLoss (s : State) (kind a : Nat) : State :=
  let s := s.sticky SI_SPARE_ERR SI_SPARE_ERR_DATA_LOSS SI_SPARE_EVENTS
  let o := s.memOwner a
  let pl : Option Placement := match o with
    | some p => (match (s.part p).active with
      | some img => img.placements.find? (fun x => decide (x.addr ≤ a) && decide (a < x.addr + x.size))
      | none => none)
    | none => none
  let d := if isSram a then tileDie (sramTile a) else a / stackBytes / 4
  let scope := match o with
    | some p => if bit (s.window d (1 + p)).2 63 then some p else none
    | none => none
  s.postEvent scope d 0x0151 0xFFFF
    (leBytes 8 a ++ leBytes 4 (match pl with | some x => x.handle | none => 0xFFFFFFFF) ++
     leBytes 4 (match pl with | some x => x.protect | none => 0) ++ leBytes 4 (match pl with | some x => x.layer | none => 0) ++
     leBytes 4 kind ++ leBytes 8 (match pl with | some x => a - x.addr | none => 0))

/-- Welkin notes a parity error of a matrix engine (0: physical tile × 4 + engine) or a bad line of tile SRAM (1: its address) (15 R367). -/
def State.notedError (s : State) (what which : Nat) : State :=
  { s with welkin := { s.welkin with seen := s.welkin.seen ++ [(what, which, s.start.clock)] } }

/-- An uncorrectable error met at an address by a read (kind 2), a write (3) or scrub (4): the sticky bit, count, capture,
record and DATA_LOSS event of R208, R218, R220. A FAILED stack's accesses log nothing more than the command's fault. -/
def State.ueMet (s : State) (kind a : Nat) (m : Master) : State :=
  if s.inFailed a then s
  else
    let u := errUnit a
    let n := memHb a
    let none_ := !(s.flag (HB_ERR n) HB_ERR_UE_READ || s.flag (HB_ERR n) HB_ERR_UE_WRITE || s.flag (HB_ERR n) HB_ERR_UE_SCRUB)
    let f := if kind = 2 then HB_ERR_UE_READ else if kind = 3 then HB_ERR_UE_WRITE else HB_ERR_UE_SCRUB
    let c := if kind = 2 then HB_UE_READ else if kind = 3 then HB_UE_WRITE else HB_UE_SCRUB
    let s := (s.sticky (HB_ERR n) f (HB_ERR_EVENTS n)).addFld (HB_UE n) c 1
    let s := if none_ then s.wr (HB_ERR_ADDR n) (kind * 2 ^ 56 + u % 2 ^ 48) else s
    let s := s.count 2 n 0x09 1 (m.attr u)
    let s := if isSram u then s.notedError 1 u else s
    (s.hbRecord n kind u m).dataLoss kind u

/-- The bad units that a write only partly covers: their bytes are discarded (R208, R218). -/
def State.partlyBad (s : State) (a n : Nat) : List Nat :=
  s.ue.filter (fun u => decide (u < a + n) && decide (a < u + errUnitBytes u) &&
    !(decide (a ≤ u) && decide (u + errUnitBytes u ≤ a + n)))

/-- Bytes written to memory, leaving the bytes of some units, and of FAILED stacks, as they are. -/
def State.writeExcept (s : State) (a : Nat) (skip : List Nat) : List Byte → State
  | [] => s
  | b :: t => ((if skip.contains (errUnit a) || s.inFailed a then s else s.setByte a b)).writeExcept (a + 1) skip t

/-- A checked write: whole bad units are renewed, partly covered bad units are discarded and logged, bytes of a FAILED stack are
discarded; the address of the first discarded unit is answered (R208, R212, R218). -/
def State.store (s : State) (a : Nat) (b : List Byte) (m : Master) : State × Option Nat :=
  let bad := s.partlyBad a b.length
  let lost := (s.firstFailed a b.length).toList ++ bad
  let s := (s.writeExcept a bad b).cleanUnits a b.length
  (bad.foldl (fun s u => s.ueMet 3 u m) s, lost.head?.map (fun x => lost.foldl min x))

/-- Bytes whose values the spec leaves open (log entry 1), at the addresses where they are kept. -/
def State.freeRange (s : State) (a : Nat) : Nat → State
  | 0 => s
  | n + 1 =>
    let (v, s) := s.fresh
    ({ s with mem := sset memDefault s.mem a (BitVec.ofNat 8 v) }).freeRange (a + 1) n

/-- A range of memory read by a master and written to another in whole units: each bad unit of the source is met as a read meets it, and what is
written in its place is free; the destination's units are sound afterwards (R208, R218, log entry 17). -/
def State.copySound (s : State) (src dst n : Nat) (m : Master) : State :=
  let bad := s.ue.filter (fun u => decide (u < src + n) && decide (src < u + errUnitBytes u))
  let s := s.moveRange src dst n
  let s := bad.foldl (fun s u =>
    let lo := max u src
    let hi := min (u + errUnitBytes u) (src + n)
    (s.ueMet 2 u m).freeRange (lo - src + dst) (hi - lo)) s
  s.cleanUnits dst n

/-! ## Sync objects (03 R61 to R65) -/

/-- A flag's value. -/
def State.syncFlag (s : State) (t k : Nat) : Bool :=
  if k < 64 then bit (s.rd (TC_FLAGS0 t)) k else bit (s.rd (TC_FLAGS1 t)) (k - 64)

/-- A flag set or cleared. -/
def State.setSyncFlag (s : State) (t k : Nat) (b : Bool) : State :=
  if k < 64 then s.setFld (TC_FLAGS0 t) ⟨k, k⟩ (b2n b) else s.setFld (TC_FLAGS1 t) ⟨k - 64, k - 64⟩ (b2n b)

/-- A counter's value. -/
def State.counter (s : State) (t k : Nat) : Nat := s.fld (TC_COUNTER t k) TC_COUNTER_VALUE

/-- A counter written. -/
def State.setCounter (s : State) (t k v : Nat) : State := s.setFld (TC_COUNTER t k) TC_COUNTER_VALUE v

/-- A TC_FAULT bit set, with its event count (R9). -/
def State.tcFault (s : State) (t : Nat) (f : Fld) : State := s.sticky (TC_FAULT t) f (TC_FAULT_EVENTS t)

/-- A sync object of a tile by number: flag k is k, counter k is 128 + k; the value of a flag is 0 or 1. -/
def State.syncValue (s : State) (t o : Nat) : Nat := if o < 128 then b2n (s.syncFlag t o) else s.counter t (o - 128)
def State.setSyncValue (s : State) (t o v : Nat) : State := if o < 128 then s.setSyncFlag t o (v == 1) else s.setCounter t (o - 128) v

/-- What an update makes of a value (R62). -/
def updated (v : Nat) (u : Nat × Nat) : Nat :=
  if u.1 = 1 then 1 else if u.1 = 2 then 0 else if u.1 = 3 then (v + u.2) % 2 ^ 32 else if u.1 = 4 then (v + 2 ^ 32 - u.2) % 2 ^ 32
  else if u.1 = 5 then u.2 else v

/-- What the present cycle has done to a tile's sync objects (R65), and to one of them. -/
def State.syncLogs (s : State) (t : Nat) : List SyncLog :=
  let x := sget (fun _ => (0, [])) s.sync t
  if x.1 = s.cycle t then x.2 else []
def State.syncLog (s : State) (t o : Nat) : SyncLog :=
  match (s.syncLogs t).find? (fun g => g.obj == o) with
  | some g => g
  | none => ⟨o, s.syncValue t o, s.syncValue t o, []⟩
def State.setSyncLog (s : State) (t : Nat) (g : SyncLog) : State :=
  { s with sync := sset (fun _ => (0, [])) s.sync t (s.cycle t, g :: (s.syncLogs t).filter (fun h => h.obj != g.obj)) }

/-- An update of the present cycle is noted (R65). -/
def State.noteUpdate (s : State) (t o op value : Nat) : State :=
  let g := s.syncLog t o
  s.setSyncLog t { g with ops := g.ops ++ [(op, value)] }

/-- A wait take of the present cycle: it comes before the cycle's updates, which act on what it leaves (R65). -/
def State.takeObject (s : State) (t o v : Nat) : State :=
  let g := s.syncLog t o
  (s.setSyncLog t { g with base := v }).setSyncValue t o (g.ops.foldl updated v)

/-- A sync-object update (R62): 1 FLAG_SET, 2 FLAG_CLEAR, 3 CNT_ADD, 4 CNT_SUB, 5 CNT_WRITE; a wrap sets SYNC_WRAP. -/
def State.applyUpdate (s : State) (t obj op value : Nat) : State :=
  let k := obj % 128
  let s := if 1 ≤ op ∧ op ≤ 5 then s.noteUpdate t (if op ≤ 2 then k else 128 + k) op value else s
  if op = 1 then s.setSyncFlag t k true
  else if op = 2 then s.setSyncFlag t k false
  else if op = 3 then
    let v := s.counter t k
    let s' := s.setCounter t k ((v + value) % 2 ^ 32)
    if v + value ≥ 2 ^ 32 then s'.tcFault t TC_FAULT_SYNC_WRAP else s'
  else if op = 4 then
    let v := s.counter t k
    let s' := s.setCounter t k ((v + 2 ^ 32 - value) % 2 ^ 32)
    if v < value then s'.tcFault t TC_FAULT_SYNC_WRAP else s'
  else if op = 5 then s.setCounter t k value
  else s

end Sys2Proof.Machine
end

