-- ==== Sys2Proof/Machine/Tally.lean ====
section
/-! DEFINITION. Counting events in the Tally unit's counters (16_counters_and_trace.md R384 to R388), and the Halo counts of a
tile (08 R196, R197). -/
namespace Sys2Proof.Machine

/-- One HBM request of a unit per sector that an extent meets, each with its own address (R385, R388). -/
def State.hbCount (s : State) (ev a n : Nat) (x : Attr) : State :=
  if s.tally.cfgA = [] ∨ isHbm a = false ∨ n = 0 then s
  else (List.range ((a + n - 1) / 32 - a / 32 + 1)).foldl (fun s k =>
    s.count 2 (a / stackBytes) ev 1 { x with addr := some ((a / 32 + k) * 32) }) s

/-- The LC share of a stack in sectors in a window of 1 µs (09 R215). -/
def lcShare : Nat := 2400

/-- The LC sectors that a stack has served in the present window of Zenith time (09 R215). -/
def State.lcServed (s : State) (k : Nat) : Nat :=
  if sget (fun _ => 0) s.lcWin k = s.zt / 1000 then sget (fun _ => 0) s.lcCount k else 0

/-- m latency-critical requests of one sector each at a stack: those beyond the share of their window are demoted, each counted, and each sets
LC_DEMOTE (09 R215). -/
def State.lcUse (s : State) (k m : Nat) (x : Attr) : State :=
  let c := s.lcServed k
  let beyond := (c + m - lcShare) - (c - lcShare)
  let s := { s with lcCount := sset (fun _ => 0) s.lcCount k (c + m), lcWin := sset (fun _ => 0) s.lcWin k (s.zt / 1000) }
  if beyond = 0 then s
  else (((s.addFld (HB_LC k) HB_LC_DEMOTED beyond).setFld (HB_ERR k) HB_ERR_LC_DEMOTE 1).addFld (HB_ERR_EVENTS k) HB_ERR_EVENTS_COUNT beyond).count 2 k 0x05 beyond x

/-- A request is latency-critical by its source: the router's TC0 payload (09 R213); command fetch and launch descriptors are named where they
are made. -/
def Attr.lc (x : Attr) : Bool := x.master == some 7 && x.cls == some 0

/-- The sectors of HBM that an extent meets. -/
def sectorsOf (a n : Nat) : Nat := if isHbm a && n != 0 then (a + n - 1) / 32 - a / 32 + 1 else 0

/-- The latency-critical requests of an extent, where it makes any. -/
def State.lcAll (s : State) (a n : Nat) (x : Attr) : State := if sectorsOf a n = 0 then s else s.lcUse (a / stackBytes) (sectorsOf a n) x

/-- Sectors read (R388, code 0x00); a latency-critical read counts as LC_READS and in its stack's window. -/
def State.lcRead (s : State) (a n : Nat) (x : Attr) : State := ((s.hbCount 0 a n x).hbCount 3 a n x).lcAll a n x
def State.hbRead (s : State) (a n : Nat) (x : Attr) : State := if x.lc then s.lcRead a n x else s.hbCount 0 a n x

/-- The parts of an extent that cover their sectors only partly (09 R210). -/
def partialPieces (a n : Nat) : List (Nat × Nat) :=
  let head := if a % 32 = 0 ∧ 32 ≤ n then [] else [(a, min n (32 - a % 32))]
  let tail := if (a + n) % 32 = 0 ∨ (a + n - 1) / 32 = a / 32 then [] else [((a + n) / 32 * 32, (a + n) % 32)]
  if n = 0 then [] else head ++ tail

/-- Sectors written (R388, code 0x01): one that a write covers only partly is read first, and counts as a partial write (09 R210). -/
def State.hbWrite (s : State) (a n : Nat) (x : Attr) : State :=
  let s := (s.hbCount 1 a n x)
  let s := if x.lc then s.lcAll a n x else s
  (partialPieces a n).foldl (fun s e => ((if x.lc then s.lcAll e.1 e.2 x else s).hbCount 0 e.1 e.2 x).hbCount 2 e.1 e.2 x) s

/-- A count with another's numbers added; its key stays. -/
def HaloMsg.plus (h m : HaloMsg) : HaloMsg :=
  ⟨h.part, h.step, h.layer, h.nonfinite + m.nonfinite, h.gNonfinite + m.gNonfinite, h.gSat + m.gSat, h.tile⟩

/-! ## Trace (R394 to R396) -/

/-- What a trace record says (R395): its die, kind, status, source, unit, partition, LAYER_ID, OP_ID, launch and index. -/
structure TraceRec where
  die : Nat
  kind : Nat
  status : Nat := 0
  source : Nat
  unit : Nat
  part : Nat
  layer : Nat
  op : Nat
  seq : Nat
  index : Nat
  deriving DecidableEq, Repr

/-- The filters of R394 let a record through; the unit bit is the queue index, or bit 8 for collective engines. -/
def State.traceOn (s : State) (r : TraceRec) : Bool :=
  let m := s.rd TL_TRACE_MATCH
  let unitBit := if r.unit < 8 then r.unit else 8
  s.flag TL_TRACE_CTRL TL_TRACE_CTRL_ENABLE && bit (s.rd TL_TRACE_CTRL) (48 + r.kind) && bit (s.rd TL_TRACE_CTRL) (40 + unitBit) &&
  bit (s.rd TL_TRACE_CTRL) (32 + r.part) &&
  (r.unit ≥ 8 || (decide (s.fld TL_TRACE_TILES TL_TRACE_TILES_FIRST ≤ r.source) &&
    decide (r.source < s.fld TL_TRACE_TILES TL_TRACE_TILES_FIRST + s.fld TL_TRACE_TILES TL_TRACE_TILES_COUNT))) &&
  (r.layer &&& bits m 39 20) == (bits m 19 0 &&& bits m 39 20) && (r.op &&& bits m 63 52) == (bits m 51 40 &&& bits m 63 52)

/-- Where the Tally unit's writes go and what they count as (R213, R222, R385). -/
def tallyMaster : Master := ⟨9, 0xFFFF, 0, none, some 0⟩
def tallyAttr : Attr := { priv := some 0, master := some 9 }

/-- HEAD of what the Tally unit writes, once everything waiting is written. -/
def State.tallyHead (s : State) (what now : Nat) : Nat :=
  match (s.tally.waiting.filter (fun w => w.what == what)).getLast? with
  | some w => w.head
  | none => now

/-- HEAD in the register of what was written (R391, R396, R399); a snapshot's record holds the time of its writing (R392). -/
def State.tallyWritten (s : State) (w : TallyWrite) : State :=
  let b := if 4 ≤ w.what then w.bytes.take 24 ++ leBytes 8 s.zt ++ w.bytes.drop 32 else w.bytes
  let s := ((s.hbWrite w.addr b.length tallyAttr).store w.addr b tallyMaster).1
  if w.what < 2 then s.setFld (TL_TRACE_PTR w.what) TL_TRACE_PTR_HEAD w.head
  else if w.what < 4 then s.setFld TL_DBG_PTR TL_DBG_PTR_HEAD w.head
  else s.setFld (TL_SNAP_PTR (w.what - 4)) TL_SNAP_PTR_HEAD w.head

/-- Records whose memory is ON are written, those of one ring in their order (R222, R396); the others wait. -/
def State.tallyFlushList (s : State) : List TallyWrite → List TallyWrite → State
  | kept, [] => { s with tally := { s.tally with waiting := kept } }
  | kept, w :: t =>
    if s.memOn w.addr w.bytes.length && !kept.any (fun k => k.what == w.what) then (s.tallyWritten w).tallyFlushList kept t
    else (s.holdAccess (0x20100 + w.what) w.addr).tallyFlushList (kept ++ [w]) t

def State.tallyFlush (s : State) : State := if s.tally.waiting = [] then s else s.tallyFlushList [] s.tally.waiting

/-- A record to be written by the Tally unit. -/
def State.tallyPut (s : State) (w : TallyWrite) : State :=
  ({ s with tally := { s.tally with waiting := s.tally.waiting ++ [w] } }).tallyFlush

/-- Trace records dropped and counted (R396). -/
def State.traceDropped (s : State) (d k : Nat) : State :=
  if k = 0 then s else
    (s.addFld (TL_TRACE_PTR d) TL_TRACE_PTR_DROPPED k).setFld TL_ERR TL_ERR_TRACE_DROP 1 |>.addFld TL_ERR_EVENTS TL_ERR_EVENTS_COUNT k

/-- A trace record written into its die's ring, or dropped and counted (R395, R396): up to 1,024 wait for their memory. -/
def State.trace (s : State) (r : TraceRec) : State :=
  if !s.traceOn r then s
  else
    let seq := sget (fun _ => 0) s.tally.traceSeq r.die
    let s := { s with tally := { s.tally with traceSeq := sset (fun _ => 0) s.tally.traceSeq r.die ((seq + 1) % 2 ^ 32) } }
    let sz := s.fld (TL_TRACE_BASE r.die) TL_TRACE_BASE_SIZE_LOG2
    if sz < 4 ∨ sz > 16 then s
    else
      let head := s.tallyHead r.die (s.fld (TL_TRACE_PTR r.die) TL_TRACE_PTR_HEAD)
      let slot := s.fld (TL_TRACE_BASE r.die) TL_TRACE_BASE_ADDR + head * 32
      let next := (head + 1) % 2 ^ sz
      if next = s.fld (TL_TRACE_PTR r.die) TL_TRACE_PTR_TAIL % 2 ^ sz ∨ memExtent slot 32 = false ∨ s.inFailed slot = true ∨
          1024 ≤ (s.tally.waiting.filter (fun w => w.what == r.die)).length then
        s.traceDropped r.die 1
      else
        s.tallyPut ⟨r.die, slot, leBytes 8 s.zt ++ leBytes 1 r.kind ++ leBytes 1 r.status ++ leBytes 2 r.source ++ leBytes 1 r.unit ++
          leBytes 1 r.part ++ zeros 2 ++ leBytes 4 (r.layer + r.op * 2 ^ 20) ++ leBytes 4 r.seq ++ leBytes 4 r.index ++
          leBytes 4 seq, next⟩

/-! ## Tensor watch (R397 to R400) -/

/-- A dump's command: queue, tile, launch data and identifiers, whether RECOMPUTE issued it, and the stamp of its last write. -/
structure DumpOf where
  queue : Nat
  tile : Nat
  mb : Nat
  layerOp : Nat
  seq : Nat
  index : Nat
  recompute : Bool
  zt : Nat
  deriving DecidableEq, Repr

/-- The 64-byte header of a record in the debug ring (R399). -/
def dumpHeader (w flags unit zt handle step tile mb layerOp offset bytes seq extent lseq index : Nat) : List Byte :=
  leBytes 4 0x44574C54 ++ leBytes 1 w ++ leBytes 1 flags ++ leBytes 1 unit ++ zeros 1 ++ leBytes 8 zt ++ leBytes 4 handle ++
  leBytes 4 step ++ leBytes 2 tile ++ leBytes 2 mb ++ leBytes 4 layerOp ++ leBytes 8 offset ++ leBytes 4 bytes ++ leBytes 4 seq ++
  leBytes 8 extent ++ leBytes 4 lseq ++ leBytes 4 index

/-- A place in the debug ring can be written. -/
def State.debugAt (s : State) (a n : Nat) : Bool := memExtent a n && (s.firstFailed a n).isNone

/-- A record put into the debug ring, with a PAD record where it does not fit before the ring's end, or dropped (R399). -/
def State.debugPut (s : State) (r : List Byte) : State :=
  let sz := s.fld TL_DBG_SIZE TL_DBG_SIZE_SIZE_LOG2
  let size := 2 ^ sz
  let head := s.tallyHead 2 (s.fld TL_DBG_PTR TL_DBG_PTR_HEAD)
  let free := size - (head + 2 ^ 32 - s.fld TL_DBG_PTR TL_DBG_PTR_TAIL) % 2 ^ 32
  let base := s.fld TL_DBG_BASE TL_DBG_BASE_ADDR
  let at_ := head % size
  let n := r.length
  if 16 ≤ sz ∧ sz ≤ 30 ∧ at_ + n ≤ size ∧ n ≤ free ∧ s.debugAt (base + at_) n = true then
    s.tallyPut ⟨2, base + at_, r, (head + n) % 2 ^ 32⟩
  else if 16 ≤ sz ∧ sz ≤ 30 ∧ size < at_ + n ∧ size - at_ + n ≤ free ∧ s.debugAt (base + at_) 64 = true ∧ s.debugAt base n = true then
    let pad := dumpHeader 0 4 0 0 0 0 0 0 0 0 (size - at_ - 64) 0 0 0 0
    (s.tallyPut ⟨2, base + at_, pad, (head + (size - at_)) % 2 ^ 32⟩).tallyPut ⟨2, base, r, (head + (size - at_) + n) % 2 ^ 32⟩
  else s.sticky TL_ERR TL_ERR_WATCH_DROP TL_ERR_EVENTS

/-- The bounding range within a watch's placement of what a command wrote, where the watch triggers on it (R398). -/
def State.watchMeets (s : State) (p step : Nat) (wrote : List (Nat × Nat)) (w : Nat) : Option (Nat × Nat) :=
  let pl := sget (fun _ => (0, 0)) s.tally.watchAt w
  let meets := (wrote.map (fun e => (max e.1 pl.1, min (e.1 + e.2) (pl.1 + pl.2)))).filter (fun e => decide (e.1 < e.2))
  let lo := meets.foldl (fun m e => min m e.1) (2 ^ 48)
  let hi := meets.foldl (fun m e => max m e.2) 0
  if s.fld (TL_WATCH_CTRL w) TL_WATCH_CTRL_STATE = 1 ∧ s.fld (TL_WATCH_CTRL w) TL_WATCH_CTRL_PARTITION = p ∧
     s.fld (TL_WATCH_STEP w) TL_WATCH_STEP_STEP = step ∧ lo < hi then some (lo, hi)
  else none

/-- What the Tally unit reads for a dump: a bad unit is met as a read meets it (09 R208, R218), and what the dump holds in its place is free (log
entry 1). -/
def State.dumpRead (s : State) (a n : Nat) : State × List Byte :=
  let bad := s.ue.filter (fun u => decide (u < a + n) && decide (a < u + errUnitBytes u))
  let data := s.readBytes a n
  bad.foldl (fun r u =>
    let (v, t) := (r.1.ueMet 2 u tallyMaster).fresh
    let lo := max u a - a
    let hi := min (u + errUnitBytes u) (a + n) - a
    (t, r.2.take lo ++ leBytes (hi - lo) v ++ r.2.drop hi)) (s.hbRead a n tallyAttr, data)

/-- One watch meets a command that wrote some extents (R398): it dumps their bounding range within the placement and counts the trigger. -/
def State.watchOne (s : State) (p step : Nat) (wrote : List (Nat × Nat)) (x : DumpOf) (w : Nat) : State :=
  match s.watchMeets p step wrote w with
  | none => s
  | some (lo, hi) =>
    let pl := sget (fun _ => (0, 0)) s.tally.watchAt w
    let start := lo / 32 * 32
    let extent := roundUp (hi - start) 32
    let n := min extent (s.fld (TL_WATCH_CTRL w) TL_WATCH_CTRL_MAX_KIB * 1024)
    let trig := s.fld (TL_WATCH_STEP w) TL_WATCH_STEP_TRIGGERS + 1
    let remain := s.fld (TL_WATCH_CTRL w) TL_WATCH_CTRL_REMAIN - 1
    let (s, data) := s.dumpRead start n
    let r := dumpHeader w (b2n (decide (n < extent)) + 2 * b2n x.recompute) x.queue x.zt (s.fld (TL_WATCH_CTRL w) TL_WATCH_CTRL_HANDLE)
      step x.tile x.mb x.layerOp (start - pl.1) n trig extent x.seq x.index ++ padTo (roundUp n 64) data
    let s := (s.debugPut r).setFld (TL_WATCH_STEP w) TL_WATCH_STEP_TRIGGERS trig
    let s := s.setFld (TL_WATCH_CTRL w) TL_WATCH_CTRL_REMAIN remain
    if remain = 0 then (s.setFld (TL_WATCH_CTRL w) TL_WATCH_CTRL_ENABLE 0).setFld (TL_WATCH_CTRL w) TL_WATCH_CTRL_STATE 3 else s

/-- Every watch, in ascending order, meets a command (R398, R400). -/
def State.watchWrite (s : State) (p step : Nat) (wrote : List (Nat × Nat)) (x : DumpOf) : State :=
  if wrote = [] then s else (List.range 8).foldl (fun s w => s.watchOne p step wrote x w) s

/-! ## Halo counts of a tile (08 R197) -/

/-- Merge a count into a list of counts if its key is there. -/
def haloMerge (m : HaloMsg) : List HaloMsg → Option (List HaloMsg)
  | [] => none
  | h :: t => if h.step = m.step ∧ h.layer = m.layer then
      some (h.plus m :: t)
    else (haloMerge m t).map (h :: ·)

/-- Record a tile's count (R197): in its combining buffer of 16 entries; where it is full the oldest moves to the outbound
queue of 64; where that is full the count goes to the unattributed holder, under the holder's step (its layer, 2^32, lies outside every window). -/
def TileSt.haloCount (x : TileSt) (m : HaloMsg) : TileSt :=
  if m.nonfinite = 0 ∧ m.gNonfinite = 0 ∧ m.gSat = 0 then x
  else
    match haloMerge m x.halo with
    | some l => { x with halo := l }
    | none =>
      if x.halo.length < 16 then { x with halo := x.halo ++ [m] }
      else if x.haloOut.length < 64 then { x with halo := x.halo.drop 1 ++ [m], haloOut := x.haloOut ++ x.halo.take 1 }
      else
        match x.haloHold with
        | none => { x with haloHold := some { m with layer := 2 ^ 32 } }
        | some h => { x with haloHold := some (h.plus m) }

/-- A tile's Halo count, where its partition keeps Halo counts (R194). -/
def State.haloCount (s : State) (t : Nat) (m : HaloMsg) : State :=
  if s.flag (SI_HALO_GEOM m.part) SI_HALO_GEOM_ENABLE then s.setTile t ((s.tile t).haloCount { m with tile := t }) else s

end Sys2Proof.Machine
end

