-- ==== Sys2Proof/Machine/Cmds.lean ====
section
/-! DEFINITION. Commands of a tile: the fields of a command word, waits, the end of a command, stopping faults and
completion (03_tiles_and_commands.md R57 to R79). -/
namespace Sys2Proof.Machine

/-! ## The command word (R60) -/

def Cmd.w (c : Cmd) : Nat := c.word.toNat
def wOpcode (w : Nat) : Nat := bits w 7 0
def wEngine (w : Nat) : Nat := bits w 11 8
def wNotify (w : Nat) : Bool := bit w 12
def wTake (w : Nat) : Bool := bit w 13
def wWaitObj (w : Nat) : Nat := bits w 23 16
def wWaitCond (w : Nat) : Nat := bits w 26 24
def wWaitValue (w : Nat) : Nat := bits w 63 32
def wSigObj (w : Nat) : Nat := bits w 71 64
def wSigOp (w : Nat) : Nat := bits w 74 72
def wSigTile (w : Nat) : Nat := bits w 95 80
def wSigValue (w : Nat) : Nat := bits w 111 96
def wLayer (w : Nat) : Nat := bits w 131 112
def wOp (w : Nat) : Nat := bits w 143 132

/-- Operand bits hi to lo: operand bit k is word bit 144 + k. -/
def wOpnd (w hi lo : Nat) : Nat := bits w (144 + hi) (144 + lo)

/-- The queue index of an ENGINE value (R54). -/
def engineQueue (e : Nat) : Nat := if e < 8 then e else 7

/-- LAYER_ID in bits 19:0 and OP_ID in bits 31:20. -/
def wLayerOp (w : Nat) : Nat := wLayer w + wOp w * 2 ^ 20

/-- The attributes of a command's events (16 R385). -/
def Cmd.attr (c : Cmd) : Attr := { priv := some c.priv, part := some c.part, layerOp := some (wLayer c.w, wOp c.w) }

/-- A command as a master of memory accesses (09 R222): its master code and the unit that works for it. -/
def Cmd.master (c : Cmd) (code src : Nat) : Master := ⟨code, src, wLayerOp c.w, some c.part, some c.priv⟩

/-- The trace record of a command's start (1), end (2) or refusal (3) (16 R394, R395). -/
def Cmd.traceRec (c : Cmd) (t q kind status : Nat) : TraceRec :=
  ⟨tileDie t, kind, status, t, q, c.part, wLayer c.w, wOp c.w, c.seq, c.index⟩

/-! ## Waits (R61, R65) -/

/-- A condition holds of a sync object's value (R61). -/
def condOn (cond value v : Nat) : Bool :=
  if cond = 0 then true
  else if cond = 1 then v == 1
  else if cond = 2 then v == 0
  else if cond = 3 then decide (value ≤ v)
  else if cond = 4 then v == value
  else if cond = 5 then decide (v < value)
  else false

/-- The object of a command's wait (R61). -/
def waitObject (w : Nat) : Nat := if wWaitCond w ≤ 2 then wWaitObj w % 128 else 128 + wWaitObj w % 128

/-- A command's wait holds (R65): it is judged on the value at the start of the cycle, and a take again on what the cycle's takes have left. -/
def State.waitHolds (s : State) (t : Nat) (c : Cmd) : Bool :=
  let g := s.syncLog t (waitObject c.w)
  condOn (wWaitCond c.w) (wWaitValue c.w) g.start && (!wTake c.w || condOn (wWaitCond c.w) (wWaitValue c.w) g.base)

/-- A command's wait take (R61, R65): FLAG_SET clears the flag, CNT_GE subtracts WAIT_VALUE. -/
def State.takeWait (s : State) (t : Nat) (c : Cmd) : State :=
  if wTake c.w then
    (if wWaitCond c.w = 1 then s.takeObject t (waitObject c.w) 0
     else if wWaitCond c.w = 3 then s.takeObject t (waitObject c.w) ((s.syncLog t (waitObject c.w)).base - wWaitValue c.w)
     else s)
  else s

/-- A wait of a routine on a counter with take (R61, R65): it holds of the cycle's start and of what the cycle's takes have left. -/
def State.countsTo (s : State) (t k n : Nat) : Bool :=
  let g := s.syncLog t (128 + k)
  decide (n ≤ g.start) && decide (n ≤ g.base)
def State.takeCount (s : State) (t k n : Nat) : State := s.takeObject t (128 + k) ((s.syncLog t (128 + k)).base - n)

/-! ## Records and completion (R76, R77, 10 R236) -/

/-- Status codes (R76). -/
def stOk : Nat := 0
def stEngineAbsent : Nat := 1
def stUnitFenced : Nat := 2
def stBadCommand : Nat := 3
def stSignalRange : Nat := 4
def stRoutineUnknown : Nat := 5
def stRoutineDenied : Nat := 6
def stAccessFault : Nat := 7
def stDataFault : Nat := 8
def stUnderrun : Nat := 9
def stOverrun : Nat := 0xA
def stRoutineFault : Nat := 0xB
def stImageChanged : Nat := 0xC
def stFlushed : Nat := 0xD
def stTileReset : Nat := 0xE
def stLaunchDone : Nat := 0xF

/-- The 32 bytes of a completion record (R77). -/
def recordBytes (tile queue status layerOp zt seq index detail : Nat) : List Byte :=
  leBytes 2 tile ++ leBytes 1 queue ++ leBytes 1 status ++ leBytes 4 layerOp ++ leBytes 8 zt ++ leBytes 4 seq ++
  leBytes 4 index ++ leBytes 8 detail

/-- The records that a source holds (10 R236). -/
def State.heldRecs (s : State) (d ix : Nat) : List CompRec := sget (fun _ => []) (s.hub d).held ix

/-- A record offered to the hub: it takes a holding place of its source. -/
def State.offer (s : State) (d ix : Nat) (r : CompRec) : State :=
  let h := s.hub d
  s.setHub d { h with held := sset (fun _ => []) h.held ix (s.heldRecs d ix ++ [r]) }

/-- A LAUNCH_DONE record of a die: it takes a place of its source, or waits for one where four are held (10 R236). -/
def State.offerDone (s : State) (d : Nat) (r : CompRec) : State :=
  if (s.heldRecs d 8192).length < 4 then s.offer d 8192 r
  else s.setHub d { s.hub d with late := (s.hub d).late ++ [r] }

/-- The engine index of a tile's queue (10 R236). -/
def sourceIx (t q : Nat) : Nat := 8 * (t % 1024) + q

/-- A source has a free holding place (10 R236). -/
def State.placeFree (s : State) (t q : Nat) : Bool := decide ((s.heldRecs (tileDie t) (sourceIx t q)).length < 4)

/-- A queue of a tile is stopped by a fault (R77). -/
def TileSt.isStopped (x : TileSt) (q : Nat) : Bool := bit x.stopped q

/-- A tile's queue may start a command: its clock runs, it is not stopped, and its holding place is free (R77, 10 R236). -/
def State.queueRuns (s : State) (t q : Nat) : Bool :=
  s.tileRuns t && !(s.tile t).isStopped q && s.placeFree t q && !s.sliceHolds t q

/-- The head of an engine queue. -/
def State.headOf (s : State) (t q : Nat) : Option Cmd := ((s.tile t).queue q).head?

/-- The head of an engine queue removed. -/
def State.popHead (s : State) (t q : Nat) : State :=
  s.setTile t ((s.tile t).setQueue q (((s.tile t).queue q).drop 1))

/-- The TC_FAULT bit of a stopping status (R77). -/
def faultBit (status : Nat) : Fld :=
  if status = stAccessFault then TC_FAULT_ACCESS else if status = stDataFault then TC_FAULT_DATA
  else if status = stUnderrun then TC_FAULT_UNDERRUN else if status = stOverrun then TC_FAULT_OVERRUN
  else TC_FAULT_ROUTINE

/-- A status that stops the queue (R77). -/
def isStopping (status : Nat) : Bool := decide (stAccessFault ≤ status) && decide (status ≤ stRoutineFault)

/-- What a stopping fault does to its queue (R77): captured, its TC_FAULT bit set, the queue stopped. -/
def State.stopQueue (s : State) (t q : Nat) (c : Cmd) (status addr : Nat) : State :=
  let s := s.wr (TC_FAULT_INFO t q) (status * 2 ^ 56 + c.index % 2 ^ 20 * 2 ^ 32 + wOp c.w * 2 ^ 20 + wLayer c.w)
  let s := s.tcFault t (faultBit status)
  let s := if status = stAccessFault ∨ status = stDataFault then s.setFld (TC_FAULT_ADDR t) TC_FAULT_ADDR_ADDR addr else s
  let x := s.tile t
  s.setTile t { x with stopped := putBits x.stopped q q 1 }

/-- A command ends with a status: a stopping one stops its queue at once; its completion (R77) follows. -/
def State.endCmd (s : State) (t q : Nat) (c : Cmd) (status addr detail : Nat) : State :=
  let s := if isStopping status then s.stopQueue t q c status addr else s
  let x := s.tile t
  s.setTile t { x with ended := x.ended ++ [⟨q, c, status, addr, detail, [], s.zt⟩] }

/-- A command ends with OK, having written a range. -/
def State.endOk (s : State) (t q : Nat) (c : Cmd) (detail : Nat) (wrote : List (Nat × Nat)) : State :=
  let x := s.tile t
  s.setTile t { x with ended := x.ended ++ [⟨q, c, stOk, 0, detail, wrote, s.zt⟩] }

/-- The commands of a launch that a matrix engine has started and not completed. -/
def MeSt.inFlight (m : MeSt) : List Cmd :=
  m.feeds.map (·.cmd) ++ (m.wload.toList ++ m.conv.toList ++ m.drain.toList).map (·.cmd) ++ m.store.toList.map (·.cmd)

/-- The commands of a queue that have started and not completed, oldest first (16 R387). -/
def TileSt.flying (x : TileSt) (q : Nat) : List Cmd := sget (fun _ => []) x.flight q
def TileSt.setFlying (x : TileSt) (q : Nat) (l : List Cmd) : TileSt := { x with flight := sset (fun _ => []) x.flight q l }

/-- The oldest command in flight takes its queue's issue slots from the present cycle on (16 R387). -/
def State.slotMark (s : State) (t q : Nat) : State :=
  let x := s.tile t
  s.setTile t { x with slotAt := sset (fun _ => 0) x.slotAt q (s.cycle t) }

/-- A command starts: where none was in flight, it takes the queue's slots from this cycle on. -/
def State.slotStart (s : State) (t q : Nat) (c : Cmd) : State :=
  if 6 < q then s
  else
    let x := s.tile t
    let s := if (x.flying q).isEmpty then s.slotMark t q else s
    s.setTile t ((s.tile t).setFlying q (x.flying q ++ [c]))

/-- A command completes: the slots that it took as the oldest in flight are RETIRED, or WASTED where its status is not OK; the next takes those
that follow (16 R387). A command that never started took none. -/
def State.slotEnd (s : State) (t q : Nat) (c : Cmd) (status : Nat) : State :=
  let x := s.tile t
  let n := s.cycle t - sget (fun _ => 0) x.slotAt q
  let s1 := s.setTile t (x.setFlying q ((x.flying q).erase c))
  if (x.flying q).head? = some c then
    (if n = 0 ∨ 6 < q then s1 else s1.count 0 t (if status = stOk then 0x10 + q else 0x18 + q) n c.attr).slotMark t q
  else s1

/-- The head of a queue starts: removed, its wait taken, its start traced (R56, R65, 16 R394). -/
def State.startHead (s : State) (t q : Nat) (c : Cmd) : State :=
  (((s.slotStart t q c).popHead t q).takeWait t c).trace (c.traceRec t q 1 0)

/-- A command's signal (R62, R66): at once on its own tile, else on its way to the tile it names. -/
def State.signal (s : State) (t : Nat) (c : Cmd) : State :=
  let dst := wSigTile c.w
  if wSigOp c.w = 0 then s
  else if dst = 0xFFFF ∨ dst = t then s.applyUpdate t (wSigObj c.w) (wSigOp c.w) (wSigValue c.w)
  else s.sendSig { src := t, dst := dst, obj := wSigObj c.w, op := wSigOp c.w, value := wSigValue c.w }

/-- Every command that a tile holds: queued, in flight, forwarded, ended but not completed, and in line. -/
def TileSt.allCmds (x : TileSt) : List Cmd :=
  (x.queues.map (·.2)).flatten ++ (x.mes.map (fun m => m.2.inFlight)).flatten ++ x.outstanding ++
  x.ended.map (·.cmd) ++ x.inl.toList

/-- A tile still has work of a launch: words to issue, or commands not completed. -/
def TileSt.hasLaunch (x : TileSt) (id : Nat) : Bool :=
  (match x.launch with | some l => l.id == id | none => false) || (match x.next with | some l => l.id == id | none => false) ||
  x.allCmds.any (·.launch == id)

/-- A tile's Halo counts have left it and every message of it has been applied or discarded (08 R197). -/
def State.haloDone (s : State) (t : Nat) : Bool :=
  let x := s.tile t
  x.halo.isEmpty && x.haloHold.isNone && x.haloOut.isEmpty && s.haloNet.all (fun u => u.2.all (fun m => m.tile != t))

/-- The bytes of a LAUNCH_DONE record (R77). -/
def launchDoneBytes (k : LaunchTrack) (zt : Nat) : List Byte :=
  recordBytes k.lowTile 0xFF stLaunchDone 0 zt k.launch.seq 0 (b2n k.abandoned)

/-- A launch whose tiles have all finished: its LAUNCH_DONE record where the descriptor asks for one (R57). -/
def State.launchDone (s : State) (k : LaunchTrack) : State :=
  if k.launch.doneRecord then s.offerDone k.die ⟨k.launch.cq, k.part, launchDoneBytes k s.zt, k.launch.priv⟩ else s

/-- A tile has finished a launch: it leaves the launch's list; the last one completes the launch. A sliced image's launch
is completed by the slice switch (R81). -/
def State.tileFinished (s : State) (t id : Nat) (abandoned : Bool) : State :=
  match (List.range 8).find? (fun p => (s.part p).tracks.any (fun k => k.launch.id == id && k.tiles.contains t)) with
  | none => s
  | some p =>
    let ps := s.part p
    let upd := ps.tracks.map (fun k => if k.launch.id == id && k.tiles.contains t then
      { k with tiles := k.tiles.erase t, abandoned := k.abandoned || abandoned } else k)
    let sliced := decide (1 < s.fld (SI_STATUS p) SI_STATUS_SLICE)
    let done := if sliced then [] else upd.filter (fun k => k.launch.id == id && k.tiles.isEmpty)
    let keep := if sliced then upd else upd.filter (fun k => !(k.launch.id == id && k.tiles.isEmpty))
    done.foldl (fun s k => s.launchDone k) (s.setPart p { ps with tracks := keep })

/-- A tile is checked for the end of a launch: nothing of it left, and its Halo counts gone (R57, 08 R197). -/
def State.checkFinished (s : State) (t id : Nat) (abandoned : Bool) : State :=
  if (s.tile t).hasLaunch id || !s.haloDone t then s else s.tileFinished t id abandoned

/-- A routine's failing command is remembered: the first one (R70). -/
def TileSt.noteRoutine (x : TileSt) (c : Cmd) (status : Nat) : TileSt :=
  match c.rix, x.routine with
  | some i, some r =>
    if status ≠ 0 ∧ r.failed = none ∧ c.rin = r.inst then { x with routine := some { r with failed := some (i, status) } } else x
  | _, _ => x

/-- What a dump says of its command (16 R399). -/
def Ended.dumpOf (e : Ended) (t : Nat) : DumpOf :=
  ⟨e.q, t, e.cmd.mb, wLayerOp e.cmd.w, e.cmd.seq, e.cmd.index, e.cmd.recomp, e.zt⟩

/-- A command's writes are watched (16 R398, R400): it ended OK, of queues 0 to 5, or an UPDATE of queue 7. -/
def Ended.watched (e : Ended) : Bool := e.status == stOk && (decide (e.q < 6) || (e.q == 7 && wOpcode e.cmd.w == 1))

/-- Another command that ended in the same cycle triggers one of a command's watches before it: one of a lower tile, or of the same tile and a lower
queue (16 R400). -/
def State.watchAhead (s : State) (t : Nat) (e : Ended) : Bool :=
  e.watched && (List.range 8).any (fun w => (s.watchMeets e.cmd.part e.cmd.step e.wrote w).isSome &&
    s.tiles.any (fun x => decide (x.1 ≤ t) && x.2.ended.any (fun f => decide (x.1 * 8 + f.q < t * 8 + e.q) && f.zt == e.zt && f.watched &&
      (s.watchMeets f.cmd.part f.cmd.step f.wrote w).isSome)))

/-- A vector-unit command completes: its counts reach the Halo record unless a tile reset ended it (07 R160; RECOMPUTE's add
nothing), and on OK the exact-sum register takes its new contents (07 R163). -/
def State.vuCommit (s : State) (t : Nat) (e : Ended) : State :=
  match (s.tile t).vuPend with
  | none => s
  | some v =>
    let x := s.tile t
    let s := s.setTile t { x with vuPend := none, xsr := if e.status = stOk then v.xsr.getD x.xsr else x.xsr }
    if e.status = stTileReset then s
    else
      let s := if v.nonfinite = 0 then s else s.count 0 t 0x07 v.nonfinite e.cmd.attr
      if e.cmd.recomp then s
      else s.haloCount t { part := e.cmd.part, step := e.cmd.step, layer := wLayer e.cmd.w, nonfinite := v.nonfinite, gNonfinite := v.gNonfinite, gSat := v.gSat }

/-- An ended command completes (R67, R77): on OK its signal is applied; its record is offered when NOTIFY is set or the
status is not OK. -/
def State.complete (s : State) (t : Nat) (e : Ended) : State :=
  let s := if e.q = 4 then s.vuCommit t e else s
  let s := (s.count 0 t (if e.status = stOk then 0x01 else 0x02) 1 e.cmd.attr).slotEnd t e.q e.cmd e.status
  let s := if e.status = stOk ∧ wNotify e.cmd.w = false then s
    else s.offer (tileDie t) (sourceIx t e.q) ⟨e.cmd.cq, e.cmd.part,
      recordBytes t e.q e.status (wLayerOp e.cmd.w) s.zt e.cmd.seq e.cmd.index e.detail, e.cmd.priv⟩
  let s := s.trace (e.cmd.traceRec t e.q 2 e.status)
  let s := if e.watched then s.watchWrite e.cmd.part e.cmd.step e.wrote (e.dumpOf t) else s
  let s := if e.status = stOk then s.signal t e.cmd else s
  let s := s.setTile t ((s.tile t).noteRoutine e.cmd e.status)
  s.checkFinished t e.cmd.launch false

end Sys2Proof.Machine
end

