-- ==== Sys2Proof/Machine/Matrix.lean ====
section
/-! DEFINITION. The matrix engines (04_matrix_engines.md R86 to R109): how a command starts, what every cycle of a tile does
to its four engines, and how rows land. A cycle's work is done by the tick; the start of a command is a command of its own. -/
namespace Sys2Proof.Machine

/-! ## Operands (R93 to R98) -/

def meDelay (w : Nat) : Nat := wOpnd w 111 102
def wloadOff (w : Nat) : Nat := wOpnd w 19 0
def wloadStride (w : Nat) : Nat := wOpnd w 31 20
def feedActOff (w : Nat) : Nat := wOpnd w 19 0
def feedActStride (w : Nat) : Nat := wOpnd w 31 20
def feedRows (w : Nat) : Nat := wOpnd w 42 32
def feedSwap (w : Nat) : Bool := bit w (144 + 43)
def feedLink (w : Nat) : Bool := bit w (144 + 44)
def feedActFmt (w : Nat) : Nat := wOpnd w 46 45
def feedWFmt (w : Nat) : Nat := wOpnd w 48 47
def feedPsumSrc (w : Nat) : Nat := wOpnd w 50 49
def feedPsumEntry (w : Nat) : Nat := wOpnd w 55 51
def feedPsumRing (w : Nat) : Nat := 4 * 2 ^ wOpnd w 57 56
def feedOutMode (w : Nat) : Nat := wOpnd w 59 58
def feedOutEntry (w : Nat) : Nat := wOpnd w 64 60
def feedOutRing (w : Nat) : Nat := 4 * 2 ^ wOpnd w 66 65
def feedCtx (w : Nat) : Bool := bit w (144 + 67)
def feedPiecePos (w : Nat) : Nat := wOpnd w 69 68
def feedScaleRow0 (w : Nat) : Nat := wOpnd w 81 70
def storeEntry (w : Nat) : Nat := wOpnd w 4 0
def storeRing (w : Nat) : Nat := 4 * 2 ^ wOpnd w 6 5
def storeCount (w : Nat) : Nat := wOpnd w 17 7
def storeDst (w : Nat) : Nat := wOpnd w 37 18
def storeStride (w : Nat) : Nat := wOpnd w 49 38
def convDescOff (w : Nat) : Nat := wOpnd w 19 0
def convCtx (w : Nat) : Bool := bit w (144 + 20)
def invalEntry (w : Nat) : Nat := wOpnd w 4 0
def invalCount (w : Nat) : Nat := wOpnd w 10 5

/-- The size of a tile's SRAM. -/
def sramBytes : Nat := 0x100000

/-- A result-buffer entry of an engine. -/
def MeSt.entry (m : MeSt) (i : Nat) : Entry := sget (fun _ => {}) m.buf i
def MeSt.setEntry (m : MeSt) (i : Nat) (x : Entry) : MeSt := { m with buf := sset (fun _ => {}) m.buf i x }

/-- A plane row: sixteen codes, zero where not listed (R100, R109). -/
def planeRow (p : Sparse (List Nat)) (k : Nat) : List Nat := sget (fun _ => List.replicate 16 0) p k
def setPlaneRow (p : Sparse (List Nat)) (k : Nat) (r : List Nat) : Sparse (List Nat) :=
  sset (fun _ => List.replicate 16 0) p k r

/-- A tile's engine, replaced. -/
def State.me (s : State) (t e : Nat) : MeSt := (s.tile t).me e
def State.setMe (s : State) (t e : Nat) (m : MeSt) : State := s.setTile t ((s.tile t).setMe e m)

/-- An engine of a tile is fenced (R366). -/
def State.meFenced (s : State) (t e : Nat) : Bool := bit (s.recordOf t) e

/-! ## Faults (R104, R105) -/

/-- The Halo count of a FEED that ends: none for one that RECOMPUTE issued (R150). -/
def State.feedCounts (s : State) (t : Nat) (f : FeedRun) : State :=
  let s := s.count 0 t 0x07 f.count f.cmd.attr
  if f.cmd.recomp then s
  else s.haloCount t { part := f.cmd.part, step := f.cmd.step, layer := wLayer f.cmd.w, nonfinite := f.count }

/-- The feed port has work in a cycle: rows of a FEED still to enter; the load port: lines of a WLOAD or a CONV still to come (R91, R108). -/
def MeSt.feedBusy (m : MeSt) (c : Nat) : Bool := m.feeds.any (fun f => decide (c < f.start + feedRows f.cmd.w))
def MeSt.loadBusy (m : MeSt) (c : Nat) : Bool :=
  m.wload.any (fun r => decide (c < r.start + 16)) || m.conv.any (fun r => decide (c < r.start + 4))

/-- The started commands of an engine with their start numbers, a FEED's run kept for its count. -/
def MeSt.runs (m : MeSt) : List (Nat × Cmd × Option FeedRun) :=
  m.feeds.map (fun f => (f.no, f.cmd, some f)) ++
  (m.wload.toList ++ m.conv.toList ++ m.drain.toList).map (fun r => (r.no, r.cmd, none)) ++
  m.store.toList.map (fun r => (r.no, r.cmd, none))

/-- The runs with numbers below a bound stay. -/
def MeSt.keepBelow (m : MeSt) (no : Nat) : MeSt :=
  { m with feeds := m.feeds.filter (fun f => decide (f.no < no))
           wload := m.wload.filter (fun r => decide (r.no < no))
           conv := m.conv.filter (fun r => decide (r.no < no))
           drain := m.drain.filter (fun r => decide (r.no < no))
           store := m.store.filter (fun r => decide (r.no < no)) }

/-- Runs in start order. -/
def sortRuns (l : List (Nat × Cmd × Option FeedRun)) : List (Nat × Cmd × Option FeedRun) :=
  l.mergeSort (fun a b => decide (a.1 ≤ b.1))

/-- Started commands end with QUEUE_FLUSHED, in start order, with the counts of the rows that landed (R104, R150). -/
def State.flushRuns (s : State) (t e : Nat) (l : List (Nat × Cmd × Option FeedRun)) : State :=
  (sortRuns l).foldl (fun s r =>
    let s := match r.2.2 with | some f => s.feedCounts t f | none => s
    s.endCmd t e r.2.1 stFlushed 0 0) s

/-- A stopping fault of a started command (R104): its ME_FAULT bit and ME_FAULT_DETAIL, its end; later started commands
are flushed; earlier ones go on. -/
def State.meFault (s : State) (t e no : Nat) (c : Cmd) (status addr : Nat) (f : Fld) (peer index row : Nat) : State :=
  let m := s.me t e
  let s := s.sticky (ME_FAULT t e) f (ME_FAULT_EVENTS t e)
  let s := s.wr (ME_FAULT_DETAIL t e) (wOpcode c.w * 2 ^ 48 + peer * 2 ^ 40 + index * 2 ^ 16 + row % 2 ^ 11)
  let s := if f = ME_FAULT_DATA ∧ addr = 0 then s.notedError 0 (s.physOf t * 4 + peer) else s
  let later := m.runs.filter (fun r => decide (no < r.1))
  let s := match m.feeds.find? (fun x => x.no == no) with | some x => s.feedCounts t x | none => s
  let s := s.setMe t e (m.keepBelow no)
  (s.endCmd t e c status addr (if status = stAccessFault ∨ status = stDataFault then addr else 0)).flushRuns t e later

/-! ## Landing (R87, R101, R103, R148) -/

/-- The pipeline length after a row's entry: 36 cycles for raw rows, 50 for converted ones (R87). -/
def feedTail (w : Nat) : Nat := if feedOutMode w = 0 then 50 else 36

/-- The cycle at whose end a FEED's next row lands (R87). -/
def FeedRun.landsAt (f : FeedRun) : Nat := f.start + f.landed + feedTail f.cmd.w

/-- The engine that a FEED's rows land in (R107). -/
def landEngine (e w : Nat) : Nat := if feedOutMode w = 2 then e + 1 else e

/-- The entry that row m lands in (R95). -/
def landEntry (w m : Nat) : Nat := feedOutEntry w + m % feedOutRing w

/-- The accumulators of a row: sixteen columns over its activations and the weights met (R86). A FEED of S8 pieces whose
position the forced pass mode leaves out forms no products (R142). -/
def rowLaccs (forced w : Nat) (weights : List (List Nat)) (acts psum : List Nat) : List Lacc :=
  (List.range 16).map (fun n =>
    let start := if feedPsumSrc w = 1 then Lacc.ofImage (psum.getD n 0) else Lacc.zero
    if forced ≠ 0 ∧ feedActFmt w = 2 ∧ forced ≤ feedPiecePos w then start
    else laccColumn (feedActFmt w) (feedWFmt w) (feedPiecePos w) start acts (weights.map (fun r => r.getD n 0)))

/-- The draw key of a partition (07 R166). -/
def State.drawKey (s : State) (p : Nat) : Nat := s.rd (SI_DRAW_KEY0 p) + s.rd (SI_DRAW_KEY1 p) * 2 ^ 64

/-- The address of row m's entry in the row-scale table (R147). -/
def rowTableAt (t : Nat) (f : FeedRun) (m : Nat) : Nat :=
  sramBase t + f.ctx.rowTable + (feedScaleRow0 f.cmd.w + m) * f.ctx.rowEntry

/-- The sixteen values that row m lands with: raw images, or converted codes (R136, R148). -/
def State.rowValues (s : State) (t : Nat) (f : FeedRun) (acts psum : List Nat) : List Nat :=
  let w := f.cmd.w
  let ls := rowLaccs (s.fld SI_FORCE_PASS SI_FORCE_PASS_MODE) w f.weights acts psum
  if feedOutMode w ≠ 0 then ls.map (·.image)
  else
    let rs := f.ctx.rowScale (s.readNat (rowTableAt t f f.landed) f.ctx.rowEntry)
    (List.range 16).map (fun n =>
      f.ctx.convert (ls.getD n Lacc.zero) rs n
        (draw32 (s.drawKey f.cmd.part) (drawCounter f.cmd.step (wLayer w) f.cmd.mb
          (f.ctx.drawElement (feedScaleRow0 w) f.landed n) f.ctx.drawStream)))

/-- A FEED with one more row landed. -/
def FeedRun.afterLanding (f : FeedRun) (bad : Nat) : FeedRun :=
  { f with rows := f.rows.drop 1, landed := f.landed + 1, count := f.count + bad }

/-- A list of FEEDs with one replaced, by number. -/
def replaceFeed (l : List FeedRun) (f : FeedRun) : List FeedRun := l.map (fun x => if x.no = f.no then f else x)

/-- A landing into an entry that is still valid: SCHEDULE_OVERRUN against the FEED (R103). -/
def State.landOverrun (s : State) (t e : Nat) (f : FeedRun) : State :=
  let d := landEngine e f.cmd.w
  s.meFault t e f.no f.cmd stOverrun 0 (if d = e then ME_FAULT_OVERRUN_BUFFER else ME_FAULT_OVERRUN_CHAIN) d
    (landEntry f.cmd.w f.landed) f.landed

/-- Every earlier command of a DRAIN has completed: the DRAIN completes (R92, R99). -/
def State.drainCheck (s : State) (t e : Nat) : State :=
  match (s.me t e).drain with
  | none => s
  | some d =>
    if (s.me t e).runs.any (fun r => decide (r.1 < d.no)) then s
    else (s.setMe t e { s.me t e with drain := none }).endOk t e d.cmd 0 []

/-- A FEED's next row lands in its entry (R87, R101): an overrun stops the FEED; a bad line of the row-scale table ends it
with DATA_FAULT; the last row completes it (R92). The converter reads the table in some of its 16 cycles, and R105 does not say in which a bad line
faults the FEED: here it does as the row lands, the model's choice (log entry 52). -/
def State.landRow (s : State) (t e : Nat) (f : FeedRun) : State :=
  match f.rows with
  | [] => s
  | (acts, psum) :: _ =>
    let w := f.cmd.w
    let d := landEngine e w
    let i := landEntry w f.landed
    if ((s.me t d).entry i).valid then s.landOverrun t e f
    else
      match (if feedOutMode w = 0 then s.firstBad (rowTableAt t f f.landed) f.ctx.rowEntry else none) with
      | some a =>
        (s.ueMet 2 a (f.cmd.master 2 t)).meFault t e f.no f.cmd stDataFault (errUnit a) ME_FAULT_DATA e 0 f.landed
      | none =>
        let vals := s.rowValues t f acts psum
        let fmt := if feedOutMode w = 0 then f.ctx.outFmt else 16
        let bad := if feedOutMode w = 0 then (vals.filter (codeNonFinite f.ctx.outFmt)).length else 0
        let s := s.setMe t d ((s.me t d).setEntry i { valid := true, fmt := fmt, vals := vals })
        let f' := f.afterLanding bad
        if f'.landed = feedRows w then
          let s := s.setMe t e { s.me t e with feeds := (s.me t e).feeds.filter (fun x => x.no != f.no) }
          ((s.feedCounts t f').endOk t e f.cmd 0 []).drainCheck t e
        else s.setMe t e { s.me t e with feeds := replaceFeed (s.me t e).feeds f' }

/-- The first FEED of an engine with a row due: one that lands at the end of a cycle already past (R87). -/
def State.dueFeed (s : State) (t e : Nat) : Option FeedRun :=
  (s.me t e).feeds.find? (fun f => decide (f.landsAt < s.cycle t) && !f.rows.isEmpty)

/-- Every row due in an engine lands, within the fuel (at most 8 FEEDs have one due in a cycle, R91). -/
def State.landAll : Nat → State → Nat → Nat → State
  | 0, s, _, _ => s
  | fuel + 1, s, t, e =>
    match s.dueFeed t e with
    | none => s
    | some f => State.landAll fuel (s.landRow t e f) t e

/-- The rows due in a tile's four engines land, upstream engines first. Of two rows that land in one entry at the end of one cycle, the first in the order of
engines, then of starts, lands and the other is an overrun (R103): which one is the model's choice (log entry 52). -/
def State.settle (s : State) (t : Nat) : State :=
  (List.range 4).foldl (fun s e => s.landAll 16 t e) s

/-! ## A cycle's reads (R87, R96, R97, R100 to R102) -/

/-- The bytes of an SRAM line read by an engine, or its DATA_FAULT (R105). -/
def State.lineBad (s : State) (t off : Nat) : Option Nat := s.firstBad (sramBase t + off) 16

/-- A FEED's cycle: the swap or the rows meet plane row k; a row enters; its partial sums are read (R87). An entry that it reads in the cycle in which it
faults keeps its valid tag, the model's choice (R101, log entry 52). -/
def State.feedRead (s : State) (t e c : Nat) (m0 : MeSt) (f : FeedRun) : State :=
  let w := f.cmd.w
  let k := c - f.start
  let m := s.me t e
  if (m.feeds.any (fun x => x.no == f.no)) = false ∨ c < f.start then s
  else
    let swapRow := decide (k < 16) && feedSwap w
    if swapRow && !bit m0.shadowTag k then s.meFault t e f.no f.cmd stUnderrun 0 ME_FAULT_UNDERRUN_SHADOW e k 0
    else if (swapRow && bit m0.shadowBad k) || (decide (k < 16) && !feedSwap w && bit m0.activeBad k) then
      s.meFault t e f.no f.cmd stDataFault 0 ME_FAULT_DATA e k 0
    else
      let row := if feedSwap w then planeRow m0.shadow k else planeRow m.active k
      let m := if swapRow then { m with active := setPlaneRow m.active k row, activeBad := putBits m.activeBad k k 0,
                                        clears := m.clears ++ [(c + 15, k)] } else m
      let f := if k < 16 then { f with weights := f.weights ++ [row] } else f
      if k < feedRows w then
        let off := feedActOff w + k * feedActStride w * 16
        let pe := feedPsumEntry w + k % feedPsumRing w
        let en := m0.entry pe
        if feedPsumSrc w = 1 ∧ (en.valid = false ∨ en.fmt ≠ 16) then
          s.meFault t e f.no f.cmd stUnderrun 0 ME_FAULT_UNDERRUN_PSUM e pe k
        else if feedPsumSrc w = 1 ∧ en.bad = true then s.meFault t e f.no f.cmd stDataFault 0 ME_FAULT_DATA e pe k
        else
          match s.lineBad t off with
          | some a => (s.ueMet 2 a (f.cmd.master 2 t)).meFault t e f.no f.cmd stDataFault (errUnit a) ME_FAULT_DATA e 0 k
          | none =>
            let acts := (s.readBytes (sramBase t + off) 16).map (·.toNat)
            let psum := if feedPsumSrc w = 1 then en.vals else []
            let m := if feedPsumSrc w = 1 then m.setEntry pe { m.entry pe with valid := false } else m
            let forced := s.fld SI_FORCE_PASS SI_FORCE_PASS_MODE
            let s := if forced ≠ 0 ∧ feedActFmt w = 2 ∧ forced ≤ feedPiecePos w then s else s.count 0 t 0x03 256 f.cmd.attr
            s.setMe t e { m with feeds := replaceFeed m.feeds { f with rows := f.rows ++ [(acts, psum)], entered := k + 1 } }
      else s.setMe t e { m with feeds := replaceFeed m.feeds f }

/-- The bytes of an entry's values as STORE writes them: d × 16 bytes (R96). -/
def entryBytes (x : Entry) : List Byte :=
  let d := if x.fmt = 16 then 16 else codeBytes x.fmt
  (x.vals.map (fun v => leBytes d v)).flatten

/-- A STORE's cycle reads its next row when the last one is written (R96, R102). The entry whose row reaches beyond the SRAM keeps its valid tag, the
model's choice (R101, log entry 52). -/
def State.storeRead (s : State) (t e : Nat) (m0 : MeSt) : State :=
  match (s.me t e).store with
  | none => s
  | some r =>
    if !r.left.isEmpty then s
    else
      let w := r.cmd.w
      let i := storeEntry w + r.row % storeRing w
      let en := m0.entry i
      let off := storeDst w + r.row * storeStride w * 16
      let m := s.me t e
      if !en.valid then s.meFault t e r.no r.cmd stUnderrun 0 ME_FAULT_UNDERRUN_STORE e i r.row
      else if en.bad then s.meFault t e r.no r.cmd stDataFault 0 ME_FAULT_DATA e i r.row
      else if sramBytes < off + (entryBytes en).length then
        s.meFault t e r.no r.cmd stAccessFault (sramBase t + sramBytes) ME_FAULT_ACCESS e i r.row
      else s.setMe t e { m.setEntry i { m.entry i with valid := false } with store := some { r with off := off, left := entryBytes en } }

/-- A WLOAD's or CONV's cycle reads its next line (R93, R97). -/
def State.portRead (s : State) (t e : Nat) (r : PortRun) (off : Nat) (row : Nat) (put : PortRun → MeSt → MeSt) : State :=
  match s.lineBad t off with
  | some a => (s.ueMet 2 a (r.cmd.master 2 t)).meFault t e r.no r.cmd stDataFault (errUnit a) ME_FAULT_DATA e 0 row
  | none => s.setMe t e (put { r with data := r.data ++ s.readBytes (sramBase t + off) 16 } (s.me t e))

/-- A WLOAD's cycle: its next line is read, unless the plane row that it writes is still tagged after the cycle's clears: an overrun (R100, R103). -/
def State.wloadRead (s : State) (t e : Nat) : State :=
  match (s.me t e).wload with
  | none => s
  | some r =>
    let k := r.data.length / 16
    if bit (s.me t e).shadowTag k then s.meFault t e r.no r.cmd stOverrun 0 ME_FAULT_OVERRUN_SHADOW e k k
    else s.portRead t e r (wloadOff r.cmd.w + k * wloadStride r.cmd.w * 16) k (fun r m => { m with wload := some r })

/-- A CONV's cycle: its next line is read; with the fourth its descriptor is judged, and an invalid one ends it with DATA_FAULT (R97, R145). -/
def State.convRead (s : State) (t e : Nat) : State :=
  match (s.me t e).conv with
  | none => s
  | some r =>
    let s := s.portRead t e r (convDescOff r.cmd.w + r.data.length) 0 (fun r m => { m with conv := some r })
    match (s.me t e).conv with
    | none => s
    | some r =>
      if 64 ≤ r.data.length ∧ convParse r.data = none then
        s.meFault t e r.no r.cmd stDataFault (sramBase t + convDescOff r.cmd.w) ME_FAULT_DATA e 0 0
      else s

/-- An entry of an engine's buffer is read in this cycle: by a FEED that takes its partial sums there, or by a STORE (R101). -/
def MeSt.readsEntry (m : MeSt) (c i : Nat) : Bool :=
  m.feeds.any (fun f => feedPsumSrc f.cmd.w == 1 && decide (f.start ≤ c) && decide (c - f.start < feedRows f.cmd.w) &&
    feedPsumEntry f.cmd.w + (c - f.start) % feedPsumRing f.cmd.w == i) ||
  m.store.any (fun r => r.left.isEmpty && storeEntry r.cmd.w + r.row % storeRing r.cmd.w == i)

/-- A row of a FEED that would land at the end of this cycle in an entry that stays valid stops the FEED now (R103, R104). -/
def State.overrunCheck (s : State) (t c e : Nat) (f : FeedRun) : State :=
  let d := landEngine e f.cmd.w
  let i := landEntry f.cmd.w f.landed
  if f.landsAt == c && (s.me t e).feeds.any (fun x => x.no == f.no) && ((s.me t d).entry i).valid && !(s.me t d).readsEntry c i
  then s.landOverrun t e f else s

/-- The accesses of one started command in a cycle. -/
def State.runCycle (s : State) (t c e : Nat) (m0 : MeSt) (r : Nat × Cmd × Option FeedRun) : State :=
  if (s.me t e).runs.any (fun x => x.1 == r.1) then
    match r.2.2 with
    | some f =>
      let s := s.overrunCheck t c e f
      s.feedRead t e c m0 f
    | none =>
      if wOpcode r.2.1.w = 3 then s.storeRead t e m0 else if wOpcode r.2.1.w = 1 then s.wloadRead t e
      else if wOpcode r.2.1.w = 5 then s.convRead t e else s
  else s

/-- An engine as the reads of a cycle find it: its tags at the cycle's start, with those that INVAL cleared in the cycle (R101). -/
def MeSt.atStart (m : MeSt) (c : Nat) : MeSt :=
  if m.spared.1 = c then m.spared.2.foldl (fun m i => m.setEntry i { m.entry i with valid := true }) m else m

/-- The accesses of one engine in a cycle, against the tags at the cycle's start, in start order: a fault abandons what started later, which then
makes no access of the cycle (R101, R104). -/
def State.readCycle (s : State) (t c e : Nat) (m0 : MeSt) : State :=
  (sortRuns m0.runs).foldl (fun s r => s.runCycle t c e (m0.atStart c) r) s

/-! ## A cycle's clears and writes (R100, R101, R103) -/

/-- The tags of plane rows whose last cell a swap passes in this cycle are cleared (R100); the swap of a row that began before
its FEED was stopped goes on to the row's last cell (log entry 52). -/
def State.clearTags (s : State) (t c e : Nat) : State :=
  let m := s.me t e
  let hit := m.clears.filter (fun x => decide (x.1 ≤ c))
  s.setMe t e { m with shadowTag := hit.foldl (fun g x => putBits g x.2 x.2 0) m.shadowTag
                       clears := m.clears.filter (fun x => decide (c < x.1)) }

/-- A STORE's write of a cycle: sixteen bytes; the last completes it (R92, R96). -/
def State.storeWrite (s : State) (t e : Nat) : State :=
  match (s.me t e).store with
  | none => s
  | some r =>
    if r.left.isEmpty then s
    else
      let a := sramBase t + r.off
      let s := (s.store a (r.left.take 16) (r.cmd.master 2 t)).1
      let left := r.left.drop 16
      let row := if left.isEmpty then r.row + 1 else r.row
      let w := r.cmd.w
      if left.isEmpty ∧ row = storeCount w then
        let last := storeDst w + (storeCount w - 1) * storeStride w * 16
        let s := s.setMe t e { s.me t e with store := none }
        s.endOk t e r.cmd 0 [(sramBase t + storeDst w, last + (r.off + 16 - last) - storeDst w)]
      else s.setMe t e { s.me t e with store := some { r with row := row, off := r.off + 16, left := left } }

/-- A WLOAD's write of a plane row; the sixteenth completes it (R92, R93, R100). -/
def State.wloadWrite (s : State) (t e : Nat) : State :=
  match (s.me t e).wload with
  | none => s
  | some r =>
    let k := r.data.length / 16 - 1
    let m := s.me t e
    if r.data.length = 0 then s
    else
      let row := (r.data.drop (16 * k)).map (·.toNat)
      let m := { m with shadow := setPlaneRow m.shadow k row, shadowTag := putBits m.shadowTag k k 1,
                        shadowBad := putBits m.shadowBad k k 0 }
      if k = 15 then (s.setMe t e { m with wload := none }).endOk t e r.cmd 0 []
      else s.setMe t e m

/-- A CONV's fourth cycle loads the context (R97). -/
def State.convLoad (s : State) (t e : Nat) : State :=
  match (s.me t e).conv with
  | none => s
  | some r =>
    match (if r.data.length < 64 then none else convParse r.data) with
    | none => s
    | some d =>
      let m := { s.me t e with conv := none }
      (s.setMe t e (if convCtx r.cmd.w then { m with ctx1 := d } else { m with ctx0 := d })).endOk t e r.cmd 0 []

/-- The writes of one engine in a cycle, by the commands that no fault of the cycle ended. -/
def State.writeCycle (s : State) (t e : Nat) : State := (((s.storeWrite t e).wloadWrite t e).convLoad t e).drainCheck t e

/-- One cycle of a tile's engines (R87, R101, R207): rows due from before land, then the cycle's clears of plane tags, every engine's accesses against the
state at the cycle's start, downstream engines first, and the writes in engine order. -/
def State.meCycle (s : State) (t : Nat) : State :=
  let s := s.settle t
  let c := s.cycle t
  let x := s.tile t
  let s := (List.range 4).foldl (fun s e => s.clearTags t c e) s
  let s := [3, 2, 1, 0].foldl (fun s e => s.readCycle t c e (x.me e)) s
  (List.range 4).foldl (fun s e => s.writeCycle t e) s

/-! ## Starting a command (R91) -/

/-- The start is late enough after the previous one: later than it, and DELAY after it (R91 condition 2). After a reset or an activation the engine has no
previous command, and its first one may start at once whatever its DELAY: the model's choice (log entry 52). -/
def startsLate (m : MeSt) (w c : Nat) : Bool :=
  match m.lastStart with
  | none => true
  | some l => decide (l < c) && decide (l + meDelay w ≤ c)

/-- A linked FEED's start: later than the previous start, and DELAY after the oldest token (R91, R107). -/
def linkReady (m : MeSt) (w c : Nat) : Bool :=
  (match m.lastStart with | none => true | some l => decide (l < c)) &&
  (match m.tokens with | [] => false | k :: _ => decide (k + meDelay w ≤ c))

/-- The conditions of R91 for the head of an engine's queue, of the opcode given: the engine's queue runs, its wait holds,
its start is late enough, and no DRAIN is pending. -/
def State.meHead (s : State) (t e op : Nat) : Option Cmd :=
  match s.headOf t e with
  | none => none
  | some c =>
    if wOpcode c.w = op ∧ s.queueRuns t e = true ∧ s.waitHolds t c = true ∧ (s.me t e).drain.isNone = true ∧
       (if op = 2 ∧ feedLink c.w = true then linkReady (s.me t e) c.w (s.cycle t) else startsLate (s.me t e) c.w (s.cycle t)) = true
    then some c else none

/-- The engine after a start: the start noted, a token consumed by a linked FEED. -/
def MeSt.noteStart (m : MeSt) (c : Nat) (link : Bool) : MeSt :=
  { m with lastStart := some c, started := m.started + 1, tokens := if link then m.tokens.drop 1 else m.tokens }

/-- The head of an engine's queue starts. -/
def State.meStart (s : State) (t e : Nat) (c : Cmd) (link : Bool) : State :=
  let s := s.startHead t e c
  s.setMe t e ((s.me t e).noteStart (s.cycle t) link)

/-- The first offset beyond the tile's SRAM among rows of 16 bytes (R105). -/
def rowsBeyond (off stride rows : Nat) : Option Nat :=
  ((List.range rows).map (fun m => off + m * stride * 16)).find? (fun o => decide (sramBytes < o + 16))

/-- The row that the first offending offset belongs to: the number of rows before it (R108). -/
def meRow (off stride o : Nat) : Nat := if stride = 0 then 0 else (o - off) / (stride * 16)

/-- An ACCESS_FAULT in the start cycle (R105), with the row it names (R108). No entry or plane row is involved, and R108 gives INDEX no value then: 0 here and at
a DATA_FAULT of a tile-SRAM line, the model's choice (log entry 52). -/
def State.startFault (s : State) (t e : Nat) (c : Cmd) (off row : Nat) : State :=
  s.meFault t e (s.me t e).started c stAccessFault (sramBase t + off) ME_FAULT_ACCESS e 0 row

/-- WLOAD (R93): starts when the load port is free; 16 cycles follow, one plane row in each. -/
def execWload (t e : Nat) (s : State) : Res :=
  let s := s.settle t
  match s.meHead t e 1 with
  | none => .next s
  | some c =>
    if (s.me t e).loadBusy (s.cycle t) = false then
      let s1 := s.meStart t e c false
      match rowsBeyond (wloadOff c.w) (wloadStride c.w) 16 with
      | some o => .next (s1.startFault t e c o (meRow (wloadOff c.w) (wloadStride c.w) o))
      | none =>
        let m := s1.me t e
        .next (s1.setMe t e { m with wload := some ⟨c, m.started, s.cycle t, []⟩ })
    else .next s

/-- The chain token of a FEED with OUT_MODE CHAIN (R107): posted at its start, whatever the start brings. -/
def State.postToken (s : State) (t e w : Nat) : State :=
  if feedOutMode w = 2 then
    let d := s.me t (e + 1)
    s.setMe t (e + 1) { d with tokens := d.tokens ++ [s.cycle t] }
  else s

/-- The first offset beyond the tile's SRAM that a FEED names: an activation row, or its row-scale table, and
its row (R105, R147). -/
def feedBeyond (w : Nat) (d : ConvDesc) : Option (Nat × Nat) :=
  match rowsBeyond (feedActOff w) (feedActStride w) (feedRows w) with
  | some o => some (o, meRow (feedActOff w) (feedActStride w) o)
  | none =>
    let a := d.rowTable + feedScaleRow0 w * d.rowEntry
    if feedOutMode w = 0 ∧ sramBytes < a + feedRows w * d.rowEntry then some (max a sramBytes, (sramBytes - a) / d.rowEntry) else none

/-- FEED (R94, R95): starts under R91, captures its converter context, posts a chain token; its rows enter one a cycle. -/
def execFeed (t e : Nat) (s : State) : Res :=
  let s := s.settle t
  match s.meHead t e 2 with
  | none => .next s
  | some c =>
    let m := s.me t e
    if m.feedBusy (s.cycle t) = false ∧ m.feeds.length < 8 ∧ (feedOutMode c.w = 2 → (s.me t (e + 1)).tokens.length < 15) then
      let s1 := (s.meStart t e c (feedLink c.w)).postToken t e c.w
      let m := s1.me t e
      let d := if feedCtx c.w then m.ctx1 else m.ctx0
      match feedBeyond c.w d with
      | some o => .next (s1.startFault t e c o.1 o.2)
      | none =>
        .next (s1.setMe t e { m with feeds := m.feeds ++ [⟨c, m.started, s.cycle t, d, [], [], 0, 0, 0⟩] })
    else .next s

/-- ROW_LANDING (R87): the next row that is due lands in its entry, setting its valid and format tags. -/
def execRowLanding (t e : Nat) (s : State) : Res :=
  match s.dueFeed t e with
  | none => .next s
  | some f => .next (s.landRow t e f)

/-- STORE (R96): starts when the store port is free; every row's offset is checked with 16 bytes at the start. -/
def execStore (t e : Nat) (s : State) : Res :=
  let s := s.settle t
  match s.meHead t e 3 with
  | none => .next s
  | some c =>
    if (s.me t e).store.isNone then
      let s1 := s.meStart t e c false
      match rowsBeyond (storeDst c.w) (storeStride c.w) (storeCount c.w) with
      | some o => .next (s1.startFault t e c (max o sramBytes) (meRow (storeDst c.w) (storeStride c.w) o))
      | none =>
        let m := s1.me t e
        .next (s1.setMe t e { m with store := some ⟨c, m.started, s.cycle t, 0, 0, []⟩ })
    else .next s

/-- DRAIN (R99): starts under conditions 1 and 2; it completes when every earlier command has completed. -/
def execDrain (t e : Nat) (s : State) : Res :=
  let s := s.settle t
  match s.meHead t e 4 with
  | none => .next s
  | some c =>
    let s1 := s.meStart t e c false
    let m := s1.me t e
    .next ((s1.setMe t e { m with drain := some ⟨c, m.started, s.cycle t, []⟩ }).drainCheck t e)

/-- CONV (R97): starts when the load port is free; four cycles read its descriptor. -/
def execConv (t e : Nat) (s : State) : Res :=
  let s := s.settle t
  match s.meHead t e 5 with
  | none => .next s
  | some c =>
    if (s.me t e).loadBusy (s.cycle t) = false then
      let s1 := s.meStart t e c false
      if sramBytes < convDescOff c.w + 64 then .next (s1.startFault t e c (max (convDescOff c.w) sramBytes) 0)
      else
        let m := s1.me t e
        .next (s1.setMe t e { m with conv := some ⟨c, m.started, s.cycle t, []⟩ })
    else .next s

/-- COUNT entries from ENTRY, wrapping at 32, with their valid tags cleared (R98). -/
def clearEntries (m : MeSt) (entry : Nat) : Nat → MeSt
  | 0 => m
  | n + 1 => clearEntries (m.setEntry ((entry + n) % 32) { m.entry ((entry + n) % 32) with valid := false }) entry n

/-- The entries of an INVAL that are valid as it starts: reads of its cycle still find them so (R101). -/
def MeSt.sparing (m : MeSt) (c entry count : Nat) : Nat × List Nat :=
  (c, ((List.range count).map (fun n => (entry + n) % 32)).filter (fun i => (m.entry i).valid))

/-- INVAL (R98): clears valid tags and completes in its start cycle. -/
def execInval (t e : Nat) (s : State) : Res :=
  let s := s.settle t
  match s.meHead t e 6 with
  | none => .next s
  | some c =>
    let s1 := s.meStart t e c false
    let m := s1.me t e
    .next ((s1.setMe t e { clearEntries m (invalEntry c.w) (invalCount c.w) with spared := m.sparing (s.cycle t) (invalEntry c.w) (invalCount c.w) }).endOk t e c 0 [])

/-- An engine as every reset and activation leaves it (R109). -/
def MeSt.cleared : MeSt := {}

end Sys2Proof.Machine
end

