-- ==== Sys2Proof/Machine/Operands.lean ====
section
/-! DEFINITION. The entry check of command words (R63): which words are refused, and with which status; the operand
layouts of every engine (R69, R73, R75, R93 to R99, R155, R156, R159, R163, R168, R176). -/
namespace Sys2Proof.Machine

/-- Operand bits hi to lo are all zero. -/
def opndZero (w hi lo : Nat) : Bool := wOpnd w hi lo == 0

/-- An operand is a multiple. -/
def aligned (x m : Nat) : Bool := x % m == 0

/-- A value lies in a closed range. -/
def inRange (x lo hi : Nat) : Bool := decide (lo ≤ x) && decide (x ≤ hi)

/-! ## Vector unit fields (R155) -/

def vuA (w : Nat) : Nat := wOpnd w 19 0
def vuB (w : Nat) : Nat := wOpnd w 39 20
def vuC (w : Nat) : Nat := wOpnd w 59 40
def vuD (w : Nat) : Nat := wOpnd w 79 60
def vuCount (w : Nat) : Nat := wOpnd w 95 80
def vuIn (w : Nat) : Nat := wOpnd w 99 96
def vuOut (w : Nat) : Nat := wOpnd w 103 100
def vuRound (w : Nat) : Nat := wOpnd w 105 104
def vuBScalar (w : Nat) : Bool := bit w (144 + 106)
def vuCScalar (w : Nat) : Bool := bit w (144 + 107)
def vuClearFirst (w : Nat) : Bool := bit w (144 + 106)
def vuGuard (w : Nat) : Nat := wOpnd w 110 106
def topK (w : Nat) : Nat := wOpnd w 35 20
def drawD (w : Nat) : Nat := wOpnd w 19 0
def drawCount (w : Nat) : Nat := wOpnd w 35 20
def drawBase (w : Nat) : Nat := wOpnd w 83 36
def drawStreamOf (w : Nat) : Nat := wOpnd w 95 84
def drawKind (w : Nat) : Nat := wOpnd w 97 96

/-- A storage code of lane data: 0x00 to 0x05 or BYTES (R155). -/
def laneFmt (c : Nat) : Bool := decide (c ≤ 5) || c == 0x0D

/-- How many operands an element-wise opcode has: A alone, A and B, or all three (R156). -/
def vuArity (op : Nat) : Nat :=
  if op = 1 ∨ op = 2 ∨ op = 3 ∨ op = 5 ∨ op = 6 ∨ op = 7 ∨ op = 8 then 2
  else if op = 4 ∨ op = 9 then 3 else 1

/-- The element-wise and one-value opcodes of R156 in the layout of R155. -/
def vuPlain (op : Nat) : Bool := inRange op 1 0x0A || inRange op 0x10 0x15 || inRange op 0x20 0x21

/-- The layout of R155 for the opcodes of `vuPlain`. -/
def vuPlainOk (w : Nat) : Bool :=
  let n := vuArity (wOpcode w)
  let e := codeBytes (vuIn w)
  decide (1 ≤ vuCount w) && laneFmt (vuIn w) && laneFmt (vuOut w) && decide (vuRound w ≤ 1) && opndZero w 111 108 &&
  aligned (vuA w) e && aligned (vuD w) (codeBytes (vuOut w)) &&
  (if 2 ≤ n then aligned (vuB w) e else vuB w == 0 && !vuBScalar w) &&
  (if 3 ≤ n then aligned (vuC w) e else vuC w == 0 && !vuCScalar w)

/-- The layout of TOPK (R158). -/
def topkOk (w : Nat) : Bool :=
  decide (1 ≤ vuCount w) && laneFmt (vuIn w) && laneFmt (vuOut w) && decide (vuRound w ≤ 1) && opndZero w 111 106 &&
  aligned (vuA w) (codeBytes (vuIn w)) && aligned (vuD w) (codeBytes (vuOut w)) && aligned (vuC w) 4 &&
  opndZero w 39 36 && inRange (topK w) 1 64 && decide (topK w ≤ vuCount w)

/-- The layouts of TO_G32 and FROM_G32 (R159). -/
def toG32Ok (w : Nat) : Bool :=
  decide (1 ≤ vuCount w) && laneFmt (vuIn w) && vuOut w == 9 && vuRound w == 0 && vuC w == 0 && opndZero w 111 111 &&
  decide (vuGuard w ≤ 30) && aligned (vuA w) (codeBytes (vuIn w)) && aligned (vuD w) 4 && aligned (vuB w) 2
def fromG32Ok (w : Nat) : Bool :=
  decide (1 ≤ vuCount w) && vuIn w == 9 && laneFmt (vuOut w) && decide (vuRound w ≤ 1) && vuC w == 0 && opndZero w 111 106 &&
  aligned (vuA w) 4 && aligned (vuB w) 2 && aligned (vuD w) (codeBytes (vuOut w))

/-- The layouts of the exact-sum commands (R163). -/
def xsrOk (w : Nat) : Bool :=
  let op := wOpcode w
  if op = 0x30 then
    decide (1 ≤ vuCount w) && decide (vuIn w ≤ 4) && aligned (vuA w) (codeBytes (vuIn w)) && opndZero w 79 20 &&
    opndZero w 105 100 && opndZero w 111 107
  else if op = 0x31 then
    decide (1 ≤ vuCount w) && aligned (vuA w) 64 && opndZero w 79 20 && opndZero w 105 96 && opndZero w 111 107
  else if op = 0x32 then aligned (vuD w) 64 && opndZero w 59 0 && opndZero w 111 80
  else if op = 0x33 then
    decide (vuOut w ≤ 4) && decide (vuRound w ≤ 1) && aligned (vuD w) (codeBytes (vuOut w)) && opndZero w 59 0 &&
    opndZero w 99 80 && opndZero w 111 106
  else opndZero w 111 0

/-- The layout of DRAW (R168). -/
def drawOk (w : Nat) : Bool :=
  decide (1 ≤ drawCount w) && aligned (drawD w) 4 && decide (drawKind w ≤ 1) && opndZero w 111 98

/-- A vector-unit word's opcode and operands (R155 to R168). -/
def vuOk (w : Nat) : Bool :=
  let op := wOpcode w
  if vuPlain op then vuPlainOk w
  else if op = 0x22 then topkOk w
  else if op = 0x28 then toG32Ok w
  else if op = 0x29 then fromG32Ok w
  else if inRange op 0x30 0x34 then xsrOk w
  else op == 0x38 && drawOk w

/-! ## Matrix engines (R90, R93 to R99) -/

/-- A FEED's own conditions (R94, R95). -/
def feedOk (e w : Nat) : Bool :=
  aligned (feedActOff w) 16 && decide (1 ≤ feedActStride w) && inRange (feedRows w) 1 1024 && decide (feedActFmt w ≤ 2) &&
  decide (feedWFmt w ≤ 2) && ((feedActFmt w == 2) == (feedWFmt w == 2)) && decide (feedPsumSrc w ≤ 1) &&
  decide (feedOutMode w ≤ 2) && !(feedOutMode w == 2 && e == 3) && !(feedLink w && e == 0) &&
  aligned (feedPsumEntry w) (feedPsumRing w) && aligned (feedOutEntry w) (feedOutRing w) && decide (feedPiecePos w ≤ 2) &&
  (feedPiecePos w == 0 || feedActFmt w == 2) && opndZero w 101 82

/-- A matrix-engine word's opcode and operands. -/
def meOk (e w : Nat) : Bool :=
  match wOpcode w with
  | 1 => aligned (wloadOff w) 16 && decide (1 ≤ wloadStride w) && opndZero w 101 32
  | 2 => feedOk e w
  | 3 => aligned (storeEntry w) (storeRing w) && inRange (storeCount w) 1 1024 && aligned (storeDst w) 16 &&
      decide (1 ≤ storeStride w) && opndZero w 101 50
  | 4 => opndZero w 101 0
  | 5 => aligned (convDescOff w) 64 && opndZero w 101 21
  | 6 => inRange (invalCount w) 1 32 && opndZero w 101 11
  | _ => false

/-! ## Tile DMA (R73, R75) -/

def copySrc (w : Nat) : Nat := wOpnd w 47 0
def copyDst (w : Nat) : Nat := wOpnd w 95 48
def copySectors (w : Nat) : Nat := wOpnd w 111 96
def fillDst (w : Nat) : Nat := wOpnd w 47 0
def fillSectors (w : Nat) : Nat := wOpnd w 63 48
def fillPattern (w : Nat) : Nat := wOpnd w 95 64
def splitSrc (w : Nat) : Nat := wOpnd w 47 0
def splitDst (w : Nat) : Nat := wOpnd w 67 48
def splitRows (w : Nat) : Nat := wOpnd w 79 68
def splitCols (w : Nat) : Nat := wOpnd w 91 80
def splitFmt (w : Nat) : Nat := wOpnd w 95 92
def splitPiecesOf (w : Nat) : Nat := wOpnd w 97 96
def splitChannel (w : Nat) : Bool := bit w (144 + 98)
def routeId (w : Nat) : Nat := wOpnd w 15 0
def routeAddr (w : Nat) : Nat := wOpnd w 63 16
def routeCount (w : Nat) : Nat := wOpnd w 79 64

/-- The route that a command names, in the active image of its tile's partition. -/
def State.findRoute (s : State) (p id : Nat) : Option Route :=
  match (s.part p).active with
  | none => none
  | some img => img.routes.find? (fun r => r.id == id)

/-- A tile-DMA word's opcode and operands; ROUTE_SEND and ROUTE_RECV must name a route of this tile (R74), and a SPLIT must
carry at least the forced pieces (R142). -/
def State.dmaOk (s : State) (p t w : Nat) : Bool :=
  match wOpcode w with
  | 1 => aligned (copySrc w) 32 && aligned (copyDst w) 32 && decide (1 ≤ copySectors w)
  | 2 => aligned (fillDst w) 32 && decide (1 ≤ fillSectors w) && opndZero w 111 96
  | 3 => aligned (splitSrc w) 32 && aligned (splitDst w) 32 && decide (1 ≤ splitRows w) && inRange (splitCols w) 32 4064 &&
      aligned (splitCols w) 32 && inRange (splitFmt w) 2 4 && decide (1 ≤ splitPiecesOf w) &&
      decide (s.fld SI_FORCE_PASS SI_FORCE_PASS_MODE ≤ splitPiecesOf w) && opndZero w 111 99
  | 4 => aligned (routeAddr w) 32 && decide (1 ≤ routeCount w) && opndZero w 111 80 &&
      (match s.findRoute p (routeId w) with | some r => r.src == t | none => false)
  | 5 => aligned (routeAddr w) 32 && decide (1 ≤ routeCount w) && opndZero w 111 80 &&
      (match s.findRoute p (routeId w) with | some r => r.dst == t | none => false)
  | _ => false

/-! ## Control core and Anvil (R69, R176) -/

def callRoutine (w : Nat) : Nat := wOpnd w 15 0
def callAddr (w : Nat) : Nat := wOpnd w 63 16
def callLen (w : Nat) : Nat := wOpnd w 79 64
def stampAddr (w : Nat) : Nat := wOpnd w 47 0

/-- An in-line word's opcode and operands. -/
def inlineOk (w : Nat) : Bool :=
  match wOpcode w with
  | 0 => opndZero w 111 0
  | 1 => opndZero w 111 0
  | 2 => aligned (callAddr w) 32 && decide (callLen w ≤ 65504) && opndZero w 111 80
  | 3 => aligned (stampAddr w) 8 && opndZero w 111 48
  | _ => false

def avDesc (w : Nat) : Nat := wOpnd w 47 0
def normDst (w : Nat) : Nat := wOpnd w 95 48
def normAcc (w : Nat) : Bool := bit w (144 + 96)
def xorDst (w : Nat) : Nat := wOpnd w 47 0
def xorSrc (w : Nat) : Nat := wOpnd w 95 48
def xorSectors (w : Nat) : Nat := wOpnd w 111 96

/-- An Anvil word's opcode and operands. -/
def anvilOk (w : Nat) : Bool :=
  match wOpcode w with
  | 1 => aligned (avDesc w) 64 && opndZero w 111 48
  | 2 => aligned (avDesc w) 64 && aligned (normDst w) 64 && opndZero w 111 97
  | 3 => aligned (xorDst w) 32 && aligned (xorSrc w) 32 && decide (1 ≤ xorSectors w)
  | _ => false

/-! ## The entry check (R63) -/

/-- The wait fields (R60, R61). -/
def waitOk (w : Nat) : Bool :=
  match wWaitCond w with
  | 0 => wWaitObj w == 0 && wWaitValue w == 0 && !wTake w
  | 1 => decide (wWaitObj w < 128) && wWaitValue w == 0
  | 2 => decide (wWaitObj w < 128) && wWaitValue w == 0 && !wTake w
  | 3 => decide (128 ≤ wWaitObj w)
  | 4 => decide (128 ≤ wWaitObj w) && !wTake w
  | 5 => decide (128 ≤ wWaitObj w) && !wTake w
  | _ => false

/-- The signal fields (R60, R62). -/
def sigOk (w : Nat) : Bool :=
  match wSigOp w with
  | 0 => wSigObj w == 0 && wSigValue w == 0 && wSigTile w == 0xFFFF
  | 1 => decide (wSigObj w < 128)
  | 2 => decide (wSigObj w < 128)
  | 3 => decide (128 ≤ wSigObj w)
  | 4 => decide (128 ≤ wSigObj w)
  | 5 => decide (128 ≤ wSigObj w)
  | _ => false

/-- The operand layout of the word's engine and opcode. -/
def State.operandsOk (s : State) (p t w : Nat) : Bool :=
  let e := wEngine w
  if e < 4 then meOk e w
  else if e = 4 then vuOk w
  else if e = 5 then s.dmaOk p t w
  else if e = 6 then inlineOk w
  else if e = 7 then false
  else anvilOk w

/-- Check 3 of R63: reserved fields, engine, opcode, wait, signal and operands. -/
def State.wordOk (s : State) (p t w : Nat) : Bool :=
  bits w 15 14 == 0 && bits w 31 27 == 0 && bits w 79 75 == 0 && waitOk w && sigOk w && s.operandsOk p t w

/-- Check 4 of R63: SIG_TILE is this tile, or an owned logical tile that a usable physical tile serves. -/
def State.sigTileOk (s : State) (p w : Nat) : Bool :=
  let d := wSigTile w
  d == 0xFFFF || (decide (d < 2048) && (s.part p).ownsTile d && s.physUsable (s.physOf d))

/-- A routine number that the running library does not define (R63, R71): beyond ID_LIBRARY's ROUTINE_COUNT, or beyond the
sixteen of library major version 1. -/
def State.routineUnknown (s : State) (r : Nat) : Bool :=
  decide (s.fld ID_LIBRARY ID_LIBRARY_ROUTINE_COUNT ≤ r) || decide (16 ≤ r)

/-- A routine that streams may not call: SELFTEST_SLICE and SLICE_SWITCH (R71). -/
def routineDenied (r : Nat) : Bool := r == 0x0C || r == 0x0D

/-- The status of the entry check: OK, or the first failing check's (R63). -/
def State.entryCheck (s : State) (p t w : Nat) : Nat :=
  let e := wEngine w
  if 8 ≤ e ∧ s.anvilPresent (e - 8) = false then stEngineAbsent
  else if (e ≤ 4 ∧ bit (s.recordOf t) e = true) ∨ (8 ≤ e ∧ bit s.spares.anvil (e - 8) = true) then stUnitFenced
  else if s.wordOk p t w = false then stBadCommand
  else if s.sigTileOk p w = false then stSignalRange
  else if e = 6 ∧ wOpcode w = 2 ∧ s.routineUnknown (callRoutine w) = true then stRoutineUnknown
  else if e = 6 ∧ wOpcode w = 2 ∧ routineDenied (callRoutine w) = true then stRoutineDenied
  else stOk

end Sys2Proof.Machine
end

