-- ==== Sys2Proof/Machine/Tiles.lean ====
section
/-! DEFINITION. The control core of a tile: launches, fetch, issue, completion, in-line commands, RESUME and FLUSH, remote
signals and route deliveries (03_tiles_and_commands.md R54 to R85), and the frame that the library's routines run in (R70). -/
namespace Sys2Proof.Machine

/-- A write to a TC_, ME_ or VU_ register of a tile is accepted from the owner's kernel context or the library (R21). -/
def State.tileWriter (s : State) (ctx : Ctx) (t : Nat) : Bool :=
  match ctx with
  | .library => true
  | .kernel p => s.tileOwner t == some p.val
  | _ => false

/-! ## Launches (R57 to R59) -/

/-- The cluster of a tile in its partition's active image (R32). -/
def State.clusterOf (s : State) (p t : Nat) : Option Cluster :=
  match (s.part p).active with
  | none => none
  | some img => img.clusters.find? (fun c => (clusterTiles c).contains t)

/-- The local index of a tile in its cluster (R58). -/
def localIndex (c : Cluster) (t : Nat) : Nat := (tileRow t - c.row0) * c.cols + (tileCol t - c.col0)

/-- A launch descriptor violates a condition of R57, its COMPLETION_QUEUE apart. -/
def descriptorBad (b : List Byte) : Bool :=
  fieldAt b 6 2 != 0 || fieldAt b 0 6 % 32 != 0 || fieldAt b 8 4 % 32 != 0 || !(inRange (fieldAt b 12 4) 1 1048575) ||
  fieldAt b 0x16 1 / 2 != 0 || fieldAt b 0x17 1 != 0 || fieldAt b 0x1E 34 != 0

/-- A launch descriptor read from its 64 bytes (R57). -/
def launchOf (id priv : Nat) (b : List Byte) : Launch :=
  { id := id, base := fieldAt b 0 6, stride := fieldAt b 8 4, words := fieldAt b 12 4, seq := fieldAt b 0x10 4
    cq := fieldAt b 0x14 2, doneRecord := bit (fieldAt b 0x16 1) 0, step := fieldAt b 0x18 4, mb := fieldAt b 0x1C 2
    priv := priv, malformed := descriptorBad b }

/-- A control core has a free launch buffer (R59). -/
def TileSt.bufferFree (x : TileSt) : Bool := x.launch.isNone || x.next.isNone

/-- A launch reaches a control core: it runs at once, or is buffered (R59). -/
def TileSt.take (x : TileSt) (l : Launch) : TileSt :=
  match x.launch with
  | none => { x with launch := some l, wordIx := 0 }
  | some _ => { x with next := some l }

/-- A descriptor delivered to a cluster: every control core takes it, and the launch's end is awaited (R57, R59). -/
def State.deliver (s : State) (p : Nat) (c : Cluster) (l : Launch) : State :=
  let tiles := clusterTiles c
  let s := tiles.foldl (fun s t => s.setTile t ((s.tile t).take l)) s
  if l.malformed then s
  else
    let ps := s.part p
    s.setPart p { ps with tracks := ps.tracks ++ [⟨l, p, c.id, c.die, tiles.headD 0, tiles, false⟩], step := some l.step }

/-- A partition's image is sliced (R81). -/
def State.sliced (s : State) (p : Nat) : Bool := decide (1 < s.fld (SI_STATUS p) SI_STATUS_SLICE)

/-- The slot of a cluster: that of its lowest tile (R80). -/
def PartSt.slotOf (ps : PartSt) (c : Cluster) : Nat := sget (fun _ => 256) ps.slots ((clusterTiles c).headD 0)

/-- The clusters of a partition that a queue feeds and that are resident (R81, R233). -/
def State.entryClusters (s : State) (p d q : Nat) : List Cluster :=
  match (s.part p).active with
  | none => []
  | some img => img.clusters.filter (fun c => c.die == d && c.entryQueue == q &&
      (!s.sliced p || (s.part p).slotOf c == (s.part p).resident))

/-- Any cluster of the partition names the queue as its ENTRY_QUEUE. -/
def State.namesEntry (s : State) (p d q : Nat) : Bool :=
  match (s.part p).active with
  | none => false
  | some img => img.clusters.any (fun c => c.die == d && c.entryQueue == q)

/-- The level of a launch: USER where a user context's doorbell made its entry available (16 R385). -/
def QueueSt.level (x : QueueSt) : Nat := if x.userSlots.contains x.cons then 2 else 1

/-- A queue's consumer count advanced by one. -/
def State.consume (s : State) (d q : Nat) : State :=
  let x := s.queue d q
  (s.noteCounts d q).setQueue d q { x with cons := (x.cons + 1) % 2 ^ 32, userSlots := x.userSlots.filter (fun i => i != x.cons) }

/-- A sliced partition starts a launch only in slot 0, with no launch unfinished: one launch at a time runs across all its entry queues, and none
is buffered. R81 does not say how its launches follow one another; the choice is the model's (log entry 19). -/
def State.sliceReady (s : State) (p : Nat) : Bool :=
  !s.sliced p || ((s.part p).resident == 0 && (s.part p).tracks.isEmpty && (s.part p).sliceLaunch.isEmpty)

/-- The first region of the clusters that a queue feeds that is not ON: a launch for it waits at the hub (17 R411). -/
def State.entryOff (s : State) (p d q : Nat) : Option Nat :=
  ((s.entryClusters p d q).flatMap clusterTiles).findSome? (fun t => if s.domOn (s.servRegion t) then none else some (s.servRegion t))

/-- The hub may deliver the head of a COMMAND queue once the clusters' regions are ON (R233, R236, 14 R354): its hub half is ON, enabled with 64-byte
entries, owned by a partition whose clusters name it, not empty, every control core with a free buffer, the LAUNCH_DONE source with a free place. -/
def State.mayDeliver (s : State) (d q : Nat) : Option Nat :=
  let x := s.queue d q
  match s.queueOwner d q with
  | none => none
  | some p =>
    if s.domOn (100 + d) && x.enabled && x.ty == 0 && x.entryBytes == 64 && decide (0 < s.entriesSeen d q) && s.namesEntry p d q &&
       !(s.part p).noDeliver && !s.stopHolds (some p) && s.sliceReady p && decide ((s.heldRecs d 8192).length < 4) &&
       (s.entryClusters p d q).all (fun c => (clusterTiles c).all (fun t => (s.tile t).bufferFree && !s.tileInReset t))
    then some p else none

/-- The hub may deliver the head of a COMMAND queue now. -/
def State.deliverable (s : State) (d q : Nat) : Option Nat :=
  match s.mayDeliver d q with
  | some p => if (s.entryOff p d q).isNone then some p else none
  | none => none

/-- The number of a queue among the module's queues. -/
def queueNo (d q : Nat) : Nat := d * 16384 + q

/-- LAUNCH_DELIVERY (R59, R233): the launch descriptor at the head of an entry queue goes to every control core of the
clusters that name the queue; one that cannot be read is consumed, and nothing is delivered. -/
def execLaunchDelivery (d q : Nat) (s : State) : Res :=
  match s.deliverable d q, s.mayDeliver d q with
  | none, some p => .next (match s.entryOff p d q with | some r => s.holdWork (0x100000 + queueNo d q) r | none => s)
  | none, none => .next s
  | some p, _ =>
    let x := s.queue d q
    let a := x.slot x.cons
    if s.memOn a 64 = false then .next (s.holdAccess (0x10000 + d) a)
    else
      match s.firstBad a 64 with
      | some u => .next ((s.ueMet 2 u ⟨6, d, 0, some p, some x.level⟩).consume d q)
      | none =>
        let b := s.readBytes a 64
        let l := launchOf s.launchNo x.level b
        let s1 := { (s.lcRead a 64 { priv := some x.level, part := some p, master := some 6 }).consume d q with launchNo := s.launchNo + 1 }
        let s2 := if s.sliced p then
            let ps := s1.part p
            s1.setPart p { ps with sliceLaunch := sset (fun _ => []) ps.sliceLaunch (queueNo d q) (b ++ [BitVec.ofNat 8 x.level]) }
          else s1
        .next ((s.entryClusters p d q).foldl (fun s c => s.deliver p c l) s2)

/-! ## Fetch and issue (R55, R58, R63) -/

/-- The control core runs: its clock runs, queue 6 is not stopped, and queue 6 has a free holding place (R77, R236). -/
def State.coreRuns (s : State) (t : Nat) : Bool := s.queueRuns t 6

/-- The command that a word of a launch makes (R57, R60). -/
def Launch.cmd (l : Launch) (p i : Nat) (w : CmdWord) : Cmd :=
  { word := w, index := i, launch := l.id, seq := l.seq, step := l.step, mb := l.mb, cq := l.cq, part := p, priv := l.priv }

/-- A control core that has issued its last word begins the buffered launch at once (R59); the end of the one before is looked at. A fault
on a launch's last word makes the buffered launch the current one too, while queue 6 is stopped, so that a FLUSH then abandons that launch: R78 does
not say which is current there; the choice is the model's (log entry 53). -/
def State.nextLaunch (s : State) (t : Nat) : State :=
  let x := s.tile t
  match x.launch with
  | none => s
  | some l =>
    if x.wordIx < l.words ∧ l.malformed = false then s
    else (s.setTile t { x with launch := x.next, next := none, wordIx := 0, fetched := none }).checkFinished t l.id false

/-- The word in hand has been issued. -/
def State.wordDone (s : State) (t : Nat) : State :=
  let x := s.tile t
  s.setTile t { x with fetched := none, wordIx := x.wordIx + 1 }

/-- An in-line command, or the control core itself, ends with a status (R69, R77): a stopping one stops queue 6. -/
def State.endInline (s : State) (t : Nat) (c : Cmd) (status addr detail : Nat) (wrote : List (Nat × Nat)) : State :=
  let s := if isStopping status then s.stopQueue t 6 c status addr else s
  let s := s.setTile t { s.tile t with inl := none, started6 := false, routine := none }
  (s.complete t ⟨6, c, status, addr, detail, wrote, s.zt⟩).nextLaunch t

/-- A fetch fails (R58): queue 6 stops with ACCESS_FAULT or DATA_FAULT; the word is not fetched again (R78). -/
def State.fetchFault (s : State) (t p : Nat) (l : Launch) (status addr : Nat) : State :=
  let i := (s.tile t).wordIx
  (s.wordDone t).endInline t (l.cmd p i 0) status addr addr []

/-- The address of a tile's next command word (R58). -/
def State.fetchAddr (s : State) (t p : Nat) (l : Launch) : Nat :=
  let li := match s.clusterOf p t with | some c => localIndex c t | none => 0
  l.base + li * l.stride + (s.tile t).wordIx * 32

/-- COMMAND_FETCH (R58): the control core fetches the next word of its stream; a malformed launch gives its BAD_COMMAND
record and ends (R57). -/
def execCommandFetch (t : Nat) (s : State) : Res :=
  let x := s.tile t
  match x.launch, s.tileOwner t with
  | some l, some p =>
    if s.coreRuns t = false ∨ x.inl.isSome ∨ x.fetched.isSome then .next s
    else if l.malformed then
      let c : Cmd := { l.cmd p 0xFFFFF 0 with launch := l.id }
      .next ((s.complete t ⟨6, c, stBadCommand, 0, 0, [], s.zt⟩).nextLaunch t)
    else if l.words ≤ x.wordIx then .next s
    else
      let a := s.fetchAddr t p l
      match s.firstUnowned p a 32 with
      | some u => .next (s.fetchFault t p l stAccessFault u)
      | none =>
        if s.memOn a 32 = false then .next (s.holdAccess (waiter t 6) a)
        else
          match s.firstBad a 32 with
          | some u => .next ((s.ueMet 2 u ⟨0, t, 0, some p, some l.priv⟩).fetchFault t p l stDataFault (errUnit u))
          | none =>
            let s := s.lcRead a 32 { priv := some l.priv, part := some p, master := some 0 }
            .next (s.setTile t { s.tile t with fetched := some (BitVec.ofNat 256 (s.readNat a 32)) })
  | _, _ => .next s

/-- The TC_REFUSALS field of a refusal (R84). -/
def refusalField (status : Nat) : Fld :=
  if status = stEngineAbsent then TC_REFUSALS_ABSENT else if status = stUnitFenced then TC_REFUSALS_FENCED
  else if status = stBadCommand then TC_REFUSALS_BAD_COMMAND else TC_REFUSALS_OTHER

/-- The control core has issued a word in a cycle; where no routine issued it, the cycle's slot of queue 6 is taken by it (R55, 16 R387). -/
def TileSt.issued (x : TileSt) (c : Cmd) (cycle : Nat) : TileSt :=
  { x with wordAt := cycle + 1, slotTaken := if c.rix.isNone then cycle + 1 else x.slotTaken }

/-- A refused command (R63): counted, REFUSAL set, its record written by queue 6; it has no other effect. -/
def State.refuse (s : State) (t : Nat) (c : Cmd) (status : Nat) : State :=
  let s := (s.addFld (TC_REFUSALS t) (refusalField status) 1).tcFault t TC_FAULT_REFUSAL
  let s := s.count 0 t 0x02 1 c.attr
  let s := if c.rix.isNone then s.count 0 t 0x1E 1 c.attr else s
  let s := s.offer (tileDie t) (sourceIx t 6) ⟨c.cq, c.part, recordBytes t 6 status (wLayerOp c.w) s.zt c.seq c.index 0, c.priv⟩
  let s := s.trace (c.traceRec t 6 3 status)
  s.setTile t (((s.tile t).noteRoutine c status).issued c (s.cycle t))

/-- Commands that a queue holds: for queue 7, waiting or outstanding (R54, R175). -/
def TileSt.held (x : TileSt) (q : Nat) : Nat :=
  (x.queue q).length + (if q = 7 then x.outstanding.length else 0)

/-- A command placed into its queue; the control core's slot is RETIRED where no running CALL takes it (R55, 16 R387). -/
def State.place (s : State) (t q : Nat) (c : Cmd) : State :=
  let x := s.tile t
  let s := s.setTile t ((x.setQueue q (x.queue q ++ [c])).issued c (s.cycle t))
  if c.rix.isNone then s.count 0 t 0x16 1 c.attr else s

/-- COMMAND_ISSUE (R55, R63): the control core checks the word in hand, one in a cycle at most; it refuses it, begins it in line, places it in its
queue, or stalls while that queue is full. -/
def execCommandIssue (t : Nat) (s : State) : Res :=
  let x := s.tile t
  match x.launch, x.fetched, s.tileOwner t with
  | some l, some w, some p =>
    if s.coreRuns t = false ∨ x.inl.isSome ∨ x.wordAt = s.cycle t + 1 then .next s
    else
      let c := l.cmd p x.wordIx w
      let st := s.entryCheck p t w.toNat
      if st ≠ stOk then .next (((s.wordDone t).refuse t c st).nextLaunch t)
      else if wEngine c.w = 6 then
        let s := s.wordDone t
        .next (s.setTile t { s.tile t with inl := some c, started6 := false, wordAt := s.cycle t + 1 })
      else if 16 ≤ x.held (engineQueue (wEngine c.w)) then .next s
      else .next (((s.wordDone t).place t (engineQueue (wEngine c.w)) c).nextLaunch t)
  | _, _, _ => .next s

/-! ## Completion (R67, R77) -/

/-- An ended command needs no record: OK and NOTIFY clear (R236). -/
def Ended.silent (e : Ended) : Bool := e.status == stOk && !wNotify e.cmd.w

/-- COMPLETION (R77): the oldest ended command of a queue completes, where its record finds a holding place (R236); commands that ended in one cycle
and trigger one watch do so in the order of their tiles and queues (16 R400). -/
def execCompletion (t q : Nat) (s : State) : Res :=
  let x := s.tile t
  match x.ended.find? (fun e => e.q == q) with
  | none => .next s
  | some e =>
    if s.tileRuns t ∧ (e.silent = true ∨ s.placeFree t q = true) ∧ s.watchAhead t e = false then
      .next ((s.setTile t { x with ended := x.ended.erase e }).complete t e)
    else .next s

/-! ## In-line commands (R69) -/

/-- The in-line command, if it has the opcode and its wait holds (or it has started already). -/
def State.inlineHead (s : State) (t op : Nat) : Option Cmd :=
  let x := s.tile t
  match x.inl with
  | none => none
  | some c => if wOpcode c.w = op ∧ s.coreRuns t = true ∧ (x.started6 = true ∨ s.waitHolds t c = true) then some c else none

/-- The in-line command starts, once: its wait take is made, its start traced (R65, 16 R394). -/
def State.startInline (s : State) (t : Nat) (c : Cmd) : State :=
  if (s.tile t).started6 then s
  else
    let s := ((s.slotStart t 6 c).takeWait t c).trace (c.traceRec t 6 1 0)
    s.setTile t { s.tile t with started6 := true }

/-- SYNC (R69): waits, then applies its signal. -/
def execSync (t : Nat) (s : State) : Res :=
  match s.inlineHead t 0 with
  | none => .next s
  | some c => .next ((s.startInline t c).endInline t c stOk 0 0 [])

/-- Every command that a tile issued earlier has completed, and its Halo counts have been applied (R69, 08 R197). -/
def State.drained (s : State) (t : Nat) : Bool :=
  let x := s.tile t
  (x.queues.map (·.2)).flatten.isEmpty && x.mes.all (fun m => m.2.inFlight.isEmpty) && x.outstanding.isEmpty &&
  x.ended.isEmpty && s.haloDone t

/-- FENCE (R69): waits, then stalls until every earlier command of the tile has completed. -/
def execFence (t : Nat) (s : State) : Res :=
  match s.inlineHead t 1 with
  | none => .next s
  | some c =>
    let s := s.startInline t c
    if s.drained t then .next (s.endInline t c stOk 0 0 []) else .next s

/-- STAMP (R69): waits, then writes the Zenith time to its address. -/
def execStamp (t : Nat) (s : State) : Res :=
  match s.inlineHead t 3 with
  | none => .next s
  | some c =>
    let a := stampAddr c.w
    let s := s.startInline t c
    match s.firstUnowned c.part a 8 with
    | some u => .next (s.endInline t c stAccessFault u u [])
    | none =>
      if s.memOn a 8 = false then .next (s.holdAccess (waiter t 6) a)
      else
        match s.inFailed a, s.store a (leBytes 8 s.zt) (c.master 0 t) with
        | true, _ => .next (s.endInline t c stDataFault a a [])
        | false, (s, some u) => .next (s.endInline t c stDataFault u u [])
        | false, (s, none) => .next ((s.hbWrite a 8 { c.attr with master := some 0 }).endInline t c stOk 0 0 [(a, 8)])

/-! ## Routines (R70) -/

/-- A routine's argument fault and failing command: DETAIL as R189 and R70 lay it out. -/
def routineDetail (code index status : Nat) : Nat := code % 256 + index % 2 ^ 24 * 2 ^ 8 + status % 256 * 2 ^ 32

/-- A CALL returns (R70): its signal is applied where the status is OK. -/
def State.returnCall (s : State) (t : Nat) (c : Cmd) (status addr detail : Nat) : State :=
  s.endInline t c status addr detail []

/-- A CALL returns OK. -/
def State.returnOk (s : State) (t : Nat) (c : Cmd) (detail : Nat) : State := s.returnCall t c stOk 0 detail

/-- A CALL returns ROUTINE_FAULT with a code and an index. -/
def State.returnFault (s : State) (t : Nat) (c : Cmd) (code index : Nat) : State :=
  s.returnCall t c stRoutineFault 0 (routineDetail code index 0)

/-- The in-line CALL of a routine, not entered yet, whose wait holds. -/
def State.callHead (s : State) (t r : Nat) : Option Cmd :=
  match s.inlineHead t 2 with
  | none => none
  | some c => if callRoutine c.w = r ∧ (s.tile t).routine.isNone then some c else none

/-- The CALL of a routine that runs, where the control core may execute (10 R236). -/
def State.running (s : State) (t r : Nat) : Option (Cmd × Routine) :=
  let x := s.tile t
  match x.inl, x.routine with
  | some c, some k => if k.number = r ∧ s.tileRuns t = true ∧ s.placeFree t 6 = true then some (c, k) else none
  | _, _ => none

/-- A routine begins: its number and what it keeps of its arguments. -/
def State.beginRoutine (s : State) (t r : Nat) (vals : List Nat) : State :=
  let x := s.tile t
  s.setTile t { x with routine := some { number := r, inst := x.calls, vals := vals }, calls := x.calls + 1 }

/-- Entry of a CALL (R70): its argument block is checked against the owned set and read; a fault ends the CALL with nothing
issued; then the routine's own work follows with the block's bytes. -/
def State.enterCall (s : State) (t : Nat) (c : Cmd) (body : State → List Byte → State) : State :=
  let a := callAddr c.w
  let n := callLen c.w
  let s := s.startInline t c
  match s.firstUnowned c.part a n with
  | some u => s.returnCall t c stAccessFault u u
  | none =>
    if s.memOn a n = false then s.holdAccess (waiter t 6) a
    else
      match s.firstBad a n with
      | some u => (s.ueMet 2 u (c.master 0 t)).returnCall t c stDataFault (errUnit u) (errUnit u)
      | none => body (s.hbRead a n { c.attr with master := some 0 }) (s.readBytes a n)

/-- A routine's state replaced. -/
def State.setRoutine (s : State) (t : Nat) (k : Routine) : State := s.setTile t { s.tile t with routine := some k }

/-- A routine issues a command into a queue of its tile (R70): it carries the CALL's launch, LAYER_ID and OP_ID. -/
def State.issueFor (s : State) (t q : Nat) (c : Cmd) (ix : Nat) (w : Nat) : State :=
  match (s.tile t).routine with
  | none => s
  | some k =>
    let w := putBits (putBits w 131 112 (wLayer c.w)) 143 132 (wOp c.w)
    let x := s.tile t
    let k' := { k with issued := k.issued + 1 }
    let cmd := { c with word := BitVec.ofNat 256 w, rix := some ix, rin := k.inst }
    s.setTile t { x.setQueue q (x.queue q ++ [cmd]) with routine := some k' }

/-- A routine still waits for a command it issued: one that has started or is forwarded, or that waits in a queue that is
not stopped (R70). -/
def TileSt.awaits (x : TileSt) (k : Routine) : Bool :=
  let mine := fun (c : Cmd) => c.rix.isSome && c.rin == k.inst
  (x.queues.any (fun e => !x.isStopped e.1 && e.2.any mine)) || x.mes.any (fun m => m.2.inFlight.any mine) ||
  x.outstanding.any mine || x.ended.any (fun e => mine e.cmd)

/-- A routine whose issued command failed issues nothing more, waits for those it awaits, and returns ROUTINE_FAULT with code
COMMAND (R70); any other goes on as given. -/
def State.routineStep (s : State) (t : Nat) (c : Cmd) (k : Routine) (go : State → State) : State :=
  match k.failed with
  | none => go s
  | some (i, st) =>
    if (s.tile t).awaits k then s else s.returnCall t c stRoutineFault 0 (routineDetail 0x08 i st)

/-- The word of a tile-DMA FILL (R73) without wait or signal. -/
def fillWord (dst sectors pattern : Nat) : Nat :=
  0x02 + 5 * 2 ^ 8 + 0xFFFF * 2 ^ 80 + dst * 2 ^ 144 + sectors * 2 ^ 192 + pattern * 2 ^ 208

/-- The word of a tile-DMA COPY (R73) without wait or signal. -/
def copyWord (src dst sectors : Nat) : Nat :=
  0x01 + 5 * 2 ^ 8 + 0xFFFF * 2 ^ 80 + src * 2 ^ 144 + dst * 2 ^ 192 + sectors * 2 ^ 240

/-- NOOP (R71): returns the library version. -/
def execNoop (t : Nat) (s : State) : Res :=
  match s.callHead t 0 with
  | none => .next s
  | some c => .next (s.enterCall t c (fun s _ => s.returnOk t c (s.rd ID_LIBRARY % 2 ^ 48)))

/-- The ranges of a FILL block: address and length of each (R467). -/
def fillRanges (b : List Byte) (n : Nat) : List (Nat × Nat) :=
  (List.range n).map (fun i => (fieldAt b (16 + 16 * i) 8, fieldAt b (24 + 16 * i) 8))

/-- A range's own conditions (R467). -/
def fillRangeOk (r : Nat × Nat) : Bool := r.1 % 32 == 0 && decide (r.1 < 2 ^ 48) && r.2 % 32 == 0 && inRange r.2 32 (2 ^ 40)

/-- The FILL routine's step: range number `phase`, sector `pos` of it; vals: pattern, then address and length pairs. -/
def State.fillStep (s : State) (t : Nat) (c : Cmd) (k : Routine) : State :=
  let pat := k.vals.headD 0
  let a := k.vals.getD (1 + 2 * k.phase) 0
  let n := k.vals.getD (2 + 2 * k.phase) 0 / 32
  if k.vals.length ≤ 1 + 2 * k.phase then (if (s.tile t).awaits k then s else s.returnOk t c 0)
  else if n ≤ k.pos then s.setRoutine t { k with phase := k.phase + 1, pos := 0 }
  else if 16 ≤ (s.tile t).held 5 then s
  else
    let m := min (n - k.pos) 65535
    (s.setRoutine t { k with pos := k.pos + m }).issueFor t 5 c k.issued (fillWord (a + 32 * k.pos) m pat)

/-- FILL_ROUTINE (R467): checks the block and every range, then fills the ranges in list order with tile-DMA FILL commands,
one command at each step; it returns when they have completed. -/
def execFillRoutine (t : Nat) (s : State) : Res :=
  match s.callHead t 1, s.running t 1 with
  | some c, _ => .next (s.enterCall t c (fun s b =>
      let n := fieldAt b 4 4
      if inRange n 1 4093 = false ∨ callLen c.w ≠ 16 + 16 * n ∨ fieldAt b 8 8 ≠ 0 then s.returnFault t c 1 0
      else
        match (fillRanges b n).findIdx? (fun r => !(fillRangeOk r && s.owns c.part r.1 r.2)) with
        | some i => s.returnFault t c 1 i
        | none => s.beginRoutine t 1 (fieldAt b 0 4 :: ((fillRanges b n).map (fun r => [r.1, r.2])).flatten)))
  | none, some (c, k) => .next (s.routineStep t c k (fun s => s.fillStep t c k))
  | none, none => .next s

/-! ## RESUME and FLUSH (R78, R79) -/

/-- A stopped queue is restarted with the command after the faulting one. -/
def State.resumeQueue (s : State) (t q : Nat) : State :=
  let x := s.tile t
  s.setTile t { x with stopped := putBits x.stopped q q 0 }

/-- A tile abandons a launch (R57): the track of that launch in the tile's own cluster notes it. -/
def State.abandon (s : State) (t id : Nat) : State :=
  (List.range 8).foldl (fun s p =>
    let ps := s.part p
    if ps.tracks.any (fun k => k.launch.id == id && k.tiles.contains t) then
      s.setPart p { ps with
        tracks := ps.tracks.map (fun k => if k.launch.id == id && k.tiles.contains t then { k with abandoned := true } else k) }
    else s) s

/-- The rest of the running launch is abandoned; the buffered one begins (R78). -/
def State.abandonRunning (s : State) (t : Nat) : State :=
  let x := s.tile t
  match x.launch with
  | none => s
  | some l =>
    ((s.abandon t l.id).setTile t { x with launch := x.next, next := none, wordIx := 0, fetched := none }).checkFinished t l.id true

/-- A stopped queue is flushed (R78): what is left in it ends with QUEUE_FLUSHED; queue 6 abandons the launch. -/
def State.flushQueue (s : State) (t q : Nat) : State :=
  let cmds := (s.tile t).queue q
  let s := s.setTile t ((s.tile t).setQueue q [])
  let s := cmds.foldl (fun s c => s.endCmd t q c stFlushed 0 0) s
  (if q = 6 then s.abandonRunning t else s).resumeQueue t q

/-- The queues of a tile that a mask names and that are stopped. -/
def TileSt.stoppedOf (x : TileSt) (mask : Nat) : List Nat := (List.range 8).filter (fun q => bit mask q && x.isStopped q)

/-- RESUME and FLUSH bits act on the stopped queues they name; FLUSH wins (R78). -/
def State.queueCtrl (s : State) (t resume flush : Nat) : State :=
  let x := s.tile t
  let s := (x.stoppedOf flush).foldl (fun s q => s.flushQueue t q) s
  ((x.stoppedOf resume).filter (fun q => !bit flush q)).foldl (fun s q => s.resumeQueue t q) s

/-- A tile that its sliced image holds out of residence (R81). -/
def State.slicedOut (s : State) (t : Nat) : Bool :=
  match s.tileOwner t with
  | some p => s.sliced p && sget (fun _ => (s.part p).resident) (s.part p).slots t != (s.part p).resident
  | none => false

/-- A write of TC_QCTRL acts: its context may write the tile's registers, and the tile is resident (R21, R81). -/
def State.queueWriter (s : State) (ctx : Ctx) (t : Nat) : Bool := s.tileWriter ctx t && !s.slicedOut t

/-- RESUME (R78): a write of TC_QCTRL with RESUME bits. -/
def execResume (ctx : Ctx) (t : Nat) (mask : BitVec 8) (s : State) : Res :=
  if s.queueWriter ctx t then .next (s.queueCtrl t mask.toNat 0) else .next (s.accessError ctx (TC_QCTRL t))

/-- FLUSH (R78): a write of TC_QCTRL with FLUSH bits. -/
def execFlush (ctx : Ctx) (t : Nat) (mask : BitVec 8) (s : State) : Res :=
  if s.queueWriter ctx t then .next (s.queueCtrl t 0 mask.toNat) else .next (s.accessError ctx (TC_QCTRL t))

/-- ENGINE_RECOVER (R468): the value acts on the calling tile's queues as a write of TC_QCTRL; bit 6 never acts, since queue 6
runs the routine. -/
def execEngineRecover (t : Nat) (s : State) : Res :=
  match s.callHead t 0x0F with
  | none => .next s
  | some c => .next (s.enterCall t c (fun s b =>
      let v := fieldAt b 0 8
      if callLen c.w ≠ 8 ∨ v / 2 ^ 16 ≠ 0 then s.returnFault t c 1 0
      else
        let acted := (s.tile t).stoppedOf (v % 256 ||| v / 256 % 256)
        (s.queueCtrl t (v % 256) (v / 256 % 256)).returnOk t c (acted.foldl (fun n q => n + 2 ^ q) 0)))

/-! ## Signals and routes (R66, R74) -/

/-- A tile's region does no work: its domain is not ON, or a stop holds it (17 R411, 14 R354). What waits for a domain is counted
once. -/
def State.meshWaits (s : State) (who t : Nat) : Option State :=
  if !s.domOn (s.servRegion t) then some (s.holdWork who (s.servRegion t))
  else if s.stopHolds (s.tileOwner t) then some s
  else none

/-- REMOTE_SIGNAL (R66): the oldest update on its way from a source to a tile is applied; at an absent tile it has no effect. -/
def execRemoteSignal (src dst : Nat) (s : State) : Res :=
  match s.sigNet.find? (fun g => g.src == src && g.dst == dst) with
  | none => .next s
  | some g =>
    if !s.tilePresent dst then .next { s with sigNet := s.sigNet.erase g }
    else
      match s.meshWaits (0x40000 + src) dst with
      | some s => .next s
      | none =>
        let s1 := ({ s with sigNet := s.sigNet.erase g }).applyUpdate dst g.obj g.op g.value
        .next (s1.count 0 dst 0x05 1 { part := s.tileOwner dst })

/-- The entries of a stream route on their way, and in its stream queue (R34). -/
def PartSt.transitOf (ps : PartSt) (r : Nat) : List (List Byte) := sget (fun _ => []) ps.transit r
def PartSt.streamOf (ps : PartSt) (r : Nat) : List (List Byte) := sget (fun _ => []) ps.streams r

/-- ROUTE_DELIVERY (R34): a route's next entry reaches its stream queue and increments the destination's counter. -/
def execRouteDelivery (p : Nat) (route : BitVec 16) (s : State) : Res :=
  let r := route.toNat
  let ps := s.part p
  match s.findRoute p r, ps.transitOf r with
  | some k, e :: rest =>
    match s.meshWaits (0x80000 + r) k.dst with
    | some s => .next s
    | none =>
    let ps1 := { ps with transit := sset (fun _ => []) ps.transit r rest, streams := sset (fun _ => []) ps.streams r (ps.streamOf r ++ [e]) }
    .next ((s.setPart p ps1).applyUpdate k.dst (128 + k.dstCounter) 3 1)
  | _, _ => .next s

/-! ## Reset of a tile (R85, R109, 07 R170, 08 R200, 10 R240) -/

/-- A command in flight ends with TILE_RESET; one that a stopping fault ended keeps its status. -/
def Ended.reset (e : Ended) : Ended := if isStopping e.status then e else { e with status := stTileReset, addr := 0, detail := 0, wrote := [] }

/-- The queued and running commands of a tile end with TILE_RESET (R85); outstanding Anvil commands run on (08 R200). -/
def TileSt.endAll (x : TileSt) : TileSt :=
  let ends := fun (q : Nat) (l : List Cmd) => l.map (fun c => (⟨q, c, stTileReset, 0, 0, [], 0⟩ : Ended))
  let queued := (x.queues.map (fun e => ends e.1 e.2)).flatten
  let flying := (x.mes.map (fun m => ends m.1 ((sortRuns m.2.runs).map (·.2.1)))).flatten
  { x with ended := x.ended.map Ended.reset ++ flying ++ queued ++ ends 6 x.inl.toList
           queues := [], mes := [], inl := none, started6 := false, routine := none, moved := none
           outstanding := x.outstanding.map (fun c => { c with dead := true }) }

/-- The sync objects of a tile zeroed (R64). -/
def State.zeroSync (s : State) (t : Nat) : State :=
  let s := (s.wr (TC_FLAGS0 t) 0).wr (TC_FLAGS1 t) 0
  { s with regs := s.regs.filter (fun r => !(decide (TC_COUNTER t 0 ≤ r.1) && decide (r.1 ≤ TC_COUNTER t 127)))
           sync := serase s.sync t }

/-- The matrix-engine registers of a tile after a reset (R109): the event counts go only at wider levels. -/
def State.resetMeRegs (s : State) (t : Nat) (wide : Bool) : State :=
  (List.range 4).foldl (fun s e =>
    let s := (s.wr (ME_FAULT t e) 0).wr (ME_FAULT_DETAIL t e) 0
    if wide then s.wr (ME_FAULT_EVENTS t e) 0 else s) s

/-- The control-core registers of a tile after a reset (R85). -/
def State.resetTcRegs (s : State) (t : Nat) (wide : Bool) : State :=
  let s := (List.range 8).foldl (fun s q => s.wr (TC_FAULT_INFO t q) 0) ((s.wr (TC_FAULT t) 0).wr (TC_FAULT_ADDR t) 0)
  if wide then (s.wr (TC_FAULT_EVENTS t) 0).wr (TC_REFUSALS t) 0 else s

/-- The launches that a tile holds. -/
def TileSt.launches (x : TileSt) : List Nat := (x.launch.toList ++ x.next.toList).map (·.id)

/-- A reset reaches a tile (R85): every command ends with TILE_RESET, its launches are abandoned, its sync objects, engines,
exact-sum register and fault registers are cleared; tile SRAM stays. -/
def State.resetTile (s : State) (t : Nat) (wide : Bool) : State :=
  let x := s.tile t
  let s := x.launches.foldl (fun s id => s.abandon t id) s
  let s := s.setTile t { x.endAll with launch := none, next := none, wordIx := 0, fetched := none, stopped := 0, xsr := {}, vuPend := none }
  let s := ((s.zeroSync t).resetTcRegs t wide).resetMeRegs t wide
  x.launches.foldl (fun s id => s.checkFinished t id true) s

end Sys2Proof.Machine
end

