-- ==== Sys2Proof/Machine/Power.lean ====
section
/-! DEFINITION. Votes and targets of the power domains (17_power_domains.md R403 to R410), which Anvil unit serves which stack
(08 R173, R196), and the marks and flushes of a fence (15 R365, R366). -/
namespace Sys2Proof.Machine

/-! ## Which unit serves which stack (08 R173) -/

/-- The stacks that an Anvil unit serves, as a mask: its own, and on the -T grade its paired absent unit's. -/
def Fuses.serves (f : Fuses) (u : Nat) : Nat :=
  if !bit f.anvilMask u then 0
  else if f.grade = 0 then 2 ^ u
  else
    let die := (List.range 4).map (fun k => u / 4 * 4 + k)
    let present := die.filter (fun k => bit f.anvilMask k)
    let absent := die.filter (fun k => !bit f.anvilMask k)
    match absent[present.findIdx (· == u)]? with
    | some a => 2 ^ u + 2 ^ a
    | none => 2 ^ u

/-- An Anvil unit is present and usable in the spares map. -/
def State.anvilUsable (s : State) (u : Nat) : Bool := s.anvilPresent u && !bit s.spares.anvil u

/-- The unit that applies Halo messages for a stack: the one that serves it, or the lowest usable one of its die (R196). -/
def State.haloUnit (s : State) (stack : Nat) : Option Nat :=
  match (List.range 8).find? (fun u => s.anvilUsable u && bit (s.fuses.serves u) stack) with
  | some u => some u
  | none => (List.range 8).find? (fun u => s.anvilUsable u && u / 4 == stack / 4)

/-- The usable unit that serves a stack in its own set (R173). -/
def State.servingUnit (s : State) (stack : Nat) : Option Nat :=
  (List.range 8).find? (fun u => s.anvilUsable u && bit (s.fuses.serves u) stack)

/-! ## Targets (R408) -/

/-- A queue of a die has ENABLE set. -/
def State.dieQueueOn (s : State) (d : Nat) : Bool := s.queues.any (fun e => e.1 / 16384 == d && e.2.enabled)

/-- A ring of a collective engine has ENABLE set. -/
def State.ceRingOn (s : State) (n : Nat) : Bool := (List.range 8).any (fun p => s.flag (CE_RING n p) CE_RING_ENABLE)

/-- The floor of a domain: 0 NONE, 1 RETAIN, 2 ON. A halted module keeps every domain off (19 R444). -/
def State.domFloor (s : State) (i : Nat) : Nat :=
  if s.fld SI_START SI_START_PHASE = 8 then 0
  else if i = 82 then 1
  else if i = 100 ∨ i = 101 then (if s.dieQueueOn (i - 100) then 2 else 0)
  else if 92 ≤ i ∧ i < 100 then (if s.ceRingOn (i - 92) then 2 else 0)
  else 0

/-- A domain's TARGET as its register shows it. -/
def State.domTarget (s : State) (i : Nat) : Nat := s.fld (PD_DOM i) PD_DOM_TARGET

/-- The DEP level of a domain: a bank group's is its region's TARGET; an HBM PHY's is ON while a unit that serves its stack
has TARGET ON. -/
def State.domDep (s : State) (i : Nat) : Nat :=
  if 32 ≤ i ∧ i < 64 then s.domTarget (i - 32)
  else if 64 ≤ i ∧ i < 72 then
    (if (List.range 8).any (fun u => bit (s.fuses.serves u) (i - 64) && s.domTarget (84 + u) == 2) then 2 else 0)
  else 0

/-- The state that a TARGET asks for: OFF 1, RETENTION 2, ON 3. -/
def targetState (t : Nat) : Nat := t + 1

/-- A port whose lanes come up begins DETECT where its plan expects a partner, no unverified Contrail module keeps its laser off, and
software has not disabled it: the failed-lane map is reset and a PORT_STATE event is posted (11 R260, R274, R276, R277). -/
def State.lanesUp (s : State) (n : Nat) : State :=
  let x := sget (fun _ => ({} : PortSt)) s.ports n
  let dark := match x.contrail with | some c => !c.ok | none => false
  if s.fld (KL_PLAN n) KL_PLAN_EXPECT = 0 ∨ dark = true ∨ x.disabled = true then s
  else
    let old := s.fld (KL_STATUS n) KL_STATUS_STATE
    let y := { x with back := none, recheck := false, retrainAfter := false, degRx := false, degTx := false, spareReq := none, degReq := none, since := s.zt }
    let s := { s with ports := sset (fun _ => {}) s.ports n y }
    let s := ((s.setFld (KL_LANES n) KL_LANES_FAILED_RX 0).setFld (KL_LANES n) KL_LANES_FAILED_TX 0).setFld (KL_STATUS n) KL_STATUS_STATE 1
    s.postEvent none (n % 2) 0x0110 0xFFFF (leBytes 1 n ++ leBytes 1 old ++ leBytes 1 1 ++ leBytes 1 (s.fld (KL_STATUS n) KL_STATUS_CAUSE) ++
      leBytes 1 (s.fld (KL_STATUS n) KL_STATUS_CHECK))

/-- What a domain's unit does as the domain begins to come up from OFF: a stack trains, a port detects, a UCIe module trains
(R406, 09 R211, 11 R260). -/
def State.powerUpHook (s : State) (i : Nat) : State :=
  if 64 ≤ i ∧ i < 72 then s.setFld (HB_STATUS (i - 64)) HB_STATUS_STATE 1
  else if 72 ≤ i ∧ i < 82 then s.lanesUp (i - 72)
  else if i = 82 ∨ i = 83 then s.setLink (i - 82) 1
  else s

/-- A domain begins a transition: what it leaves is kept until the transition ends (R406). -/
def State.beginMove (s : State) (i to_ : Nat) : State :=
  let old := s.domState i
  let s := { s with power := { s.power with moving := sset (fun _ => 0) s.power.moving i old } }
  s.setFld (PD_DOM i) PD_DOM_STATE (if to_ = 3 then 6 else if to_ = 2 then 5 else 4)

/-- A domain's fields are brought up to date with its votes, DEP and floor; a domain below its TARGET, or in RETENTION with a
TARGET of OFF, begins its transition; one that is ON waits for its quiescence (R406, R408). -/
def State.retarget (s : State) (i : Nat) : State :=
  if !s.domPresent i then s
  else
    let a := PD_DOM i
    let img := if sget (fun _ => 0) s.power.image i = 0 then 0 else 2
    let s := (((s.setFld a PD_DOM_IMAGE img).setFld a PD_DOM_DEP (s.domDep i)).setFld a PD_DOM_FLOOR (s.domFloor i))
    let votes := [s.fld a PD_DOM_HOST, s.fld a PD_DOM_LIB, s.fld a PD_DOM_WELKIN, img, s.domDep i, s.domFloor i]
    let t := votes.foldl max 0
    let s := s.setFld a PD_DOM_TARGET t
    if bit s.power.failed i then s
    else
      match s.domState i with
      | 1 => if 0 < t then (s.powerUpHook i).beginMove i 3 else s
      | 2 => if t = 2 then s.beginMove i 3 else if t = 0 then s.beginMove i 1 else s
      | _ => s

/-- Every domain, those that others depend on last (R408). -/
def State.retargetAll (s : State) : State :=
  ((List.range 32) ++ (List.range' 84 18) ++ (List.range' 72 12) ++ (List.range' 32 40)).foldl (fun s i => s.retarget i) s

/-- The image votes of a partition set on a list of domains or withdrawn from those that do not satisfy a test (R410). -/
def State.imageVote (s : State) (p : Nat) (doms : List Nat) : State :=
  ({ s with power := { s.power with image := doms.foldl (fun m i => sset (fun _ => 0) m i (putBits (sget (fun _ => 0) m i) p p 1)) s.power.image } }).retargetAll

def State.imageUnvote (s : State) (p : Nat) (keep : Nat → Bool) : State :=
  ({ s with power := { s.power with image := (List.range 102).foldl (fun m i =>
      if keep i then m else sset (fun _ => 0) m i (putBits (sget (fun _ => 0) m i) p p 0)) s.power.image } }).retargetAll

/-- The domains that an image's votes name (R410). -/
def State.imageDomains (s : State) (img : Image) (regions : Nat) : List Nat :=
  let ports := img.shares.map (·.port)
  let stack := fun (k : Nat) => img.hbm.any (fun r => r.2 != 0 && decide (r.1 * 0x40000000 < (k + 1) * stackBytes) &&
    decide (k * stackBytes < (r.1 + r.2) * 0x40000000))
  (List.range 32).filter (fun r => bit regions r) ++
  ((List.range 8).filter stack).map (64 + ·) ++
  ((List.range 8).filter (fun u => (List.range 8).any (fun k => stack k && bit (s.fuses.serves u) k))).map (84 + ·) ++
  ((List.range 10).filter (fun k => ports.contains k)).map (72 + ·) ++
  ((List.range 8).filter (fun n => ports.contains (2 * (n % 4)) || ports.contains (2 * (n % 4) + 1))).map (92 + ·) ++
  ((List.range 2).filter (fun d => (img.queues.getD d (0, 0)).2 != 0)).map (100 + ·)

/-- The writer's own vote field of PD_DOM (R407). -/
def voteField : Ctx → Option Fld
  | .module => some PD_DOM_HOST
  | .library => some PD_DOM_LIB
  | .welkin => some PD_DOM_WELKIN
  | _ => none

/-- A POWER_STATE event (R419). -/
def State.powerEvent (s : State) (i old new fail : Nat) : State :=
  s.postEvent none 0 0x0160 0xFFFF (leBytes 1 i ++ leBytes 1 old ++ leBytes 1 new ++ leBytes 1 fail)

/-! ## Fences (15 R365 to R368) -/

/-- An active image maps a logical tile, and where the image is sliced the tile is resident (R33, 03 R80, R81). -/
def State.mapped (s : State) (t : Nat) : Bool :=
  match s.tileOwner t with
  | none => false
  | some p => decide (s.fld (SI_STATUS p) SI_STATUS_SLICE ≤ 1) || sget (fun _ => 256) (s.part p).slots t == (s.part p).resident

/-- The logical tile that a physical tile serves at present, if an active image maps one to it (R366). -/
def State.servedBy (s : State) (n : Nat) : Option Nat :=
  (List.range 2048).find? (fun t => s.mapped t && s.physOf t == n)

/-- The partition whose active image maps a logical tile. -/
def State.mapsTile (s : State) (t : Option Nat) : Option Nat :=
  match t with | some t => s.tileOwner t | none => none

/-- Welkin writes the marks to flash (R367); whether the write fails is free (R368; log entry 1). -/
def State.recordMarks (s : State) : State :=
  let (v, s) := s.fresh
  if v % 2 = 0 then { s with welkin := { s.welkin with marks := s.spares } }
  else (s.sticky SI_SPARE_ERR SI_SPARE_ERR_FLASH SI_SPARE_EVENTS).sticky WK_ERR WK_ERR_FLASH WK_ERR_EVENTS

/-- A FENCE event, the sticky FENCE bit, and the mark's record (R366, R367). -/
def State.fenceEvent (s : State) (die row col unit bank cause : Nat) (logical : Option Nat) : State :=
  let s := (s.sticky SI_SPARE_ERR SI_SPARE_ERR_FENCE SI_SPARE_EVENTS).recordMarks
  s.postEvent (s.mapsTile logical) die 0x0150 0xFFFF
    (leBytes 1 die ++ leBytes 1 row ++ leBytes 1 col ++ leBytes 1 unit ++ leBytes 1 bank ++ leBytes 1 cause ++
     leBytes 2 (match logical with | some t => t | none => 0xFFFF))

/-- The record byte of a physical tile with a bit set. -/
def State.markTile (s : State) (n bitNo : Nat) : State :=
  { s with spares := { s.spares with tiles := sset (fun _ => 0) s.spares.tiles n (putBits (s.tileRecord n) bitNo bitNo 1) } }

/-- What a fenced engine or vector unit of a tile holds ends with QUEUE_FLUSHED (R366): running commands in start order, then
the queue. -/
def State.flushUnit (s : State) (t q : Nat) : State :=
  let s := if q < 4 then
      let m := s.me t q
      (s.setMe t q { m with feeds := [], wload := none, conv := none, drain := none, store := none }).flushRuns t q m.runs
    else s
  let x := s.tile t
  let s := s.setTile t { x.setQueue q [] with ended := x.ended.map (fun e => if e.q = q ∧ isStopping e.status = false ∧ q = 4 then { e with status := stFlushed, detail := 0, wrote := [] } else e) }
  (x.queue q).foldl (fun s c => s.endCmd t q c stFlushed 0 0) s

/-- A unit of a physical tile is fenced (R366): unit 0 to 3 an engine, 4 the vector unit, 5 an SRAM bank, 6 the core. -/
def State.fenceTileUnit (s : State) (n unit bank cause : Nat) : State :=
  let served := s.servedBy n
  let s := s.markTile n unit
  let s := match served with
    | some t => if unit < 5 then s.flushUnit t unit else s
    | none => s
  s.fenceEvent (n / 1056) (n % 1056 / 33) (n % 33) unit bank cause served

/-- Two noted errors call for a fence together (R367): parity in one engine, or different lines of one tile SRAM bank. -/
def errorsRepeat (x y : Nat × Nat × Nat) : Bool :=
  x.1 == y.1 && (if x.1 = 0 then x.2.1 == y.2.1 else x.2.1 != y.2.1 && sramTile x.2.1 == sramTile y.2.1 && x.2.1 / 16 % 16 == y.2.1 / 16 % 16)

/-- The first noted error that a later one repeats. -/
def firstRepeat : List (Nat × Nat × Nat) → Option (Nat × Nat)
  | [] => none
  | x :: t => if t.any (errorsRepeat x) then some (x.1, x.2.1) else firstRepeat t

/-- Welkin fences what failed twice within 24 hours (R367); older notes are dropped. -/
def State.fenceSeen (s : State) : State :=
  if s.welkin.seen = [] then s
  else
    let live := s.welkin.seen.filter (fun x => decide (s.start.clock < x.2.2 + 86400000000000))
    match firstRepeat live with
    | none => { s with welkin := { s.welkin with seen := live } }
    | some (what, which) =>
      let n := if what = 0 then which / 4 else s.physOf (sramTile which)
      let unit := if what = 0 then which % 4 else 5
      let gone := fun (x : Nat × Nat × Nat) => x.1 == what && (if what = 0 then x.2.1 == which
        else sramTile x.2.1 == sramTile which && x.2.1 / 16 % 16 == which / 16 % 16)
      let s := { s with welkin := { s.welkin with seen := live.filter (fun x => !gone x) } }
      if bit (s.tileRecord n) unit then s else s.fenceTileUnit n unit (if what = 0 then 0 else which / 16 % 16) (what + 1)

/-- A forwarded Anvil command is reported to its tile: it leaves queue 7, with TILE_RESET where its tile was reset since
(08 R175, R200). -/
def State.anvilReport (s : State) (t : Nat) (c : Cmd) (status addr : Nat) (wrote : List (Nat × Nat)) : State :=
  let x := s.tile t
  match x.outstanding.find? (fun o => o.fwd == c.fwd) with
  | none => s
  | some o =>
    let s := s.setTile t { x with outstanding := x.outstanding.filter (fun o => o.fwd != c.fwd) }
    if o.dead then s.endCmd t 7 o stTileReset 0 0
    else if status = stOk then s.endOk t 7 o 0 wrote
    else s.endCmd t 7 o status addr addr

/-- An Anvil unit's input. -/
def State.anvil (s : State) (u : Nat) : AnvilSt := sget (fun _ => {}) s.anvils u
def State.setAnvil (s : State) (u : Nat) (a : AnvilSt) : State := { s with anvils := sset (fun _ => {}) s.anvils u a }

/-- The Halo messages waiting at a unit. -/
def State.haloAt (s : State) (u : Nat) : List HaloMsg := sget (fun _ => []) s.haloNet u
def State.setHaloAt (s : State) (u : Nat) (l : List HaloMsg) : State :=
  { s with haloNet := sset (fun _ => []) s.haloNet u l }

/-- An Anvil unit is fenced (R366, 08 R200): its commands end with QUEUE_FLUSHED, and the Halo messages it held pass to the
unit that takes its stacks over (R196). -/
def State.fenceAnvil (s : State) (u cause : Nat) : State :=
  let held := (s.anvil u).input
  let msgs := s.haloAt u
  let s := { s with spares := { s.spares with anvil := putBits s.spares.anvil u u 1 } }
  let s := held.foldl (fun s e => s.anvilReport e.1 e.2 stFlushed 0 []) (s.setAnvil u {})
  let s := match s.haloUnit u with
    | some v => (s.setHaloAt u []).setHaloAt v (s.haloAt v ++ msgs)
    | none => s
  s.fenceEvent (u / 4) 0 0xFF (0x10 + u) 0 cause none

/-- An HBM stack is marked unusable; an Anvil unit whose served stacks are all FAILED is fenced with it (R212). -/
def State.fenceHbm (s : State) (n : Nat) : State :=
  let s := { s with spares := { s.spares with hbm := putBits s.spares.hbm n n 1 } }
  let s := s.fenceEvent (n / 4) 0 0xFF (0x30 + n) 0 4 none
  ((List.range 8).filter (fun u => s.anvilUsable u && (List.range 8).all (fun k => !bit (s.fuses.serves u) k || s.stackFailed k))).foldl
    (fun s u => s.fenceAnvil u 4) s

end Sys2Proof.Machine
end

