-- ==== Sys2Proof/Machine/Hbm.lean ====
section
/-! DEFINITION. The HBM controllers (09_memory_system.md R210 to R224): training, the latency-critical window, refresh and
self-refresh, corrected and uncorrectable errors, patrol scrub, and the writes that reset the error log. -/
namespace Sys2Proof.Machine

/-- The number of a pseudo-channel among the module's. -/
def pchKey (a : Nat) : Nat := a / stackBytes * 32 + pseudoChannel a

/-- A pseudo-channel's count of controller corrections raised; at the threshold CE_THRESHOLD is set, with a record (R217). -/
def State.pchCount (s : State) (a : Nat) (m : Master) : State :=
  let key := pchKey a
  let th := s.fld (HB_CE_THRESH (a / stackBytes)) HB_CE_THRESH_THRESH
  let s := { s with pch := sset (fun _ => 0) s.pch key (sget (fun _ => 0) s.pch key + 1) }
  let k := sget (fun _ => 0) s.pch key
  if th != 0 && (k == th || (decide (th < k) && !s.flag (HB_ERR (a / stackBytes)) HB_ERR_CE_THRESHOLD)) then
    (s.sticky (HB_ERR (a / stackBytes)) HB_ERR_CE_THRESHOLD (HB_ERR_EVENTS (a / stackBytes))).hbRecord (a / stackBytes) 5 (errUnit a) m
  else s

/-- A corrected error met in an HBM sector (R217, R221): counted; a controller correction is logged, and the pseudo-channel's
count may reach the threshold. -/
def State.ceMet (s : State) (onDie : Bool) (a : Nat) (m : Master) : State :=
  if isHbm a then
    let s := s.count 2 (a / stackBytes) 0x08 1 (m.attr a)
    if onDie then s.addFld (HB_CE (a / stackBytes)) HB_CE_ONDIE 1
    else ((s.addFld (HB_CE (a / stackBytes)) HB_CE_CTRL 1).hbRecord (a / stackBytes) 1 (errUnit a) m).pchCount a m
  else s

/-- An error that a read meets at an address: a corrected one is handled at once; an uncorrectable one marks its sector or
line, and the read then meets it (R208, R217, R218). -/
def State.inject (s : State) (a : Nat) (e : MemError) (m : Master) : State :=
  match e with
  | .onDie => s.ceMet true a m
  | .corrected => s.ceMet false a m
  | .uncorrectable => if s.ue.contains (errUnit a) then s else { s with ue := s.ue ++ [errUnit a] }

/-! ## Training (R211, R212) -/

/-- A training attempt failed (R212, R222): TRAIN_FAIL set, a record with its code. The record's MASTER and PCH are not stated:
free values. -/
def State.trainFail (s : State) (n code : Nat) : State :=
  let (x, s) := s.fresh
  let (y, s) := s.fresh
  (s.sticky (HB_ERR n) HB_ERR_TRAIN_FAIL (HB_ERR_EVENTS n)).hbRecordAt n 7 code (y % 256) ⟨x % 256, 0xFFFF, 0, none, some 0⟩

/-- A repaired lane (R211): its byte of the repair map, a record with the lane's index and its pseudo-channel; its MASTER is not
stated: a free value. -/
def State.laneRepair (s : State) (n : Nat) (r : Fin 32 × Fin 32) : State :=
  let c := r.1.val
  let lo := c % 8 * 8
  let (x, s) := s.fresh
  (s.wr (HB_LANE n (c / 8)) (putBits (s.rd (HB_LANE n (c / 8))) (lo + 7) lo (0x80 + r.2.val))).hbRecordAt n 6 r.2.val c
    ⟨x % 256, 0xFFFF, 0, none, some 0⟩

/-- A stack's contents zero, with valid check bits (R211). -/
def State.zeroStack (s : State) (n : Nat) : State :=
  { s with mem := cellsZero s.mem (n * stackBytes) stackBytes
           ue := s.ue.filter (fun u => !(isHbm u && u / stackBytes == n)) }

/-- One training of a stack (R211, R212): up to three attempts; repairs recorded and FILLING, or FAILED and fenced. -/
def State.trainStack (s : State) (n : Nat) (o : StackTraining) : State :=
  let s := (List.range 4).foldl (fun s j => s.wr (HB_LANE n j) 0) s
  let s := o.failCodes.foldl (fun s c => s.trainFail n c.val) s
  let s := o.unrepairable.foldl (fun s c => s.wr (HB_LANE n (c.val / 8)) (putBits (s.rd (HB_LANE n (c.val / 8))) (c.val % 8 * 8 + 6) (c.val % 8 * 8 + 6) 1)) s
  let s := (s.setFld (HB_STATUS n) HB_STATUS_ATTEMPTS (o.failCodes.length + b2n o.ok)).wr (HB_TRAIN_ZT n) s.zt
  if o.ok then
    let s := o.repairs.foldl (fun s r => s.laneRepair n r) s
    ((s.setFld (HB_STATUS n) HB_STATUS_REPAIRED o.repairs.length).setFld (HB_STATUS n) HB_STATUS_TRAIN_CODE 0).setFld (HB_STATUS n) HB_STATUS_STATE 2
  else
    let s := (s.setFld (HB_STATUS n) HB_STATUS_REPAIRED 0).setFld (HB_STATUS n) HB_STATUS_TRAIN_CODE (o.failCodes.getLastD 3).val
    (s.setFld (HB_STATUS n) HB_STATUS_STATE 5).fenceHbm n

/-- The zero fill of a stack completes: READY (R211). -/
def State.fillStack (s : State) (n : Nat) : State := (s.zeroStack n).setFld (HB_STATUS n) HB_STATUS_STATE 3

/-- INTERFACE_TRAINING (R211): a stack that is TRAINING ends its training as the outcome says. -/
def execInterfaceTraining (n : Nat) (o : StackTraining) (s : State) : Res :=
  if s.fld (HB_STATUS n) HB_STATUS_STATE = 1 then .next (s.trainStack n o) else .next s

/-- STACK_READY (R211): a stack that is FILLING becomes READY. -/
def execStackReady (n : Nat) (s : State) : Res :=
  if s.fld (HB_STATUS n) HB_STATUS_STATE = 2 then .next (s.fillStack n) else .next s

/-! ## Priorities, refresh, self-refresh (R215, R216) -/

/-- LC_WINDOW (R215): in a new window of 1 µs of Zenith time the count of LC requests restarts; requests beyond the share are demoted as they
come (State.lcUse). -/
def execLcWindow (n : Nat) (s : State) : Res :=
  if sget (fun _ => 0) s.lcWin n = s.zt / 1000 then .next s
  else .next { s with lcCount := sset (fun _ => 0) s.lcCount n 0, lcWin := sset (fun _ => 0) s.lcWin n (s.zt / 1000) }

/-- The refresh rate of a stack from its temperature (R216): doubled from 85 °C, normal below 80 °C. -/
def State.refreshRate (s : State) (n : Nat) (temp : Int) : State :=
  if temp ≥ 85 * 256 then s.setFld (HB_STATUS n) HB_STATUS_REFRESH_X2 1
  else if temp < 80 * 256 then s.setFld (HB_STATUS n) HB_STATUS_REFRESH_X2 0
  else s

/-- REFRESH (R216): one bank is refreshed; the stack's temperature readout, in 1/256 °C, sets the rate. -/
def execRefresh (n : Nat) (temp : BitVec 16) (s : State) : Res :=
  if s.fld (HB_STATUS n) HB_STATUS_STATE = 3 then .next ((s.refreshRate n temp.toInt).count 2 n 0x07 1 {}) else .next s

/-- SELF_REFRESH (R216): a stack whose domain is going to RETENTION, its queues empty, enters self-refresh. -/
def execSelfRefresh (n : Nat) (s : State) : Res :=
  if s.fld (HB_STATUS n) HB_STATUS_STATE = 3 ∧ s.domState (64 + n) = 5 then .next (s.setFld (HB_STATUS n) HB_STATUS_STATE 4)
  else .next s

/-! ## Patrol scrub (R220) -/

/-- The sectors of a stack. -/
def stackSectors : Nat := 0x60000000

/-- PATROL_SCRUB (R220): the sector at POSITION is read, with the error that the read meets; POSITION advances. -/
def execPatrolScrub (n : Nat) (e : Option MemError) (s : State) : Res :=
  if s.flag (HB_SCRUB n) HB_SCRUB_ENABLE ∧ s.fld (HB_STATUS n) HB_STATUS_STATE = 3 ∧ s.domOn (64 + n) = true then
    let pos := s.fld (HB_SCRUB n) HB_SCRUB_POSITION
    let a := n * stackBytes + pos * 32
    let m : Master := ⟨10, 0xFFFF, 0, none, some 0⟩
    let s1 := (s.setFld (HB_SCRUB n) HB_SCRUB_POSITION ((pos + 1) % stackSectors)).hbRead a 32 { priv := some 0, master := some 10 }
    let s2 := match e with | some e => s1.inject a e m | none => s1
    .next (if s2.ue.contains a then s2.ueMet 4 a m else s2)
  else .next s

/-! ## The error log's registers (R223) -/

/-- The log pointers return to zero. -/
def State.hbLogZero (s : State) (n : Nat) : State :=
  (s.setFld (HB_LOG_CTRL n) HB_LOG_CTRL_HEAD 0).setFld (HB_LOG_CTRL n) HB_LOG_CTRL_TAIL 0

/-- A write of HB_LOG_BASE (R223): one that changes ADDR resets HEAD and TAIL. -/
def State.writeLogBase (s : State) (ctx : Ctx) (n v : Nat) : State :=
  let a := bits v HB_LOG_BASE_ADDR.hi HB_LOG_BASE_ADDR.lo
  if !ctxGlobal ctx then s.accessError ctx (HB_LOG_BASE n)
  else if a = s.fld (HB_LOG_BASE n) HB_LOG_BASE_ADDR then s
  else (s.setFld (HB_LOG_BASE n) HB_LOG_BASE_ADDR a).hbLogZero n

/-- HB_LOG_BASE: a write of that register. -/
def execHbLogBase (ctx : Ctx) (n : Nat) (value : Word) (s : State) : Res := .next (s.writeLogBase ctx n value.toNat)

/-- A write of HB_LOG_CTRL (R223): one that changes SIZE_LOG2 resets HEAD and TAIL; any other writes TAIL. -/
def State.writeLogCtrl (s : State) (ctx : Ctx) (n v : Nat) : State :=
  let z := bits v HB_LOG_CTRL_SIZE_LOG2.hi HB_LOG_CTRL_SIZE_LOG2.lo
  let t := bits v HB_LOG_CTRL_TAIL.hi HB_LOG_CTRL_TAIL.lo
  if !ctxGlobal ctx then s.accessError ctx (HB_LOG_CTRL n)
  else if z = s.fld (HB_LOG_CTRL n) HB_LOG_CTRL_SIZE_LOG2 then s.setFld (HB_LOG_CTRL n) HB_LOG_CTRL_TAIL t
  else (s.setFld (HB_LOG_CTRL n) HB_LOG_CTRL_SIZE_LOG2 z).hbLogZero n

/-- HB_LOG_CTRL: a write of that register. -/
def execHbLogCtrl (ctx : Ctx) (n : Nat) (value : Word) (s : State) : Res := .next (s.writeLogCtrl ctx n value.toNat)

end Sys2Proof.Machine
end

