-- ==== Sys2Proof/Machine/Dma.lean ====
section
/-! DEFINITION. The tile DMA: COPY, FILL, SPLIT and the stream routes (03_tiles_and_commands.md R72 to R75, 02 R34, 06 R137,
R138, R142). -/
namespace Sys2Proof.Machine

/-- The head of a DMA queue, of the opcode given, that may start: its queue runs and its wait holds; a route command that has
started goes on (R55, R74). -/
def State.dmaHead (s : State) (t op : Nat) : Option Cmd :=
  match s.headOf t 5 with
  | none => none
  | some c => if wOpcode c.w == op && s.queueRuns t 5 && ((s.tile t).moved.isSome || s.waitHolds t c) then some c else none

/-- Who a DMA command's errors name (09 R222). -/
def dmaMaster (t : Nat) (c : Cmd) : Master := (c.master 1 t)

/-- The attributes of a DMA command's memory requests. -/
def dmaAttr (c : Cmd) : Attr := { c.attr with master := some 1 }

/-- A command that starts and faults at once, before any byte is written (R72). -/
def State.dmaFault (s : State) (t : Nat) (c : Cmd) (status addr : Nat) : State :=
  (s.startHead t 5 c).endCmd t 5 c status addr addr

/-- DMA_BYTES (16 R388): a tile's DMA has written n bytes from an address on, counted sector by sector with the address of each (16 R385). -/
def State.dmaBytes (s : State) (t a n : Nat) (c : Cmd) : State :=
  if s.tally.cfgA = [] ∨ n = 0 then s
  else (List.range ((a + n - 1) / 32 - a / 32 + 1)).foldl (fun s k =>
    let lo := max a ((a / 32 + k) * 32)
    s.count 0 t 0x06 (min (a + n) ((a / 32 + k + 1) * 32) - lo) { c.attr with addr := some lo }) s

/-- A command that starts and completes, having moved n bytes to a place. -/
def State.dmaDone (s : State) (t : Nat) (c : Cmd) (dst n : Nat) : State :=
  (s.dmaBytes t dst n c).endOk t 5 c 0 (if n = 0 then [] else [(dst, n)])

/-! ## The order of sectors (R72, R74) -/

/-- The numbers of a list in an order that the free values choose. -/
def State.shuffle : Nat → List Nat → State → List Nat × State
  | 0, _, s => ([], s)
  | fuel + 1, l, s =>
    if l = [] then ([], s)
    else
      let f := s.fresh
      let i := f.1 % l.length
      let r := State.shuffle fuel (l.eraseIdx i) f.2
      (l.getD i 0 :: r.1, r.2)

/-- Sectors copied one after another, until a read meets an error or a FAILED stack is met: the failing address. -/
def State.copyRun (src dst : Nat) (m : Master) : List Nat → State → State × Option Nat
  | [], s => (s, none)
  | k :: ks, s =>
    match s.firstBad (src + 32 * k) 32 with
    | some u => (s.ueMet 2 u m, some (errUnit u))
    | none =>
      if s.inFailed (dst + 32 * k) then (s, some (dst + 32 * k))
      else State.copyRun src dst m ks
        ((s.writeBytes (dst + 32 * k) (s.readBytes (src + 32 * k) 32)).cleanUnits (dst + 32 * k) 32)

/-- Sectors written with a pattern, until a FAILED stack is met. -/
def State.fillRun (dst pattern : Nat) : List Nat → State → State × Option Nat
  | [], s => (s, none)
  | k :: ks, s =>
    if s.inFailed (dst + 32 * k) then (s, some (dst + 32 * k))
    else State.fillRun dst pattern ks
      ((s.writeBytes (dst + 32 * k) (List.replicate 8 (leBytes 4 pattern)).flatten).cleanUnits (dst + 32 * k) 32)

/-- Two ranges of n bytes meet. -/
def overlap (a b n : Nat) : Bool := decide (a < b + n) && decide (b < a + n)

/-- A copy of sectors: in one piece where no order shows; else sector by sector, in an order that R74 leaves open where the
ranges meet or an error is met. -/
def State.copySectors (s : State) (src dst k : Nat) (m : Master) : State × Option Nat :=
  let n := 32 * k
  let clean := (s.firstBad src n).isNone && (s.firstFailed dst n).isNone && !overlap src dst n
  if clean then
    (if s.resolve src == src && s.resolve dst == dst && s.resolve (src + n - 1) == src + n - 1 && s.resolve (dst + n - 1) == dst + n - 1
       && !(match m.part with | some p => s.sliced p | none => false)
     then ((s.moveRange src dst n).cleanUnits dst n, none)
     else State.copyRun src dst m (List.range k) s)
  else
    let o := State.shuffle k (List.range k) s
    State.copyRun src dst m o.1 o.2

/-- COPY (R72 to R74): the ownership of both ranges is checked, source first; then the sectors are copied. The operand names
the errors that reads of the source meet. -/
def execCopy (t : Nat) (errors : List (Nat × MemError)) (s : State) : Res :=
  match s.dmaHead t 1 with
  | none => .next s
  | some c =>
    let src := copySrc c.w
    let dst := copyDst c.w
    let n := 32 * copySectors c.w
    match s.firstUnowned c.part src n, s.firstUnowned c.part dst n with
    | some u, _ => .next (s.dmaFault t c stAccessFault u)
    | none, some u => .next (s.dmaFault t c stAccessFault u)
    | none, none =>
      match s.firstOff src n, s.firstOff dst n with
      | some a, _ => .next (s.holdAccess (waiter t 5) a)
      | none, some a => .next (s.holdAccess (waiter t 5) a)
      | none, none =>
        let m := dmaMaster t c
        let s := errors.foldl (fun s e => if decide (src ≤ e.1) && decide (e.1 < src + n) then s.inject e.1 e.2 m else s) s
        let s := ((s.startHead t 5 c).hbRead src n (dmaAttr c)).hbWrite dst n (dmaAttr c)
        match s.copySectors src dst (copySectors c.w) m with
        | (s, some u) => .next (s.endCmd t 5 c stDataFault u u)
        | (s, none) => .next (s.dmaDone t c dst n)

/-- FILL (R73): the pattern is repeated through the sectors. -/
def execFill (t : Nat) (s : State) : Res :=
  match s.dmaHead t 2 with
  | none => .next s
  | some c =>
    let dst := fillDst c.w
    let k := fillSectors c.w
    match s.firstUnowned c.part dst (32 * k) with
    | some u => .next (s.dmaFault t c stAccessFault u)
    | none =>
      match s.firstOff dst (32 * k) with
      | some a => .next (s.holdAccess (waiter t 5) a)
      | none =>
        let s := (s.startHead t 5 c).hbWrite dst (32 * k) (dmaAttr c)
        let o := if (s.firstFailed dst (32 * k)).isNone then (List.range k, s) else State.shuffle k (List.range k) s
        match State.fillRun dst (fillPattern c.w) o.1 o.2 with
        | (s, some u) => .next (s.endCmd t 5 c stDataFault u u)
        | (s, none) => .next (s.dmaDone t c dst (32 * k))

/-! ## SPLIT (R75, 06 R137, R138, R142) -/

/-- What a SPLIT computes with: rows, columns, the format, the planes that it writes and the pieces that it computes. -/
structure SplitSt where
  src : Nat
  rows : Nat
  cols : Nat
  fmt : FFmt
  planes : Nat
  pieces : Nat
  channel : Bool
  deriving DecidableEq, Repr

/-- A SPLIT's operands under the forced pass mode (R142). -/
def State.splitOf (s : State) (w : Nat) : SplitSt :=
  let f := s.fld SI_FORCE_PASS SI_FORCE_PASS_MODE
  { src := splitSrc w, rows := splitRows w, cols := splitCols w, fmt := (fmtOfCode (splitFmt w)).getD .fp32,
    planes := splitPiecesOf w, pieces := if f = 0 then splitPiecesOf w else f, channel := splitChannel w }

/-- The groups of a SPLIT: its columns or its rows. -/
def SplitSt.groups (x : SplitSt) : Nat := if x.channel then x.cols else x.rows

/-- The bytes of its source and, padded, of its output. -/
def SplitSt.srcBytes (x : SplitSt) : Nat := x.rows * x.cols * x.fmt.bytes
def SplitSt.outBytes (x : SplitSt) : Nat := roundUp (x.planes * x.rows * x.cols + x.groups) 32

/-- The address of an element, row-major. -/
def SplitSt.elemAddr (x : SplitSt) (r c : Nat) : Nat := x.src + (r * x.cols + c) * x.fmt.bytes

/-- An element's value. -/
def SplitSt.elem (x : SplitSt) (s : State) (r c : Nat) : Val := fpDecode x.fmt (s.readNat (x.elemAddr r c) x.fmt.bytes)

/-- The cells of a group. -/
def SplitSt.cells (x : SplitSt) (g : Nat) : List (Nat × Nat) :=
  if x.channel then (List.range x.rows).map (fun r => (r, g)) else (List.range x.cols).map (fun c => (g, c))

/-- The largest finite magnitude of a group (R137). -/
def SplitSt.maxMag (x : SplitSt) (s : State) (g : Nat) : Rat :=
  (x.cells g).foldl (fun m rc => match x.elem s rc.1 rc.2 with | .fin v _ => rmax m (rabs v) | _ => m) 0

/-- The pieces of an element of a group with unit exponent `e`, one per plane; planes beyond the pieces are zero (R142). -/
def SplitSt.piecesOf (x : SplitSt) (s : State) (e : Int) (r c : Nat) : List Nat :=
  splitPieces x.pieces e (x.elem s r c)

/-- The output bytes, each with the group that it depends on (none for padding). -/
def SplitSt.output (x : SplitSt) (s : State) : List (Option Nat × Byte) :=
  let mags := (List.range x.groups).map (fun g => x.maxMag s g)
  let exps := mags.map (fun m => if m = 0 then (0 : Int) else groupExp m)
  let cell := fun (p r c : Nat) =>
    let g := if x.channel then c else r
    (some g, BitVec.ofNat 8 ((x.piecesOf s (exps.getD g 0) r c).getD p 0))
  let planes := (List.range x.planes).flatMap (fun p => (List.range x.rows).flatMap (fun r => (List.range x.cols).map (fun c => cell p r c)))
  let bytes := (enumFrom 0 mags).map (fun e => (some e.1, BitVec.ofNat 8 (groupByte e.2)))
  planes ++ bytes ++ List.replicate (x.outBytes - (x.planes * x.rows * x.cols + x.groups)) (none, 0)

/-- A group's source holds no bad unit. -/
def SplitSt.groupClean (x : SplitSt) (s : State) (g : Nat) : Bool :=
  (x.cells g).all (fun rc => (s.firstBad (x.elemAddr rc.1 rc.2) x.fmt.bytes).isNone)

/-- The bytes of a SPLIT that met an error: those of groups read without error may or may not have been written (R72). -/
def SplitSt.partly (x : SplitSt) (a : Nat) : List (Option Nat × Byte) → State → State
  | [], s => s
  | (g, b) :: l, s =>
    let f := s.fresh
    let ok := match g with | some g => x.groupClean s g | none => true
    SplitSt.partly x (a + 1) l (if ok && f.1 % 2 == 1 then f.2.setByte a b else f.2)

/-- n bytes that the spec leaves open. -/
def State.freshBytes : Nat → State → List Byte × State
  | 0, s => ([], s)
  | n + 1, s =>
    let f := s.fresh
    let r := State.freshBytes n f.2
    (BitVec.ofNat 8 f.1 :: r.1, r.2)

/-- SPLIT (R75): the pieces and the exponent bytes are written to the tile's own SRAM. Where the source meets the output the
spec states no result, and every output byte is a free value. -/
def execSplit (t : Nat) (s : State) : Res :=
  match s.dmaHead t 3 with
  | none => .next s
  | some c =>
    let x := s.splitOf c.w
    let dst := sramBase t + splitDst c.w
    match s.firstUnowned c.part x.src x.srcBytes with
    | some u => .next (s.dmaFault t c stAccessFault u)
    | none =>
      if 0x100000 < splitDst c.w + x.outBytes then .next (s.dmaFault t c stAccessFault (sramBase t + 0x100000))
      else
        match s.firstOff x.src x.srcBytes, s.firstOff dst x.outBytes with
        | some a, _ => .next (s.holdAccess (waiter t 5) a)
        | none, some a => .next (s.holdAccess (waiter t 5) a)
        | none, none =>
          let s := (s.startHead t 5 c).hbRead x.src x.srcBytes (dmaAttr c)
          match s.firstBad x.src x.srcBytes with
          | some u => .next (((SplitSt.partly x dst (x.output s) s).ueMet 2 u (dmaMaster t c)).endCmd t 5 c stDataFault (errUnit u) (errUnit u))
          | none =>
            let o := if decide (x.src < dst + x.outBytes) && decide (dst < x.src + x.srcBytes) then State.freshBytes x.outBytes s
              else ((x.output s).map (·.2), s)
            .next (((o.2.writeBytes dst o.1).cleanUnits dst x.outBytes).dmaDone t c dst x.outBytes)

/-! ## Stream routes (R74, 02 R34) -/

/-- A route command starts: its wait taken, its start traced; it stays at the head of its queue (R74). -/
def State.routeStart (s : State) (t : Nat) (c : Cmd) : State :=
  if (s.tile t).moved.isSome then s
  else
    let s := ((s.slotStart t 5 c).takeWait t c).trace (c.traceRec t 5 1 0)
    s.setTile t { s.tile t with moved := some 0 }

/-- A route command leaves the queue. -/
def State.routeEnd (s : State) (t : Nat) : State :=
  let s := s.popHead t 5
  s.setTile t { s.tile t with moved := none }

/-- Entries that a route command has moved. -/
def State.movedOf (s : State) (t : Nat) : Nat := ((s.tile t).moved).getD 0

/-- One more entry moved. -/
def State.bumpMoved (s : State) (t : Nat) : State :=
  s.setTile t { s.tile t with moved := some (s.movedOf t + 1) }

/-- A route has room: fewer entries than DEPTH on their way and in its stream queue. -/
def PartSt.routeRoom (ps : PartSt) (r : Route) : Bool :=
  decide ((ps.transitOf r.id).length + (ps.streamOf r.id).length < r.depth)

/-- ROUTE_SEND moves entries in order while there is room: the address of a read that failed. -/
def State.sendEntries (t : Nat) (c : Cmd) (r : Route) : Nat → State → State × Option Nat
  | 0, s => (s, none)
  | k + 1, s =>
    let a := routeAddr c.w + 64 * s.movedOf t
    let ps := s.part c.part
    if !ps.routeRoom r then (s, none)
    else
      match s.firstBad a 64 with
      | some u => (s.ueMet 2 u (dmaMaster t c), some (errUnit u))
      | none =>
        let e := s.readBytes a 64
        let s := s.hbRead a 64 (dmaAttr c)
        State.sendEntries t c r k
          ((s.setPart c.part { ps with transit := sset (fun _ => []) ps.transit r.id (ps.transitOf r.id ++ [e]) }).bumpMoved t)

/-- ROUTE_RECV moves the entries that have arrived, freeing their places: the address of a write that failed. -/
def State.recvEntries (t : Nat) (c : Cmd) (r : Route) : Nat → State → State × Option Nat
  | 0, s => (s, none)
  | k + 1, s =>
    let a := routeAddr c.w + 64 * s.movedOf t
    let ps := s.part c.part
    match ps.streamOf r.id with
    | [] => (s, none)
    | e :: rest =>
      match s.firstFailed a 64 with
      | some u => (s, some u)
      | none =>
        State.recvEntries t c r k
          ((((s.setPart c.part { ps with streams := sset (fun _ => []) ps.streams r.id rest }).writeBytes a e).cleanUnits a 64).hbWrite a 64
            (dmaAttr c) |>.bumpMoved t)

/-- A route command's step: checked when it starts, then entries moved; it ends when all have moved. -/
def State.routeGo (s : State) (t : Nat) (c : Cmd) (run : Route → Nat → State → State × Option Nat) (wrote : Nat × Nat) : State :=
  let a := routeAddr c.w
  let n := 64 * routeCount c.w
  match s.findRoute c.part (routeId c.w) with
  | none => s
  | some r =>
    match (if (s.tile t).moved.isSome then none else s.firstUnowned c.part a n), s.firstOff a n with
    | some u, _ => s.dmaFault t c stAccessFault u
    | none, some o => s.holdAccess (waiter t 5) o
    | none, none =>
      let s := s.routeStart t c
      match run r (routeCount c.w - s.movedOf t) s with
      | (s, some u) => (s.routeEnd t).endCmd t 5 c stDataFault u u
      | (s, none) => if routeCount c.w ≤ s.movedOf t then (s.routeEnd t).dmaDone t c wrote.1 wrote.2 else s

/-- ROUTE_SEND (R74): entries of 64 bytes go into the route; it holds while the stream queue is full. -/
def execRouteSend (t : Nat) (s : State) : Res :=
  match s.dmaHead t 4 with
  | none => .next s
  | some c => .next (s.routeGo t c (State.sendEntries t c) (0, 0))

/-- ROUTE_RECV (R74): entries that have arrived go to DST; it holds until each has arrived. -/
def execRouteRecv (t : Nat) (s : State) : Res :=
  match s.dmaHead t 5 with
  | none => .next s
  | some c => .next (s.routeGo t c (State.recvEntries t c) (routeAddr c.w, 64 * routeCount c.w))

end Sys2Proof.Machine
end

