-- ==== Sys2Proof/Machine/Funcs.lean ====
section
/-! DEFINITION. The functions of the vector unit (07_vector_unit_and_draws.md R156, R157): fixed-point enclosures of the exact
result, the FP32 values within the bound of the opcode, and the free choice among them. -/
namespace Sys2Proof.Machine

/-- Fraction bits of the fixed-point numbers. -/
def fxBits : Nat := 320

/-- One in fixed point. -/
def fxOne : Int := 2 ^ fxBits

/-- A rational in fixed point, rounded down. -/
def fxOf (x : Rat) : Int := (x * ((fxOne : Int) : Rat)).floor

/-- Product and quotient in fixed point. -/
def fxMul (a b : Int) : Int := a * b / fxOne
def fxDiv (a b : Int) : Int := a * fxOne / b

/-- The sum of n terms of e^x from term k on, the last term given. -/
def expTerms (x : Int) : Nat → Nat → Int → Int
  | 0, _, _ => 0
  | n + 1, k, term => term + expTerms x n (k + 1) (fxMul term x / ((k : Nat) : Int))

/-- A number squared m times. -/
def fxSquares : Nat → Int → Int
  | 0, x => x
  | m + 1, x => fxSquares m (fxMul x x)

/-- e^x for a magnitude of at most 128: the argument divided by 2^8, then eight squarings. -/
def fxExp (x : Int) : Int := fxSquares 8 (expTerms (x / 256) 70 1 fxOne)

/-- The sum of n terms z^(2k + 1) ÷ (2k + 1), with alternating signs where asked. -/
def atanTerms (z2 sgn : Int) : Nat → Nat → Int → Int
  | 0, _, _ => 0
  | n + 1, k, p => p / ((2 * k + 1 : Nat) : Int) + atanTerms z2 sgn n (k + 1) (sgn * fxMul p z2)

/-- The inverse hyperbolic tangent, and the arc tangent, of a magnitude of at most 1/3. -/
def fxAtanh (z : Int) : Int := atanTerms (fxMul z z) 1 110 0 z
def fxAtan (z : Int) : Int := atanTerms (fxMul z z) (-1) 110 0 z

/-- ln 2. -/
def fxLn2 : Int := 2 * fxAtanh (fxOne / 3)

/-- π, by Machin's formula. -/
def fxPi : Int := 16 * fxAtan (fxOne / 5) - 4 * fxAtan (fxOne / 239)

/-- ln x for a positive x. -/
def fxLn (x : Rat) : Int :=
  let e0 := floorLog2 x
  let e := if x * pow2 (-e0) > 3 / 2 then e0 + 1 else e0
  let m := x * pow2 (-e)
  2 * fxAtanh (fxOf ((m - 1) / (m + 1))) + e * fxLn2

/-- The integer square root, from the highest bit down. -/
def isqrtBits : Nat → Nat → Nat → Nat
  | 0, _, r => r
  | b + 1, n, r => if (r + 2 ^ b) * (r + 2 ^ b) ≤ n then isqrtBits b n (r + 2 ^ b) else isqrtBits b n r

/-- The greatest integer whose square is not above n. -/
def isqrt (n : Nat) : Nat := isqrtBits (bitLen n / 2 + 1) n 0

/-- The square root of a non-negative rational in fixed point. -/
def fxSqrt (x : Rat) : Int := ((isqrt (x * ((fxOne * fxOne : Int) : Rat)).floor.toNat : Nat) : Int)

/-- tanh x: beyond a magnitude of 40 the result lies within 2^−110 of 1. -/
def fxTanh (x : Rat) : Int :=
  if rabs x > 40 then (let v := fxOne - fxOne / 2 ^ 110; if x < 0 then -v else v)
  else
    let e := fxExp (fxOf (2 * x))
    fxDiv (e - fxOne) (e + fxOne)

/-- The sum of n terms of Σ (2x²)^k ÷ (2k + 1)!!. -/
def erfTerms (y : Int) : Nat → Nat → Int → Int
  | 0, _, _ => 0
  | n + 1, k, term => term + erfTerms y n (k + 1) (fxMul term y / ((2 * k + 1 : Nat) : Int))

/-- erf x: beyond a magnitude of 9 the result lies within 2^−110 of 1. -/
def fxErf (x : Rat) : Int :=
  if rabs x > 9 then (let v := fxOne - fxOne / 2 ^ 110; if x < 0 then -v else v)
  else
    let f := fxOf x
    let sum := erfTerms (2 * fxMul f f) 600 1 f
    fxDiv (fxMul (2 * sum) (fxExp (-(fxMul f f)))) ((isqrt (fxPi * fxOne).toNat : Nat) : Int)

/-- The FP32 unit in the last place of an exact result (R156). -/
def ulp32 (x : Rat) : Rat :=
  if x = 0 then pow2 (-149) else (let e := floorLog2 (rabs x) - 23; if e < -149 then pow2 (-149) else pow2 e)

/-- The FP32 code at a signed place: place k ≥ 0 is code k; a negative place is the code of its magnitude with the sign. -/
def placeCode (neg : Bool) (k : Int) : Nat :=
  if 0 < k then k.toNat else if k < 0 then (-k).toNat + 2 ^ 31 else (if neg then 2 ^ 31 else 0)

/-- The finite FP32 codes within a bound, in ulps, of an exact result: it is computed closely enough to tell on which side of the bound each code lies. -/
def boundCodes (v : Rat) (bound : Nat) : List Nat :=
  let c := fpRound .fp32 .rtz (rabs v) false
  let k : Int := if v < 0 then -((c : Nat) : Int) else ((c : Nat) : Int)
  let codes := ([-3, -2, -1, 0, 1, 2, 3] : List Int).map (fun d => placeCode (decide (v < 0)) (k + d))
  codes.filter (fun c => match fpDecode .fp32 c with
    | .fin x _ => decide (rabs (x - v) ≤ (((bound : Nat) : Int) : Rat) * ulp32 v)
    | _ => false)

/-- The value that a function gives for an exact result: one of those within the bound (R156), the same for the same input
(R151). -/
def funcPick (op inCode : Nat) (v : Rat) (bound : Nat) : Val :=
  let l := boundCodes v bound
  fpDecode .fp32 (l.getD (Config.vuChoice op inCode % l.length) (fpRound .fp32 .rne v false))

/-- An exact result's magnitude overflows FP32 under RNE. -/
def overflows32 (v : Rat) : Bool := decide (pow2 128 - pow2 103 ≤ rabs v)

/-- A fixed-point number as a rational. -/
def fxRat (f : Int) : Rat := ((f : Int) : Rat) / ((fxOne : Int) : Rat)

/-- EXP of a finite input: +∞ where the exact result overflows FP32, +0 where it is below half the smallest subnormal (R157). -/
def funcExp (inCode : Nat) (x : Rat) : Val :=
  if x > 89 then .inf false
  else if x < -104 then .fin 0 false
  else
    let v := fxRat (fxExp (fxOf x))
    if overflows32 v then .inf false else if v < pow2 (-150) then .fin 0 false else funcPick 0x10 inCode v 1

/-- RCP of a non-zero finite input; a result beyond FP32 is an infinity under RNE and the largest finite value under RTZ
(R153). -/
def funcRcp (inCode : Nat) (rtz : Bool) (x : Rat) : Val :=
  let v := 1 / x
  if overflows32 v then (if rtz then fpDecode .fp32 (0x7F7FFFFF + (if x < 0 then 2 ^ 31 else 0)) else .inf (decide (x < 0)))
  else funcPick 0x13 inCode v 1

/-- A function of the vector unit: its FP32 value for an input (R156, R157). A small hyperbolic tangent is x − x³/3, which lies below x as the exact
result does. -/
def vuFunc (op : Nat) (rtz : Bool) (a : Val) : Val :=
  let code := fpConvert .fp32 .rne a
  match a with
  | .nan => .nan
  | .inf neg =>
    if op = 0x10 then (if neg then .fin 0 false else .inf false)
    else if op = 0x11 then (if neg then .nan else .inf false)
    else if op = 0x12 then (if neg then .nan else .fin 0 false)
    else if op = 0x13 then .fin 0 neg
    else .fin (if neg then -1 else 1) false
  | .fin x nz =>
    if op = 0x10 then (if x = 0 then .fin 1 false else funcExp code x)
    else if op = 0x11 then (if x = 0 then .inf true else if x < 0 then .nan else funcPick 0x11 code (fxRat (fxLn x)) 1)
    else if op = 0x12 then (if x = 0 then .inf nz else if x < 0 then .nan else funcPick 0x12 code (fxRat (fxSqrt (1 / x))) 1)
    else if op = 0x13 then (if x = 0 then .inf nz else funcRcp code rtz x)
    else if x = 0 then .fin 0 nz
    else if op = 0x14 then funcPick 0x14 code (if rabs x < pow2 (-60) then x - x * x * x / 3 else fxRat (fxTanh x)) 2
    else funcPick 0x15 code (fxRat (fxErf x)) 2

end Sys2Proof.Machine
end

