-- ==== Sys2Proof/Machine/Vector.lean ====
section
/-! DEFINITION. The vector unit (07_vector_unit_and_draws.md R153 to R168): lane arithmetic, ordering, G32 conversion, the
exact-sum register and draws. -/
namespace Sys2Proof.Machine

/-! ## Lane arithmetic (R153, R156, R158) -/

/-- The sign of a finite value, zeros included. -/
def Val.neg : Val → Bool
  | .nan => false
  | .inf n => n
  | .fin x nz => decide (x < 0) || nz

/-- A value with its sign changed. -/
def Val.negate : Val → Val
  | .nan => .nan
  | .inf n => .inf (!n)
  | .fin x nz => .fin (-x) (decide (x = 0) && !nz)

/-- The exact sum (IEEE 754): ∞ − ∞ is NaN; an exact zero from unlike signs is +0. -/
def Val.add : Val → Val → Val
  | .nan, _ => .nan
  | _, .nan => .nan
  | .inf a, .inf b => if a = b then .inf a else .nan
  | .inf a, .fin _ _ => .inf a
  | .fin _ _, .inf b => .inf b
  | .fin x a, .fin y b => .fin (x + y) (a && b)

/-- The exact product: 0 × ∞ is NaN. -/
def Val.mul (a b : Val) : Val :=
  match a, b with
  | .nan, _ => .nan
  | _, .nan => .nan
  | .inf n, .inf m => .inf (n != m)
  | .inf n, .fin y _ => if y = 0 then .nan else .inf (n != decide (y < 0))
  | .fin x _, .inf m => if x = 0 then .nan else .inf (m != decide (x < 0))
  | .fin x _, .fin y _ => .fin (x * y) (decide (x * y = 0) && (a.neg != b.neg))

/-- The class of a value in the order of R158: NaN above +∞, above the finite values, above −∞. -/
def Val.rank : Val → Nat
  | .nan => 3
  | .inf false => 2
  | .fin _ _ => 1
  | .inf true => 0

/-- a ranks above b (R158). -/
def Val.above (a b : Val) : Bool :=
  decide (b.rank < a.rank) || (a.rank == 1 && b.rank == 1 && decide (b.real < a.real))

/-- Neither operand is NaN. -/
def bothNumbers (a b : Val) : Bool := a.rank != 3 && b.rank != 3

/-- The exact result of an element-wise opcode (R156); functions give an FP32 value within their bound. -/
def laneOp (op : Nat) (rtz : Bool) (a b c : Val) : Val :=
  match op with
  | 0x01 => a.add b
  | 0x02 => a.add b.negate
  | 0x03 => a.mul b
  | 0x04 => (a.mul b).add c
  | 0x05 => if b.above a then b else a
  | 0x06 => if a.above b then b else a
  | 0x07 => .fin (if bothNumbers a b && b.above a then 1 else 0) false
  | 0x08 => .fin (if bothNumbers a b && !a.above b && !b.above a then 1 else 0) false
  | 0x09 => (match c with | .fin x _ => if x = 0 then b else a | _ => a)
  | 0x0A => a
  | _ => vuFunc op rtz a

/-- A value under RNE overflow: one that overflows FP32 is an infinity (R153). -/
def ieeeOver (rtz : Bool) : Val → Val
  | .fin x nz => if !rtz && overflows32 x then .inf (decide (x < 0)) else .fin x nz
  | v => v

/-- A value written as BYTES (R155). -/
def byteConvert (rtz : Bool) : Val → Nat
  | .nan => 0
  | .inf neg => if neg then 0 else 255
  | .fin x _ => if x < 0 then 0 else min 255 (roundMag (if rtz then .rtz else .rne) x)

/-- A value written in OUT_FMT: its code, and 1 where R160 counts it. -/
def laneOut (fmt : Nat) (rtz : Bool) (v : Val) : Nat × Nat :=
  if fmt = 0x0D then (byteConvert rtz v, b2n (v == .nan))
  else
    let c := elemConvert fmt (if rtz then .rtz else .rne) v
    (c, b2n (codeNonFinite fmt c))

/-! ## The exact-sum register (R161 to R163) -/

/-- An exact sum whose new S is the given integer: outside the range NAN is set and S wraps. -/
def Xsr.setS (x : Xsr) (i : Int) : Xsr :=
  { x with s := unsignedOf 320 i, nan := x.nan || !(decide (-(2 ^ 319) ≤ i) && decide (i < 2 ^ 319)) }

/-- One value added (R161). -/
def Xsr.addVal (x : Xsr) (v : Val) : Xsr :=
  let x := { x with count := (x.count + 1) % 2 ^ 48 }
  match v with
  | .nan => { x with nan := true }
  | .inf neg => if neg then { x with ninf := true } else { x with pinf := true }
  | .fin r _ => x.setS (signed 320 x.s + (r * pow2 149).floor)

/-- Two exact sums combined (R163). -/
def Xsr.combine (x y : Xsr) : Xsr :=
  { x with pinf := x.pinf || y.pinf, ninf := x.ninf || y.ninf, nan := x.nan || y.nan,
           count := (x.count + y.count) % 2 ^ 48 }.setS (signed 320 x.s + signed 320 y.s)

/-- An EXACT_SUM image (R162), written with zero reserved bits and read ignoring them. -/
def Xsr.image (x : Xsr) : Nat := x.s % 2 ^ 320 + b2n x.pinf * 2 ^ 320 + b2n x.ninf * 2 ^ 321 + b2n x.nan * 2 ^ 322 + x.count % 2 ^ 48 * 2 ^ 384
def Xsr.ofImage (n : Nat) : Xsr := ⟨n % 2 ^ 320, bit n 320, bit n 321, bit n 322, bits n 431 384⟩

/-- What XSR_ROUND converts (R163). -/
def Xsr.val (x : Xsr) : Val :=
  if x.nan || (x.pinf && x.ninf) then .nan
  else if x.pinf then .inf false
  else if x.ninf then .inf true
  else .fin (((signed 320 x.s : Int) : Rat) * pow2 (-149)) false

/-! ## Starting a command (R154) -/

/-- The head of the vector unit's queue, of the opcode given, that may start: no earlier command of the unit is running, its
queue runs, its wait holds. -/
def State.vuHead (s : State) (t op : Nat) : Option Cmd :=
  match s.headOf t 4 with
  | none => none
  | some c =>
    if wOpcode c.w == op && s.queueRuns t 4 && s.waitHolds t c && !(s.tile t).ended.any (fun e => e.q == 4) then some c else none

/-- Who a vector command's errors name (09 R222). -/
def vuMaster (t : Nat) (c : Cmd) : Master := (c.master 3 t)

/-- A command starts on extents of its tile's SRAM, as offsets and lengths: one beyond 1 MiB is an ACCESS_FAULT before any
write (R154); the rest is given the lowest bad line among the extents read. -/
def State.vuGo (s : State) (t : Nat) (c : Cmd) (reads writes : List (Nat × Nat)) (body : State → Option Nat → State) : State :=
  if (reads ++ writes).any (fun e => decide (0x100000 < e.1 + e.2)) then
    (s.startHead t 4 c).endCmd t 4 c stAccessFault (sramBase t + 0x100000) (sramBase t + 0x100000)
  else if s.memOn (sramBase t) 1 = false then s.holdAccess (waiter t 4) (sramBase t)
  else body (s.startHead t 4 c) (reads.findSome? (fun e => s.firstBad (sramBase t + e.1) e.2))

/-- What the running command leaves at its completion. -/
def State.vuLeave (s : State) (t : Nat) (v : VuPend) : State := s.setTile t { s.tile t with vuPend := some v }

/-- A read met an uncorrectable error: the command ends with DATA_FAULT (R154). -/
def State.vuReadFault (s : State) (t : Nat) (c : Cmd) (u : Nat) (v : VuPend) : State :=
  ((s.ueMet 2 u (vuMaster t c)).vuLeave t v).endCmd t 4 c stDataFault (errUnit u) (errUnit u)

/-- A count added: kind 1 non-finite, 2 a G32 non-finite value, 3 a G32 saturation. -/
def VuPend.bump (v : VuPend) (kind : Nat) : VuPend :=
  if kind = 1 then { v with nonfinite := v.nonfinite + 1 } else if kind = 2 then { v with gNonfinite := v.gNonfinite + 1 }
  else if kind = 3 then { v with gSat := v.gSat + 1 } else v

/-- A result: its offset, its size in bytes, its code, what it is counted as. -/
structure VuRes where
  off : Nat
  size : Nat
  code : Nat
  kind : Nat := 0
  deriving DecidableEq, Repr

/-- Results at consecutive elements from an offset. -/
def vuRun (off size : Nat) : List (Nat × Nat) → List VuRes
  | [] => []
  | r :: l => ⟨off, size, r.1, r.2⟩ :: vuRun (off + size) size l

/-- The counts of the results that lie outside the bad lines. -/
def vuCounts (t : Nat) (bad : List Nat) (l : List VuRes) : VuPend :=
  l.foldl (fun v r => if bad.contains (errUnit (sramBase t + r.off)) then v else v.bump r.kind) {}

/-- Results at consecutive offsets written as one extent: the first bad line that they only partly cover. -/
def State.vuStore (s : State) (t : Nat) (m : Master) (l : List VuRes) : State × Option Nat :=
  match l with
  | [] => (s, none)
  | r :: _ => s.store (sramBase t + r.off) (l.flatMap (fun r => leBytes r.size r.code)) m

/-- The extent that consecutive results fill. -/
def vuExtent (t : Nat) (l : List VuRes) : List (Nat × Nat) :=
  match l with
  | [] => []
  | r :: _ => [(sramBase t + r.off, (l.map (·.size)).foldl (· + ·) 0)]

/-- A command writes its results, one extent or two, and completes; a line that an extent covers only partly discards what lies in it, which is then not
counted, and makes it DATA_FAULT (R160, 09 R208). -/
def State.vuFinish (s : State) (t : Nat) (c : Cmd) (a b : List VuRes) (xsr : Option Xsr) : State :=
  let all := a ++ b
  let bad := (vuExtent t a ++ vuExtent t b).flatMap (fun e => s.partlyBad e.1 e.2)
  let r1 := s.vuStore t (vuMaster t c) a
  let r2 := r1.1.vuStore t (vuMaster t c) b
  let s := r2.1.vuLeave t { vuCounts t bad all with xsr := xsr }
  match (if r1.2.isSome then r1.2 else r2.2) with
  | some u => s.endCmd t 4 c stDataFault u u
  | none => s.endOk t 4 c 0 (vuExtent t a ++ vuExtent t b)

/-- The results already written when a read met an error stay; which they are the spec leaves open: a free choice among those
whose inputs were clean (R154). -/
def State.vuSome (t : Nat) (m : Master) (clean : Nat → Bool) : Nat → List VuRes → State → State × VuPend
  | _, [], s => (s, {})
  | i, r :: l, s =>
    let f := s.fresh
    if clean i && f.1 % 2 == 1 then
      let w := f.2.store (sramBase t + r.off) (leBytes r.size r.code) m
      let rest := State.vuSome t m clean (i + 1) l w.1
      (rest.1, if w.2.isSome then rest.2 else rest.2.bump r.kind)
    else State.vuSome t m clean (i + 1) l f.2

/-! ## Element-wise commands (R155, R156) -/

/-- Whether ROUND is RTZ. -/
def vuRtz (w : Nat) : Bool := vuRound w == 1

/-- Element i of an operand, a scalar where it is one. -/
def State.vuElem (s : State) (t fmt off : Nat) (scalar : Bool) (i : Nat) : Val :=
  let e := codeBytes fmt
  elemDecode fmt (s.readNat (sramBase t + off + (if scalar then 0 else i * e)) e)

/-- The extents that an element-wise command reads. -/
def vuReads (w : Nat) : List (Nat × Nat) :=
  let e := codeBytes (vuIn w)
  let len := fun (sc : Bool) => if sc then e else vuCount w * e
  (vuA w, vuCount w * e) :: (if 2 ≤ vuArity (wOpcode w) then [(vuB w, len (vuBScalar w))] else []) ++
  (if 3 ≤ vuArity (wOpcode w) then [(vuC w, len (vuCScalar w))] else [])

/-- The results of an element-wise command. -/
def State.vuResults (s : State) (t w : Nat) : List VuRes :=
  let el := fun (off : Nat) (sc : Bool) (i : Nat) => s.vuElem t (vuIn w) off sc i
  let zero : Val := .fin 0 false
  let n := vuArity (wOpcode w)
  vuRun (vuD w) (codeBytes (vuOut w)) ((List.range (vuCount w)).map (fun i =>
    laneOut (vuOut w) (vuRtz w) (ieeeOver (vuRtz w) (laneOp (wOpcode w) (vuRtz w) (el (vuA w) false i)
      (if 2 ≤ n then el (vuB w) (vuBScalar w) i else zero) (if 3 ≤ n then el (vuC w) (vuCScalar w) i else zero)))))

/-- The inputs of element i hold no bad line. -/
def State.vuClean (s : State) (t w i : Nat) : Bool :=
  let e := codeBytes (vuIn w)
  let ok := fun (off : Nat) (sc : Bool) => (s.firstBad (sramBase t + off + (if sc then 0 else i * e)) e).isNone
  let n := vuArity (wOpcode w)
  ok (vuA w) false && (n < 2 || ok (vuB w) (vuBScalar w)) && (n < 3 || ok (vuC w) (vuCScalar w))

/-- An element-wise command of the opcode given. -/
def State.vuElementwise (s : State) (t op : Nat) : State :=
  match s.vuHead t op with
  | none => s
  | some c =>
    s.vuGo t c (vuReads c.w) [(vuD c.w, vuCount c.w * codeBytes (vuOut c.w))] (fun s bad =>
      let rs := s.vuResults t c.w
      match bad with
      | some u =>
        let r := State.vuSome t (vuMaster t c) (fun i => s.vuClean t c.w i) 0 rs s
        r.1.vuReadFault t c u r.2
      | none => s.vuFinish t c rs [] none)

/-- ADD (R156): a + b. -/
def execVuAdd (t : Nat) (s : State) : Res := .next (s.vuElementwise t 0x01)
/-- SUB (R156): a − b. -/
def execVuSub (t : Nat) (s : State) : Res := .next (s.vuElementwise t 0x02)
/-- MUL (R156): a × b. -/
def execVuMul (t : Nat) (s : State) : Res := .next (s.vuElementwise t 0x03)
/-- FMA (R156): a × b + c, rounded once. -/
def execVuFma (t : Nat) (s : State) : Res := .next (s.vuElementwise t 0x04)
/-- MAX (R158). -/
def execVuMax (t : Nat) (s : State) : Res := .next (s.vuElementwise t 0x05)
/-- MIN (R158). -/
def execVuMin (t : Nat) (s : State) : Res := .next (s.vuElementwise t 0x06)
/-- CMP_LT (R156, R158): 1 if a < b, else 0. -/
def execVuCmpLt (t : Nat) (s : State) : Res := .next (s.vuElementwise t 0x07)
/-- CMP_EQ (R156, R158): 1 if a = b, else 0. -/
def execVuCmpEq (t : Nat) (s : State) : Res := .next (s.vuElementwise t 0x08)
/-- SELECT (R156): b where c is a zero, else a. -/
def execVuSelect (t : Nat) (s : State) : Res := .next (s.vuElementwise t 0x09)
/-- CONVERT (R156): a in OUT_FMT. -/
def execVuConvert (t : Nat) (s : State) : Res := .next (s.vuElementwise t 0x0A)
/-- EXP (R156, R157). -/
def execVuExp (t : Nat) (s : State) : Res := .next (s.vuElementwise t 0x10)
/-- LOG (R156, R157). -/
def execVuLog (t : Nat) (s : State) : Res := .next (s.vuElementwise t 0x11)
/-- RSQRT (R156, R157). -/
def execVuRsqrt (t : Nat) (s : State) : Res := .next (s.vuElementwise t 0x12)
/-- RCP (R156, R157). -/
def execVuRcp (t : Nat) (s : State) : Res := .next (s.vuElementwise t 0x13)
/-- TANH (R156, R157). -/
def execVuTanh (t : Nat) (s : State) : Res := .next (s.vuElementwise t 0x14)
/-- ERF (R156, R157). -/
def execVuErf (t : Nat) (s : State) : Res := .next (s.vuElementwise t 0x15)

/-! ## Reductions and selection (R158, R164) -/

/-- All elements of operand A. -/
def State.vuAll (s : State) (t w : Nat) : List Val := (List.range (vuCount w)).map (fun i => s.vuElem t (vuIn w) (vuA w) false i)

/-- One addition in FP32 under RNE. -/
def add32 (a b : Val) : Val := fpDecode .fp32 (fpConvert .fp32 .rne (ieeeOver false (a.add b)))

/-- Neighbours added: one level of the tree. -/
def addPairs : List Val → List Val
  | a :: b :: l => add32 a b :: addPairs l
  | l => l

/-- A chunk of 64 summed by its tree (R164), the last chunk padded with +0. -/
def treeSum (l : List Val) : Val :=
  ((addPairs (addPairs (addPairs (addPairs (addPairs (addPairs ((l ++ List.replicate 64 (Val.fin 0 false)).take 64))))))).headD (.fin 0 false))

/-- The chunk sums added in chunk order. -/
def fastSum : Nat → List Val → Option Val → Val
  | 0, _, acc => acc.getD (.fin 0 false)
  | fuel + 1, l, acc =>
    if l = [] then acc.getD (.fin 0 false)
    else
      let c := treeSum (l.take 64)
      fastSum fuel (l.drop 64) (some (match acc with | none => c | some a => add32 a c))

/-- A NUMERICS entry marks a command's operation fast (02 R37, R164). -/
def State.fastMarked (s : State) (c : Cmd) : Bool :=
  match (s.part c.part).active with
  | none => false
  | some img => img.numerics.any (fun m => m.fast && decide (m.first ≤ wLayer c.w) && decide (wLayer c.w ≤ m.last) &&
      (m.operator == 0xFFF || m.operator == wOp c.w))

/-- RSUM (R164): exact through the exact-sum register, or in tree order where the operation is marked fast. -/
def execVuRsum (t : Nat) (s : State) : Res :=
  match s.vuHead t 0x20 with
  | none => .next s
  | some c =>
    .next (s.vuGo t c (vuReads c.w) [(vuD c.w, codeBytes (vuOut c.w))] (fun s bad =>
      match bad with
      | some u => s.vuReadFault t c u {}
      | none =>
        let l := s.vuAll t c.w
        let x := l.foldl Xsr.addVal {}
        let fast := s.fastMarked c
        let v := if fast then fastSum (l.length + 1) l none else x.val
        s.vuFinish t c (vuRun (vuD c.w) (codeBytes (vuOut c.w)) [laneOut (vuOut c.w) (vuRtz c.w) v]) [] (if fast then none else some x)))

/-- RMAX (R156, R158): the largest element; among equal values the lower index. -/
def execVuRmax (t : Nat) (s : State) : Res :=
  match s.vuHead t 0x21 with
  | none => .next s
  | some c =>
    .next (s.vuGo t c (vuReads c.w) [(vuD c.w, codeBytes (vuOut c.w))] (fun s bad =>
      match bad with
      | some u => s.vuReadFault t c u {}
      | none =>
        let l := s.vuAll t c.w
        let v := l.tail.foldl (fun m x => if x.above m then x else m) (l.headD .nan)
        s.vuFinish t c (vuRun (vuD c.w) (codeBytes (vuOut c.w)) [laneOut (vuOut c.w) (vuRtz c.w) v]) [] none))

/-- The entry of highest rank in a list, the lower index first. -/
def topOf : List (Nat × Val) → Option (Nat × Val)
  | [] => none
  | x :: l => some (l.foldl (fun m y => if y.2.above m.2 then y else m) x)

/-- The K entries of highest rank, in rank order. -/
def topSel : Nat → List (Nat × Val) → List (Nat × Val)
  | 0, _ => []
  | k + 1, l =>
    match topOf l with
    | none => []
    | some x => x :: topSel k (l.filter (fun y => y.1 != x.1))

/-- TOPK (R158): the K values of highest rank, and their indices as 32-bit integers. -/
def execVuTopk (t : Nat) (s : State) : Res :=
  match s.vuHead t 0x22 with
  | none => .next s
  | some c =>
    let k := topK c.w
    .next (s.vuGo t c [(vuA c.w, vuCount c.w * codeBytes (vuIn c.w))] [(vuD c.w, k * codeBytes (vuOut c.w)), (vuC c.w, 4 * k)] (fun s bad =>
      match bad with
      | some u => s.vuReadFault t c u {}
      | none =>
        let top := topSel k (enumFrom 0 (s.vuAll t c.w))
        s.vuFinish t c (vuRun (vuD c.w) (codeBytes (vuOut c.w)) (top.map (fun x => laneOut (vuOut c.w) (vuRtz c.w) x.2)))
          (vuRun (vuC c.w) 4 (top.map (fun x => (x.1, 0)))) none))

/-! ## G32 conversion (R159, 05 R127, R129) -/

/-- The unit exponent of element i's block. -/
def State.g32Exp (s : State) (t w i : Nat) : Int := signed 16 (s.readNat (sramBase t + vuB w + i / 64 * 2) 2)

/-- The extents that a G32 conversion reads: the elements and the exponents of their blocks. -/
def g32Reads (w : Nat) : List (Nat × Nat) :=
  [(vuA w, vuCount w * (if vuIn w = 9 then 4 else codeBytes (vuIn w))), (vuB w, (vuCount w + 63) / 64 * 2)]

/-- The inputs of element i of a G32 conversion hold no bad line. -/
def State.g32Clean (s : State) (t w i : Nat) : Bool :=
  let e := if vuIn w = 9 then 4 else codeBytes (vuIn w)
  (s.firstBad (sramBase t + vuA w + i * e) e).isNone && (s.firstBad (sramBase t + vuB w + i / 64 * 2) 2).isNone

/-- TO_G32 (R159): values into G32 under their blocks' exponents and the guard count. -/
def execVuToG32 (t : Nat) (s : State) : Res :=
  match s.vuHead t 0x28 with
  | none => .next s
  | some c =>
    .next (s.vuGo t c (g32Reads c.w) [(vuD c.w, 4 * vuCount c.w)] (fun s bad =>
      let rs := vuRun (vuD c.w) 4 ((List.range (vuCount c.w)).map (fun i =>
        let r := g32Convert (s.g32Exp t c.w i) (vuGuard c.w) (s.vuElem t (vuIn c.w) (vuA c.w) false i)
        (r.1, if r.2 = 0 then 0 else r.2 + 1)))
      match bad with
      | some u =>
        let r := State.vuSome t (vuMaster t c) (fun i => s.g32Clean t c.w i) 0 rs s
        r.1.vuReadFault t c u r.2
      | none => s.vuFinish t c rs [] none))

/-- FROM_G32 (R159, 05 R129): G32 elements at their exact values, rounded once. -/
def execVuFromG32 (t : Nat) (s : State) : Res :=
  match s.vuHead t 0x29 with
  | none => .next s
  | some c =>
    .next (s.vuGo t c (g32Reads c.w) [(vuD c.w, vuCount c.w * codeBytes (vuOut c.w))] (fun s bad =>
      let rs := vuRun (vuD c.w) (codeBytes (vuOut c.w)) ((List.range (vuCount c.w)).map (fun i =>
        laneOut (vuOut c.w) (vuRtz c.w) (g32Val (s.g32Exp t c.w i) (s.readNat (sramBase t + vuA c.w + 4 * i) 4))))
      match bad with
      | some u =>
        let r := State.vuSome t (vuMaster t c) (fun i => s.g32Clean t c.w i) 0 rs s
        r.1.vuReadFault t c u r.2
      | none => s.vuFinish t c rs [] none))

/-! ## Exact-sum register commands (R163) -/

/-- The register that XSR_ADD and XSR_LOADADD start from. -/
def State.xsrFrom (s : State) (t w : Nat) : Xsr := if vuClearFirst w then {} else (s.tile t).xsr

/-- XSR_ADD (R163): adds a[0] to a[COUNT − 1]; the register changes when the command completes OK. -/
def execXsrAdd (t : Nat) (s : State) : Res :=
  match s.vuHead t 0x30 with
  | none => .next s
  | some c =>
    .next (s.vuGo t c [(vuA c.w, vuCount c.w * codeBytes (vuIn c.w))] [] (fun s bad =>
      match bad with
      | some u => s.vuReadFault t c u {}
      | none => s.vuFinish t c [] [] (some ((s.vuAll t c.w).foldl Xsr.addVal (s.xsrFrom t c.w)))))

/-- XSR_LOADADD (R163): combines COUNT images into the register. -/
def execXsrLoadadd (t : Nat) (s : State) : Res :=
  match s.vuHead t 0x31 with
  | none => .next s
  | some c =>
    .next (s.vuGo t c [(vuA c.w, 64 * vuCount c.w)] [] (fun s bad =>
      match bad with
      | some u => s.vuReadFault t c u {}
      | none =>
        let imgs := (List.range (vuCount c.w)).map (fun i => Xsr.ofImage (s.readNat (sramBase t + vuA c.w + 64 * i) 64))
        s.vuFinish t c [] [] (some (imgs.foldl Xsr.combine (s.xsrFrom t c.w)))))

/-- XSR_STORE (R163): writes the register as one image. -/
def execXsrStore (t : Nat) (s : State) : Res :=
  match s.vuHead t 0x32 with
  | none => .next s
  | some c =>
    .next (s.vuGo t c [] [(vuD c.w, 64)] (fun s _ => s.vuFinish t c [⟨vuD c.w, 64, (s.tile t).xsr.image, 0⟩] [] none))

/-- XSR_ROUND (R163): writes the register's value, rounded once. -/
def execXsrRound (t : Nat) (s : State) : Res :=
  match s.vuHead t 0x33 with
  | none => .next s
  | some c =>
    .next (s.vuGo t c [] [(vuD c.w, codeBytes (vuOut c.w))] (fun s _ =>
      s.vuFinish t c (vuRun (vuD c.w) (codeBytes (vuOut c.w)) [laneOut (vuOut c.w) (vuRtz c.w) (s.tile t).xsr.val]) [] none))

/-- XSR_CLEAR (R163). -/
def execXsrClear (t : Nat) (s : State) : Res :=
  match s.vuHead t 0x34 with
  | none => .next s
  | some c => .next (s.vuGo t c [] [] (fun s _ => s.vuFinish t c [] [] (some {})))

/-! ## Draws (R165 to R168) -/

/-- DRAW (R168): one draw per element. -/
def execDraw (t : Nat) (s : State) : Res :=
  match s.vuHead t 0x38 with
  | none => .next s
  | some c =>
    .next (s.vuGo t c [] [(drawD c.w, 4 * drawCount c.w)] (fun s _ =>
      let one := fun (i : Nat) =>
        let d := draw32 (s.drawKey c.part) (drawCounter c.step (wLayer c.w) c.mb ((drawBase c.w + i) % 2 ^ 48) (drawStreamOf c.w))
        if drawKind c.w = 0 then d else fpConvert .fp32 .rne (.fin ((((d / 256 : Nat) : Int) : Rat) * pow2 (-24)) false)
      s.vuFinish t c (vuRun (drawD c.w) 4 ((List.range (drawCount c.w)).map (fun i => (one i, 0)))) [] none))

end Sys2Proof.Machine
end

