-- ==== Sys2Proof/Machine/Anvil.lean ====
section
/-! DEFINITION. The Anvil units (08_anvil_and_training_passes.md R173 to R186, R194 to R200): forwarding, UPDATE, NORM, XOR_ACC
and the Halo record. -/
namespace Sys2Proof.Machine

/-! ## Anvil arithmetic (R179, R180): every operation is exact, then rounded once to FP32 under RNE -/

/-- rne32. -/
def r32 (v : Val) : Val := fpDecode .fp32 (fpConvert .fp32 .rne (ieeeOver false v))

/-- The exact quotient (IEEE 754). -/
def Val.div (a b : Val) : Val :=
  match a, b with
  | .nan, _ => .nan
  | _, .nan => .nan
  | .inf _, .inf _ => .nan
  | .inf n, .fin y m => .inf (n != (decide (y < 0) || m))
  | .fin _ _, .inf _ => .fin 0 (a.neg != b.neg)
  | .fin x _, .fin y _ =>
    if y = 0 then (if x = 0 then .nan else .inf (a.neg != b.neg))
    else .fin (x / y) (decide (x = 0) && (a.neg != b.neg))

/-- A rational that rounds to FP32 as the square root of an FP32 value does: the root to 200 fraction bits, with half a last
place more where it is not exact. -/
def rootFor (x : Rat) : Rat :=
  let n := (x * pow2 400).floor.toNat
  let q := isqrt n
  let r : Rat := if q * q = n then ((q : Nat) : Int) else (((2 * q + 1 : Nat) : Int) : Rat) / 2
  r * pow2 (-200)

/-- rne32 of the square root of an FP32 value. -/
def sqrt32 : Val → Val
  | .nan => .nan
  | .inf neg => if neg then .nan else .inf false
  | .fin x nz => if x < 0 then .nan else if x = 0 then .fin 0 nz else r32 (.fin (rootFor x) false)

/-- The FP32 value of a code. -/
def f32 (c : Nat) : Val := fpDecode .fp32 c

/-! ## The update descriptor (R177) -/

/-- An update descriptor. -/
structure UpdDesc where
  hi : Nat
  lo : Nat
  m : Nat
  v : Nat
  g : Nat
  gexp : Nat
  next : Nat
  count : Nat
  gnorm : Nat
  elems : Nat
  layer : Nat
  base : Nat
  tOpt : Nat
  kind : Nat
  nextG : Nat
  flags : Nat
  lr : Nat
  decay : Nat
  beta1 : Nat
  beta2 : Nat
  eps : Nat
  maxNorm : Nat
  gscale : Nat
  deriving DecidableEq, Repr

/-- A descriptor read from its 128 bytes. -/
def descOf (b : List Byte) : UpdDesc :=
  { hi := fieldAt b 0x00 8, lo := fieldAt b 0x08 8, m := fieldAt b 0x10 8, v := fieldAt b 0x18 8, g := fieldAt b 0x20 8,
    gexp := fieldAt b 0x28 8, next := fieldAt b 0x30 8, count := fieldAt b 0x38 8, gnorm := fieldAt b 0x40 8,
    elems := fieldAt b 0x48 4, layer := fieldAt b 0x4C 4, base := fieldAt b 0x50 8, tOpt := fieldAt b 0x58 4,
    kind := fieldAt b 0x5C 1, nextG := fieldAt b 0x5D 1, flags := fieldAt b 0x5E 2, lr := fieldAt b 0x60 4,
    decay := fieldAt b 0x64 4, beta1 := fieldAt b 0x68 4, beta2 := fieldAt b 0x6C 4, eps := fieldAt b 0x70 4,
    maxNorm := fieldAt b 0x74 4, gscale := fieldAt b 0x78 4 }

/-- CLIP_EN and MOMENT_SR. -/
def UpdDesc.clip (d : UpdDesc) : Bool := bit d.flags 0
def UpdDesc.momentSr (d : UpdDesc) : Bool := bit d.flags 1

/-- Finite and at least zero; finite and above zero; a zero. -/
def Val.nonNeg : Val → Bool | .fin x _ => decide (0 ≤ x) | _ => false
def Val.pos : Val → Bool | .fin x _ => decide (0 < x) | _ => false
def Val.isZero : Val → Bool | .fin x _ => decide (x = 0) | _ => false

/-- Below one. -/
def Val.belowOne : Val → Bool | .fin x _ => decide (x < 1) | _ => false

/-- A descriptor's fields meet R177, its reserved bytes zero. -/
def UpdDesc.ok (d : UpdDesc) (reserved : Nat) : Bool :=
  reserved == 0 && [d.hi, d.lo, d.m, d.v, d.g, d.gexp, d.next, d.count, d.gnorm].all (fun a => decide (a < 2 ^ 48)) &&
  aligned d.hi 32 && aligned d.lo 32 && aligned d.gexp 32 && aligned d.next 32 && aligned d.count 4 &&
  inRange d.elems 1 (2 ^ 31) && decide (d.layer < 2 ^ 20) && decide (d.base < 2 ^ 48) && decide (1 ≤ d.tOpt) &&
  decide (d.kind ≤ 2) && decide (d.nextG ≤ 30) && decide (d.flags < 4) && (d.kind == 1 || d.v == 0) &&
  (f32 d.lr).nonNeg && (f32 d.decay).nonNeg && (f32 d.beta1).nonNeg && (f32 d.beta1).belowOne &&
  (f32 d.beta2).nonNeg && (f32 d.beta2).belowOne && (d.kind != 0 || (f32 d.beta2).isZero) &&
  (if d.kind = 1 then (f32 d.eps).pos else (f32 d.eps).isZero) &&
  (if d.clip then (f32 d.maxNorm).pos else (f32 d.maxNorm).isZero) &&
  (f32 d.gscale).isFin && !(f32 d.gscale).isZero

/-- A descriptor's 128 bytes are valid. -/
def descOk (b : List Byte) : Bool := (descOf b).ok (fieldAt b 0x7C 4)

/-- Superblocks and G32 blocks of a group. -/
def UpdDesc.superblocks (d : UpdDesc) : Nat := (d.elems + 1023) / 1024
def UpdDesc.blocks (d : UpdDesc) : Nat := (d.elems + 63) / 64

/-- The extents that must lie in the served stackNos: hi, lo, M8 and V8 (R178). -/
def UpdDesc.stackExtents (d : UpdDesc) : List (Nat × Nat) :=
  [(d.hi, 2 * d.elems), (d.lo, 4 * d.elems), (d.m, 1056 * d.superblocks)] ++
  (if d.kind = 1 then [(d.v, 1056 * d.superblocks)] else [])

/-- The extents that the gradient is read from: G32, its exponents and the contributor count. -/
def UpdDesc.gradExtents (d : UpdDesc) : List (Nat × Nat) := [(d.g, 4 * d.elems), (d.gexp, 2 * d.blocks), (d.count, 4)]

/-- Every extent of an UPDATE. -/
def UpdDesc.extents (d : UpdDesc) : List (Nat × Nat) :=
  d.stackExtents ++ d.gradExtents ++ (if d.next = 0 then [] else [(d.next, 2 * d.blocks)]) ++ (if d.clip then [(d.gnorm, 64)] else [])

/-- The lowest address of an extent outside a set of stackNos (R178). -/
def outsideStacks (mask a n : Nat) : Option Nat :=
  let starts := a :: ((List.range 9).map (fun k => k * stackBytes)).filter (fun x => decide (a < x) && decide (x < a + n))
  if n = 0 then none else starts.find? (fun x => !(isHbm x && bit mask (x / stackBytes)))

/-! ## One element (R179 to R181) -/

/-- What every element of a command shares: n_c, the clip factor (none where a norm's side bit holds every element), and the
constants of the kind. -/
structure UpdCtx where
  d : UpdDesc
  nc : Nat
  c : Option Val
  omb1 : Val
  omb2 : Val
  bc1 : Val
  bc2 : Val
  deriving DecidableEq, Repr

/-- rne32(1 − β^t), with the exact power. -/
def oneMinusPow (beta t : Nat) : Val :=
  match f32 beta with
  | .fin x _ => r32 (.fin (1 - ((x.num ^ t : Int) : Rat) / (((x.den ^ t : Nat) : Int) : Rat)) false)
  | v => v

/-- The clip factor from the record's exact sum (R179): none where a side bit is set. -/
def clipFactor (d : UpdDesc) (sq : Xsr) : Option Val :=
  if sq.pinf || sq.ninf || sq.nan then none
  else
    let nrm := sqrt32 (f32 (fpConvert .fp32 .rne sq.val))
    if !(nrm.above (f32 d.maxNorm)) then some (.fin 1 false) else some (r32 ((f32 d.maxNorm).div nrm))

/-- A command's shared values. -/
def updCtx (d : UpdDesc) (nc : Nat) (c : Option Val) : UpdCtx :=
  { d := d, nc := nc, c := c, omb1 := r32 ((Val.fin 1 false).add (f32 d.beta1).negate),
    omb2 := r32 ((Val.fin 1 false).add (f32 d.beta2).negate),
    bc1 := if d.kind = 1 then oneMinusPow d.beta1 d.tOpt else .fin 1 false,
    bc2 := if d.kind = 1 then oneMinusPow d.beta2 d.tOpt else .fin 1 false }

/-- The exact mean gradient of an element (R179, R186). -/
def meanGrad (u : Int) (g nc : Nat) : Rat := ((signed 32 g : Int) : Rat) * pow2 u / ((nc : Nat) : Int)

/-- gbar (R179). -/
def gbarOf (d : UpdDesc) (u : Int) (g nc : Nat) : Val := r32 (.fin (meanGrad u g nc * (f32 d.gscale).real) false)

/-- sign(x), with sign(0) = 0 (R180). -/
def Val.sign : Val → Val
  | .nan => .nan
  | .inf n => .fin (if n then -1 else 1) false
  | .fin x _ => .fin (if x = 0 then 0 else if x < 0 then -1 else 1) false

/-- The step d and the new moments m1, v1, s1 of an element (R180), from its clipped gradient, hi and old moments. -/
def updKind (k : UpdCtx) (gc hi m s : Val) : Val × Val × Val × Val :=
  let b1 := f32 k.d.beta1
  let b2 := f32 k.d.beta2
  let nlr := (f32 k.d.lr).negate
  let x := r32 ((f32 k.d.decay).mul hi)
  let zero : Val := .fin 0 false
  if k.d.kind = 0 then
    let m1 := r32 ((r32 (b1.mul m)).add gc)
    (r32 (nlr.mul (r32 (m1.add x))), m1, zero, zero)
  else if k.d.kind = 1 then
    let m1 := r32 ((r32 (b1.mul m)).add (r32 (k.omb1.mul gc)))
    let v1 := r32 ((r32 (b2.mul (r32 (s.mul s)))).add (r32 (k.omb2.mul (r32 (gc.mul gc)))))
    let den := r32 ((sqrt32 (r32 (v1.div k.bc2))).add (f32 k.d.eps))
    (r32 (nlr.mul (r32 ((r32 ((r32 (m1.div k.bc1)).div den)).add x))), m1, v1, sqrt32 v1)
  else
    let c1 := r32 ((r32 (b1.mul m)).add (r32 (k.omb1.mul gc)))
    (r32 (nlr.mul (r32 (c1.sign.add x))), r32 ((r32 (b2.mul m)).add (r32 (k.omb2.mul gc))), zero, zero)

/-- An element after the update: held or not, its gbar if it has one, its step, its new pair, whether it saturated, and the
moments to encode. -/
structure ElemOut where
  held : Bool
  gbar : Option Val
  d : Val
  hi : Nat
  lo : Nat
  saturated : Bool
  m : Rat
  s : Rat
  deriving DecidableEq, Repr

/-- The largest finite BF16 value. -/
def bf16Max : Rat := (fpDecode .bf16 0x7F7F).real

/-- The new weight (R181): the pair, and whether it was limited. -/
def newWeight (hi lo : Nat) (d : Rat) : Nat × Nat × Bool :=
  let w1 := masterVal hi lo + d
  if rabs w1 > bf16Max then
    let p := masterPair (if w1 < 0 then -bf16Max else bf16Max)
    (p.1, p.2, true)
  else
    let p := masterPair w1
    (p.1, p.2, false)

/-- One element (R179 to R183). -/
def updElem (k : UpdCtx) (u : Int) (g hi lo : Nat) (m s : Rat) : ElemOut :=
  let keep := fun (gb : Option Val) => (⟨true, gb, .fin 0 false, hi, lo, false, m, s⟩ : ElemOut)
  if g = g32Invalid then keep none
  else
    let gb := gbarOf k.d u g k.nc
    match (if k.d.clip then k.c else some (.fin 1 false)) with
    | none => keep (some gb)
    | some c =>
      let gc := if k.d.clip then r32 (gb.mul c) else gb
      let r := updKind k gc (fpDecode .bf16 hi) (.fin m false) (.fin s false)
      if r.1.isFin && r.2.1.isFin && r.2.2.1.isFin && r.2.2.2.isFin then
        let w := newWeight hi lo r.1.real
        ⟨false, some gb, r.1, w.1, w.2.1, w.2.2, r.2.1.real, r.2.2.2.real⟩
      else keep (some gb)

/-! ## Moments (R182, 05 R122, R123) -/

/-- A stored moment's value: M8, or √v for V8. -/
def momentVal (v8 : Bool) (scale q : Nat) : Rat :=
  if scale = 0 then 0 else (if v8 then (((q % 256 : Nat) : Int) : Rat) else ((signed 8 q : Int) : Rat)) * pow2 ((scale : Int) - 133)

/-- The unit exponent of a block whose largest magnitude is a, above zero. -/
def momentExp (top : Nat) (a : Rat) : Int :=
  let r := a / ((top : Nat) : Int)
  let k := floorLog2 r
  let x := if r ≤ pow2 k then k else k + 1
  if x < -132 then -132 else x

/-- A block re-encoded: its scale byte, its codes; each element has its own rounding. -/
def momentBlock (v8 : Bool) (rnd : Nat → Rnd) (vals : List Rat) : Nat × List Nat :=
  let top := if v8 then 255 else 127
  let a := vals.foldl (fun m v => rmax m (rabs v)) 0
  if a = 0 then (0, vals.map (fun _ => 0))
  else
    let x := momentExp top a
    let code := fun (e : Nat × Rat) =>
      let q := min (roundMag (rnd e.1) (rabs e.2 * pow2 (-x))) top
      if e.2 < 0 then unsignedOf 8 (-((q : Nat) : Int)) else q
    ((x + 133).toNat, (enumFrom 0 vals).map code)

/-- The rounding of an element's moment (R182): its index in the group, and the stream. -/
def momentRnd (d : UpdDesc) (key step stream i : Nat) : Rnd :=
  if d.momentSr then .sr (draw32 key (drawCounter step d.layer 0 ((d.base + i) % 2 ^ 48) stream)) else .rne

/-- A superblock of moments: 1,024 element bytes, then 32 scale bytes (R122). -/
def momentBytes (d : UpdDesc) (v8 : Bool) (key step i0 : Nat) (vals : List Rat) : List Byte :=
  let v := (vals ++ List.replicate 1024 0).take 1024
  let stream := if v8 then 0xF02 else 0xF01
  let blocks := (List.range 32).map (fun b => momentBlock v8 (fun k => momentRnd d key step stream (i0 + 32 * b + k)) ((v.drop (32 * b)).take 32))
  (blocks.flatMap (·.2)).map (fun q => BitVec.ofNat 8 q) ++ blocks.map (fun b => BitVec.ofNat 8 b.1)

/-! ## The Halo record (R194 to R196) -/

/-- What is added into a Halo entry. -/
structure HaloAdd where
  params : Nat := 0
  nonfinite : Nat := 0
  gNonfinite : Nat := 0
  gSat : Nat := 0
  avNonfinite : Nat := 0
  avSaturate : Nat := 0
  sqDelta : Xsr := {}
  sqW : Xsr := {}
  sqGrad : Xsr := {}
  deriving DecidableEq, Repr

/-- The address of the entry for a step and a layer (R194), and the layer that the entry shows. -/
def State.haloEntry (s : State) (p step layer : Nat) : Nat × Nat :=
  let g := SI_HALO_GEOM p
  let n := s.fld g SI_HALO_GEOM_LAYERS
  let b := s.fld g SI_HALO_GEOM_LAYER_BASE
  let inside := decide (b ≤ layer) && decide (layer < b + n)
  let i := if inside then layer - b else n
  (s.fld (SI_HALO_BASE p) SI_HALO_BASE_ADDR + (step % s.fld g SI_HALO_GEOM_SLOTS * (n + 1) + i) * 256, if inside then layer else 0xFFFFF)

/-- Halo counts are kept for a partition (R194). -/
def State.haloOn (s : State) (p : Nat) : Bool := s.flag (SI_HALO_GEOM p) SI_HALO_GEOM_ENABLE

/-- A Halo message is discarded without an entry to take it (R196). -/
def State.haloLost (s : State) : State := s.sticky SI_SPARE_ERR SI_SPARE_ERR_HALO_LOST SI_SPARE_EVENTS

/-- A count of an entry's bytes raised; it wraps modulo 2^64. -/
def addCount (b : List Byte) (off k : Nat) : List Byte := leBytes 8 (fieldAt b off 8 + k)

/-- An exact sum of an entry's bytes combined. -/
def addSum (b : List Byte) (off : Nat) (x : Xsr) : List Byte := leBytes 64 ((Xsr.ofImage (fieldAt b off 64)).combine x).image

/-- An entry's 256 bytes with a message added. -/
def haloAdded (b : List Byte) (h : HaloAdd) : List Byte :=
  b.take 8 ++ addCount b 0x08 h.params ++ addCount b 0x10 h.nonfinite ++ addCount b 0x18 h.gNonfinite ++ addCount b 0x20 h.gSat ++
  addCount b 0x28 h.avNonfinite ++ addCount b 0x30 h.avSaturate ++ (b.drop 0x38).take 8 ++ addSum b 0x40 h.sqDelta ++
  addSum b 0x80 h.sqW ++ addSum b 0xC0 h.sqGrad

/-- A message applied by a unit (R196): added, with the entry claimed first where its step is newer; discarded where it is
older, or where the entry cannot be used. -/
def State.haloApply (s : State) (u p step layer : Nat) (h : HaloAdd) : State :=
  let e := s.haloEntry p step layer
  let m : Master := ⟨4, u, 0, some p, none⟩
  if s.inFailed e.1 then s.haloLost
  else
    match s.firstBad e.1 256 with
    | some b => (s.ueMet 2 b m).haloLost
    | none =>
      let old := s.readBytes e.1 256
      let d := (step % 2 ^ 32 + 2 ^ 32 - fieldAt old 0 4) % 2 ^ 32
      if 2 ^ 31 ≤ d then
        (s.addFld (AV_HALO u) AV_HALO_LATE 1).sticky (AV_FAULT u) AV_FAULT_HALO_LATE (AV_FAULT_EVENTS u)
      else
        let b := if d = 0 then old else leBytes 4 step ++ leBytes 4 e.2 ++ zeros 248
        let x : Attr := { part := some p, master := some 4 }
        let s := ((s.hbRead e.1 256 x).hbWrite e.1 256 x).writeBytes e.1 (haloAdded b h) |>.addFld (AV_HALO u) AV_HALO_APPLIED 1
        s.count 3 u 0x06 1 { part := some p }

/-- The power domain that a Halo message would wait for (17 R405, R411): that of the unit that applies it, then that of its entry's memory. -/
def State.haloOff (s : State) (p step layer : Nat) : Option Nat :=
  let a := (s.haloEntry p step layer).1
  if !s.haloOn p then none
  else
    match s.haloUnit (a / stackBytes) with
    | none => none
    | some u =>
      if !s.domOn (84 + u) then some (84 + u)
      else (s.firstOff a 256).map (fun x => s.memDomain x)

/-- A message sent directly by an Anvil unit (R197): applied at once by the unit of its entry's stack, or discarded where no unit remains. The
command that sends it has waited for their domains (`State.haloOff`). -/
def State.haloDirect (s : State) (p step layer : Nat) (h : HaloAdd) : State :=
  if s.haloOn p then
    match s.haloUnit ((s.haloEntry p step layer).1 / stackBytes) with
    | some u => s.haloApply u p step layer h
    | none => s.haloLost
  else s

/-! ## Forwarding (R175) -/

/-- ANVIL_FORWARD (R175): the waiting head of queue 7 goes to its unit's input where its wait holds and the input has a free
place; one whose unit was fenced since ends with QUEUE_FLUSHED (15 R366). -/
def execAnvilForward (t : Nat) (s : State) : Res :=
  match s.headOf t 7 with
  | none => .next s
  | some c =>
    let u := wEngine c.w - 8
    if !(s.queueRuns t 7 && s.waitHolds t c) then .next s
    else if !s.anvilUsable u then .next ((s.startHead t 7 c).endCmd t 7 c stFlushed 0 0)
    else if !s.domOn (84 + u) then .next (s.holdWork (waiter t 7) (84 + u))
    else if 32 ≤ (s.anvil u).input.length then .next s
    else
      let s := s.startHead t 7 c
      let c := { c with fwd := s.forwards }
      let x := s.tile t
      let s := { (s.setTile t { x with outstanding := x.outstanding ++ [c] }) with forwards := s.forwards + 1 }
      .next (s.setAnvil u { s.anvil u with input := (s.anvil u).input ++ [(t, c)] })

/-! ## Running a command (R178, R199) -/

/-- The command that a unit takes next, where it has the opcode given: the first of its input whose partition is not stopped
(14 R354), on a usable unit whose domain is ON. -/
def State.anvilHead (s : State) (u op : Nat) : Option (Nat × Cmd) :=
  if s.anvilUsable u && s.domOn (84 + u) then
    match (s.anvil u).input.find? (fun e => !s.stopHolds (some e.2.part)) with
    | some e => if wOpcode e.2.w = op then some e else none
    | none => none
  else none

/-- A command leaves its unit's input. -/
def State.anvilTake (s : State) (u : Nat) (e : Nat × Cmd) : State :=
  let x := s.anvil u
  (s.setAnvil u { x with input := x.input.filter (fun y => y.2.fwd != e.2.fwd), under := x.under.filter (fun y => y.1 != e.2.fwd) }).count 3 u 0x01 1 e.2.attr

/-- A stopping fault of a unit (R199): its bit, what is known of it, and its report. -/
def State.anvilFault (s : State) (u t : Nat) (c : Cmd) (f : Fld) (status addr element : Nat) : State :=
  let s := s.sticky (AV_FAULT u) f (AV_FAULT_EVENTS u)
  let s := s.wr (AV_FAULT_INFO u) (status * 2 ^ 56 + wOpcode c.w * 2 ^ 48 + t * 2 ^ 32 + element % 2 ^ 32)
  (s.wr (AV_FAULT_ADDR u) (addr % 2 ^ 48)).anvilReport t c status addr []

/-- Who an Anvil command's errors name (09 R222). -/
def anvilMaster (u : Nat) (c : Cmd) : Master := (c.master 4 u)

/-- A read of a unit met an uncorrectable error. -/
def State.anvilUe (s : State) (u t : Nat) (c : Cmd) (bad element : Nat) : State :=
  (s.ueMet 2 bad (anvilMaster u c)).anvilFault u t c AV_FAULT_DATA stDataFault (errUnit bad) element

/-- The first bad unit among extents, in order. -/
def State.badOf (s : State) (l : List (Nat × Nat)) : Option Nat := l.findSome? (fun e => s.firstBad e.1 e.2)

/-- The first address among extents that is not owned, in order. -/
def State.unownedOf (s : State) (p : Nat) (l : List (Nat × Nat)) : Option Nat := l.findSome? (fun e => s.firstUnowned p e.1 e.2)

/-- The first address among extents whose memory is not ON. -/
def State.offOf (s : State) (l : List (Nat × Nat)) : Option Nat := l.findSome? (fun e => s.firstOff e.1 e.2)

/-- The sectors read and written by a unit. -/
def State.anvilTraffic (s : State) (c : Cmd) (reads writes : List (Nat × Nat)) : State :=
  let x : Attr := { c.attr with master := some 4 }
  let s := reads.foldl (fun s e => s.hbRead e.1 e.2 x) s
  writes.foldl (fun s e => s.hbWrite e.1 e.2 x) s

/-- A command's work under its partition's image: the present one, or that in force when its partition was reset as it ran (R200). -/
def State.runUnder (s : State) (u : Nat) (c : Cmd) (f : State → State) : State :=
  match (s.anvil u).under with
  | some (n, old) => if n = c.fwd then (f (s.setPart c.part old)).setPart c.part (s.part c.part) else f s
  | none => f s

/-- The checks of R178 for a command with a descriptor, then its work: the descriptor's extent, its validity, the other extents'
ownership, the served stacks. -/
def State.withDesc (s : State) (u t : Nat) (c : Cmd) (extents : UpdDesc → List (Nat × Nat)) (stackNos : UpdDesc → List (Nat × Nat))
    (work : State → UpdDesc → State) : State :=
  let a := avDesc c.w
  match s.firstUnowned c.part a 128 with
  | some x => (s.anvilTake u (t, c)).anvilFault u t c AV_FAULT_ACCESS stAccessFault x 0
  | none =>
    if s.memOn a 128 = false then s.holdAccess (0x20000 + u) a { c.attr with master := some 4 }
    else
      match s.firstBad a 128 with
      | some x => (s.anvilTake u (t, c)).anvilUe u t c x 0
      | none =>
        let b := s.readBytes a 128
        let d := descOf b
        if descOk b = false then (s.anvilTake u (t, c)).anvilFault u t c AV_FAULT_DESCRIPTOR stDataFault a 0
        else
          match s.unownedOf c.part (extents d), (stackNos d).findSome? (fun e => outsideStacks (s.fuses.serves u) e.1 e.2) with
          | some x, _ => (s.anvilTake u (t, c)).anvilFault u t c AV_FAULT_ACCESS stAccessFault x 0
          | none, some x => (s.anvilTake u (t, c)).anvilFault u t c AV_FAULT_STACK_SET stAccessFault x 0
          | none, none =>
            match s.offOf (extents d) with
            | some x => s.holdAccess (0x20000 + u) x { c.attr with master := some 4 }
            | none =>
              match (if wOpcode c.w = 1 then s.haloOff c.part c.step d.layer else none) with
              | some dom => s.holdWork (0x20000 + u) dom
              | none => work (s.anvilTake u (t, c)) d

/-! ## UPDATE (R179 to R186) -/

/-- The element inputs of superblock j: for each element its unit exponent, gradient, hi, lo and decoded moments. -/
def State.sbElems (s : State) (d : UpdDesc) (j : Nat) : List (Int × Nat × Nat × Nat × Rat × Rat) :=
  (List.range (min 1024 (d.elems - 1024 * j))).map (fun t =>
    let i := 1024 * j + t
    let mom := fun (v8 : Bool) (a : Nat) => momentVal v8 (s.readNat (a + 1056 * j + 1024 + t / 32) 1) (s.readNat (a + 1056 * j + t) 1)
    (signed 16 (s.readNat (d.gexp + i / 64 * 2) 2), s.readNat (d.g + 4 * i) 4, s.readNat (d.hi + 2 * i) 2, s.readNat (d.lo + 4 * i) 4,
      mom false d.m, if d.kind = 1 then mom true d.v else 0))

/-- What superblock j reads. -/
def UpdDesc.sbReads (d : UpdDesc) (j : Nat) : List (Nat × Nat) :=
  let n := min 1024 (d.elems - 1024 * j)
  [(d.hi + 2048 * j, 2 * n), (d.lo + 4096 * j, 4 * n), (d.m + 1056 * j, 1056)] ++ (if d.kind = 1 then [(d.v + 1056 * j, 1056)] else []) ++
  [(d.g + 4096 * j, 4 * n), (d.gexp + 32 * j, 2 * ((n + 63) / 64))]

/-- The next exponent of a block (R186). -/
def nextExp (mbar : Rat) (u : Int) (g : Nat) : Int :=
  let x := if mbar = 0 then u else floorLog2 mbar + 1 + 4 + (g : Int) - 31
  if x > 150 then 150 else if x < -180 then -180 else x

/-- The largest mean gradient of a block's elements (R186). -/
def blockMax (nc : Nat) (l : List (Int × Nat × Nat × Nat × Rat × Rat)) : Rat :=
  l.foldl (fun m e => if e.2.1 = g32Invalid then m else rmax m (rabs (meanGrad e.1 e.2.1 nc))) 0

/-- What superblock j writes: address and bytes of each tensor. -/
def sbWrites (k : UpdCtx) (key step j : Nat) (ins : List (Int × Nat × Nat × Nat × Rat × Rat)) (outs : List ElemOut) : List (Nat × List Byte) :=
  let d := k.d
  let nb := (ins.length + 63) / 64
  [(d.hi + 2048 * j, outs.flatMap (fun o => leBytes 2 o.hi)), (d.lo + 4096 * j, outs.flatMap (fun o => leBytes 4 o.lo)),
   (d.m + 1056 * j, momentBytes d false key step (1024 * j) (outs.map (·.m)))] ++
  (if d.kind = 1 then [(d.v + 1056 * j, momentBytes d true key step (1024 * j) (outs.map (·.s)))] else []) ++
  (if d.next = 0 then [] else [(d.next + 32 * j, (List.range nb).flatMap (fun b =>
    let l := (ins.drop (64 * b)).take 64
    leBytes 2 (unsignedOf 16 (nextExp (blockMax k.nc l) ((l.map (·.1)).headD 0) d.nextG))))])

/-- What superblock j adds to the Halo entry (R184). -/
def sbHalo (h : HaloAdd) (outs : List ElemOut) : HaloAdd :=
  outs.foldl (fun h o =>
    let sq := fun (v : Val) => r32 (v.mul v)
    { h with
      params := h.params + 1, avNonfinite := h.avNonfinite + b2n o.held, avSaturate := h.avSaturate + b2n o.saturated
      sqGrad := (match o.gbar with | some g => if g.isFin then h.sqGrad.addVal (sq g) else h.sqGrad | none => h.sqGrad)
      sqDelta := if o.held then h.sqDelta else h.sqDelta.addVal (sq o.d)
      sqW := h.sqW.addVal (sq (fpDecode .bf16 o.hi)) }) h

/-- The first sector that a list of writes cannot write: in a FAILED stack, or bad and only partly covered (R178). -/
def State.writeBad (s : State) (w : List (Nat × List Byte)) : Option Nat :=
  w.findSome? (fun e =>
    match s.firstFailed e.1 e.2.length with
    | some x => some x
    | none => (s.partlyBad e.1 e.2.length).head?)

/-- Writes whose sectors may or may not take effect: none in a bad or FAILED sector, the others as free values choose (R178). -/
def State.writeMaybe (m : Master) : List (Nat × List Byte) → State → State
  | [], s => s
  | (a, b) :: l, s =>
    let sectors := (List.range ((a + b.length - 1) / 32 - a / 32 + 1)).map (fun k => (a / 32 + k) * 32)
    let s := sectors.foldl (fun s x =>
      let lo := max a x
      let hi := min (a + b.length) (x + 32)
      let f := s.fresh
      if s.inFailed lo || !(s.partlyBad lo (hi - lo)).isEmpty || f.1 % 2 == 0 then f.2
      else (f.2.store lo ((b.drop (lo - a)).take (hi - lo)) m).1) s
    State.writeMaybe m l s

/-- Superblocks in ascending order, until a read or a write fails: the failure (superblock, address, whether a read), and what
the completed ones add to the Halo entry. -/
def State.updSuperblocks (k : UpdCtx) (c : Cmd) (u : Nat) : Nat → Nat → HaloAdd → State → State × HaloAdd × Option (Nat × Nat × Bool)
  | 0, _, h, s => (s, h, none)
  | fuel + 1, j, h, s =>
    match s.badOf (k.d.sbReads j) with
    | some x => (s, h, some (j, x, true))
    | none =>
      let ins := s.sbElems k.d j
      let outs := ins.map (fun e => updElem k e.1 e.2.1 e.2.2.1 e.2.2.2.1 e.2.2.2.2.1 e.2.2.2.2.2)
      let w := sbWrites k (s.drawKey c.part) c.step j ins outs
      match s.writeBad w with
      | some x => (State.writeMaybe (anvilMaster u c) w s, h, some (j, x, false))
      | none =>
        let s := w.foldl (fun s e => (s.store e.1 e.2 (anvilMaster u c)).1) s
        let s := s.anvilTraffic c (k.d.sbReads j) (w.map (fun e => (e.1, e.2.length)))
        let s := s.count 3 u 0x05 ((outs.filter (·.held)).length) c.attr
        State.updSuperblocks k c u fuel (j + 1) (sbHalo h outs) s

/-- With no contributor: superblock by superblock the next exponents equal the current ones (R179), until a read or a write fails. -/
def State.updNone (d : UpdDesc) (c : Cmd) (u : Nat) : Nat → Nat → State → State × Option (Nat × Nat × Bool)
  | 0, _, s => (s, none)
  | fuel + 1, j, s =>
    let n := min 32 (2 * d.blocks - 32 * j)
    match s.firstBad (d.gexp + 32 * j) n with
    | some x => (s, some (j, x, true))
    | none =>
      let w := [(d.next + 32 * j, s.readBytes (d.gexp + 32 * j) n)]
      match s.writeBad w with
      | some x => (State.writeMaybe (anvilMaster u c) w s, some (j, x, false))
      | none =>
        let s := w.foldl (fun s e => (s.store e.1 e.2 (anvilMaster u c)).1) s
        State.updNone d c u fuel (j + 1) (s.anvilTraffic c [(d.gexp + 32 * j, n)] [(d.next + 32 * j, n)])

/-- An UPDATE ends: OK with what it wrote, or with the failure of a superblock, at its first element (R178). -/
def State.updEnd (s : State) (u t : Nat) (c : Cmd) (wrote : List (Nat × Nat)) (fail : Option (Nat × Nat × Bool)) : State :=
  match fail with
  | none => s.anvilReport t c stOk 0 wrote
  | some (j, x, true) => s.anvilUe u t c x (1024 * j)
  | some (j, x, false) =>
    (if s.inFailed x then s else s.ueMet 3 x (anvilMaster u c)).anvilFault u t c AV_FAULT_DATA stDataFault (errUnit x) (1024 * j)

/-- What the next exponents of an UPDATE occupy. -/
def UpdDesc.nextExtent (d : UpdDesc) : List (Nat × Nat) := if d.next = 0 then [] else [(d.next, 2 * d.blocks)]

/-- An UPDATE's work after its checks: the contributor count, the clip factor, the superblocks, the Halo entry. -/
def State.updateWork (s : State) (u t : Nat) (c : Cmd) (d : UpdDesc) : State :=
  match s.firstBad d.count 4, s.badOf (if d.clip then [(d.gnorm, 64)] else []) with
  | some x, _ => s.anvilUe u t c x 0
  | none, norm =>
    let nc := s.readNat d.count 4
    if nc = 0 then
      let r := State.updNone d c u (if d.next = 0 then 0 else d.superblocks) 0 s
      r.1.updEnd u t c d.nextExtent r.2
    else if norm.isSome then s.anvilUe u t c (norm.getD 0) 0
    else
      let cf := if d.clip then clipFactor d (Xsr.ofImage (s.readNat d.gnorm 64)) else some (.fin 1 false)
      let r := State.updSuperblocks (updCtx d nc cf) c u d.superblocks 0 {} s
      let h := r.2.1
      let s := (r.1.addFld (AV_PARAMS u) AV_PARAMS_PARAMS h.params).count 3 u 0x00 h.params c.attr
      let s := if h.params = 0 then s else s.haloDirect c.part c.step d.layer h
      s.updEnd u t c (d.stackExtents ++ d.nextExtent) r.2.2

/-- UPDATE (R176 to R186): one optimiser pass over a parameter group. -/
def execUpdate (u : Nat) (s : State) : Res :=
  match s.anvilHead u 1 with
  | none => .next s
  | some (t, c) => .next (s.runUnder u c (fun s => s.withDesc u t c UpdDesc.extents UpdDesc.stackExtents (fun s d => s.updateWork u t c d)))

/-! ## NORM and XOR_ACC (R176, R184) -/

/-- The sum of squares of the mean gradient (R184). -/
def State.normSum (s : State) (d : UpdDesc) (nc : Nat) : Xsr :=
  (List.range d.elems).foldl (fun x i =>
    let g := s.readNat (d.g + 4 * i) 4
    if g = g32Invalid then x
    else
      let gb := gbarOf d (signed 16 (s.readNat (d.gexp + i / 64 * 2) 2)) g nc
      if gb.isFin then x.addVal (r32 (gb.mul gb)) else x) {}

/-- NORM's work: the exact sum is written to DST, or combined into it; a read that fails writes nothing. -/
def State.normWork (s : State) (u t : Nat) (c : Cmd) (d : UpdDesc) : State :=
  let dst := normDst c.w
  match s.firstBad d.count 4 with
  | some x => s.anvilUe u t c x 0
  | none =>
    let nc := s.readNat d.count 4
    let reads := (if nc = 0 then [] else [(d.g, 4 * d.elems), (d.gexp, 2 * d.blocks)]) ++ (if normAcc c.w then [(dst, 64)] else [])
    match s.badOf reads with
    | some x => s.anvilUe u t c x 0
    | none =>
      let sq := if nc = 0 then {} else s.normSum d nc
      let out := if normAcc c.w then (Xsr.ofImage (s.readNat dst 64)).combine sq else sq
      match s.firstFailed dst 64 with
      | some x => s.anvilFault u t c AV_FAULT_DATA stDataFault x 0
      | none =>
        ((((s.writeBytes dst (leBytes 64 out.image)).cleanUnits dst 64).anvilTraffic c reads [(dst, 64)]).anvilReport t c stOk 0 [])

/-- NORM (R176, R184). -/
def execNorm (u : Nat) (s : State) : Res :=
  match s.anvilHead u 2 with
  | none => .next s
  | some (t, c) =>
    .next (s.runUnder u c (fun s => s.withDesc u t c (fun d => d.gradExtents ++ [(normDst c.w, 64)]) (fun _ => []) (fun s d => s.normWork u t c d)))

/-- XOR_ACC's checks and work (R176, R178). -/
def State.xorWork (s : State) (u t : Nat) (c : Cmd) : State :=
  let n := 32 * xorSectors c.w
  let ext := [(xorSrc c.w, n), (xorDst c.w, n)]
  match s.unownedOf c.part ext, outsideStacks (s.fuses.serves u) (xorDst c.w) n with
  | some x, _ => (s.anvilTake u (t, c)).anvilFault u t c AV_FAULT_ACCESS stAccessFault x 0
  | none, some x => (s.anvilTake u (t, c)).anvilFault u t c AV_FAULT_STACK_SET stAccessFault x 0
  | none, none =>
    match s.offOf ext, s.badOf [(xorDst c.w, n), (xorSrc c.w, n)] with
    | some x, _ => s.holdAccess (0x20000 + u) x { c.attr with master := some 4 }
    | none, some x => (s.anvilTake u (t, c)).anvilUe u t c x 0
    | none, none =>
      let s := s.anvilTake u (t, c)
      let b := List.zipWith (fun (x y : Byte) => x ^^^ y) (s.readBytes (xorDst c.w) n) (s.readBytes (xorSrc c.w) n)
      (((s.writeBytes (xorDst c.w) b).count 3 u 0x07 (xorSectors c.w) c.attr).anvilTraffic c ext [(xorDst c.w, n)]).anvilReport t c stOk 0 []

/-- XOR_ACC (R176): DST := DST xor SRC. -/
def execXorAcc (u : Nat) (s : State) : Res :=
  match s.anvilHead u 3 with
  | none => .next s
  | some (t, c) => .next (s.runUnder u c (fun s => s.xorWork u t c))

/-! ## Halo messages of the tiles (R196, R197) -/

/-- The next count that a tile sends: the head of its outbound queue, else the oldest of its buffer, else its holder. -/
def TileSt.haloNext (x : TileSt) : Option (HaloMsg × TileSt) :=
  match x.haloOut, x.halo, x.haloHold with
  | m :: l, _, _ => some (m, { x with haloOut := l })
  | [], m :: l, _ => some (m, { x with halo := l })
  | [], [], some m => some (m, { x with haloHold := none })
  | [], [], none => none

/-- The launches of a tile that were waiting for its Halo counts are looked at (R197). -/
def State.haloSettled (s : State) (t : Nat) : State :=
  ((List.range 8).flatMap (fun p => (s.part p).tracks.filterMap (fun k => if k.tiles.contains t then some k.launch.id else none))).foldl
    (fun s id => s.checkFinished t id false) s

/-- HALO_SEND (R197): one message leaves the tile for the unit of its entry's stack; with no unit left it is discarded. -/
def execHaloSend (t : Nat) (s : State) : Res :=
  if s.tileRuns t then
    match (s.tile t).haloNext with
    | none => .next s
    | some (m, x) =>
      let s := s.setTile t x
      match s.haloUnit ((s.haloEntry m.part m.step m.layer).1 / stackBytes) with
      | some u => .next (s.setHaloAt u (s.haloAt u ++ [m]))
      | none => .next (s.haloLost.haloSettled t)
  else .next s

/-- What a tile's message adds. -/
def HaloMsg.add (m : HaloMsg) : HaloAdd := { nonfinite := m.nonfinite, gNonfinite := m.gNonfinite, gSat := m.gSat }

/-- HALO_MESSAGE (R196): a unit applies the oldest message that waits at it; messages left at a unit with no successor are
discarded. -/
def execHaloMessage (u : Nat) (s : State) : Res :=
  match (s.haloAt u).find? (fun m => !s.stopHolds (some m.part)) with
  | none => .next s
  | some m =>
    let entry := (s.haloEntry m.part m.step m.layer).1
    if s.anvilUsable u && !s.domOn (84 + u) then .next (s.holdWork (0x30000 + u) (84 + u))
    else if s.anvilUsable u && s.haloOn m.part && !s.memOn entry 256 then
      .next (s.holdAccess (0x30000 + u) ((s.firstOff entry 256).getD entry) { part := some m.part, master := some 4 })
    else
      let s := s.setHaloAt u ((s.haloAt u).erase m)
      let s := if !s.haloOn m.part then s else if s.anvilUsable u then s.haloApply u m.part m.step m.layer m.add else s.haloLost
      .next (s.haloSettled m.tile)

end Sys2Proof.Machine
end

