-- ==== Sys2Proof/Machine/Hub.lean ====
section
/-! DEFINITION. The Queue hub: queue windows, descriptors and doorbells, notifications, head words, and the collection of
completion records (10_queue_hub_and_host_link.md R225 to R239). -/
namespace Sys2Proof.Machine

/-! ## Windows and ownership (R227, R239, R244) -/

/-- The window copy of a context: none for user contexts and reserved ones. -/
def ctxWin : Ctx → Option Nat
  | .module => some 0 | .kernel p => some (1 + p.val) | .welkin => some 9 | .library => some 10 | _ => none

/-- A context may act on a queue through its window: the owner, or Welkin and the library as its owner would. -/
def State.actsOn (s : State) (ctx : Ctx) (d q : Nat) : Bool :=
  match ctx with
  | .module => s.queueOwner d q == none
  | .kernel p => s.queueOwner d q == some p.val
  | .welkin => true
  | .library => true
  | _ => false

/-- A context may ring a queue (R244). -/
def State.mayRing (s : State) (ctx : Ctx) (d q : Nat) : Bool :=
  match ctx with
  | .user p => s.queueOwner d q == some p.val && (s.queue d q).userDb
  | c => s.actsOn c d q

/-- The queue that a window copy selects. -/
def State.wsel (s : State) (d w : Nat) : Nat := (s.window d w).1 % 16384

/-! ## Notifications (R232) -/

/-- A queue's notification condition holds. -/
def QueueSt.noticeHolds (x : QueueSt) : Bool :=
  x.enabled && x.armed && x.threshold != 0 &&
  (if x.role = 1 then decide (x.threshold ≤ x.size - x.occupancy) else decide (x.threshold ≤ x.occupancy))

/-- The numbers of a list, each once, in the order in which they first stand. -/
def onceEach : List Nat → List Nat
  | [] => []
  | a :: t => a :: (onceEach t).filter (fun b => b != a)

/-- What a hub cycle fires: every queue of the die whose condition holds fires once; firings of one vector result in one
MSI (R232, R247). -/
def State.notify (s : State) (d : Nat) : State :=
  let hit := (s.queues.filter (fun e => e.1 / 16384 == d && (s.queue d (e.1 % 16384)).noticeHolds)).map (fun e => e.1 % 16384)
  let vs := hit.map (fun q => (s.queue d q).vector)
  let s := hit.foldl (fun s q => s.setQueue d q { s.queue d q with armed := false, fired := true }) s
  (onceEach vs).foldl (fun s v => s.fireVector v) s

/-- The end of a hub cycle of a half that is ON: its notifications, after all the cycle's changes; the counts that the next cycle starts with, and for die 0 the
vectors of the next, are the present ones (R231, R232, R247). -/
def State.hubEnd (s : State) (d : Nat) : State :=
  let s := if s.domOn (100 + d) then s.notify d else s
  { s with hubStart := s.hubStart.filter (fun e => e.1 / 16384 != d), msiFired := if d = 0 then [] else s.msiFired }

/-- A queue armed; arming clears FIRED. -/
def QueueSt.arm (x : QueueSt) : QueueSt := { x with armed := true, fired := false }

/-! ## Doorbells (R230) -/

/-- The doorbell's INDEX does not move its count backwards or past the other. -/
def QueueSt.indexOk (x : QueueSt) (i : Nat) : Bool :=
  if x.role = 1 then decide ((i + 2 ^ 32 - x.prod) % 2 ^ 32 ≤ x.size - x.occupancy)
  else decide ((i + 2 ^ 32 - x.cons) % 2 ^ 32 ≤ x.occupancy)

/-- DOORBELL (R230): a write of QH_DOORBELL of a die. -/
def State.doorbell (s : State) (ctx : Ctx) (d v : Nat) : State :=
  let q := bits v 13 0
  let x := s.queue d q
  let i := bits v 63 32
  if s.mayRing ctx d q && x.enabled && (x.role == 1 || x.role == 2) && (bit v 15 || x.indexOk i) then
    let s :=
      if bit v 15 then s
      else if x.role = 1 then
        let k := (i + 2 ^ 32 - x.prod) % 2 ^ 32
        let s := match ctx with
          | .user _ => s.setQueue d q { x with userSlots := x.userSlots ++ (List.range k).map (fun j => (x.prod + j) % 2 ^ 32) }
          | _ => s
        if k = 0 then s else s.advanceProd d q k
      else (s.noteCounts d q).setQueue d q { x with cons := i }
    if bit v 16 then s.setQueue d q (s.queue d q).arm else s
  else
    (s.sticky (QH_ERR d) QH_ERR_DOORBELL_BAD (QH_ERR_EVENTS d)).postEvent (ctxPart ctx) d 0x0001 q
      (leBytes 8 v ++ leBytes 1 (ctxNum ctx))

/-- DOORBELL: the row's command. -/
def execDoorbell (ctx : Ctx) (d : Nat) (value : Word) (s : State) : Res :=
  match ctxWin ctx, ctx with
  | none, .reserved _ => .next (s.accessError ctx (QH_DOORBELL d))
  | _, _ => .next (s.doorbell ctx d value.toNat)

/-! ## Descriptors and ENABLE (R225, R228) -/

/-- The entry size matches the type. -/
def QueueSt.sizeMatches (x : QueueSt) : Bool :=
  if x.ty = 1 then x.entryBytes == 32 else if x.ty = 2 then true else x.entryBytes == 64

/-- HOST_ROLE is allowed for the type (R225, 11 R271). -/
def QueueSt.roleOk (x : QueueSt) : Bool :=
  match x.ty with
  | 0 => x.role == 1 || x.role == 0
  | 1 => x.role == 2 || x.role == 0
  | 2 => decide (x.role ≤ 2)
  | 3 => x.role == 2
  | 4 => x.role == 1 || x.role == 0
  | _ => false

/-- An extent lies in the owner's memory: the owned set of a partition, any mapped address for the module. -/
def State.ownerMemory (s : State) (o : Option Nat) (a n : Nat) : Bool :=
  match o with
  | some p => s.owns p a n
  | none => memExtent a n

/-- A partition's extent in HBM lies within one owned HBM range (R42, R194, R225). -/
def State.inOneRange (s : State) (p a n : Nat) : Bool :=
  match (s.part p).active with
  | none => false
  | some img => img.hbm.any (fun r => r.2 != 0 && decide (r.1 * 0x40000000 ≤ a) && decide (a + n ≤ (r.1 + r.2) * 0x40000000))

/-- A ring lies wholly within HBM, for a partition within one owned range, or wholly within the tile SRAM of one tile. -/
def State.ringPlaced (s : State) (o : Option Nat) (a n : Nat) : Bool :=
  if isSram a then isSram (a + n - 1) && sramTile a == sramTile (a + n - 1)
  else isHbm a && isHbm (a + n - 1) && (match o with | some p => s.inOneRange p a n | none => true)

/-- SIG_TILE is 0xFFFF or a tile that the owner holds and that a usable physical tile serves. -/
def State.sigTileHeld (s : State) (o : Option Nat) (t : Nat) : Bool :=
  t == 0xFFFF ||
    (decide (t < 2048) && s.physUsable (s.physOf t) &&
      (match o with | some p => (s.part p).ownsTile t | none => s.tilePresent t))

/-- ENABLE may be set (R228). -/
def State.enableOk (s : State) (o : Option Nat) (x : QueueSt) : Bool :=
  let n := x.size * x.entryBytes
  decide (x.ty ≤ 4) && x.sizeMatches && decide (4 ≤ x.sizeLog2) && decide (x.sizeLog2 ≤ 16) && x.roleOk &&
  x.base % x.entryBytes == 0 && s.ringPlaced o x.base n && s.ownerMemory o x.base n &&
  (x.headAddr == 0 || s.ownerMemory o x.headAddr 4) && s.sigTileHeld o x.sigTile &&
  !(x.threshold != 0 && decide (x.vector < 16)) && decide (x.threshold ≤ x.size)

/-- ENTRY_TYPE is set in every tile of the clusters that a wrongly configured enabled queue feeds (03 R57). -/
def State.entryTypeCheck (s : State) (p d q : Nat) : State :=
  let x := s.queue d q
  if x.enabled && !(x.ty == 0 && x.entryBytes == 64) then
    match (s.part p).active with
    | none => s
    | some img => ((img.clusters.filter (fun c => c.die == d && c.entryQueue == q)).map clusterTiles).flatten.foldl
        (fun s t => s.tcFault t TC_FAULT_ENTRY_TYPE) s
  else s

/-- A refused ENABLE: CFG_REFUSED in the queue and the hub, and an event. -/
def State.enableRefused (s : State) (o : Option Nat) (d q w0 : Nat) : State :=
  let x := s.queue d q
  ((s.setQueue d q { x with cfgRefused := true }).sticky (QH_ERR d) QH_ERR_CFG_REFUSED (QH_ERR_EVENTS d)).postEvent o d 0x0004 q
    (leBytes 8 w0 ++ leBytes 8 x.desc1 ++ leBytes 8 x.desc2)

/-- A write of QH_WDESC0 through a window (R228, R239). -/
def State.writeDesc0 (s : State) (ctx : Ctx) (d v : Nat) : State :=
  match ctxWin ctx with
  | none => s.accessError ctx (QH_WDESC0 d)
  | some w =>
    let q := s.wsel d w
    let x := s.queue d q
    let v := putBits v 50 48 0
    let rest := v % 2 ^ 63
    if !s.actsOn ctx d q then s.accessError ctx (QH_WDESC0 d)
    else if x.enabled then
      if rest = x.desc0 % 2 ^ 63 then (s.setQueue d q { x with desc0 := v }).retargetAll else s.accessError ctx (QH_WDESC0 d)
    else
      let o := s.queueOwner d q
      let s := s.setQueue d q { x with desc0 := rest }
      if bit v 63 then
        let y : QueueSt := { x with desc0 := v }
        if s.enableOk o y then
          let y := if y.threshold ≠ 0 then y.arm else y
          let s := s.setQueue d q { y with cfgRefused := false }
          let s := match o with | some p => s.entryTypeCheck p d q | none => s
          s.retargetAll
        else s.enableRefused o d q v
      else s

/-- ENABLE (R228): a write of QH_WDESC0. -/
def execEnable (ctx : Ctx) (d : Nat) (value : Word) (s : State) : Res := .next (s.writeDesc0 ctx d value.toNat)

/-- A write of QH_WDESC1 (R228): SIG_TILE and SIG_COUNTER stay while the queue is enabled, and no enabled queue holds a THRESHOLD
above N. -/
def State.writeDesc1 (s : State) (ctx : Ctx) (d v : Nat) : State :=
  match ctxWin ctx with
  | none => s.accessError ctx (QH_WDESC1 d)
  | some w =>
    let q := s.wsel d w
    let x := s.queue d q
    let v := putBits (putBits (putBits v 36 32 0) 15 15 0) 7 0 0
    if !s.actsOn ctx d q then s.accessError ctx (QH_WDESC1 d)
    else if x.enabled && (v % 2 ^ 32 != x.desc1 % 2 ^ 32 || decide (x.size < bits v 63 48)) then s.accessError ctx (QH_WDESC1 d)
    else s.setQueue d q { x with desc1 := v }

/-- A write of QH_WDESC2 (R228). -/
def State.writeDesc2 (s : State) (ctx : Ctx) (d v : Nat) : State :=
  match ctxWin ctx with
  | none => s.accessError ctx (QH_WDESC2 d)
  | some w =>
    let q := s.wsel d w
    let x := s.queue d q
    let v := v % 2 ^ 48
    if !s.actsOn ctx d q then s.accessError ctx (QH_WDESC2 d)
    else if x.enabled && v != x.desc2 then s.accessError ctx (QH_WDESC2 d)
    else s.setQueue d q { x with desc2 := v }

/-- A write of QH_WCTRL (R239): DISARM, then ARM; RESET acts only while ENABLE is clear. -/
def State.writeWctrl (s : State) (ctx : Ctx) (d v : Nat) : State :=
  match ctxWin ctx with
  | none => s.accessError ctx (QH_WCTRL d)
  | some w =>
    let q := s.wsel d w
    let x := s.queue d q
    if !s.actsOn ctx d q then s.accessError ctx (QH_WCTRL d)
    else
      let x := if bit v 2 then { x with armed := false } else x
      let x := if bit v 1 then x.arm else x
      let x := if bit v 0 && !x.enabled then { x with prod := 0, cons := 0, userSlots := [] } else x
      let s := if bit v 0 && !x.enabled then s.forgetCounts d q else s
      s.setQueue d q x

/-- QH_WCTRL_ARM (R232): a write of QH_WCTRL with ARM. -/
def execQhWctrlArm (ctx : Ctx) (d : Nat) (s : State) : Res := .next (s.writeWctrl ctx d 2)

/-- DISARM (R239): a write of QH_WCTRL with DISARM. -/
def execDisarm (ctx : Ctx) (d : Nat) (s : State) : Res := .next (s.writeWctrl ctx d 4)

/-- QH_WCTRL_RESET (R239): a write of QH_WCTRL with RESET. -/
def execQhWctrlReset (ctx : Ctx) (d : Nat) (s : State) : Res := .next (s.writeWctrl ctx d 1)

/-- A write of QH_WEVQ (R239): VALID stays clear unless the queue is one of the writer's scope. -/
def State.writeWevq (s : State) (ctx : Ctx) (d v : Nat) : State :=
  match ctxWin ctx with
  | none => s.accessError ctx (QH_WEVQ d)
  | some w =>
    let q := bits v 13 0
    s.setWindow d w ((s.window d w).1, q + (if bit v 63 && s.actsOn ctx d q then 2 ^ 63 else 0))

/-- A write of QH_WSEL. -/
def State.writeWsel (s : State) (ctx : Ctx) (d v : Nat) : State :=
  match ctxWin ctx with
  | none => s.accessError ctx (QH_WSEL d)
  | some w => s.setWindow d w (bits v 13 0, (s.window d w).2)

/-- What a window register shows (R239): zero for a queue that the context does not act on, OWNED and OWNER apart. -/
def State.readWindow (s : State) (ctx : Ctx) (d off : Nat) : Nat :=
  match ctxWin ctx with
  | none => 0
  | some w =>
    let q := s.wsel d w
    let x := s.queue d q
    let may := s.actsOn ctx d q
    let own := match s.queueOwner d q with | some p => 16 + p | none => 0
    match off with
    | 0x108 => q
    | 0x110 => if may then x.desc0 else 0
    | 0x118 => if may then x.desc1 else 0
    | 0x120 => if may then x.desc2 else 0
    | 0x128 => if may then x.prod * 2 ^ 32 + x.cons else 0
    | 0x130 => if may then x.occupancy * 2 ^ 30 + b2n x.fired * 2 ^ 7 + b2n x.armed * 2 ^ 6 + b2n x.cfgRefused * 2 ^ 5 + own else own
    | 0x140 => (s.window d w).2
    | _ => 0

/-! ## Head words (R226) -/

/-- A queue that tiles consume (R225): a COMPLETION queue of role NONE, or a MESSAGE queue that the host does not consume. -/
def QueueSt.tileConsumed (x : QueueSt) : Bool := (x.ty == 1 && x.role == 0) || (x.ty == 2 && x.role != 2)

/-! ## Completion records (R236 to R238) -/

/-- What the hub can do with a record: write it, let it wait, or redirect it. -/
inductive RecFate | write | wait | redirect
  deriving DecidableEq, Repr

/-- The fate of a record when `ahead` records go to the same queue before it (R238). -/
def State.recFate (s : State) (d : Nat) (r : CompRec) (ahead : Nat) : RecFate :=
  let x := s.queue d r.cq
  if 16384 ≤ r.cq ∨ s.queueOwner d r.cq ≠ some r.part then .redirect
  else if !x.enabled then .wait
  else if x.ty != 1 || s.inFailed x.base then .redirect
  else if s.roomFor d r.cq (ahead + 1) then .write
  else .wait

/-- The records of a list that name a queue. -/
def naming (l : List CompRec) (q : Nat) : Nat := (l.filter (fun r => r.cq == q)).length

/-- A pass over the sources from the pass position (R237, R238): the sources taken with their records, and the pass-overs. -/
def State.hubPass (s : State) (d : Nat) (wbuf : List CompRec) : Nat → List (Nat × List CompRec) →
    List (Nat × CompRec) × Nat
  | 0, _ => ([], 0)
  | _, [] => ([], 0)
  | n + 1, (ix, recs) :: t =>
    match recs with
    | [] => s.hubPass d wbuf (n + 1) t
    | r :: _ =>
      if s.recFate d r (naming wbuf r.cq) = .wait then
        let (l, k) := s.hubPass d wbuf (n + 1) t
        (l, k + 1)
      else
        let (l, k) := s.hubPass d (wbuf ++ [r]) n t
        ((ix, r) :: l, k)

/-- A record redirected as an event to the launch's partition (R238). -/
def State.redirect (s : State) (d : Nat) (r : CompRec) : State :=
  (s.sticky (QH_ERR d) QH_ERR_REDIRECTED (QH_ERR_EVENTS d)).postEvent (some r.part) d 0x0003 r.cq
    (r.bytes ++ leBytes 2 r.cq)

/-- Records of the write buffer written in order while memory accepts them, at most n (R237); what is left. -/
def State.hubWrite (s : State) (d : Nat) : Nat → List CompRec → State × List CompRec
  | 0, l => (s, l)
  | _, [] => (s, [])
  | n + 1, r :: t =>
    match s.recFate d r 0 with
    | .wait => (s, r :: t)
    | .redirect => (s.redirect d r).hubWrite d n t
    | .write =>
      let x := s.queue d r.cq
      let a := x.slot x.prod
      if s.memOn a 32 = false then (s.holdAccess (0x10000 + d) a { priv := some r.priv, part := some r.part, master := some 6 }, r :: t)
      else ((s.hbWrite a 32 { priv := some r.priv, part := some r.part, master := some 6 }).pushEntry d r.cq r.bytes).hubWrite d n t

/-- A LAUNCH_DONE record that waited takes a place of its source that has become free (R236). -/
def HubSt.refill (h : HubSt) : HubSt :=
  match h.late with
  | [] => h
  | r :: t =>
    let l := sget (fun _ => []) h.held 8192
    if l.length < 4 then { h with held := sset (fun _ => []) h.held 8192 (l ++ [r]), late := t } else h

/-- The records taken leave their holding places. -/
def HubSt.took (h : HubSt) (l : List Nat) : HubSt :=
  HubSt.refill { h with held := l.foldl (fun m ix => sset (fun _ => []) m ix ((sget (fun _ => []) m ix).drop 1)) h.held }

/-- HUB_CYCLE (R237): records taken in pass order into the write buffer, records written, counts and positions kept, and
notifications evaluated. -/
def execHubCycle (d : Nat) (s : State) : Res :=
  if !s.domOn (100 + d) then .next s
  else
    let h := s.hub d
    let p := s.fld (QH_STATUS d) QH_STATUS_PASS_POS
    let full := decide (256 ≤ h.wbuf.length)
    let quota := min 8 (256 - h.wbuf.length)
    let (taken, skips) := if full then ([], 0) else s.hubPass d h.wbuf quota (h.held.filter (fun e => decide (p ≤ e.1)))
    let h1 := { h.took (taken.map (·.1)) with wbuf := h.wbuf ++ taken.map (·.2) }
    let p1 := if full then p
      else if taken.length < quota then 0
      else match taken.getLast? with | some (ix, _) => ix + 1 | none => p
    let s := if full then s.addFld (QH_STALLS d) QH_STALLS_WBUF_FULL 1 else s.addFld (QH_STALLS d) QH_STALLS_FULL_SKIPS skips
    let s := (s.setHub d h1).addFld (QH_ACCEPTED d) QH_ACCEPTED_COUNT taken.length
    let (s, left) := s.hubWrite d 8 h1.wbuf
    let s := s.setHub d { s.hub d with wbuf := left }
    let s := (s.setFld (QH_STATUS d) QH_STATUS_PASS_POS p1).setFld (QH_STATUS d) QH_STATUS_WBUF left.length
    .next (s.hubEnd d)

/-- Every held record of a partition written as far as the queues take it, in engine-index order, oldest first: the drain that
step 4 of an activation makes before any queue is reset (02 R50); rounds bound the records of one source. -/
def State.drainHub (s : State) (d p : Nat) : Nat → State
  | 0 => s
  | n + 1 =>
    let s := (s.hub d).held.foldl (fun s e =>
      match e.2 with
      | r :: _ =>
        if r.part = p ∧ s.recFate d r (naming (s.hub d).wbuf r.cq) = .write then
          ((s.setHub d ((s.hub d).took [e.1])).addFld (QH_ACCEPTED d) QH_ACCEPTED_COUNT 1).pushEntry d r.cq r.bytes
        else s
      | [] => s) s
    s.drainHub d p n

/-- A queue in its reset state (R227). -/
def State.resetQueue (s : State) (d q : Nat) : State := (s.forgetCounts d q).setQueue d q {}

/-- The queues whose owner differs from what it was in an earlier state are put in their reset state (R227). -/
def State.resetChanged (s before : State) : State :=
  s.queues.foldl (fun s e =>
    let d := e.1 / 16384
    let q := e.1 % 16384
    if before.queueOwner d q = s.queueOwner d q then s else s.resetQueue d q) s

end Sys2Proof.Machine
end

