-- ==== Sys2Proof/Machine/Image.lean ====
section
/-! DEFINITION. Reading a structure image and the loader's checks at LOAD (02_structure_image.md R27 to R51; 03 R80, R83;
05 R111; 08 R194; 09 R212; 15 R383). -/
namespace Sys2Proof.Machine

/-! ## Refusals (R48) -/

def rcBadMagic : Nat := 1
def rcFormat : Nat := 2
def rcArch : Nat := 3
def rcLength : Nat := 4
def rcMissing : Nat := 5
def rcUnknown : Nat := 6
def rcDuplicate : Nat := 7
def rcField : Nat := 8
def rcSignature : Nat := 9
def rcLibrary : Nat := 0xA
def rcUnitsAbsent : Nat := 0xB
def rcNoTiles : Nat := 0xC
def rcRegion : Nat := 0xD
def rcResource : Nat := 0xE
def rcRoute : Nat := 0xF
def rcBandwidth : Nat := 0x10
def rcWindow : Nat := 0x11
def rcFrame : Nat := 0x12
def rcReg : Nat := 0x13
def rcState : Nat := 0x14
def rcPlacement : Nat := 0x15
def rcOwnership : Nat := 0x16
def rcWrongPart : Nat := 0x17
def rcSourceAccess : Nat := 0x18
def rcSourceData : Nat := 0x19

/-- A refusal: its code, and the SECTION and ENTRY that SI_STATUS names (R46). -/
structure Refuse where
  code : Nat
  sec : Nat
  entry : Nat
  deriving DecidableEq, Repr

/-- A refusal at the header or the directory. The model gives SECTION 0xFF and ENTRY 0 also to the refusals that concern no entry (STATE, FRAME_ALIGN,
NO_TILES, SOURCE_ACCESS, SOURCE_DATA, SIGNATURE), for which R46 names none (log entry 21). -/
def Refuse.head (code : Nat) : Refuse := ⟨code, 0xFF, 0⟩

/-- The code of the first check that fails; each check is a condition that refuses, and its code. -/
def firstFail (l : List (Bool × Nat)) : Option Nat := (l.find? (·.1)).map (·.2)

/-! ## Reading (R27, R28) -/

/-- The bytes of an image as the loader reads them: an offset and a number of bytes. -/
abbrev ImageBytes := Nat → Nat → Nat

/-- The header's fields (R27). -/
def headerOf (g : ImageBytes) : Header :=
  { sliceable := bit (g 7 1) 0, isSigned := bit (g 7 1) 1, totalLen := g 8 4, measuredLen := g 12 4
    frameUs := bits (g 16 4) 19 0, sections := g 20 2, partition := g 22 1, maxSlice := g 23 1, imageId := g 24 8
    version := g 32 4, libMajor := g 36 2, libMinor := g 38 2 }

/-- Directory entry i (R28), as its 128 bits. -/
def dirRaw (g : ImageBytes) (i : Nat) : Nat := g (64 + 16 * i) 16

/-- A directory entry's fields (R28). -/
def dirEntry (e : Nat) : SectionEntry := ⟨bits e 15 0, bit e 16, bits e 63 32, bits e 95 64, bits e 127 96⟩

/-- The directory. -/
def directoryOf (g : ImageBytes) (n : Nat) : List SectionEntry := (List.range n).map (fun i => dirEntry (dirRaw g i))

/-- The entry size of a section type (R30); 0 for a type that is not known. -/
def entrySize (ty : Nat) : Nat :=
  match ty with
  | 1 => 64 | 2 => 16 | 3 => 4 | 4 => 16 | 5 => 8 | 6 => 8 | 7 => 16 | 8 => 8 | 9 => 4 | 10 => 32 | 11 => 16 | _ => 0

/-- How many entries a section of a type may have (R30, R41). -/
def countOk (ty n : Nat) : Bool :=
  match ty with
  | 1 => n == 1 | 2 => decide (n ≤ 2048) | 3 => decide (n ≤ 2048) | 4 => decide (n ≤ 16384) | 5 => decide (n ≤ 4096)
  | 6 => decide (n ≤ 4096) | 7 => decide (n ≤ 16) | 8 => decide (n ≤ 50) | 9 => n == 0 || n == 128
  | 10 => decide (n ≤ 1048576) | 11 => decide (n ≤ 4096) | _ => true

/-- The entries of the section of a type, each as one number; none where the section is absent. -/
def entriesOf (g : ImageBytes) (dir : List SectionEntry) (ty : Nat) : List Nat :=
  match dir.find? (fun e => e.ty == ty) with
  | none => []
  | some e => (List.range e.count).map (fun k => g (e.offset + k * entrySize ty) (entrySize ty))

/-- The directory index of the section of a type; 0xFF where it is absent. -/
def secIx (dir : List SectionEntry) (ty : Nat) : Nat := (dir.findIdx? (fun e => e.ty == ty)).getD 0xFF

def clusterOfRaw (e : Nat) : Cluster := ⟨bits e 15 0, bits e 23 16, bits e 31 24, bits e 39 32, bits e 47 40, bits e 55 48, bits e 79 64⟩
def tileMapOfRaw (e : Nat) : TileMapEntry := ⟨bits e 15 0, bits e 16 16, bits e 21 17, bits e 27 22⟩
def routeOfRaw (e : Nat) : Route := ⟨bits e 15 0, bits e 31 16, bits e 47 32, bits e 63 48, bits e 71 64, bits e 75 72, bits e 86 80⟩
def layersOfRaw (e : Nat) : Nat × Nat := (bits e 19 0, bits e 39 20)
def numericsOfRaw (e : Nat) : NumMark := ⟨bits e 19 0, bits e 39 20, bits e 51 40, bit e 52⟩
def windowOfRaw (e : Nat) : TestWin := ⟨bits e 19 0, bits e 39 20, bits e 42 40, bits e 95 64⟩
def shareOfRaw (e : Nat) : Share := ⟨bits e 3 0, bits e 6 4, bits e 23 8, bits e 39 24⟩
def routingOfRaw (e : Nat) : RouteEntry := ⟨bits e 1 0, bits e 6 2, bits e 8 7, bit e 9⟩
def placementOfRaw (e : Nat) : Placement := ⟨bits e 31 0, bits e 51 32, bits e 111 64, bits e 191 128, bits e 199 192, bits e 207 200, bits e 215 208⟩
def regValueOfRaw (e : Nat) : Nat × Nat := (bits e 47 0, bits e 127 64)

/-- The whole image, read (R27 to R43); its measurement is put in by the loader. -/
def imageOf (g : ImageBytes) : Image :=
  let h := headerOf g
  let dir := directoryOf g h.sections
  let pe := (entriesOf g dir 1).headD 0
  { head := h, dir := dir, regionMask := bits pe 31 0, wrapOwned := bits pe 35 32
    queues := [(bits pe 79 64, bits pe 95 80), (bits pe 111 96, bits pe 127 112)]
    hbm := (List.range 4).map (fun r => (bits pe (143 + 32 * r) (128 + 32 * r), bits pe (159 + 32 * r) (144 + 32 * r)))
    clusters := (entriesOf g dir 2).map clusterOfRaw, tileMap := (entriesOf g dir 3).map tileMapOfRaw
    routes := (entriesOf g dir 4).map routeOfRaw, keep := (entriesOf g dir 5).map layersOfRaw
    numerics := (entriesOf g dir 6).map numericsOfRaw, windows := (entriesOf g dir 7).map windowOfRaw
    shares := (entriesOf g dir 8).map shareOfRaw, routing := (entriesOf g dir 9).map routingOfRaw
    placements := (entriesOf g dir 10).map placementOfRaw, regValues := (entriesOf g dir 11).map regValueOfRaw
    measurement := 0 }

/-! ## Header and directory (R27 to R30) -/

/-- The bytes of the trailer up to the end of its signature (R45). -/
def trailerBytes : Nat := 8 + 3309

/-- ID_LIBRARY is older than the image accepts. -/
def State.libraryOld (s : State) (h : Header) : Bool :=
  let ma := s.fld ID_LIBRARY ID_LIBRARY_LIB_MAJOR
  decide (ma < h.libMajor) || (ma == h.libMajor && decide (s.fld ID_LIBRARY ID_LIBRARY_LIB_MINOR < h.libMinor))

/-- The header's checks, in the order of its fields (R27, R47). -/
def State.headerCheck (s : State) (p len : Nat) (g : ImageBytes) : Option Nat :=
  let h := headerOf g
  firstFail [
    (decide (len < 64), rcLength),
    (g 0 4 != 0x49534B4C, rcBadMagic),
    (g 4 2 != 1, rcFormat),
    (g 6 1 != s.fld ID_DEVICE ID_DEVICE_ARCH_GEN, rcArch),
    (bits (g 7 1) 7 2 != 0, rcField),
    (h.totalLen != len || h.totalLen % 8 != 0 || decide (0x10000000 < h.totalLen), rcLength),
    (if h.isSigned then decide (h.totalLen < h.measuredLen + trailerBytes) else h.measuredLen != h.totalLen, rcLength),
    (bits (g 16 4) 31 20 != 0 || !inRange h.frameUs 4 1000000, rcField),
    (!inRange h.sections 1 11, rcField),
    (decide (h.measuredLen < 64 + 16 * h.sections), rcLength),
    (decide (7 < h.partition), rcField),
    (h.partition != p, rcWrongPart),
    (if h.sliceable then !inRange h.maxSlice 2 8 else h.maxSlice != 0, rcField),
    (s.libraryOld h, rcLibrary),
    (g 40 24 != 0, rcField)]

/-- Two sections share a byte. -/
def SectionEntry.meets (a b : SectionEntry) : Bool :=
  decide (0 < a.length) && decide (0 < b.length) && decide (a.offset < b.offset + b.length) && decide (b.offset < a.offset + a.length)

/-- The checks of directory entry i (R28 to R30). -/
def dirCheck (g : ImageBytes) (h : Header) (dir : List SectionEntry) (i : Nat) : Option Nat :=
  match dir[i]? with
  | none => none
  | some e =>
    firstFail [
      (bits (dirRaw g i) 31 17 != 0, rcField),
      (entrySize e.ty == 0 && !e.optional, rcUnknown),
      ((dir.take i).any (fun f => f.ty == e.ty), rcDuplicate),
      (e.offset % 8 != 0 || decide (e.offset < 64 + 16 * h.sections) || decide (h.measuredLen < e.offset + e.length), rcLength),
      (entrySize e.ty != 0 && (e.length != e.count * entrySize e.ty || !countOk e.ty e.count), rcLength),
      ((dir.take i).any (fun f => f.meets e), rcLength)]

/-- A byte of the measured part lies in no section, nor in the header or the directory. -/
def inGap (h : Header) (dir : List SectionEntry) (o : Nat) : Bool :=
  decide (64 + 16 * h.sections ≤ o) && dir.all (fun e => !(decide (e.offset ≤ o) && decide (o < e.offset + e.length)))

/-- The directory's checks: each entry, then the gaps, then the PARTITION section (R29, R30). R29 names no code for a gap byte that is not zero: it is
refused with FIELD_RANGE, SECTION 0xFF and ENTRY 0, the model's choice (log entry 21). -/
def directoryCheck (g : ImageBytes) (h : Header) (dir : List SectionEntry) : Option Refuse :=
  match (List.range dir.length).findSome? (fun i => (dirCheck g h dir i).map (fun c => (⟨c, 0xFF, i⟩ : Refuse))) with
  | some r => some r
  | none =>
    if (List.range h.measuredLen).any (fun o => inGap h dir o && g o 1 != 0) then some (Refuse.head rcField)
    else if dir.all (fun e => e.ty != 1) then some (Refuse.head rcMissing)
    else none

/-! ## Sections (R31 to R43) -/

/-- The reserved bits of an entry are not all zero (R29, R31 to R43). -/
def reservedSet (ty e : Nat) : Bool :=
  match ty with
  | 1 => bits e 63 36 != 0 || bits e 511 256 != 0
  | 2 => bits e 63 56 != 0 || bits e 127 80 != 0
  | 3 => bits e 31 28 != 0
  | 4 => bits e 79 76 != 0 || bits e 127 87 != 0
  | 5 => bits e 63 40 != 0
  | 6 => bits e 63 53 != 0
  | 7 => bits e 63 43 != 0 || bits e 127 96 != 0
  | 8 => bit e 7 || bits e 63 40 != 0
  | 9 => bits e 31 10 != 0
  | 10 => bits e 63 52 != 0 || bits e 127 112 != 0 || bits e 255 216 != 0
  | 11 => bits e 63 48 != 0
  | _ => false

/-- A tile lies in the regions that an image names. -/
def Image.namesTile (img : Image) (t : Nat) : Bool := decide (t < 2048) && bit img.regionMask (tileRegion t)

/-- An extent lies within one HBM range of an image. -/
def Image.inHbmRange (img : Image) (a n : Nat) : Bool :=
  img.hbm.any (fun r => r.2 != 0 && decide (r.1 * 0x40000000 ≤ a) && decide (a + n ≤ (r.1 + r.2) * 0x40000000))

/-- An extent lies in tile SRAM of tiles that an image names; tiles are contiguous (R25). -/
def Image.inTiles (img : Image) (a n : Nat) : Bool :=
  isSram a && isSram (a + n - 1) &&
    (List.range (sramTile (a + n - 1) + 1 - sramTile a)).all (fun k => img.namesTile (sramTile a + k))

/-- The end of the stretch of an image's owned HBM that holds an address: the address itself where none does. -/
def Image.hbmTo (img : Image) (a : Nat) : Nat :=
  match img.hbm.find? (fun r => r.2 != 0 && decide (r.1 * 0x40000000 ≤ a) && decide (a < (r.1 + r.2) * 0x40000000)) with
  | some r => (r.1 + r.2) * 0x40000000
  | none => a

/-- An extent lies in an image's owned set (R25): it may run from one of its four HBM ranges into the next. -/
def Image.ownsExtent (img : Image) (a n : Nat) : Bool :=
  n == 0 || img.inTiles a n ||
    (isHbm a && decide (a + n ≤ img.hbmTo (img.hbmTo (img.hbmTo (img.hbmTo a)))))

/-- A stack whose STATE is FAILED holds part of an image's HBM ranges (09 R212). -/
def State.imageFailed (s : State) (img : Image) : Bool :=
  (List.range 8).any (fun k => s.stackFailed k && img.hbm.any (fun r => r.2 != 0 &&
    decide (r.1 * 0x40000000 < (k + 1) * stackBytes) && decide (k * stackBytes < (r.1 + r.2) * 0x40000000)))

/-- The PARTITION entry (R31, 09 R212). -/
def State.partitionCheck (s : State) (img : Image) : Option Nat :=
  firstFail [
    (img.queues.any (fun q => decide (16383 < q.1) || decide (16384 < q.1 + q.2)), rcField),
    (img.hbm.any (fun r => decide (384 < r.1 + r.2)), rcField),
    (s.imageFailed img, rcUnitsAbsent)]

/-- CLUSTERS entry k (R32, R25). -/
def clusterCheck (img : Image) (k : Nat) (c : Cluster) : Option Nat :=
  let before := img.clusters.take k
  let range := img.queues.getD c.die (0, 0)
  firstFail [
    (decide (1 < c.die) || decide (31 < c.row0) || decide (31 < c.col0) || !inRange c.rows 1 32 || !inRange c.cols 1 32 ||
      decide (32 < c.row0 + c.rows) || decide (32 < c.col0 + c.cols), rcField),
    (before.any (fun x => x.id == c.id), rcDuplicate),
    (!(clusterTiles c).all img.namesTile, rcOwnership),
    (!(decide (range.1 ≤ c.entryQueue) && decide (c.entryQueue < range.1 + range.2)), rcOwnership),
    (before.any (fun x => (clusterTiles x).any (fun t => (clusterTiles c).contains t)), rcField)]

/-- The physical tile of a TILE_MAP entry. -/
def TileMapEntry.phys (e : TileMapEntry) : Nat := physNo e.physDie e.physRow e.physCol

/-- The physical tile that a list of overrides over the identity map gives a logical tile. -/
def overridden (l : List TileMapEntry) (t : Nat) : Nat :=
  match l.find? (fun e => e.logical == t) with | some e => e.phys | none => identityPhys t

/-- TILE_MAP entry k (R33): in entry order over the identity map of the owned regions. -/
def tileMapCheck (img : Image) (k : Nat) (e : TileMapEntry) : Option Nat :=
  let before := img.tileMap.take k
  firstFail [
    (decide (2047 < e.logical) || decide (32 < e.physCol) || e.physDie != tileDie e.logical, rcField),
    (!img.namesTile e.logical, rcOwnership),
    (before.any (fun x => x.logical == e.logical), rcDuplicate),
    ((List.range 2048).any (fun t => t != e.logical && img.namesTile t && overridden before t == e.phys), rcField)]

/-! ### Routes on the mesh (R35) -/

/-- The integers from a to b, in steps of one either way, with both ends. -/
def between (a b : Nat) : List Nat :=
  if a ≤ b then List.range' a (b + 1 - a) else (List.range' b (a + 1 - b)).reverse

/-- The places (die, row, column) that a leg visits: along the row to the target column, then along the column. Between dies
it crosses the bridge from the source row, between column 31 of die 0 and column 0 of die 1 (log entry 20). -/
def legPlaces (a b : Nat) : List (Nat × Nat × Nat) :=
  let r := tileRow a
  let down := fun (d : Nat) => ((between r (tileRow b)).drop 1).map (fun y => (d, y, tileCol b))
  if tileDie a = tileDie b then (between (tileCol a) (tileCol b)).map (fun x => (tileDie a, r, x)) ++ down (tileDie b)
  else
    let out := if tileDie a = 0 then 31 else 0
    (between (tileCol a) out).map (fun x => (tileDie a, r, x)) ++
      (between (31 - out) (tileCol b)).map (fun x => (tileDie b, r, x)) ++ down (tileDie b)

/-- The places of a list taken two by two. -/
def hops : List (Nat × Nat × Nat) → List ((Nat × Nat × Nat) × (Nat × Nat × Nat))
  | a :: b :: t => (a, b) :: hops (b :: t)
  | _ => []

/-- The directed links that a route uses. -/
def Route.links (r : Route) : List ((Nat × Nat × Nat) × (Nat × Nat × Nat)) :=
  if r.waypoint = 0xFFFF then hops (legPlaces r.src r.dst)
  else hops (legPlaces r.src r.waypoint) ++ hops (legPlaces r.waypoint r.dst)

/-- The lanes that a list of routes puts on a link. -/
def lanesOn (rs : List Route) (l : (Nat × Nat × Nat) × (Nat × Nat × Nat)) : Nat :=
  (rs.map (fun r => if r.links.contains l then r.lanes else 0)).sum

/-- A hop crosses the bridge from a die. -/
def crosses (d : Nat) (l : (Nat × Nat × Nat) × (Nat × Nat × Nat)) : Bool := l.1.1 == d && l.2.1 != d

/-- The lanes that a list of routes puts on the bridge from a die. -/
def lanesOver (rs : List Route) (d : Nat) : Nat :=
  (rs.map (fun r => (r.links.filter (crosses d)).length * r.lanes)).sum

/-- A list of routes exceeds a limit on a link of one route (R35). -/
def overCapacity (rs : List Route) (r : Route) : Bool :=
  r.links.any (fun l => if l.1.1 = l.2.1 then decide (8 < lanesOn rs l) else decide (128 < lanesOver rs l.1.1))

/-- STREAM_ROUTES entry k (R34, R35): lanes are not reserved where the image would be sliced (03 R81). -/
def routeCheck (img : Image) (sliced : Bool) (k : Nat) (r : Route) : Option Nat :=
  let way := if r.waypoint = 0xFFFF then [] else [r.waypoint]
  firstFail [
    ((r.src :: r.dst :: way).any (fun t => decide (2047 < t)) || !inRange r.depth 2 128 || !([1, 2, 4, 8].contains r.lanes), rcField),
    ((img.routes.take k).any (fun x => x.id == r.id), rcDuplicate),
    (!(r.src :: r.dst :: way).all img.namesTile, rcOwnership),
    (!sliced && overCapacity (img.routes.take (k + 1)) r, rcRoute)]

/-- TEST_WINDOWS entry k (R38). -/
def windowCheck (img : Image) (k : Nat) (w : TestWin) : Option Nat :=
  firstFail [(
    w.kinds == 0 || decide (w.lenUs < 50) || decide (img.head.frameUs < w.offsetUs + w.lenUs) ||
    w.regionMask &&& img.regionMask != w.regionMask ||
    (img.windows.take k).any (fun x => x.regionMask &&& w.regionMask != 0 && decide (x.offsetUs < w.offsetUs + w.lenUs) &&
      decide (w.offsetUs < x.offsetUs + x.lenUs)), rcWindow)]

/-- BANDWIDTH_PLAN entry k (R39, R40). -/
def shareCheck (img : Image) (k : Nat) (b : Share) : Option Nat :=
  firstFail [
    (decide (9 < b.port) || !inRange b.cls 1 5 || !inRange b.burst 1 4096, rcField),
    ((img.shares.take k).any (fun x => x.port == b.port && x.cls == b.cls), rcDuplicate)]

/-- The multiple that a placement's SIZE must be (R42, 05 R111). -/
def sizeUnit (fmt : Nat) : Nat :=
  if fmt = 6 ∨ fmt = 7 then 1056 else if fmt = 9 then 256 else if fmt = 0xC then 64 else 32

/-- PLACEMENT entry k (R42, R25, 05 R110, R111). -/
def placementCheck (img : Image) (k : Nat) (x : Placement) : Option Nat :=
  let before := img.placements.take k
  let wide := x.format == 2 || x.format == 3 || x.format == 4
  firstFail [
    (decide (0xE ≤ x.format), rcField),
    (before.any (fun y => y.handle == x.handle), rcDuplicate),
    (x.addr % 32 != 0 || x.size == 0 || x.size % sizeUnit x.format != 0, rcPlacement),
    (if wide then !inRange x.pieces 1 3 else x.pieces != 1, rcPlacement),
    (decide (2 < x.protect), rcPlacement),
    (!img.ownsExtent x.addr x.size, rcOwnership),
    (!(img.inHbmRange x.addr x.size || img.inTiles x.addr x.size), rcPlacement),
    (before.any (fun y => decide (y.addr < x.addr + x.size) && decide (x.addr < y.addr + y.size)), rcPlacement)]

/-- The RWL bits of a register that an image of a partition may name (R43): its own SI_ or ZN_ group, or a block instance
of a tile of its regions; none for any other address. -/
def rwlMask (p regions a : Nat) : Option Nat :=
  let group := (decide (SI_CTRL p ≤ a) && decide (a < SI_CTRL p + 0x100)) ||
    (decide (ZN_FRAME_SIG p 0 ≤ a) && decide (a < ZN_FRAME_SIG p 0 + 0x40))
  let tile := match blockOf a with
    | some (.tc, n, _) => bit regions (tileRegion n)
    | some (.me, n, _) => bit regions (tileRegion n)
    | some (.vu, n, _) => bit regions (tileRegion n)
    | _ => false
  match rowOf a with
  | none => none
  | some r =>
    if group || tile then
      some (r.fields.foldl (fun m f => if f.2 = .rwl then m + (2 ^ (f.1.hi + 1 - f.1.lo) - 1) * 2 ^ f.1.lo else m) 0)
    else none

/-- REGISTER_VALUES entry (R43). -/
def regValueCheck (p : Nat) (img : Image) (v : Nat × Nat) : Option Nat :=
  match rwlMask p img.regionMask v.1 with
  | none => some rcReg
  | some m => if v.2 &&& m = v.2 then none else some rcReg

/-- The check of entry k of a section, whose raw bits are e. -/
def State.entryOk (s : State) (p : Nat) (img : Image) (sliced : Bool) (ty k e : Nat) : Option Nat :=
  if reservedSet ty e then some rcField
  else
    match ty with
    | 1 => s.partitionCheck img
    | 2 => clusterCheck img k (clusterOfRaw e)
    | 3 => tileMapCheck img k (tileMapOfRaw e)
    | 4 => routeCheck img sliced k (routeOfRaw e)
    | 5 => if (layersOfRaw e).2 < (layersOfRaw e).1 then some rcField else none
    | 6 => if (numericsOfRaw e).last < (numericsOfRaw e).first then some rcField else none
    | 7 => windowCheck img k (windowOfRaw e)
    | 8 => shareCheck img k (shareOfRaw e)
    | 9 => if (img.routing.take k).any (fun x => x.axis == (routingOfRaw e).axis && x.coord == (routingOfRaw e).coord)
        then some rcDuplicate else none
    | 10 => placementCheck img k (placementOfRaw e)
    | 11 => regValueCheck p img (regValueOfRaw e)
    | _ => none

/-- The sections in directory order: the first entry that fails. -/
def State.sectionsCheck (s : State) (p : Nat) (g : ImageBytes) (img : Image) (sliced : Bool) : Option Refuse :=
  (List.range img.dir.length).findSome? (fun i =>
    match img.dir[i]? with
    | none => none
    | some d =>
      (enumFrom 0 (entriesOf g img.dir d.ty)).findSome? (fun ke =>
        (s.entryOk p img sliced d.ty ke.1 ke.2).map (fun c => (⟨c, i, ke.1⟩ : Refuse))))

/-! ## Areas that registers name (08 R194, 15 R383) -/

/-- The value that a register will hold after an activation of the image: the last REGISTER_VALUES entry's RWL bits, else what
it holds now (R194). -/
def State.afterValue (s : State) (img : Image) (a mask : Nat) : Nat :=
  match (img.regValues.filter (fun v => v.1 == a)).getLast? with
  | some v => v.2 &&& mask
  | none => s.rd a

/-- SECTION and ENTRY of the last REGISTER_VALUES entry that names one of some registers. -/
def Image.regEntry (img : Image) (as : List Nat) : Nat × Nat :=
  match ((enumFrom 0 img.regValues).filter (fun v => as.contains v.2.1)).getLast? with
  | some v => (secIx img.dir 11, v.1)
  | none => (0xFF, 0)

/-- The Halo area refuses the image (R194). -/
def State.areaHaloBad (s : State) (p : Nat) (img : Image) : Bool :=
  let base := s.afterValue img (SI_HALO_BASE p) (2 ^ 48 - 1)
  let geom := s.afterValue img (SI_HALO_GEOM p) (2 ^ 63 + 2 ^ 48 - 1)
  let slots := bits geom 47 40
  let layers := bits geom 39 20
  let n := slots * (layers + 1) * 256
  bit geom 63 && (base % 256 != 0 || !inRange slots 2 64 || layers == 0 || !img.inHbmRange base n ||
    (List.range 8).any (fun k => decide (base < (k + 1) * stackBytes) && decide (k * stackBytes < base + n) && (s.servingUnit k).isNone))

/-- The self-test save area refuses the image (R383). -/
def State.saveBad (s : State) (p : Nat) (img : Image) : Bool :=
  let a := s.afterValue img (SI_TEST_SAVE p) (2 ^ 48 - 1)
  a != 0 && (a % 0x10000 != 0 || !img.inHbmRange a 0x20000)

/-- The area checks at LOAD. -/
def State.areasCheck (s : State) (p : Nat) (img : Image) : Option Refuse :=
  let at_ := fun (c : Nat) (as : List Nat) => let x := img.regEntry as; (⟨c, x.1, x.2⟩ : Refuse)
  if s.saveBad p img then some (at_ rcField [SI_TEST_SAVE p])
  else if s.areaHaloBad p img then some (at_ rcField [SI_HALO_BASE p, SI_HALO_GEOM p])
  else none

/-- The backing copies of a sliceable image (03 R83): HBM_RANGE[0] holds their area, and no placement reaches into it. -/
def backingCheck (img : Image) : Option Refuse :=
  if !img.head.sliceable then none
  else
    let r := img.hbm.getD 0 (0, 0)
    let area := roundUp ((imageTiles img).length * 1052672) 0x40000000
    if r.2 = 0 ∨ r.2 * 0x40000000 < area then some ⟨rcPlacement, secIx img.dir 1, 0⟩
    else
      let top := (r.1 + r.2) * 0x40000000
      match img.placements.findIdx? (fun x => decide (x.addr < top) && decide (top - area < x.addr + x.size)) with
      | some k => some ⟨rcPlacement, secIx img.dir 10, k⟩
      | none => none

/-! ## The tile map in effect (R51, 03 R80) -/

/-- The map that an evaluation forms: regions, map, substitutions (logical tile, physical tile), slice factor, slots (256: in no cluster), and
the positions whose physical tiles the clusters' tiles use. -/
structure Formed where
  regions : Nat
  map : Sparse Nat
  subs : List (Nat × Nat)
  slice : Nat
  slots : Sparse Nat
  homes : Sparse Nat
  deriving DecidableEq, Repr

/-- A partition's image is armed or switching in, as opposed to being removed. -/
def State.armedImage (s : State) (q : Nat) : Option Image :=
  let st := s.fld (SI_STATUS q) SI_STATUS_STAGE
  if (st = 3 ∨ st = 4) ∧ (s.part q).unloading = false then (s.part q).staged else none

/-- A physical tile serves a logical tile of another partition's active or armed image (R33). -/
def State.usedByOthers (s : State) (p phys : Nat) : Bool :=
  (List.range 8).any (fun q => q != p &&
    (((s.part q).active.isSome && (maskTiles (s.part q).regions).any (fun t => sget identityPhys (s.part q).map t == phys)) ||
     (match s.armedImage q with
      | some img => (maskTiles (img.regionMask &&& s.fuses.regionMask)).any (fun t => overridden img.tileMap t == phys)
      | none => false)))

/-- The regions of an image that are in service: a sliceable image drops the others from its owned set (R51). -/
def State.regionsInService (s : State) (img : Image) : Nat := img.regionMask &&& s.fuses.regionMask

/-- One step of the substitution of R51: a logical tile whose physical tile is not usable takes the lowest usable spare of its
die that is not in use; without one it is left unserved. -/
def State.substitute (s : State) (p : Nat) (tiles : List Nat) (acc : Sparse Nat × List (Nat × Nat) × List Nat) (t : Nat) :
    Sparse Nat × List (Nat × Nat) × List Nat :=
  let spares := (List.range 32).map (fun r => physNo (tileDie t) r 32)
  let inUse := fun (n : Nat) => tiles.any (fun u => sget identityPhys acc.1 u == n && !(acc.2.2.contains u) && u != t) || s.usedByOthers p n
  match spares.find? (fun n => s.physUsable n && !inUse n) with
  | some n => (sset identityPhys acc.1 t n, acc.2.1 ++ [(t, n)], acc.2.2)
  | none => (acc.1, acc.2.1, acc.2.2 ++ [t])

/-- The free physical tiles of one slot: by die. -/
def takeTiles (free : List Nat) (ts : List Nat) : List (Nat × Nat) × List Nat := (ts.zip free, free.drop ts.length)

/-- Clusters placed into slots (03 R80): each in the lowest slot whose free tiles on the cluster's die hold all its tiles. A
slot is a pair of free lists; the answer maps logical tiles to slot and physical tile, or none where a cluster fits no slot. -/
def placeClusters : List Cluster → List (List Nat × List Nat) → List (Nat × Nat × Nat) → Option (List (Nat × Nat × Nat))
  | [], _, acc => some acc
  | c :: cs, slots, acc =>
    let ts := clusterTiles c
    let freeOf := fun (f : List Nat × List Nat) => if c.die = 0 then f.1 else f.2
    match slots.findIdx? (fun f => decide (ts.length ≤ (freeOf f).length)) with
    | none => none
    | some k =>
      let f := slots.getD k ([], [])
      let (pairs, rest) := takeTiles (freeOf f) ts
      placeClusters cs (slots.set k (if c.die = 0 then (rest, f.2) else (f.1, rest))) (acc ++ pairs.map (fun x => (x.1, k, x.2)))

/-- Clusters in ascending CLUSTER_ID. -/
def clustersById (img : Image) : List Cluster :=
  (List.range 65536).filterMap (fun i => img.clusters.find? (fun c => c.id == i))

/-- Physical tiles in ascending order of row, then column. -/
def ascending (l : List Nat) (d : Nat) : List Nat := (List.range' (d * 1056) 1056).filter (fun n => l.contains n)

/-- The evaluation of R51, at LOAD and at T_act. -/
def State.formMap (s : State) (p : Nat) (img : Image) : Except Refuse Formed :=
  let absent := img.regionMask &&& s.fuses.regionMask != img.regionMask
  let regions := s.regionsInService img
  let tiles := maskTiles regions
  let map0 : Sparse Nat := img.tileMap.foldl (fun m e => if bit regions (tileRegion e.logical) then sset identityPhys m e.logical e.phys else m) []
  let bad := tiles.filter (fun t => !s.physUsable (sget identityPhys map0 t))
  let (map1, subs, unserved) := bad.foldl (s.substitute p tiles) (map0, [], [])
  if !img.head.sliceable then
    if absent then .error ⟨rcUnitsAbsent, secIx img.dir 1, 0⟩
    else if !unserved.isEmpty then .error (Refuse.head rcNoTiles)
    else .ok ⟨regions, map1, subs, 1, [], []⟩
  else
    let served := tiles.filter (fun t => !unserved.contains t)
    let need := (imageTiles img).length
    let f := if served.isEmpty then (if need = 0 then 1 else 9) else (need + served.length - 1) / served.length
    if img.head.maxSlice < f then .error (Refuse.head rcNoTiles)
    else if f ≤ 1 ∧ (imageTiles img).all (fun t => served.contains t) then .ok ⟨regions, map1, subs, 1, [], []⟩
    else
      let phys := served.map (sget identityPhys map1)
      let slot := (ascending phys 0, ascending phys 1)
      match placeClusters (clustersById img) (List.replicate f slot) [] with
      | none => .error (Refuse.head rcNoTiles)
      | some l =>
        .ok ⟨regions, l.foldl (fun m x => sset identityPhys m x.1 x.2.2) map1, subs, f,
          l.foldl (fun m x => sset (fun _ => 256) m x.1 x.2.1) [],
          l.foldl (fun m x => match served.find? (fun t => sget identityPhys map1 t == x.2.2) with
            | some u => sset (fun t => t) m x.1 u
            | none => m) []⟩

/-- The image would be sliced now. -/
def State.wouldSlice (s : State) (p : Nat) (img : Image) : Bool :=
  match s.formMap p img with | .ok f => decide (1 < f.slice) | .error _ => false

/-! ## Signature (R45) and the whole check -/

/-- A record of the record store: TYPE, INDEX, GENERATION and body (18 R428). -/
def recTy (r : List Byte) : Nat := fieldAt r 4 2
def recIx (r : List Byte) : Nat := fieldAt r 0x18 2
def recGen (r : List Byte) : Nat := fieldAt r 0x0C 4
def recBody (r : List Byte) : List Byte := (r.drop 0x20).take (fieldAt r 8 4)

/-- The body of the record in force for a TYPE and INDEX: the highest generation (18 R428). -/
def State.record (s : State) (ty ix : Nat) : Option (List Byte) :=
  let l := s.welkin.inForce.filter (fun r => recTy r == ty && recIx r == ix)
  match l with
  | [] => none
  | r :: t => some (recBody (t.foldl (fun a b => if recGen a ≤ recGen b then b else a) r))

/-- KEY_SLOT_MASK (R46): the image-key slots that hold a key. -/
def State.keySlotMask (s : State) : Nat :=
  (List.range 4).foldl (fun m k => if (s.record 0x11 k).isSome then m + 2 ^ k else m) 0

/-- The signature trailer (R45): magic, slot, reserved and padding bytes, and the signature over the measurement. -/
def State.signatureCheck (s : State) (g : ImageBytes) (h : Header) (meas : BitVec 512) : Option Nat :=
  let o := h.measuredLen
  if !h.isSigned then (if s.flag SI_POLICY SI_POLICY_REQUIRE_SIGNED then some rcSignature else none)
  else if g o 4 ≠ 0x47534B4C then some rcBadMagic
  else if 3 < g (o + 4) 1 ∨ g (o + 5) 3 ≠ 0 ∨ g (o + trailerBytes) (h.totalLen - o - trailerBytes) ≠ 0 then some rcField
  else
    match s.record 0x11 (g (o + 4) 1) with
    | none => some rcSignature
    | some k => if Config.mldsaVerify k (digestBytes meas) (leBytes 3309 (g (o + 8) 3309)) then none else some rcSignature

/-- The loader's judgement of the image whose bytes lie at an address (R48): the header, the directory, the sections in
directory order, what registers name, the map, then the signature; the image, or the first refusal. -/
def State.judge (s : State) (p src len : Nat) : Except Refuse Image :=
  let g : ImageBytes := fun o n => s.readNat (src + o) n
  match s.headerCheck p len g with
  | some c => .error (Refuse.head c)
  | none =>
    let img := imageOf g
    match directoryCheck g img.head img.dir with
    | some r => .error r
    | none =>
      match s.sectionsCheck p g img (s.wouldSlice p img) with
      | some r => .error r
      | none =>
        match backingCheck img, s.areasCheck p img, s.formMap p img with
        | some r, _, _ => .error r
        | _, some r, _ => .error r
        | _, _, .error r => .error r
        | none, none, .ok _ =>
          let m := Config.shake256 (s.readBytes src img.head.measuredLen)
          match s.signatureCheck g img.head m with
          | some c => .error (Refuse.head c)
          | none => .ok { img with measurement := m }

end Sys2Proof.Machine
end

