-- ==== Sys2Proof/Machine/Loader.lean ====
section
/-! DEFINITION. The structure-image loader's commands: LOAD, ARM, ABORT, UNLOAD, activation and unload, and the forced pass mode
(02_structure_image.md R46 to R53; 06 R141). -/
namespace Sys2Proof.Machine

/-! ## Shared (R46, R47) -/

/-- The fields of SI_EVENTS and SI_DISCARDS (R46). -/
def evRefusals : Fld := ⟨15, 0⟩
def evActivations : Fld := ⟨31, 16⟩
def evUnloads : Fld := ⟨47, 32⟩
def evAborts : Fld := ⟨63, 48⟩
def discCmds : Fld := ⟨31, 0⟩
def discStreams : Fld := ⟨63, 32⟩

/-- STAGE of a partition: 0 IDLE, 1 CHECKING, 2 STAGED, 3 ARMED, 4 SWITCHING. -/
def State.stage (s : State) (p : Nat) : Nat := s.fld (SI_STATUS p) SI_STATUS_STAGE
def State.setStage (s : State) (p v : Nat) : State := s.setFld (SI_STATUS p) SI_STATUS_STAGE v

/-- A partition has an active image. -/
def State.isActive (s : State) (p : Nat) : Bool := s.flag (SI_STATUS p) SI_STATUS_ACTIVE

/-- A context may write the SI_ group of a partition (R46, R47). -/
def siWriter (ctx : Ctx) (p : Nat) : Bool :=
  match ctx with | .module => true | .welkin => true | .kernel q => q.val == p | _ => false

/-- A refusal: SI_STATUS names it, it is counted, and the loader interrupt is raised (R46, R47). -/
def State.refuseImage (s : State) (p : Nat) (r : Refuse) : State :=
  let a := SI_STATUS p
  let s := ((s.setFld a SI_STATUS_REFUSE_CODE r.code).setFld a SI_STATUS_SECTION r.sec).setFld a SI_STATUS_ENTRY r.entry
  (s.addFld (SI_EVENTS p) evRefusals 1).fireVector (2 + p)

/-- A 64-byte measurement in a group of eight registers. -/
def State.setMeas (s : State) (reg : Nat → Nat) (m : BitVec 512) : State :=
  (List.range 8).foldl (fun s i => s.wr (reg i) (m.toNat / 2 ^ (64 * i))) s

/-- The registers that the owner's records feed (18 R429): KEY_SLOT_MASK, and those of POLICY. -/
def State.loadPolicy (s : State) : State :=
  let s := s.setFld SI_POLICY SI_POLICY_KEY_SLOT_MASK s.keySlotMask
  match s.record 0x0012 0 with
  | none => s
  | some b =>
    let s := s.setFld SI_POLICY SI_POLICY_REQUIRE_SIGNED (Config.recordValue 0x12 b 0)
    let s := s.setFld SI_TEST_CTRL SI_TEST_CTRL_ENABLE (Config.recordValue 0x12 b 1)
    (s.setFld ZN_ELECT ZN_ELECT_ELIGIBLE (Config.recordValue 0x12 b 2)).setFld ZN_ELECT ZN_ELECT_PRIO (Config.recordValue 0x12 b 3)

/-- Records whose effect waited for an image take effect once no image is ARMED or SWITCHING (18 R429). -/
def State.settleRecords (s : State) : State :=
  if s.welkin.deferred.isEmpty || (List.range 8).any (fun p => s.stage p == 3 || s.stage p == 4) then s
  else ({ s with welkin := { s.welkin with inForce := s.welkin.inForce ++ s.welkin.deferred, deferred := [] } }).loadPolicy

/-! ## LOAD (R47) -/

/-- LOAD: accepted in IDLE, in a life-cycle state that allows it (18 R431). -/
def State.loadImage (s : State) (ctx : Ctx) (p : Nat) : State :=
  if s.stage p ≠ 0 ∨ s.fuses.lifecycle = 0 ∨ s.fuses.lifecycle = 5 then s.refuseImage p (Refuse.head rcState)
  else (s.setStage p 1).setPart p { s.part p with
    loadCtx := ctxNum ctx, loadAt := (s.fld (SI_SRC p) SI_SRC_ADDR, s.fld (SI_LEN p) SI_LEN_LEN) }

/-- LOAD: a write of SI_CTRL. -/
def execLoad (ctx : Ctx) (p : Nat) (s : State) : Res :=
  if siWriter ctx p then .next (s.loadImage ctx p) else .next (s.accessError ctx (SI_CTRL p))

/-- The loading context may read the range (R47): the module context and Welkin any mapped address, a kernel context its
partition's owned set. -/
def State.loaderReads (s : State) (c a n : Nat) : Bool :=
  memExtent a n && (if 8 ≤ c ∧ c < 16 then s.owns (c - 8) a n else true)

/-- The loader reads as the master HOST is not: it has no code of its own (log entry 30). -/
def loaderMaster (p : Nat) : Master := ⟨0xFF, 0xFFFF, 0, some p, some 1⟩

/-- A refused LOAD returns to IDLE. -/
def State.loadRefused (s : State) (p : Nat) (r : Refuse) : State := (s.setStage p 0).refuseImage p r

/-- LOAD_CHECK_DONE (R47): the range is readable, the image is read, judged and measured; it ends STAGED, or refused. -/
def execLoadCheckDone (p : Nat) (s : State) : Res :=
  let src := (s.part p).loadAt.1
  let len := (s.part p).loadAt.2
  if s.stage p ≠ 1 then .next s
  else if !s.loaderReads (s.part p).loadCtx src len then .next (s.loadRefused p (Refuse.head rcSourceAccess))
  else if src % 8 ≠ 0 ∨ 0x10000000 < len then .next (s.loadRefused p (Refuse.head rcLength))
  else if s.memOn src len = false then .next (s.holdAccess (0x20000 + p) src)
  else
    match s.firstBad src len with
    | some u => .next ((s.ueMet 2 u (loaderMaster p)).loadRefused p (Refuse.head rcSourceData))
    | none =>
      let s := s.hbRead src len { part := some p }
      match s.judge p src len with
      | .error r => .next (s.loadRefused p r)
      | .ok img => .next (((s.setPart p { s.part p with staged := some img, unloading := false }).setStage p 2).setMeas (SI_MEAS_STAGED p) img.measurement)

/-! ## ARM (R47, R49, R24, R33, R35, R40 to R42) -/

/-- The regions that a partition's active and armed images own: a sliceable image's regions that are not in service are dropped (R24, R51). -/
def State.regionsHeld (s : State) (q : Nat) : Nat :=
  (if (s.part q).active.isSome then (s.part q).regions else 0) ||| (match s.armedImage q with | some i => s.regionsInService i | none => 0)

/-- The images of another partition that are active or armed. -/
def State.imagesOf (s : State) (q : Nat) : List Image := (s.part q).active.toList ++ (s.armedImage q).toList

/-- Two ranges (first, count) meet. -/
def rangesMeet (a b : Nat × Nat) : Bool :=
  decide (0 < a.2) && decide (0 < b.2) && decide (a.1 < b.1 + b.2) && decide (b.1 < a.1 + a.2)

/-- The images of every other partition. -/
def State.otherImages (s : State) (p : Nat) : List Image :=
  ((List.range 8).filter (fun q => q != p)).flatMap (fun q => s.imagesOf q)

/-- A physical tile that the image uses serves another partition (R33). -/
def State.physConflict (s : State) (p : Nat) (img : Image) : Option Refuse :=
  match img.tileMap.findIdx? (fun e => s.usedByOthers p e.phys) with
  | some k => some ⟨rcResource, secIx img.dir 3, k⟩
  | none =>
    if (maskTiles (s.regionsInService img)).any (fun t => img.tileMap.all (fun e => e.logical != t) && s.usedByOthers p (identityPhys t))
    then some ⟨rcResource, secIx img.dir 1, 0⟩ else none

/-- The routes of other partitions that reserve lanes: those of images that are not sliced. -/
def State.otherRoutes (s : State) (p : Nat) : List Route :=
  ((List.range 8).filter (fun q => q != p)).flatMap (fun q =>
    (if 1 < s.fld (SI_STATUS q) SI_STATUS_SLICE then [] else ((s.part q).active.map (·.routes)).getD []) ++
    (match s.armedImage q with | some i => if s.wouldSlice q i then [] else i.routes | none => []))

/-- The first route of the image that exceeds a limit beside the other partitions' routes (R35). -/
def State.routeConflict (s : State) (p : Nat) (img : Image) : Option Refuse :=
  if s.wouldSlice p img then none
  else
    match (enumFrom 0 img.routes).find? (fun kr => overCapacity (s.otherRoutes p ++ img.routes.take (kr.1 + 1)) kr.2) with
    | some kr => some ⟨rcRoute, secIx img.dir 4, kr.1⟩
    | none => none

/-- The shares that a list of plan entries puts on a port. -/
def portShares (l : List Share) (port : Nat) : Nat := ((l.filter (fun x => x.port == port)).map (·.share)).sum

/-- The planned shares of a partition in force in the router on a port (12 R295, R53); TC0's bucket, which stands under partition 0 and class 0,
is no partition's. -/
def State.sharesInForce (s : State) (q port : Nat) : Nat :=
  ((List.range' 1 7).map (fun c => match sget (fun _ => none) s.router.buckets (port * 64 + q * 8 + c) with | some b => b.share | none => 0)).sum

/-- The shares on a port with the image's plan: TC0's, the image's, and for every other partition the larger of its shares
in force and its armed plan (R40, R53). -/
def State.sharesWith (s : State) (p : Nat) (img : Image) (port : Nat) : Nat :=
  4096 + portShares img.shares port + (((List.range 8).filter (fun q => q != p)).map (fun q =>
    max (s.sharesInForce q port) (match s.armedImage q with | some i => portShares i.shares port | none => 0))).sum

/-- The first plan entry whose port is over its limit. -/
def State.shareConflict (s : State) (p : Nat) (img : Image) : Option Refuse :=
  match img.shares.findIdx? (fun b => decide (65536 < s.sharesWith p img b.port)) with
  | some k => some ⟨rcBandwidth, secIx img.dir 8, k⟩
  | none => none

/-- A ROUTING entry disagrees with the module's own coordinates (R41). -/
def State.routingBad (s : State) (e : RouteEntry) : Bool :=
  s.flag RT_COORD RT_COORD_VALID && decide (e.coord < bits (s.rd RT_COORD) (25 + 6 * e.axis) (20 + 6 * e.axis)) &&
    ((e.coord == bits (s.rd RT_COORD) (5 * e.axis + 4) (5 * e.axis)) != (e.dir == 2))

/-- The first ROUTING entry that disagrees. -/
def State.routingConflict (s : State) (img : Image) : Option Refuse :=
  match img.routing.findIdx? s.routingBad with
  | some k => some ⟨rcField, secIx img.dir 9, k⟩
  | none => none

/-- A placement's format takes pieces under a pass mode (R42, 06 R142). -/
def Placement.wide (x : Placement) : Bool := x.format == 2 || x.format == 3 || x.format == 4

/-- The first placement below the forced pass mode (06 R142). -/
def State.passConflict (s : State) (img : Image) : Option Refuse :=
  let f := s.fld SI_FORCE_PASS SI_FORCE_PASS_MODE
  match img.placements.findIdx? (fun x => x.wide && decide (x.pieces < f)) with
  | some k => some ⟨rcPlacement, secIx img.dir 10, k⟩
  | none => none

/-- The checks at arming (R47, R24, 09 R212). -/
def State.armConflict (s : State) (p : Nat) (img : Image) : Option Refuse :=
  let others := s.otherImages p
  let s1 := secIx img.dir 1
  if (List.range 8).any (fun q => q != p && s.regionsHeld q &&& s.regionsInService img != 0) then some ⟨rcRegion, s1, 0⟩
  else if others.any (fun o => (List.range 2).any (fun d => rangesMeet (o.queues.getD d (0, 0)) (img.queues.getD d (0, 0))) ||
      o.hbm.any (fun a => img.hbm.any (fun b => rangesMeet a b))) then some ⟨rcResource, s1, 0⟩
  else if s.imageFailed img then some ⟨rcUnitsAbsent, s1, 0⟩
  else
    [s.physConflict p img, s.routeConflict p img, s.shareConflict p img, s.routingConflict img, s.passConflict img].findSome? id

/-- The first multiple of a length at or after a time. -/
def nextMultiple (t len : Nat) : Nat := (t + len - 1) / len * len

/-- T_act (R49): none where the common multiple of the frame lengths exceeds one second. -/
def State.actTime (s : State) (p : Nat) (frameUs : Nat) (activeUs : Option Nat) : Option Nat :=
  let len := match activeUs with | some a => Nat.lcm (frameUs * 1000) (a * 1000) | none => frameUs * 1000
  if 1000000000 < len then none
  else some (nextMultiple (max (s.rd (SI_ACT_NOT_BEFORE p)) (s.zt + 10000)) len)

/-- The place of a routing-table entry (12 R291). -/
def tableKey (p v axis coord : Nat) : Nat := ((p * 2 + v) * 4 + axis) * 32 + coord

/-- The valid bit of a table version in RT_EPOCH_STATE. -/
def validFld (v : Nat) : Fld := ⟨4 + v, 4 + v⟩

/-- The ROUTING entries written into the version not in use, which becomes valid (R41, 12 R291); the image's version is noted (13 R328). -/
def State.writeRouting (s : State) (p : Nat) (img : Image) : State :=
  if img.routing.isEmpty then s
  else
    let v := 1 - s.fld (RT_EPOCH_STATE p) RT_EPOCH_STATE_CURRENT
    let t := img.routing.foldl (fun t e => sset (fun _ => 0) t (tableKey p v e.axis e.coord) (e.dir + 4 * b2n e.dateline)) s.router.tables
    (({ s with router := { s.router with tables := t } }).setFld (RT_EPOCH_STATE p) (validFld v) 1).setPart p { s.part p with newRoutes := some v }

/-- An image or a removal armed for an instant. -/
def State.armed (s : State) (p t : Nat) (removal : Bool) : State :=
  ((s.setPart p { s.part p with unloading := removal }).wr (SI_ACT_TIME p) t).setStage p 3

/-- ARM: accepted in STAGED, outside an epoch switch (12 R293) and outside ACQUIRE (19 R446). -/
def State.armImage (s : State) (p : Nat) : State :=
  match s.stage p == 2, (s.part p).staged with
  | true, some img =>
    if s.fld (RT_EPOCH_STATE p) RT_EPOCH_STATE_STATE ≠ 0 ∨ s.fld ZN_STATUS ZN_STATUS_STATE = 1 then s.refuseImage p (Refuse.head rcState)
    else
      match s.armConflict p img with
      | some r => s.refuseImage p r
      | none =>
        match s.actTime p img.head.frameUs ((s.part p).active.map (·.head.frameUs)) with
        | none => s.refuseImage p (Refuse.head rcFrame)
        | some t => (s.writeRouting p img).armed p t false
  | _, _ => s.refuseImage p (Refuse.head rcState)

/-- ARM: a write of SI_CTRL. -/
def execArm (ctx : Ctx) (p : Nat) (s : State) : Res :=
  if siWriter ctx p then .next (s.armImage p) else .next (s.accessError ctx (SI_CTRL p))

/-! ## ABORT and UNLOAD (R47, R53) -/

/-- ABORT: accepted in STAGED, and in ARMED before the instant of T_act. -/
def State.abortStaged (s : State) (p : Nat) : State :=
  if s.stage p = 2 ∨ (s.stage p = 3 ∧ s.zt < s.rd (SI_ACT_TIME p)) then
    (((s.setPart p { s.part p with staged := none, unloading := false, newRoutes := none }).setStage p 0).setMeas (SI_MEAS_STAGED p) 0).addFld (SI_EVENTS p) evAborts 1
      |>.settleRecords
  else s.refuseImage p (Refuse.head rcState)

/-- ABORT: a write of SI_CTRL. -/
def execAbortImage (ctx : Ctx) (p : Nat) (s : State) : Res :=
  if siWriter ctx p then .next (s.abortStaged p) else .next (s.accessError ctx (SI_CTRL p))

/-- UNLOAD: accepted in IDLE with ACTIVE set; the active frame length gives the instant (R49). -/
def State.unloadImage (s : State) (p : Nat) : State :=
  match s.stage p == 0 && s.isActive p, (s.part p).active with
  | true, some img =>
    match s.actTime p img.head.frameUs none with
    | some t => s.armed p t true
    | none => s.refuseImage p (Refuse.head rcFrame)
  | _, _ => s.refuseImage p (Refuse.head rcState)

/-- UNLOAD: a write of SI_CTRL. -/
def execUnload (ctx : Ctx) (p : Nat) (s : State) : Res :=
  if siWriter ctx p then .next (s.unloadImage p) else .next (s.accessError ctx (SI_CTRL p))

/-! ## The switch (R50 steps 1 to 3) -/

/-- A command of a queue has started: route progress of the tile DMA. -/
def TileSt.started (x : TileSt) (q : Nat) : Bool := q == 5 && x.moved.isSome

/-- The commands of a queue that end with IMAGE_CHANGED: those of stream words that have not started. -/
def TileSt.changed (x : TileSt) (q : Nat) : List Cmd :=
  ((if x.started q then (x.queue q).drop 1 else x.queue q).filter (fun c => c.rix.isNone))

/-- What stays in a queue. -/
def TileSt.stays (x : TileSt) (q : Nat) : List Cmd :=
  (if x.started q then (x.queue q).take 1 else []) ++
    ((if x.started q then (x.queue q).drop 1 else x.queue q).filter (fun c => c.rix.isSome))

/-- Step 2 at one tile: its launches are abandoned, no further stream word is issued, and commands of stream words that have not
started end with IMAGE_CHANGED; the tile, and how many ended. -/
def State.switchTile (s : State) (t : Nat) : State × Nat :=
  let x := s.tile t
  let lists := (List.range 8).map (fun q => (q, x.changed q))
  let inl := if x.started6 then [] else x.inl.toList
  let s := s.setTile t { x with
    launch := none, next := none, wordIx := 0, fetched := none
    inl := if x.started6 then x.inl else none
    queues := (List.range 8).foldl (fun m q => sset (fun _ => []) m q (x.stays q)) [] }
  let s := lists.foldl (fun s l => l.2.foldl (fun s c => s.endCmd t l.1 c stImageChanged 0 0) s) s
  let s := inl.foldl (fun s c => s.endCmd t 6 c stImageChanged 0 0) s
  (s, (lists.map (fun l => l.2.length)).sum + inl.length)

/-- The launches that a tile abandons at a switch (R50 step 2): the running one, where words of it are still to be issued, and the buffered one. -/
def TileSt.abandons (x : TileSt) : List Nat :=
  ((x.launch.toList.filter (fun l => decide (x.wordIx < l.words))) ++ x.next.toList).map (·.id)

/-- A launch is abandoned at a switch: a tile of its cluster abandons it, or a sliced image has slots left to run it in. One whose words are all
issued goes on to its end in step 3. -/
def State.trackAbandoned (s : State) (ps : PartSt) (k : LaunchTrack) : Bool :=
  k.tiles.any (fun t => (s.tile t).abandons.contains k.launch.id) ||
  (!ps.sliceLaunch.isEmpty && decide (ps.resident + 1 < s.fld (SI_STATUS k.part) SI_STATUS_SLICE))

/-- Step 2: STAGE becomes SWITCHING; launches abandoned now are recorded in step 4. -/
def State.beginSwitch (s : State) (p : Nat) : State :=
  let ps := s.part p
  let tiles := ps.ownTiles
  let gone := ps.tracks.filter (fun k => s.trackAbandoned ps k)
  let s := s.setPart p { ps with
    noDeliver := true, aborted := ps.aborted ++ gone.map (fun k => { k with abandoned := true })
    tracks := ps.tracks.filter (fun k => !s.trackAbandoned ps k), sliceLaunch := []
    streamEnded := 0, cmdsEnded := 0 }
  let (s, n) := tiles.foldl (fun (a : State × Nat) t => let (s, k) := a.1.switchTile t; (s, a.2 + k)) (s, 0)
  (s.setPart p { s.part p with cmdsEnded := n }).setStage p 4

/-- ACTIVATION (R50 steps 1 and 2): at T_act the map, the physical tiles and the Halo area are judged again; a refusal returns to
STAGED. -/
def execActivation (p : Nat) (s : State) : Res :=
  let ps := s.part p
  match s.stage p == 3 && !ps.unloading && decide (s.rd (SI_ACT_TIME p) ≤ s.zt) && !s.stopHolds (some p), ps.staged with
  | true, some img =>
    match s.formMap p img, s.physConflict p img, s.areaHaloBad p img with
    | .error r, _, _ => .next ((s.setStage p 2).refuseImage p r).settleRecords
    | _, some r, _ => .next ((s.setStage p 2).refuseImage p r).settleRecords
    | _, _, true =>
      let x := img.regEntry [SI_HALO_BASE p, SI_HALO_GEOM p]
      .next ((s.setStage p 2).refuseImage p ⟨rcField, x.1, x.2⟩).settleRecords
    | .ok f, none, false =>
      .next ((s.setPart p { ps with newRegions := f.regions, newMap := f.map, subs := f.subs, newSlice := f.slice, newSlots := f.slots, newHomes := f.homes }).beginSwitch p)
  | _, _ => .next s

/-- UNLOAD_SWITCH (R50 step 2). -/
def execUnloadSwitch (p : Nat) (s : State) : Res :=
  let ps := s.part p
  if s.stage p = 3 ∧ ps.unloading = true ∧ s.rd (SI_ACT_TIME p) ≤ s.zt ∧ s.stopHolds (some p) = false then .next (s.beginSwitch p) else .next s

/-- Nothing that has started is left at a tile: T_q has come for it (R50 step 3). -/
def TileSt.quiet (x : TileSt) : Bool :=
  x.inl.isNone && x.routine.isNone && x.moved.isNone && x.outstanding.isEmpty && x.ended.isEmpty &&
  x.mes.all (fun m => m.2.inFlight.isEmpty) && x.queues.all (fun e => x.isStopped e.1 || e.2.all (fun c => c.rix.isNone))

/-- T_q has come for a partition: nothing that started is left at its tiles, their Halo counts have been applied (08 R197), and no self-test slice
of it runs (R53). -/
def State.switchQuiet (s : State) (p : Nat) : Bool :=
  (s.part p).ownTiles.all (fun t => (s.tile t).quiet && s.haloDone t) && s.tests.slices.all (fun r => r.part != p)

/-! ## Steps 4 and 5 (R50) -/

/-- Step 4's records: what the hub still holds for the partition, then one LAUNCH_DONE for each abandoned launch that asks for it. -/
def State.switchRecords (s : State) (p : Nat) : State :=
  let ps := s.part p
  let l := ps.aborted ++ ps.tracks.map (fun k => { k with abandoned := k.abandoned || !k.tiles.isEmpty })
  let s := (List.range 2).foldl (fun s d => s.drainHub d p 4) s
  let s := l.foldl (fun s k => s.launchDone k) s
  let s := (List.range 2).foldl (fun s d => s.drainHub d p (4 + l.length)) s
  s.setPart p { s.part p with aborted := [], tracks := [] }

/-- The entries of a partition's stream queues, those on their way included. -/
def PartSt.streamCount (ps : PartSt) : Nat :=
  (ps.streams.map (fun e => e.2.length)).sum + (ps.transit.map (fun e => e.2.length)).sum

/-- Stream entries are discarded and counted (R50 step 4). -/
def State.dropStreams (s : State) (p : Nat) : State :=
  let ps := s.part p
  let s := s.addFld (SI_DISCARDS p) discStreams ps.streamCount
  let s := s.addFld (SI_DISCARDS p) discCmds ps.cmdsEnded
  s.setPart p { ps with streams := [], transit := [], streamEnded := ps.streamCount }

/-- The engines and the exact-sum register of a tile after an activation (04 R109, 07 R170); fault registers stay. -/
def State.clearEngines (s : State) (t : Nat) : State :=
  s.setTile t { s.tile t with mes := [], xsr := {}, vuPend := none }

/-- The configuration of the counters of tiles whose owner differs from that of an earlier state is zeroed; their values stay (16 R393). -/
def State.recount (s before : State) : State :=
  let keep := fun (c : Nat × Nat) => !(decide (c.1 / 16 / 4096 = 0) && decide (before.tileOwner (c.1 / 16 % 4096) ≠ s.tileOwner (c.1 / 16 % 4096)))
  { s with tally := { s.tally with cfgA := s.tally.cfgA.filter keep, cfgB := s.tally.cfgB.filter keep } }

/-- A watch looks its handle up among its partition's placements (16 R397). -/
def State.watchLookup (s : State) (w : Nat) : State :=
  let p := s.fld (TL_WATCH_CTRL w) TL_WATCH_CTRL_PARTITION
  let h := s.fld (TL_WATCH_CTRL w) TL_WATCH_CTRL_HANDLE
  match ((s.part p).active.map (·.placements)).getD [] |>.find? (fun x => x.handle == h) with
  | some x =>
    ({ s with tally := { s.tally with watchAt := sset (fun _ => (0, 0)) s.tally.watchAt w (x.addr, x.size) } }).setFld (TL_WATCH_CTRL w) TL_WATCH_CTRL_STATE 1
  | none => (s.setFld (TL_WATCH_CTRL w) TL_WATCH_CTRL_STATE 2).sticky TL_ERR TL_ERR_WATCH_NOT_FOUND TL_ERR_EVENTS

/-- The enabled watches of a partition look up again. -/
def State.relookWatches (s : State) (p : Nat) : State :=
  (List.range 8).foldl (fun s w => if s.flag (TL_WATCH_CTRL w) TL_WATCH_CTRL_ENABLE && s.fld (TL_WATCH_CTRL w) TL_WATCH_CTRL_PARTITION == p
    then s.watchLookup w else s) s

/-- One flit in the units of a bucket's tokens: one refill unit is 1/65,536 of 1/10,880 flit (R255, R295). -/
def bucketUnit : Nat := 65536 * 10880

/-- The buckets of a partition on every port replaced by a plan's, which start full; its packets waiting there are judged anew (12 R298). TC0's
bucket and packets are no partition's. -/
def State.setShares (s : State) (p : Nat) (l : List Share) : State :=
  let b := s.router.buckets.filter (fun e => e.1 / 8 % 8 != p || e.1 % 64 == 0)
  let b := l.foldl (fun b x => sset (fun _ => none) b (x.port * 64 + p * 8 + x.cls) (some ⟨x.share, x.burst, x.burst * bucketUnit, s.zt⟩)) b
  let eg := s.router.eg.map (fun e => (e.1, e.2.map (fun g => if !bit g.pkt.hdr 48 && bits g.pkt.hdr 42 40 == p && bits g.pkt.hdr 45 43 != 0 then { g with judged := 0 } else g)))
  { s with router := { s.router with buckets := b, eg := eg } }

/-- The RWL values of an activation (R43, 14 R348): frame-signal slots are disabled, then each entry writes its register's RWL
fields, in image order. -/
def State.writeRwl (s : State) (p : Nat) (img : Image) : State :=
  let s := (List.range 4).foldl (fun s k => s.setFld (ZN_FRAME_SIG p k) ZN_FRAME_SIG_ENABLE 0) s
  img.regValues.foldl (fun s v => match rwlMask p img.regionMask v.1 with
    | some m => s.wr v.1 ((s.rd v.1 &&& (2 ^ 64 - 1 - m)) ||| (v.2 &&& m))
    | none => s) s

/-- An image with its effective PIECES (06 R142). -/
def Image.withPass (img : Image) (f : Nat) : Image :=
  if f = 0 then img else { img with placements := img.placements.map (fun x => if x.wide then { x with pieces := f } else x) }

/-- The image votes of an image on its domains, and none on the others (17 R410). -/
def State.voteImage (s : State) (p : Nat) (img : Image) (regions : Nat) : State :=
  let doms := s.imageDomains img regions
  (s.imageUnvote p (fun i => doms.contains i)).imageVote p doms

/-- The 4-byte TILE_MAP layout of a substitution (R52, R33). -/
def subBytes (x : Nat × Nat) : List Byte :=
  leBytes 4 (x.1 + x.2 / 1056 * 2 ^ 16 + x.2 % 1056 / 33 * 2 ^ 17 + x.2 % 33 * 2 ^ 22)

/-- The activation report (R52). -/
def reportBytes (imageId tAct tDone slice cmds streams : Nat) (subs : List (Nat × Nat)) (m : BitVec 512) : List Byte :=
  leBytes 8 imageId ++ leBytes 8 tAct ++ leBytes 8 tDone ++ leBytes 4 subs.length ++ leBytes 1 slice ++ zeros 3 ++
    leBytes 4 cmds ++ leBytes 4 streams ++ digestBytes m ++ (subs.map subBytes).flatten

/-- Reports whose memory is ON are written. -/
def State.flushReports (s : State) : State :=
  (List.range 8).foldl (fun s p =>
    match (s.part p).report with
    | some (a, b) =>
      if s.memOn a b.length then ((s.setPart p { s.part p with report := none }).store a b (loaderMaster p)).1
      else s.holdAccess (0x20008 + p) a
    | none => s) s

/-- The report is written where its partition owns the range, judged now (R26, R52); otherwise an access error is counted. The spec does not say what a
SI_REPORT_ADDR that is no multiple of 8 does: it is treated as such a range, the model's choice (log entry 22). -/
def State.putReport (s : State) (p : Nat) (b : List Byte) : State :=
  let a := s.fld (SI_REPORT_ADDR p) SI_REPORT_ADDR_VALUE
  if a = 0 then s
  else if a % 8 = 0 ∧ s.owns p a b.length then s.setPart p { s.part p with report := some (a, b) }
  else s.accessError .module a

/-- Step 5's registers: STAGE IDLE, ACTIVE, SI_ACT_DONE, and the measurements. -/
def State.switchDone (s : State) (p : Nat) (active : Bool) (slice : Nat) (m : BitVec 512) : State :=
  let s := ((s.setStage p 0).setFld (SI_STATUS p) SI_STATUS_ACTIVE (b2n active)).setFld (SI_STATUS p) SI_STATUS_SLICE slice
  (s.wr (SI_ACT_DONE p) s.zt).setMeas (SI_MEAS_ACTIVE p) m

/-- The entry queues of the image's clusters are looked at (03 R57). -/
def State.checkEntries (s : State) (p : Nat) (img : Image) : State :=
  (onceEach (img.clusters.map (fun c => queueNo c.die c.entryQueue))).foldl (fun s k => s.entryTypeCheck p (k / 16384) (k % 16384)) s

/-- Step 4 of an activation, from the state `s` before it (R50). -/
def State.installImage (s : State) (p : Nat) (img : Image) : State :=
  let old := s
  let oldTiles := (s.part p).ownTiles
  let s := (s.switchRecords p).dropStreams p
  let ps := s.part p
  let img := img.withPass (s.fld SI_FORCE_PASS SI_FORCE_PASS_MODE)
  let s := s.setPart p { ps with
    active := some img, staged := none, regions := ps.newRegions, map := ps.newMap, slots := ps.newSlots, homes := ps.newHomes, resident := 0
    noDeliver := false, locked := true, routes := ps.newRoutes, newRoutes := none }
  let s := s.setFld (SI_STATUS p) SI_STATUS_SLICE ps.newSlice
  let s := (oldTiles ++ (s.part p).ownTiles.filter (fun t => !oldTiles.contains t)).foldl (fun s t => (s.zeroSync t).clearEngines t) s
  let s := ((s.writeRwl p img).setShares p img.shares).setFld (RT_EPOCH_STATE p) RT_EPOCH_STATE_WRAP_OWNED img.wrapOwned
  let s := (s.resetChanged old).recount old
  let n := img.head.frameUs * 1000
  let s := { s with zenith := { s.zenith with frameAt := sset (fun _ => 0) s.zenith.frameAt p (s.zt / n + 1) } }
  (s.relookWatches p).voteImage p img ps.newRegions

/-- ACTIVATION_DONE (R50 steps 4 and 5). -/
def execActivationDone (p : Nat) (s : State) : Res :=
  match s.stage p == 4 && !(s.part p).unloading && s.switchQuiet p, (s.part p).staged with
  | true, some img =>
    let s := s.installImage p img
    let ps := s.part p
    let s := ((s.switchDone p true ps.newSlice img.measurement).setMeas (SI_MEAS_STAGED p) 0).addFld (SI_EVENTS p) evActivations 1
    let s := s.putReport p (reportBytes img.head.imageId (s.rd (SI_ACT_TIME p)) s.zt ps.newSlice ps.cmdsEnded ps.streamEnded ps.subs img.measurement)
    .next (((s.checkEntries p img).flushReports).fireVector (2 + p)).settleRecords
  | _, _ => .next s

/-- Step 4 of an unload, from the state `s` before it (R50). -/
def State.removeImage (s : State) (p : Nat) : State :=
  let old := s
  let s := (s.part p).ownTiles.foldl (fun s t => s.zeroSync t) s
  let ps := s.part p
  let s := s.setPart p { ps with
    active := none, staged := none, unloading := false, regions := 0, map := [], slots := [], homes := [], resident := 0, noDeliver := false, routes := none }
  let s := (s.resetChanged old).recount old
  (((s.setShares p []).relookWatches p).imageUnvote p (fun _ => false))

/-- UNLOAD_DONE (R50): the report's range is judged under the outgoing image (R26). R50 says only that the report follows as for an activation: that it
holds the outgoing image's IMAGE_ID, SLICE and MEASUREMENT and no substitutions is the model's choice (log entry 22). -/
def execUnloadDone (p : Nat) (s : State) : Res :=
  match s.stage p == 4 && (s.part p).unloading && s.switchQuiet p, (s.part p).active with
  | true, some img =>
    let s := (s.switchRecords p).dropStreams p
    let ps := s.part p
    let slice := s.fld (SI_STATUS p) SI_STATUS_SLICE
    let s := s.putReport p (reportBytes img.head.imageId (s.rd (SI_ACT_TIME p)) s.zt slice ps.cmdsEnded ps.streamEnded [] img.measurement)
    let s := s.removeImage p
    let s := (s.switchDone p false 1 0).addFld (SI_EVENTS p) evUnloads 1
    .next ((s.flushReports).fireVector (2 + p)).settleRecords
  | _, _ => .next s

/-! ## The forced pass mode (06 R141) -/

/-- An image is in force: ACTIVE, ARMED or SWITCHING (06 R141, 14 R343). -/
def State.imageInForce (s : State) : Bool :=
  (List.range 8).any (fun p => s.isActive p || s.stage p == 3 || s.stage p == 4)

/-- FORCE_PASS (06 R141): a write of SI_FORCE_PASS from Welkin or the library. -/
def State.forcePass (s : State) (ctx : Ctx) (v : Nat) : State :=
  match ctx with
  | .welkin | .library =>
    if s.imageInForce then s.addFld SI_FORCE_PASS SI_FORCE_PASS_REFUSED 1
    else s.setFld SI_FORCE_PASS SI_FORCE_PASS_MODE (bits v 1 0)
  | _ => s.accessError ctx SI_FORCE_PASS

def execForcePass (ctx : Ctx) (value : Word) (s : State) : Res := .next (s.forcePass ctx value.toNat)

end Sys2Proof.Machine
end

