-- ==== Sys2Proof/Machine/Elect.lean ====
section
/-! DEFINITION. The election of the time root and the Zenith state of this module (14_zenith_time.md R340, R343, R345): shared by
the ports, whose loss takes a parent away, and by Zenith itself. -/
namespace Sys2Proof.Machine

/-- A ZN_ERR bit with its event count (R9). -/
def State.znErr (s : State) (f : Fld) : State := s.sticky ZN_ERR f ZN_ERR_EVENTS

/-- A torus port carries Zenith traffic (R340, R345): UP, or QUARANTINED with CHECK MATCH. -/
def State.zenithPort (s : State) (n : Nat) : Bool :=
  let st := s.fld (KL_STATUS n) KL_STATUS_STATE
  decide (n < 8) && (st == 6 || (st == 5 && s.fld (KL_STATUS n) KL_STATUS_CHECK == 1))

/-- Zenith's STATE: 0 FREE, 1 ACQUIRE, 2 LOCKED, 3 HOLDOVER, 4 root (R343, R346); a root that enters ACQUIRE by REACQUIRE stays
there until an edge with a named second (R341). -/
def State.znState (s : State) : Nat := s.fld ZN_STATUS ZN_STATUS_STATE

/-- The parent port, none for 0xF. -/
def State.znParent (s : State) : Option Nat :=
  let p := s.fld ZN_STATUS ZN_STATUS_PARENT
  if p < 8 then some p else none

/-- STATE changes: LOCK_LOST where LOCKED is left, a ZENITH_STATE event (R359, R360). -/
def State.setZnState (s : State) (st : Nat) : State :=
  let old := s.znState
  if old = st then s
  else
    let s := s.setFld ZN_STATUS ZN_STATUS_STATE st
    let s := if old = 2 then s.znErr ZN_ERR_LOCK_LOST else s
    let s := { s with zenith := { s.zenith with quiet := 0 } }
    s.postEvent none 0 0x0140 0xFFFF (leBytes 1 old ++ leBytes 1 st ++ leBytes 1 (s.fld ZN_STATUS ZN_STATUS_PARENT) ++ zeros 5 ++
      leBytes 8 (s.rd ZN_ROOT))

/-- A candidate outranks another (R340): QUALITY higher, then PRIO lower, then SERIAL lower. -/
def outranks (a b : Nat × Nat × Nat) : Bool :=
  decide (b.1 < a.1) || (a.1 == b.1 && (decide (a.2.1 < b.2.1) || (a.2.1 == b.2.1 && decide (a.2.2 < b.2.2))))

def Announce.cand (a : Announce) : Nat × Nat × Nat := (a.quality, a.prio, a.serial)

/-- The announcements of the last 375 µs on the ports that carry Zenith traffic. -/
def State.liveAnns (s : State) : List (Nat × Announce) :=
  s.zenith.anns.filterMap (fun e => match e.2 with
    | some a => if s.zenithPort e.1 && decide (s.zt ≤ a.at_ + 375000) then some (e.1, a) else none
    | none => none)

/-- This module's own candidacy. -/
def State.ownCand (s : State) : Option (Nat × Nat × Nat) :=
  if s.flag ZN_ELECT ZN_ELECT_ELIGIBLE then some (s.fld ZN_STATUS ZN_STATUS_QUALITY, s.fld ZN_ELECT ZN_ELECT_PRIO, s.fuses.serial) else none

/-- The announcements that name another module: an echo of this one is older than its own candidacy. -/
def State.otherAnns (s : State) : List (Nat × Announce) := s.liveAnns.filter (fun e => e.2.serial != s.fuses.serial)

/-- The best candidate known. -/
def State.bestCand (s : State) : Option (Nat × Nat × Nat) :=
  (s.otherAnns.map (fun e => e.2.cand)).foldl (fun b c => match b with
    | none => some c
    | some b => if outranks c b then some c else some b) s.ownCand

/-- The port among those that name a candidate with the fewest hops: the present parent where none has fewer, else the lowest. -/
def pickParent (now : Option Nat) (l : List (Nat × Announce)) : Option (Nat × Nat) :=
  match l with
  | [] => none
  | e :: t =>
    let least := t.foldl (fun m x => min m x.2.hops) e.2.hops
    match l.find? (fun x => some x.1 == now && x.2.hops == least) with
    | some x => some (x.1, least)
    | none => (l.find? (fun x => x.2.hops == least)).map (fun x => (x.1, least))

/-- A partition has an image that is ACTIVE, ARMED or SWITCHING: a step would move its frame boundaries (R343). -/
def State.frameWork (s : State) : Bool :=
  (List.range 8).any (fun p => s.flag (SI_STATUS p) SI_STATUS_ACTIVE || s.fld (SI_STATUS p) SI_STATUS_STAGE == 3 || s.fld (SI_STATUS p) SI_STATUS_STAGE == 4)

/-- The follower's state once it has a parent (R343): a module that was root or FREE slews back as from HOLDOVER; only one that has not taken a time
since it entered ACQUIRE, and has no work that a step would move, is still to take its parent's (log entry 61). -/
def State.followState (s : State) : Nat :=
  match s.znState with
  | 0 => if s.zenith.stepped || s.frameWork then 3 else 1
  | 4 => if s.zenith.stepped || s.frameWork then 3 else 1
  | st => st

/-- The election with what is known now (R340): the root and the parent adopted, a parent lost, and
the state that follows. -/
def State.elect (s : State) : State :=
  let old := s.znParent
  let wasRoot := s.flag ZN_STATUS ZN_STATUS_ROOT
  let lost := match old with | some p => !s.liveAnns.any (fun e => e.1 == p) | none => false
  let self := (s.bestCand, s.ownCand)
  let s := match self with
    | (some b, some o) =>
      if b == o then
        (((s.setFld ZN_STATUS ZN_STATUS_ROOT 1).setFld ZN_STATUS ZN_STATUS_PARENT 0xF).setFld ZN_STATUS ZN_STATUS_HOPS 0)
      else s.setFld ZN_STATUS ZN_STATUS_ROOT 0
    | _ => s.setFld ZN_STATUS ZN_STATUS_ROOT 0
  let root := s.flag ZN_STATUS ZN_STATUS_ROOT
  let named := match self.1 with | some b => s.otherAnns.filter (fun e => e.2.cand == b) | none => []
  let s := if root then s
    else match pickParent old named with
      | some (p, h) => (s.setFld ZN_STATUS ZN_STATUS_PARENT p).setFld ZN_STATUS ZN_STATUS_HOPS (min 255 (h + 1))
      | none => (s.setFld ZN_STATUS ZN_STATUS_PARENT 0xF).setFld ZN_STATUS ZN_STATUS_HOPS 0
  let serial := match self.1 with | some b => b.2.2 | none => 0
  let s := if s.rd ZN_ROOT = serial then s else (s.wr ZN_ROOT serial).znErr ZN_ERR_ROOT_CHANGE
  let s := if lost then s.znErr ZN_ERR_PARENT_LOST else s
  let s := if s.znParent = old then s else { s with zenith := { s.zenith with theta := none, quiet := 0 } }
  if root then (if wasRoot && s.znState == 1 then s else s.setZnState 4)
  else if s.znParent.isSome then s.setZnState s.followState
  else match s.znState with
    | 2 => s.setZnState 3
    | 4 => s.setZnState 0
    | _ => s

/-- A port has left the states that carry Zenith traffic (R345): its announcement is void, and a parent is lost at once. -/
def State.zenithPortLeft (s : State) (n : Nat) : State :=
  let s := { s with zenith := { s.zenith with anns := sset (fun _ => none) s.zenith.anns n none, pairs := sset (fun _ => none) s.zenith.pairs n none } }
  if s.znParent == some n then s.elect else s

end Sys2Proof.Machine
end

