-- ==== Sys2Proof/Machine/Packets.lean ====
section
/-! DEFINITION. Packets, channels and what ports and router share: header fields, discards and their counts, injection,
receive-buffer space, port states and the loss of what a link held, and completion records of the engines that write their
own (11_kwebel_ports.md R262 to R268, R273; 12_fabric_routing.md R278 to R283, R304). -/
namespace Sys2Proof.Machine

/-! ## Packets (R278, R279) -/

def Packet.dst (k : Packet) : Nat := bits k.hdr 19 0
def Packet.src (k : Packet) : Nat := bits k.hdr 39 20
def Packet.part (k : Packet) : Nat := bits k.hdr 42 40
def Packet.cls (k : Packet) : Nat := bits k.hdr 45 43
def Packet.epoch (k : Packet) : Nat := bits k.hdr 46 46
def Packet.fence (k : Packet) : Bool := bit k.hdr 47
def Packet.isModule (k : Packet) : Bool := bit k.hdr 48
def Packet.kind (k : Packet) : Nat := bits k.hdr 52 49
def Packet.len (k : Packet) : Nat := bits k.hdr 62 53
def Packet.layerOp (k : Packet) : Nat := bits k.hdr 127 96
def Packet.data (k : Packet) : Nat := bits k.hdr 255 128

/-- The partition of a packet: none for a module packet. -/
def Packet.owner (k : Packet) : Option Nat := if k.isModule then none else some k.part

/-- The DATA flits of a packet (R279). -/
def flitsOf (len : Nat) : Nat := (32 + len + 63) / 64
def Packet.flits (k : Packet) : Nat := flitsOf k.len

/-- The flits' bytes: header, payload, zeros. -/
def Packet.bytes (k : Packet) : List Byte := padTo (64 * k.flits) (leBytes 32 k.hdr ++ k.body)

/-- The packet that a run of flits spells. -/
def packetOf (b : List Byte) : Packet :=
  let h := fieldAt b 0 32
  ⟨h, (b.drop 32).take (bits h 62 53)⟩

/-- A header (R278) with SEQ zero; layerOp holds LAYER_ID and OP_ID. -/
def mkHdr (dst src part cls epoch : Nat) (fence isMod : Bool) (kind len layerOp data : Nat) : Nat :=
  dst + src * 2 ^ 20 + part * 2 ^ 40 + cls * 2 ^ 43 + epoch * 2 ^ 46 + b2n fence * 2 ^ 47 + b2n isMod * 2 ^ 48 + kind * 2 ^ 49 +
  len * 2 ^ 53 + layerOp * 2 ^ 96 + data * 2 ^ 128

/-- The attributes of a packet's events (16 R385). -/
def Packet.attr (k : Packet) : Attr :=
  { part := k.owner, cls := some k.cls, layerOp := some (k.layerOp % 2 ^ 20, k.layerOp / 2 ^ 20) }

/-- The flits of each channel's receive buffer (R282). -/
def chanSize (c : Nat) : Nat := [1024, 5632, 768, 768, 384, 256, 5632, 768, 768, 384].getD c 0

/-- The channel of a class: the dateline channel of TC1 to TC4 where asked. -/
def chanOf (cls : Nat) (dateline : Bool) : Nat := if dateline && decide (1 ≤ cls) && decide (cls ≤ 4) then cls + 5 else cls

/-- A coordinate of a packed COORD (R262). -/
def coordAt (d a : Nat) : Nat := bits d (5 * a + 4) (5 * a)

/-- This module's coordinates and ring sizes (R288). -/
def State.coord (s : State) : Nat := s.fld RT_COORD RT_COORD_COORD
def State.ringSize (s : State) (a : Nat) : Nat := bits (s.rd RT_COORD) (25 + 6 * a) (20 + 6 * a)

/-! ## Ports -/

def State.port (s : State) (n : Nat) : PortSt := sget (fun _ => {}) s.ports n
def State.setPort (s : State) (n : Nat) (x : PortSt) : State := { s with ports := sset (fun _ => {}) s.ports n x }

/-- A port's state (R260): 0 DISABLED, 1 DETECT, 2 EQUALISE, 3 LOCK, 4 DISCOVER, 5 QUARANTINED, 6 UP, 7 DOWN, 8 DARK, 9 SLEEP. -/
def State.klState (s : State) (n : Nat) : Nat := s.fld (KL_STATUS n) KL_STATUS_STATE

/-- A KL_ERR bit with its event count (R9). -/
def State.klErr (s : State) (n : Nat) (f : Fld) : State := s.sticky (KL_ERR n) f (KL_ERR_EVENTS n)

/-- The die of a port (R17). -/
def portDie (n : Nat) : Nat := n % 2

/-- A port event in the module event queue of the port's die (R276). -/
def State.klEvent (s : State) (n kind : Nat) (detail : List Byte) : State :=
  s.postEvent none (portDie n) kind 0xFFFF (leBytes 1 n ++ detail)

/-- A port enters a state: STATE, PORTS_UP, a lost Zenith parent (14 R345), and a PORT_STATE event for a change (R260, R276). -/
def State.portTo (s : State) (n st : Nat) : State :=
  let old := s.klState n
  let s := s.setPort n { s.port n with since := s.zt, credited := (s.port n).credited || st == 5 }
  let s := (s.setFld (KL_STATUS n) KL_STATUS_STATE st).setFld RT_STATUS ⟨16 + n, 16 + n⟩ (b2n (st == 6))
  let s := if decide (n < 8) && (old == 5 || old == 6) && !s.zenithPort n then s.zenithPortLeft n else s
  if old = st then s
  else s.klEvent n 0x0110 (leBytes 1 old ++ leBytes 1 st ++ leBytes 1 (s.fld (KL_STATUS n) KL_STATUS_CAUSE) ++
    leBytes 1 (s.fld (KL_STATUS n) KL_STATUS_CHECK))

/-- A packet discarded at a port and counted by class (R264, R265, R268). -/
def State.klDiscard (s : State) (n : Nat) (k : Packet) : State :=
  let c := k.cls
  let s := if c < 4 then s.addFld (KL_DISCARD0 n) ⟨16 * c + 15, 16 * c⟩ 1
    else if c < 6 then s.addFld (KL_DISCARD1 n) ⟨16 * (c - 4) + 15, 16 * (c - 4)⟩ 1
    else s
  s.count 1 n 0x06 1 k.attr

/-- The credits held for a channel of the partner's buffer (R283): none until the port has been QUARANTINED once since the reset (R303). -/
def PortSt.credits (x : PortSt) (c : Nat) : Nat := if !x.credited then 0 else chanSize c - sget (fun _ => 0) x.used c

/-- What a link held is dropped (R268): the replay buffer and a partly received packet, counted; sequences, credits, CONTROL flits
and what waits to be sent in one return to their initial state. -/
def State.dropLink (s : State) (n : Nat) : State :=
  let x := s.port n
  let lost := x.replay.map (fun e => e.2.2) ++ (match x.rxPart with | some r => [packetOf (padTo 32 r.2)] | none => [])
  let s := lost.foldl (fun s k => s.klDiscard n k) s
  s.setPort n { x with
    txSeq := 0
    ackSeq := 0
    replay := []
    replayFrom := none
    rxSeq := 0
    rxPart := none
    skipping := false
    uncorr := 0
    ctrlIn := []
    nakDue := false
    ackSent := 0
    spareReq := none
    degReq := none
    degRx := false
    degTx := false
    freed := []
    used := []
    flitsOut := 0
    sleepTurn := false
    sleepSent := false
    sleepRcvd := false
    linkRun := 0
    back := none
    recheck := false
    retrainAfter := false }

/-- The active width that follows from the number of failed lanes (R266). -/
def widthOf (f : Nat) : Nat := if f ≤ 1 then 8 else if f = 2 then 7 else if f = 3 then 6 else if f ≤ 5 then 4 else 0

/-- Failed lanes of a port's directions. -/
def State.failedRx (s : State) (n : Nat) : Nat := popCount 9 (s.fld (KL_LANES n) KL_LANES_FAILED_RX)
def State.failedTx (s : State) (n : Nat) : Nat := popCount 9 (s.fld (KL_LANES n) KL_LANES_FAILED_TX)

/-! ## Token buckets (R295) -/

/-- The bucket key of a packet: class 0 for TC0 and MGMT, which share one bucket. -/
def bucketKey (n : Nat) (k : Packet) : Nat :=
  if k.cls = 0 || k.kind == 0xA then n * 64 else n * 64 + k.part * 8 + k.cls

/-- The bucket of TC0 before its first use: full (R295). -/
def tc0Bucket : Bucket := ⟨4096, 64, 64 * (65536 * 10880), 0⟩

/-- A port's bucket. -/
def State.bucket (s : State) (key : Nat) : Option Bucket :=
  match sget (fun _ => none) s.router.buckets key with
  | some b => some b
  | none => if key % 64 = 0 then some tc0Bucket else none

/-- A bucket refilled to a time at a width: share × 19 × 224 × lanes units a nanosecond, which is share ÷ 65,536 of the payload
rate of R255, up to its depth. -/
def Bucket.refill (b : Bucket) (zt width : Nat) : Bucket :=
  { b with tokens := min (b.burst * (65536 * 10880)) (b.tokens + (zt - b.at_) * b.share * 19 * 224 * width), at_ := zt }

/-- Every bucket of a port brought up to date, before its width changes. -/
def State.refillPort (s : State) (n : Nat) : State :=
  let w := s.fld (KL_STATUS n) KL_STATUS_WIDTH_TX
  let keys := (List.range 64).filter (fun k => (s.bucket (n * 64 + k)).isSome)
  keys.foldl (fun s k =>
    match s.bucket (n * 64 + k) with
    | some b => { s with router := { s.router with buckets := sset (fun _ => none) s.router.buckets (n * 64 + k) (some (b.refill s.zt w)) } }
    | none => s) s

/-- The widths and spare bits that the failed-lane map gives (R266); the port's buckets are refilled at the old width first. -/
def State.setWidths (s : State) (n : Nat) : State :=
  let rx := widthOf (s.failedRx n)
  let tx := widthOf (s.failedTx n)
  let s := s.refillPort n
  (((s.setFld (KL_STATUS n) KL_STATUS_WIDTH_RX rx).setFld (KL_STATUS n) KL_STATUS_WIDTH_TX tx).setFld (KL_STATUS n) KL_STATUS_SPARE_RX
    (b2n (0 < s.failedRx n && 0 < rx))).setFld (KL_STATUS n) KL_STATUS_SPARE_TX (b2n (0 < s.failedTx n && 0 < tx))

/-! ## Receive buffers and injection -/

/-- Packets in a receive buffer, by ingress (0 to 9 a port, 10 local injection) and channel. -/
def State.rxAt (s : State) (i c : Nat) : List Packet := sget (fun _ => []) s.router.rx (i * 10 + c)
def State.setRx (s : State) (i c : Nat) (l : List Packet) : State :=
  { s with router := { s.router with rx := sset (fun _ => []) s.router.rx (i * 10 + c) l } }

/-- Flits freed in a port's receive buffer, returned in its next CONTROL flit (R283). -/
def State.freeRx (s : State) (i c k : Nat) : State :=
  if i < 10 then
    let x := s.port i
    s.setPort i { x with freed := sset (fun _ => 0) x.freed c (sget (fun _ => 0) x.freed c + k) }
  else s

/-- Packets waiting at an egress port. -/
def State.egAt (s : State) (n c : Nat) : List EgPkt := sget (fun _ => []) s.router.eg (n * 10 + c)
def State.setEg (s : State) (n c : Nat) (l : List EgPkt) : State :=
  { s with router := { s.router with eg := sset (fun _ => []) s.router.eg (n * 10 + c) l } }

/-- Flits that a port's receive buffer holds in a channel: packets there, and packets waiting elsewhere that came from it. -/
def State.occupancy (s : State) (n c : Nat) : Nat :=
  ((s.rxAt n c).map Packet.flits).sum +
  ((s.router.eg.map (fun e => ((e.2.filter (fun g => g.ingress == n && g.chan == c)).map (fun g => g.pkt.flits)).sum)).sum)

/-- Packets taken by local units, by KIND. -/
def State.inboxOf (s : State) (kind : Nat) : List (Nat × Packet) := sget (fun _ => []) s.router.inbox kind
def State.setInbox (s : State) (kind : Nat) (l : List (Nat × Packet)) : State :=
  { s with router := { s.router with inbox := sset (fun _ => []) s.router.inbox kind l } }

/-- A packet handed to the router by a local source (R280): it takes its SEQ (R278) and waits to be routed. -/
def State.injectNow (s : State) (k : Packet) : State :=
  let key := (k.dst * 8 + k.cls) * 16 + (match k.owner with | some p => p | none => 8)
  let n := sget (fun _ => 0) s.router.seqs key
  let k : Packet := { k with hdr := putBits k.hdr 95 64 n }
  let s := { s with router := { s.router with seqs := sset (fun _ => 0) s.router.seqs key ((n + 1) % 2 ^ 32) } }
  s.setRx 10 k.cls (s.rxAt 10 k.cls ++ [k])

/-- A packet of a local source; a new-epoch packet is held until the close packets of its partition are sent (R292). -/
def State.injectPacket (s : State) (k : Packet) : State :=
  let r := RT_EPOCH_STATE k.part
  if !k.isModule && s.fld r RT_EPOCH_STATE_STATE == 2 && !s.flag r RT_EPOCH_STATE_CLOSES_SENT &&
      k.epoch == s.fld r RT_EPOCH_STATE_CURRENT then
    { s with router := { s.router with heldNew := s.router.heldNew ++ [k] } }
  else s.injectNow k

/-- A module packet to a module (R278, R280). -/
def State.modulePacket (s : State) (dst cls kind : Nat) (data : Nat) (body : List Byte) : Packet :=
  ⟨mkHdr dst s.coord 0 cls 0 false true kind body.length 0 data, body⟩

/-! ## Discards (R289 to R304) -/

def dBadHeader : Nat := 0
def dDenied : Nat := 1
def dNoTable : Nat := 2
def dNoRoute : Nat := 3
def dWrapDenied : Nat := 4
def dNoShare : Nat := 5
def dNoQueue : Nat := 6
def dNoEngine : Nat := 7

/-- The scope of an event of a partition: itself while it has an active image, else the module (R304). -/
def State.activeScope (s : State) (p : Option Nat) : Option Nat :=
  match p with
  | some p => if (s.part p).active.isSome then some p else none
  | none => none

/-- A packet discarded by the router with a cause: counted, DISCARD set, and one event per cause and die in each 1 ms window
(R303, R304). -/
def State.routeDiscard (s : State) (cause ingress : Nat) (k : Packet) : State :=
  let s := if cause < 4 then s.addFld RT_DISCARD0 ⟨16 * cause + 15, 16 * cause⟩ 1
    else s.addFld RT_DISCARD1 ⟨16 * (cause - 4) + 15, 16 * (cause - 4)⟩ 1
  let s := s.sticky RT_ERR RT_ERR_DISCARD RT_ERR_EVENTS
  let d := if ingress < 10 then portDie ingress else 0
  let w := s.zt / 1000000 + 1
  if sget (fun _ => 0) s.router.limited (d * 8 + cause) = w then s
  else
    ({ s with router := { s.router with limited := sset (fun _ => 0) s.router.limited (d * 8 + cause) w } }).postEvent
      (s.activeScope k.owner) d 0x0122 0xFFFF
      (leBytes 1 cause ++ leBytes 1 (if ingress < 10 then ingress else 0xFF) ++ zeros 14 ++ leBytes 32 k.hdr)

/-- A link-local module packet handed to one port (14 R346, R352); without coordinates the router discards it (R288). -/
def State.sendLinkLocal (s : State) (n : Nat) (k : Packet) : State :=
  if !s.flag RT_COORD RT_COORD_VALID then s.routeDiscard dNoRoute 10 k
  else
  let key := (k.dst * 8 + k.cls) * 16 + 8
  let c := sget (fun _ => 0) s.router.seqs key
  let k : Packet := { k with hdr := putBits k.hdr 95 64 c }
  let s := { s with router := { s.router with seqs := sset (fun _ => 0) s.router.seqs key ((c + 1) % 2 ^ 32) } }
  s.setEg n k.cls (s.egAt n k.cls ++ [⟨k, 10, k.cls, true, 0, false⟩])

/-! ## Records of engines that produce their own (11 R273, 13 R318) -/

/-- A completion record written to its queue, or redirected as an event (10 R238); none while it must wait, also for a stop of its
partition (14 R354). -/
def State.putDone (s : State) (r : DoneRec) : Option State :=
  let x := s.queue r.die r.cq
  if s.stopHolds r.owner then none
  else if 16384 ≤ r.cq ∨ s.queueOwner r.die r.cq ≠ r.owner then some (away s)
  else if !x.enabled then none
  else if x.ty != 1 || s.inFailed x.base then some (away s)
  else if !s.roomFor r.die r.cq 1 || !s.memOn (x.slot x.prod) 32 then none
  else some (s.pushEntry r.die r.cq r.bytes)
where
  away (s : State) : State :=
    (s.sticky (QH_ERR r.die) QH_ERR_REDIRECTED (QH_ERR_EVENTS r.die)).postEvent r.owner r.die 0x0003 r.cq (r.bytes ++ leBytes 2 r.cq)

/-- The slot of a record that waits for nothing but its memory's power domain (17 R411). -/
def State.doneOff (s : State) (d : Nat) (owner : Option Nat) (cq : Nat) : Option Nat :=
  let x := s.queue d cq
  let a := x.slot x.prod
  if !s.stopHolds owner && decide (cq < 16384) && s.queueOwner d cq == owner && x.enabled && x.ty == 1 && s.roomFor d cq 1 && !s.memOn a 32 then some a
  else none

/-- Waiting records written as far as their queues take them; what still waits. -/
def State.putDones (s : State) : List DoneRec → State × List DoneRec
  | [] => (s, [])
  | r :: t =>
    match s.putDone r with
    | some s => s.putDones t
    | none => let (s, l) := s.putDones t; (s, r :: l)

end Sys2Proof.Machine
end

