-- ==== Sys2Proof/Machine/Ports.lean ====
section
/-! DEFINITION. Kwebel ports: training, discovery and admission, codewords and CONTROL flits, lane sparing, SLEEP, and
Contrail modules (11_kwebel_ports.md R252 to R277). -/
namespace Sys2Proof.Machine

/-- A context that KL_ registers accept writes from (R277). -/
def klWriter : Ctx → Bool | .module => true | .welkin => true | _ => false

/-- The lane circuits of a port are powered: its domain is ON, or comes up (17 R403, R406). -/
def State.lanesOn (s : State) (n : Nat) : Bool := s.domOn (72 + n) || s.domState (72 + n) == 6

/-- A port whose Contrail module did not verify keeps its laser off (R274). -/
def State.laserOff (s : State) (n : Nat) : Bool := match (s.port n).contrail with | some c => !c.ok | none => false

/-- CAUSE and CHECK of a port. -/
def State.setCause (s : State) (n c : Nat) : State := s.setFld (KL_STATUS n) KL_STATUS_CAUSE c
def State.setCheck (s : State) (n c : Nat) : State := s.setFld (KL_STATUS n) KL_STATUS_CHECK c

/-! ## Training (R260, R261, R266) -/

/-- A full training from DETECT: the failed-lane map is reset (R267, R270). -/
def State.startDetect (s : State) (n : Nat) (back : Option Nat) : State :=
  let x := s.port n
  let s := s.setPort n { x with back := back, disabled := false, recheck := false, retrainAfter := false, degRx := false, degTx := false, spareReq := none, degReq := none }
  ((s.setFld (KL_LANES n) KL_LANES_FAILED_RX 0).setFld (KL_LANES n) KL_LANES_FAILED_TX 0).portTo n 1

/-- Training ends in DOWN with a cause (R260). -/
def State.portTrainFail (s : State) (n cause : Nat) : State :=
  (((s.dropLink n).klErr n KL_ERR_TRAIN_FAIL).setCause n cause).portTo n 7

/-- DETECT (R260): signal on at least 4 receive lanes; a port that is DOWN for want of a partner keeps detecting (R263). A lane's
factory record that is missing sets EQ_DEFAULT (R261). -/
def execDetect (n : Nat) (signal : BitVec 9) (s : State) : Res :=
  let st := s.klState n
  let waits := st == 1 || (st == 7 && s.fld (KL_STATUS n) KL_STATUS_CAUSE == 1)
  if waits && s.lanesOn n && !s.laserOff n && decide (4 ≤ popCount 9 signal.toNat) then
    let s := if (s.record 0x0003 n).isSome then s else s.klErr n KL_ERR_EQ_DEFAULT
    .next ((if st = 1 then s.setCause n 0 else (s.startDetect n none).setCause n 0).portTo n 2)
  else .next s

/-- EQUALISE (R260, R261): adaptation ends with trained values for each lane and the failed lanes. -/
def execEqualise (n : Nat) (failed : BitVec 9) (values : List Nat) (s : State) : Res :=
  if s.klState n == 2 then
    let x := s.port n
    let t := (enumFrom 0 values).foldl (fun m v => sset (fun _ => 0) m v.1 (v.2 % 2 ^ 28)) ([] : Sparse Nat)
    .next (((s.setPort n { x with trained := t }).setFld (KL_LANES n) KL_LANES_FAILED_RX failed.toNat).portTo n 3)
  else .next s

/-- The content of a DISCOVER flit that this module sends (R262): with the TX_ZT of the last one received, and the time since then. -/
def State.discoverFlit (s : State) (n : Nat) : List Byte :=
  let echo := match (s.port n).heard with | some h => (h.1, s.zt - h.2.1) | none => (0, 0)
  leBytes 1 1 ++ leBytes 1 0 ++ leBytes 1 n ++ leBytes 1 (s.fld (KL_PLAN n) KL_PLAN_PART_MASK) ++ leBytes 4 s.coord ++
  leBytes 4 (s.fld (KL_MACHINE n) KL_MACHINE_MACHINE_ID) ++ zeros 4 ++ leBytes 8 s.fuses.serial ++ leBytes 8 s.zt ++
  leBytes 8 echo.1 ++ leBytes 8 echo.2 ++ zeros 16

/-- A CONTROL flit sent. -/
def State.sendControl (s : State) (n : Nat) (b : List Byte) : State := { s with out := s.out ++ [Output.control n b] }

/-- A port enters DISCOVER: the exchange starts afresh, and its CONTROL slots carry DISCOVER flits (R256, R262). -/
def State.enterDiscover (s : State) (n : Nat) : State :=
  (s.setPort n { s.port n with heard := none, exchanges := 0, echoNs := 0, lastCtrl := s.zt }).portTo n 4

/-- LOCK (R260, R266): codeword lock is found and the widths are chosen; with too few lanes the port goes DOWN. -/
def execLock (n : Nat) (failed : BitVec 9) (s : State) : Res :=
  if s.klState n == 3 then
    let s := (s.setFld (KL_LANES n) KL_LANES_FAILED_TX failed.toNat).setWidths n
    if s.fld (KL_STATUS n) KL_STATUS_WIDTH_RX = 0 ∨ s.fld (KL_STATUS n) KL_STATUS_WIDTH_TX = 0 then .next (s.portTrainFail n 3)
    else .next (s.enterDiscover n)
  else .next s

/-- The check of a received DISCOVER content against KL_PLAN and KL_MACHINE (R263): 1 MATCH, 2 UNEXPECTED, 3 ROLE, 4 COORD,
5 PORT, 6 PARTITION. -/
def State.discoverCheck (s : State) (n : Nat) (c : List Byte) : Nat :=
  let e := s.fld (KL_PLAN n) KL_PLAN_EXPECT
  if e = 0 then 2
  else if fieldAt c 1 1 + 1 ≠ e ∨ fieldAt c 8 4 ≠ s.fld (KL_MACHINE n) KL_MACHINE_MACHINE_ID then 3
  else if fieldAt c 4 4 ≠ s.fld (KL_PLAN n) KL_PLAN_PEER_COORD then 4
  else if fieldAt c 2 1 ≠ (if n < 8 then n ^^^ 1 else s.fld (KL_PLAN n) KL_PLAN_PEER_PORT) then 5
  else if fieldAt c 3 1 ≠ s.fld (KL_PLAN n) KL_PLAN_PART_MASK then 6
  else 1

/-- A DISCOVER flit received at a time (R262): its content, what the next one echoes, and the round trip of an echo less its HOLD_NS, for 64
exchanges. -/
def PortSt.discoverIn (x : PortSt) (at_ : Nat) (b : List Byte) : PortSt :=
  let x := { x with heard := some (fieldAt b 0x18 8, at_, b.take 24) }
  if fieldAt b 0x20 8 = 0 ∨ 64 ≤ x.exchanges then x
  else { x with exchanges := x.exchanges + 1, echoNs := x.echoNs + (at_ - fieldAt b 0x20 8 - fieldAt b 0x28 8) }

/-- What the port has heard once a flit that came with DISCOVER is counted in; an empty one is none. -/
def PortSt.exchange (x : PortSt) (at_ : Nat) (flit : List Byte) : PortSt := if flit = [] then x else x.discoverIn at_ flit

/-- The mean round trip in ps of the 64 exchanges (R262). -/
def PortSt.roundTrip (x : PortSt) : Nat := sat 32 (x.echoNs * 1000 / 64)

/-- DISCOVER (R262, R263, R267): an exchange with the flit that came, where one came; once 64 are measured the content received is checked. A
repeated DISCOVER of equal content returns the port to the state it held. -/
def execDiscover (n : Nat) (flit : List Byte) (age : Nat) (s : State) : Res :=
  if s.klState n != 4 then .next s
  else
  let x := (s.port n).exchange (s.zt - age) flit
  match x.heard with
  | none => .next (s.setPort n x)
  | some (_, _, c) =>
  if 64 ≤ x.exchanges then
    let s := (((s.wr (KL_PEER n) (fieldAt c 0 8)).wr (KL_PEER_SERIAL n) (fieldAt c 16 8)).setFld (KL_DELAY n) KL_DELAY_ROUND_TRIP_PS x.roundTrip)
    let s := s.klEvent n 0x0112 (zeros 7 ++ c)
    let same := x.content == some c
    let s := s.setPort n { x with content := some c, back := none, recheck := false, lastCtrl := s.zt }
    match (if same then x.back else none) with
    | some st => .next (s.portTo n st)
    | none =>
      let k := s.discoverCheck n c
      let s := (s.setCheck n k).setCause n 0
      let s := if k = 1 then s else s.klErr n KL_ERR_MISMATCH
      let s := if x.recheck then s else s.setPort n { s.port n with used := [] }
      .next (s.portTo n (if k = 2 then 8 else 5))
  else .next (s.setPort n x)

/-- TRAIN_TIMEOUT (R260): EQUALISE, LOCK or DISCOVER exceeds its bound of 25 ms, 1 ms or 0.5 ms. -/
def execTrainTimeout (n : Nat) (s : State) : Res :=
  let bound := match s.klState n with | 2 => 25000000 | 3 => 1000000 | 4 => 500000 | _ => 0
  if bound != 0 && decide ((s.port n).since + bound < s.zt) then .next (s.portTrainFail n 2) else .next s

/-- NO_PARTNER (R263): 500 ms in DETECT without a partner that the plan expects. -/
def execNoPartner (n : Nat) (s : State) : Res :=
  if s.klState n == 1 && s.fld (KL_PLAN n) KL_PLAN_EXPECT != 0 && decide ((s.port n).since + 500000000 < s.zt) then
    .next (((s.dropLink n).setCause n 1).portTo n 7)
  else .next s

/-- AUTO_RETRAIN (R260): 100 ms after entering DOWN; the cause is kept. A port whose Contrail module is untrusted stays DOWN
(R274). -/
def execAutoRetrain (n : Nat) (s : State) : Res :=
  if s.klState n == 7 && s.flag (KL_PLAN n) KL_PLAN_AUTO_RETRAIN && s.lanesOn n && !s.laserOff n &&
      decide ((s.port n).since + 100000000 ≤ s.zt) then .next (s.startDetect n none)
  else .next s

/-! ## Software control (R265, R270, R277) -/

/-- ADMIT (R265). -/
def State.admitPort (s : State) (n : Nat) : State :=
  if s.klState n == 5 && s.fld (KL_STATUS n) KL_STATUS_CHECK == 1 then s.portTo n 6 else s.klErr n KL_ERR_ADMIT_IGNORED

/-- RECHECK (R265): DISCOVER is repeated with the current plan; a port that is not QUARANTINED ignores it. -/
def State.recheck (s : State) (n : Nat) : State :=
  if s.klState n == 5 then
    (s.setPort n { s.port n with recheck := true, back := none }).enterDiscover n
  else s

/-- A lane failure is being handled on a port (R270). -/
def PortSt.handling (x : PortSt) : Bool := x.degRx || x.degTx || x.spareReq.isSome

/-- RETRAIN (R270): a full training, at the end of a lane failure's handling if one is handled; a port that was UP or
QUARANTINED returns there if the repeated DISCOVER matches (R267). -/
def State.retrain (s : State) (n : Nat) : State :=
  let x := s.port n
  let st := s.klState n
  if !s.lanesOn n || s.laserOff n then s
  else if (st == 5 || st == 6) && x.handling then s.setPort n { x with retrainAfter := true }
  else
    let back := if st = 5 ∨ st = 6 then some st else if st = 9 ∨ (1 ≤ st ∧ st ≤ 4) then x.back else none
    (s.startDetect n back).setCause n 0

/-- A port goes to DISABLED with cause DISABLED_BY_SOFTWARE; partners see loss (R277, 17 R406). -/
def State.disablePort (s : State) (n : Nat) : State := ((s.dropLink n).setCause n 6).portTo n 0

/-- DISABLE (R277), which only RETRAIN leaves. -/
def State.disable (s : State) (n : Nat) : State := (s.setPort n { s.port n with disabled := true }).disablePort n

def execAdmitPort (ctx : Ctx) (n : Nat) (s : State) : Res :=
  .next (if klWriter ctx then s.admitPort n else s.accessError ctx (KL_CTRL n))
def execRecheck (ctx : Ctx) (n : Nat) (s : State) : Res :=
  .next (if klWriter ctx then s.recheck n else s.accessError ctx (KL_CTRL n))
def execRetrain (ctx : Ctx) (n : Nat) (s : State) : Res :=
  .next (if klWriter ctx then s.retrain n else s.accessError ctx (KL_CTRL n))
def execDisable (ctx : Ctx) (n : Nat) (s : State) : Res :=
  .next (if klWriter ctx then s.disable n else s.accessError ctx (KL_CTRL n))

/-- A port whose plan expects a partner begins DETECT, unless software disabled it (R277). -/
def State.beginPort (s : State) (n : Nat) : State :=
  if s.klState n == 0 && !(s.port n).disabled && s.fld (KL_PLAN n) KL_PLAN_EXPECT != 0 &&
      s.lanesOn n && !s.laserOff n then s.startDetect n none
  else s

/-- A write of KL_PLAN (R277). -/
def State.writePlan (s : State) (n v : Nat) : State :=
  let s := (((s.setFld (KL_PLAN n) KL_PLAN_AUTO_RETRAIN (bits v 47 47)).setFld (KL_PLAN n) KL_PLAN_PEER_PORT (bits v 43 40)).setFld
    (KL_PLAN n) KL_PLAN_PART_MASK (bits v 39 32)).setFld (KL_PLAN n) KL_PLAN_PEER_COORD (bits v 31 12)
  (s.setFld (KL_PLAN n) KL_PLAN_EXPECT (bits v 1 0)).beginPort n

def execKlPlan (ctx : Ctx) (n : Nat) (value : Word) (s : State) : Res :=
  .next (if klWriter ctx then s.writePlan n value.toNat else s.accessError ctx (KL_PLAN n))

/-! ## Codewords (R254 to R257) -/

/-- Errored symbols of a lane: its total, its count in the 1 ms window aligned to Zenith, the largest count (R266, R277). -/
def State.laneErrors (s : State) (n lane k : Nat) : State :=
  let x := s.port n
  let w := s.zt / 1000000 + 1
  let old := sget (fun _ => (0, 0)) x.window lane
  let c := (if old.1 = w then old.2 else 0) + k
  let s := s.setPort n { x with window := sset (fun _ => (0, 0)) x.window lane (w, c) }
  let s := s.addFld (KL_LANE_ERR n lane) KL_LANE_ERR_TOTAL k
  if s.fld (KL_LANE_ERR n lane) KL_LANE_ERR_WINDOW_MAX < c then s.setFld (KL_LANE_ERR n lane) KL_LANE_ERR_WINDOW_MAX (sat 32 c) else s

/-- One DATA flit of the expected sequence joins its packet; a whole packet goes to the receive buffer of its channel (R257,
R279). -/
def State.flitIn (s : State) (n chan : Nat) (flit : List Byte) : State :=
  let x := s.port n
  let (c, b) := match x.rxPart with | some r => (r.1, r.2 ++ padTo 64 flit) | none => (chan, padTo 64 flit)
  let k := packetOf b
  let s := (s.setPort n { x with rxSeq := (x.rxSeq + 1) % 65536, skipping := false, rxPart := some (c, b) }).count 1 n 0x01 1 k.attr
  if b.length < 64 * k.flits then s
  else
    let s := (s.setPort n { s.port n with rxPart := none }).count 1 n 0x03 1 k.attr
    s.setRx n c (s.rxAt n c ++ [k])

/-- DATA flits are discarded from here on, and a NAK is due (R257). -/
def State.lostFlits (s : State) (n : Nat) : State :=
  s.setPort n { s.port n with skipping := true, nakDue := true }

/-- A port carries DATA: UP or QUARANTINED, or on its way back to one of them (R267). -/
def State.carries (s : State) (n : Nat) : Bool := s.klState n == 5 || s.klState n == 6 || (s.klState n == 4 && (s.port n).back.isSome)

/-- One slot of a codeword (R255, R257). -/
def State.slotIn (s : State) (n : Nat) : Slot → State
  | .idle => s
  | .reserved => s.lostFlits n
  | .control f => let x := s.port n; s.setPort n { x with ctrlIn := x.ctrlIn ++ [(s.zt, padTo 64 f)], lastCtrl := s.zt }
  | .data seq chan f => if s.carries n && seq.toNat == (s.port n).rxSeq then s.flitIn n chan.val f else s

/-- CODEWORD (R254, R255, R257): decoded or uncorrectable, with the errored symbols of each lane; a sleeping port takes what its partner
sends to wake it (R269). -/
def execCodeword (n : Nat) (fec : Fec) (errors : List Nat) (slots : List Slot) (s : State) : Res :=
  let st := s.klState n
  if (3 ≤ st ∧ st ≤ 6) ∨ st = 9 then
    let s := (enumFrom 0 errors).foldl (fun s e => if e.2 = 0 then s else s.laneErrors n e.1 e.2) s
    match fec with
    | .uncorrectable =>
      let x := s.port n
      .next ((((s.setPort n { x with uncorr := x.uncorr + 1 }).addFld (KL_FEC n) KL_FEC_UNCORRECTABLE 1).count 1 n 0x09 1 {}).lostFlits n)
    | f =>
      let s := s.setPort n { s.port n with uncorr := 0 }
      let s := if f = .corrected then (s.addFld (KL_FEC n) KL_FEC_CORRECTED 1).count 1 n 0x08 1 {} else s
      .next (slots.foldl (fun s x => s.slotIn n x) s)
  else .next s

/-! ## CONTROL flits (R256, R257, R267, R269) -/

/-- A CONTROL flit's stamp and TX_ZT enter the port's 1 µs window (14 R343); the last 17 windows are kept. -/
def State.stampControl (s : State) (n arrival tx : Nat) : State :=
  if 8 ≤ n then s
  else
    let w := arrival / 1000 * 1000
    let l := sget (fun _ => []) s.zenith.windows n
    let d : Int := ((arrival : Nat) : Int) - ((tx : Nat) : Int)
    let l' := match l with
      | [] => [⟨w, d, 1⟩]
      | a :: t => if a.start = w then ⟨w, a.sum + d, a.count + 1⟩ :: t else (⟨w, d, 1⟩ :: a :: t).take 17
    { s with zenith := { s.zenith with windows := sset (fun _ => []) s.zenith.windows n l' } }

/-- Acknowledged flits leave the replay buffer (R257). -/
def PortSt.ack (x : PortSt) (a : Nat) : PortSt :=
  let k := (a + 65536 - x.ackSeq) % 65536
  if k ≤ (x.txSeq + 65536 - x.ackSeq) % 65536 then
    { x with
      ackSeq := a
      replay := x.replay.filter (fun e => decide ((a + 65536 - e.1) % 65536 < e.2.2.flits) || decide (32768 ≤ (a + 65536 - e.1) % 65536)) }
  else x

/-- The CREDITS fields of a CONTROL flit returned (R283). -/
def PortSt.creditsIn (x : PortSt) (b : List Byte) : PortSt :=
  { x with used := (List.range 10).foldl (fun m c => sset (fun _ => 0) m c (sget (fun _ => 0) m c - fieldAt b (8 + 2 * c) 2)) x.used }

/-- CONTROL_FLIT (R256): acknowledgement, NAK, credits, a partner's spare or degrade request, SLEEP; in DISCOVER its content and echo. A
WAKE at a sleeping port is left for WAKE_FLIT, and taken as a LINK flit once the port is awake. -/
def execControlFlit (n : Nat) (s : State) : Res :=
  let x := s.port n
  match x.ctrlIn with
  | [] => .next s
  | (at_, b) :: rest =>
    let kind := fieldAt b 0 1
    if kind = 3 ∧ s.klState n = 9 then .next s
    else if kind = 1 ∧ s.klState n = 4 then .next ((s.setPort n ({ x with ctrlIn := rest }.discoverIn at_ b)).stampControl n at_ (fieldAt b 0x18 8))
    else if kind = 1 ∨ 3 < kind then .next (s.setPort n { x with ctrlIn := rest })
    else
      let flags := fieldAt b 1 1
      let ackSeq := fieldAt b 2 2
      let x := ({ x with ctrlIn := rest }.ack ackSeq).creditsIn b
      let x := if bit flags 0 then { x with replayFrom := some ackSeq } else x
      let x := if bit flags 2 then { x with degTx := true } else x
      let x := if kind = 2 then { x with sleepRcvd := true, linkRun := 0 }
        else if 1 ≤ x.linkRun then { x with sleepRcvd := false, linkRun := 0 } else { x with linkRun := x.linkRun + 1 }
      let s := (s.setPort n x).stampControl n at_ (fieldAt b 0x1C 8)
      let lane := fieldAt b 4 2
      if bit flags 1 && decide (lane < 9) then
        let m := s.fld (KL_LANES n) KL_LANES_FAILED_TX
        .next ((s.setFld (KL_LANES n) KL_LANES_FAILED_TX (putBits m lane lane 1)).setWidths n)
      else .next s

/-! ## Lanes in service (R266, R267) -/

/-- A receive lane is marked failed (R266, R267): FAILED_RX, LANE_FAILED in KL_ERR, an event with the width that is left; once only. -/
def State.failRx (s : State) (n lane : Nat) : State :=
  let m := s.fld (KL_LANES n) KL_LANES_FAILED_RX
  if bit m lane then s
  else
    let s := (s.setFld (KL_LANES n) KL_LANES_FAILED_RX (putBits m lane lane 1)).klErr n KL_ERR_LANE_FAILED
    s.klEvent n 0x0111 (leBytes 1 lane ++ leBytes 1 (widthOf (s.failedRx n)))

/-- LANE_FAILED (R266, R267): a receive lane loses lock or exceeds SER_LIMIT in its window. The spare takes over, or the
direction degrades, or no width is left. -/
def execLaneFailed (n lane : Nat) (lockLost : Bool) (s : State) : Res :=
  let x := s.port n
  let m := s.fld (KL_LANES n) KL_LANES_FAILED_RX
  let w := sget (fun _ => (0, 0)) x.window lane
  let tooMany := w.1 == s.zt / 1000000 + 1 && decide (s.fld (KL_LIMITS n) KL_LIMITS_SER_LIMIT < w.2)
  if (s.klState n == 5 || s.klState n == 6) && decide (lane < 9) && !bit m lane && (lockLost || tooMany) then
    let s := s.failRx n lane
    let f := s.failedRx n
    let s := if f ≤ 1 then s.setWidths n else s
    if widthOf f = 0 then .next ((((s.dropLink n).setWidths n).setCause n 3).portTo n 7)
    else if f ≤ 1 then .next (s.setPort n { s.port n with spareReq := some lane })
    else .next (s.setPort n { s.port n with degRx := true, degReq := if x.degRx then x.degReq else some lane })
  else .next s

/-- DEGRADE_RETRAIN (R267): a direction ends its retraining with the lanes found failed meanwhile; DISCOVER is repeated, or a
RETRAIN that waited starts (R270). -/
def execDegradeRetrain (n : Nat) (failedRx failedTx : BitVec 9) (s : State) : Res :=
  let x := s.port n
  let st := s.klState n
  if (st == 5 || st == 6) && (x.degRx || x.degTx) then
    let s := ((List.range 9).filter (fun l => bit failedRx.toNat l)).foldl (fun s l => s.failRx n l) s
    let s := s.setFld (KL_LANES n) KL_LANES_FAILED_TX (s.fld (KL_LANES n) KL_LANES_FAILED_TX ||| failedTx.toNat)
    let s := (s.setWidths n).setPort n { x with degRx := false, degTx := false, degReq := none, back := some st, retrainAfter := false }
    if s.fld (KL_STATUS n) KL_STATUS_WIDTH_RX = 0 ∨ s.fld (KL_STATUS n) KL_STATUS_WIDTH_TX = 0 then .next (s.portTrainFail n 3)
    else if x.retrainAfter then .next ((s.startDetect n (some st)).setCause n 0)
    else .next (s.enterDiscover n)
  else .next s

/-! ## SLEEP (R269) -/

/-- The port sends SLEEP flits: its domain is ON with a TARGET of RETENTION, and its link is up. -/
def State.sendsSleep (s : State) (n : Nat) : Bool :=
  s.domOn (72 + n) && s.domTarget (72 + n) == 1 && (s.klState n == 5 || s.klState n == 6)

/-- The CONTROL flit of a port in a state other than DISCOVER (R256): its KIND, the NAK, spare and degrade requests that are due, the
next sequence expected, the credits freed since the last one, and its time. -/
def State.linkFlit (s : State) (n kind : Nat) : List Byte :=
  let x := s.port n
  leBytes 1 kind ++ leBytes 1 (b2n x.nakDue + 2 * b2n x.spareReq.isSome + 4 * b2n (x.degRx && x.degReq.isSome)) ++
  leBytes 2 x.rxSeq ++ leBytes 2 (x.spareReq.getD 0) ++ zeros 2 ++
  ((List.range 10).map (fun c => leBytes 2 (sget (fun _ => 0) x.freed c))).flatten ++ leBytes 8 s.zt ++ zeros 28

/-- A CONTROL flit is sent: what it carried is no longer due. -/
def State.linkSent (s : State) (n kind : Nat) : State :=
  let x := s.port n
  let b := s.linkFlit n kind
  let s := if x.nakDue then s.addFld (KL_REPLAY n) KL_REPLAY_NAKS_SENT 1 else s
  (s.setPort n { x with nakDue := false, spareReq := none, degReq := none, ackSent := x.rxSeq, freed := [], sleepSent := x.sleepSent || kind == 2 }).sendControl n b

/-- The CONTROL slot of a block (R255, R256, R269): DISCOVER content in DISCOVER; SLEEP in every other slot while the port asks for it; else a
LINK flit. The request for a spare lane leaves with it, which ends that lane's handling: a RETRAIN that waited starts (R270). -/
def State.controlSlot (s : State) (n : Nat) : State :=
  let st := s.klState n
  if st = 4 then s.sendControl n (s.discoverFlit n)
  else
    let sleep := s.sendsSleep n
    let turn := sleep && !(s.port n).sleepTurn
    let s := s.linkSent n (if turn then 2 else 0)
    let x := { s.port n with sleepTurn := turn, sleepSent := sleep && (s.port n).sleepSent }
    let s := s.setPort n x
    if x.retrainAfter && !x.handling then (s.startDetect n (some st)).setCause n 0 else s

/-- A ns of a port's transmit direction (R255): 224 bits on each active lane, and at 10,880 a block of 20 slots has gone: slot 0 its CONTROL
flit, the others the flits sent since, or IDLE. -/
def State.portTick (s : State) (n : Nat) : State :=
  let st := s.klState n
  let x := s.port n
  if (st == 4 || st == 5 || st == 6) && !x.degTx then
    let b := x.block + 224 * s.fld (KL_STATUS n) KL_STATUS_WIDTH_TX
    if b < 10880 then s.setPort n { x with block := b }
    else
      let k := min 19 x.flitsOut
      let s := s.setPort n { x with block := b - 10880, flitsOut := x.flitsOut - k }
      ((s.count 1 n 0x0B 1 {}).count 1 n 0x07 (19 - k) {}).controlSlot n
  else s

/-- SLEEP (R269): each end has both sent and received SLEEP. -/
def execSleep (n : Nat) (s : State) : Res :=
  let x := s.port n
  if s.sendsSleep n && x.sleepSent && x.sleepRcvd then
    .next ((s.setPort n { x with back := some (s.klState n), sleepTurn := false, sleepSent := false, sleepRcvd := false, linkRun := 0 }).portTo n 9)
  else .next s

/-- A packet waits to be sent at a port. -/
def State.portWaits (s : State) (n : Nat) : Bool := (List.range 10).any (fun c => !(s.egAt n c).isEmpty)

/-- WAKE_FLIT (R269): a WAKE of the partner, a packet that reaches the sleeping port, or a TARGET of ON ends SLEEP; the port
returns to its state and its domain to ON. -/
def execWakeFlit (n : Nat) (s : State) : Res :=
  let x := s.port n
  let theirs := match x.ctrlIn with | (_, b) :: _ => fieldAt b 0 1 == 3 | [] => false
  let ds := s.domState (72 + n)
  if s.klState n == 9 && (theirs || s.portWaits n || s.domTarget (72 + n) == 2) && (ds == 2 || ds == 3 || ds == 6) then
    let s := s.setPort n { x with back := none, lastCtrl := s.zt }
    let s := if theirs then s else s.linkSent n 3
    let s := if ds = 2 then s.beginMove (72 + n) 3 else s
    .next (s.portTo n (x.back.getD 5))
  else .next s

/-! ## Contrail modules (R253, R274, R275) -/

/-- A CONTRAIL event (R276); its bit in KL_ERR. -/
def State.contrailEvent (s : State) (n kind serial : Nat) : State :=
  (s.klErr n KL_ERR_CONTRAIL).klEvent n 0x0113 (leBytes 1 kind ++ zeros 6 ++ leBytes 8 serial)

/-- The hours that Welkin last logged for a Contrail serial. -/
def State.loggedHours (s : State) (serial : Nat) : Nat :=
  match s.welkin.hours.find? (fun e => e.1 == serial) with | some e => e.2 | none => 0

/-- EQ_HOURS and the life flags, with an event for each flag that rises (R275). -/
def State.lifeFlags (s : State) (n : Nat) : State :=
  match (s.port n).contrail with
  | none => s
  | some c =>
    let h := c.hours / 2 ^ 32
    let s := s.setFld (KL_CONTRAIL n) KL_CONTRAIL_EQ_HOURS (sat 32 h)
    let s := if decide (36000 ≤ h) && !s.flag (KL_CONTRAIL n) KL_CONTRAIL_LIFE_WARN then
      (s.setFld (KL_CONTRAIL n) KL_CONTRAIL_LIFE_WARN 1).contrailEvent n 3 c.serial else s
    if decide (40000 ≤ h) && !s.flag (KL_CONTRAIL n) KL_CONTRAIL_LIFE_END then
      (s.setFld (KL_CONTRAIL n) KL_CONTRAIL_LIFE_END 1).contrailEvent n 4 c.serial else s

/-- INSERTED (R253, R274): the medium is identified; Welkin verifies a Contrail module's certificate. -/
def execInserted (n : Nat) (m : Medium) (s : State) : Res :=
  if s.fld (KL_STATUS n) KL_STATUS_MEDIUM != 0 then .next s
  else
    match m with
    | .copper => .next (((s.setPort n { s.port n with copper := true }).setFld (KL_STATUS n) KL_STATUS_MEDIUM 1).beginPort n)
    | .contrail serial body signature hours bias =>
      let sn := serial.toNat
      let ok := match s.record 0x0006 0 with | some key => Config.mldsaVerify key body signature | none => false
      let h := max hours.toNat (s.loggedHours sn) * 2 ^ 32
      let c : ContrailSt := { serial := sn, ok := ok, hours := h, minute := s.zt / 60000000000, bias0 := bias, bodyBytes := body, writtenAt := s.zt }
      let s := (s.setPort n { s.port n with contrail := some c }).setFld (KL_STATUS n) KL_STATUS_MEDIUM 2
      let s := s.contrailEvent n 0 sn
      if ok then .next ((s.lifeFlags n).beginPort n)
      else .next (((((s.lifeFlags n).contrailEvent n 2 sn).dropLink n).setCause n 5).portTo n 7)

/-- What a minute at a mean case temperature adds, in units of 2^−32 hour: 2^((T − 70) ÷ 10) ÷ 60, the factor limited to 1/8 to 8
(R275); its last place is free. -/
def minuteHours (mean : Rat) : Nat :=
  let x := (mean - 70) / 10
  let x := if x < -3 then -3 else if x > 3 then 3 else x
  (fxExp (fxMul (fxOf x) fxLn2) * 2 ^ 32 / 60 / fxOne).toNat

/-- The largest rise of bias since first laser-on, in units of 0.1%, over the lanes whose first value is not zero (R275). -/
def biasRise : List Nat → List Nat → Nat
  | b :: bs, b0 :: b0s => max (if b0 = 0 then 0 else (b - b0) * 1000 / b0) (biasRise bs b0s)
  | _, _ => 0

/-- CONTRAIL_SENSORS (R275): a reading of a module's sensors, its minute of life, and the warnings. -/
def execContrailSensors (n : Nat) (temp vcc : BitVec 16) (bias : List Nat) (power : List (Nat × Nat)) (s : State) : Res :=
  match (s.port n).contrail with
  | none => .next s
  | some c =>
    let rise := biasRise bias c.bias0
    let s := (((s.setFld (KL_CONTRAIL_SENS n) KL_CONTRAIL_SENS_CASE_TEMP temp.toNat).setFld (KL_CONTRAIL_SENS n) KL_CONTRAIL_SENS_VCC_MV vcc.toNat).setFld
      (KL_CONTRAIL_SENS n) KL_CONTRAIL_SENS_BIAS_DRIFT (sat 16 rise)).setFld (KL_CONTRAIL_SENS n) KL_CONTRAIL_SENS_RX_MIN_UW
      (match power.map (·.2) with | [] => 0 | a :: t => t.foldl min a)
    let s := { s with sensors := sset (fun _ => (0, 0)) s.sensors (0x5000 + n) (unsignedOf 32 temp.toInt, s.zt) }
    let on := c.ok && s.klState n != 0 && s.klState n != 8
    let m := s.zt / 60000000000
    let (extra, s) := s.fresh
    let c1 := if c.minute = m ∨ c.tempCount = 0 then { c with minute := m }
      else { c with
        minute := m
        hours := c.hours + minuteHours ((c.tempSum : Rat) / ((256 * c.tempCount : Nat) : Int)) + extra % 2
        tempSum := 0
        tempCount := 0 }
    let c2 := if on then { c1 with tempSum := c1.tempSum + temp.toInt, tempCount := c1.tempCount + 1 } else c1
    let s := (s.setPort n { s.port n with contrail := some { c2 with power := power } }).lifeFlags n
    let above := fun (k : Nat) => (List.zip bias c.bias0).any (fun e => decide (e.2 * k < e.1 * 10))
    let s := if above 12 && !s.flag (KL_CONTRAIL n) KL_CONTRAIL_BIAS_WARN then
      (s.setFld (KL_CONTRAIL n) KL_CONTRAIL_BIAS_WARN 1).contrailEvent n 5 c.serial else s
    .next (if above 14 && !s.flag (KL_CONTRAIL n) KL_CONTRAIL_BIAS_ALARM then
      (s.setFld (KL_CONTRAIL n) KL_CONTRAIL_BIAS_ALARM 1).contrailEvent n 6 c.serial else s)

/-- Welkin's list of hours with a serial's count, at the place it has (R275, 18 R429). -/
def putHours (l : List (Nat × Nat)) (serial h : Nat) : List (Nat × Nat) :=
  if l.any (fun e => e.1 == serial) then l.map (fun e => if e.1 = serial then (serial, h) else e) else l ++ [(serial, h)]

/-- HOURS_WRITE (R275): every 10 minutes the count goes to the module's memory and, as a CONTRAIL_HOURS record, to Welkin's store and event
log; the entry's GENERATION is free, and the count follows it (log entry 56). -/
def execHoursWrite (n : Nat) (s : State) : Res :=
  match (s.port n).contrail with
  | none => .next s
  | some c =>
    if c.ok && decide (c.writtenAt + 600000000000 ≤ s.zt) then
      let h := c.hours / 2 ^ 32
      let s := s.setPort n { s.port n with contrail := some { c with writtenAt := s.zt, stored := h } }
      let l := putHours s.welkin.hours c.serial h
      let (gen, s) := s.fresh
      let s := { s with welkin := { s.welkin with hours := l } }
      .next (s.logFree 0x0007 (padTo 16 (Config.logData 0x0007 [0x0021, l.findIdx (fun e => e.1 == c.serial), gen, h])))
    else .next s

end Sys2Proof.Machine
end

