-- ==== Sys2Proof/Machine/Router.lean ====
section
/-! DEFINITION. The router: routing and local delivery, egress scheduling and policing, coordinates, and epoch switches
(12_fabric_routing.md R278 to R304). -/
namespace Sys2Proof.Machine

/-! ## Headers (R279, R280) -/

/-- The classes that a KIND allows (R280). -/
def kindClasses (k : Nat) : List Nat :=
  match k with
  | 0 => [0, 1, 2] | 1 => [0, 1] | 2 => [2] | 3 => [3] | 4 => [4] | 5 => [4] | 6 => [0] | 7 => [0] | 8 => [0]
  | 9 => [0, 1, 2, 3, 4, 5] | 0xA => [5] | 0xB => [5] | _ => []

/-- The MODULE value of a KIND (R280). -/
def kindModule (k : Nat) : Bool := k == 6 || k == 7 || k == 8 || k == 0xA

/-- KIND_DATA holds a reserved value or a non-zero reserved bit (R280; 13 R324, R327; 14 R346, R352; 18 R439). -/
def dataBad (kind d : Nat) : Bool :=
  match kind with
  | 0 => d / 2 ^ 15 != 0
  | 1 => decide (6 < d % 16) || d / 2 ^ 125 != 0
  | 2 => d / 2 ^ 77 != 0 || bits d 57 48 == 0 || decide (512 < bits d 57 48)
  | 3 => d / 2 ^ 22 != 0 || decide (2 < bits d 21 19)
  | 5 => d / 2 ^ 15 != 0
  | 6 => decide (1 < d % 16) || (if d % 16 = 0 then d / 2 ^ 89 != 0 else d / 2 ^ 117 != 0)
  | 7 => d / 2 ^ 108 != 0 || decide (1 < bits d 106 105)
  | 0xA => decide (1 < d % 16) || d / 2 ^ 20 != 0
  | 0xB => d / 2 ^ 15 != 0
  | _ => d != 0

/-- A header that breaks its layout or its KIND's rules (R279, R280). -/
def State.headerWrong (s : State) (k : Packet) : Bool :=
  bit k.hdr 63 || decide (512 < k.len) || !(kindClasses k.kind).contains k.cls || k.isModule != kindModule k.kind || dataBad k.kind k.data ||
  ((k.kind == 6 || k.kind == 7) && k.len != 0) || (k.kind == 9 && (!k.fence || k.len != 0)) ||
  (List.range 4).any (fun a => decide (s.ringSize a ≤ coordAt k.dst a))

/-- A packet is discarded with BAD_HEADER (R279): STORAGE packets have no place but at a storage port. -/
def State.headerBad (s : State) (k : Packet) : Bool := s.headerWrong k || k.kind == 4

/-- A scope packet that an Overcast stop holds (14 R354). -/
def State.packetHeld (s : State) (k : Packet) : Bool := !k.isModule && s.stopHolds (some k.part)

/-! ## Routing (R289, R290) -/

/-- The outcome of routing: delivered here, discarded, or queued for a port on the normal or the dateline channel. -/
inductive Hop
  | here
  | discard (cause : Nat)
  | out (port : Nat) (dateline : Bool)
  deriving DecidableEq, Repr

/-- A port of this module is a wrap link (R288). -/
def State.wrapLink (s : State) (n : Nat) : Bool :=
  let a := n / 2
  let c := coordAt s.coord a
  if n % 2 = 0 then c + 1 == s.ringSize a else c == 0

/-- The hop of a partition packet by the tables of its EPOCH, axes in the order W, Z, Y, X (R289). -/
def State.tableHop (s : State) (k : Packet) (ingress chan : Nat) : List Nat → Hop
  | [] => .discard dNoRoute
  | a :: t =>
    let e := sget (fun _ => 0) s.router.tables (tableKey k.part k.epoch a (coordAt k.dst a))
    let dir := e % 4
    if dir = 2 then s.tableHop k ingress chan t
    else if dir = 3 then .discard dNoRoute
    else
      let n := if dir = 0 then 2 * a else 2 * a + 1
      if s.wrapLink n && !bit (s.fld (RT_EPOCH_STATE k.part) RT_EPOCH_STATE_WRAP_OWNED) a then .discard dWrapDenied
      else .out n (bit e 2 || (decide (6 ≤ chan) && ingress / 2 == a && decide (ingress < 8)))

/-- The hop of a module packet, by ring distance (R290). -/
def State.ringHop (s : State) (k : Packet) : List Nat → Hop
  | [] => .here
  | a :: t =>
    let l := s.ringSize a
    let dp := (coordAt k.dst a + l - coordAt s.coord a) % l
    if dp = 0 then s.ringHop k t
    else .out (if dp ≤ l - dp then 2 * a else 2 * a + 1) false

/-- The hop of a packet (R289, R290). -/
def State.hop (s : State) (k : Packet) (ingress chan : Nat) : Hop :=
  if k.isModule then s.ringHop k [3, 2, 1, 0]
  else if k.dst = s.coord then .here
  else if !s.flag (RT_EPOCH_STATE k.part) (validFld k.epoch) then .discard dNoTable
  else s.tableHop k ingress chan [3, 2, 1, 0]

/-! ## Local delivery (R281, R286) -/

/-- The destination queue of a MESSAGE, INGEST or DEBUG packet is valid (R281). -/
def State.queueValid (s : State) (k : Packet) : Bool :=
  let d := bits k.data 14 14
  let q := bits k.data 13 0
  let x := s.queue d q
  x.ty == 2 && s.queueOwner d q == some k.part && !s.inFailed x.base

/-- A collective engine is out of service: fenced in the spares map (R281). -/
def State.ceFenced (s : State) (e : Nat) : Bool := bit s.spares.ce e

/-- The engine that a COLLECTIVE or REPLY packet names. -/
def Packet.engine (k : Packet) : Nat := if k.kind = 3 then bits k.data 18 16 else bits k.data 6 4

/-- A collective engine is in reset for a packet's partition: a partition reset of it, or a warm reset, runs (R281, R302, 19 R449). -/
def State.ceResets (s : State) (k : Packet) : Bool :=
  match s.start.resetting with | some (2, q) => k.part == q | some (3, _) => true | _ => false

/-- A collective pair: engines a and a + 4. -/
def State.ce (s : State) (a : Nat) : CeSt := sget (fun _ => {}) s.ces a
def State.setCe (s : State) (a : Nat) (x : CeSt) : State := { s with ces := sset (fun _ => {}) s.ces a x }

/-- OP_TAG of a COLLECTIVE packet. -/
def Packet.opTag (k : Packet) : Nat := bits k.data 42 11

/-- A DATA packet belongs to a permute: no ring operation of its tag runs (13 R325). -/
def State.permuteData (s : State) (k : Packet) : Bool :=
  k.kind == 1 && k.data % 16 == 0 &&
  !((s.ce (k.engine % 4)).ops.any (fun o => o.part == k.part && fieldAt o.desc 4 4 == k.opTag && fieldAt o.desc 0 1 != 5))

/-- The permute tags of an engine, by partition, that hold or await a place: those kept and those of packets already taken. -/
def State.permuteTags (s : State) (k : Packet) : List (Nat × Nat) :=
  ((s.ce (k.engine % 4)).places.map (fun x => (x.part, x.tag)) ++
    ((s.inboxOf 1).filter (fun e => e.2.engine % 4 == k.engine % 4 && s.permuteData e.2)).map (fun e => (e.2.part, e.2.opTag))).eraseDups

/-- What happens to a packet delivered here: it stays in the buffer, goes to its unit, or is discarded with a cause. -/
inductive Fate
  | stay
  | wait (dom : Nat)
  | take
  | discard (cause : Nat)
  deriving DecidableEq, Repr

/-- Local delivery (R281, R286): queue packets and requests stay until MESSAGE_DELIVERY or REQUEST takes them; a unit whose domain
is not ON lets its packets wait (17 R411); a permute packet without a free tag place waits (13 R325). -/
def State.localFate (s : State) (k : Packet) : Fate :=
  let hub := 100 + bits k.data 14 14
  let toQueue : Fate := if !s.domOn hub then .wait hub else if s.queueValid k then .stay else .discard dNoQueue
  match k.kind with
  | 0 => toQueue
  | 5 => toQueue
  | 0xB => toQueue
  | 2 => .stay
  | 1 =>
    if s.ceFenced k.engine || s.ceResets k then .discard dNoEngine
    else if !s.domOn (92 + k.engine) then .wait (92 + k.engine)
    else if s.permuteData k then
      let l := s.permuteTags k
      if l.contains (k.part, k.opTag) || decide (l.length < 32) then .take else .stay
    else .take
  | 3 => if s.ceFenced k.engine || s.ceResets k then .discard dNoEngine else if s.domOn (92 + k.engine) then .take else .wait (92 + k.engine)
  | _ => .take

/-! ## PACKET_ARRIVAL -/

/-- The first packet of a channel that no stop holds, with the others (14 R354). -/
def State.firstFree (s : State) : List Packet → Option (Packet × List Packet)
  | [] => none
  | k :: t => if s.packetHeld k then (s.firstFree t).map (fun r => (r.1, k :: r.2)) else some (k, t)

/-- A packet leaves a receive buffer, whose flits are freed (R283). -/
def State.leaveRx (s : State) (i c : Nat) (k : Packet) (rest : List Packet) : State := (s.setRx i c rest).freeRx i c k.flits

/-- A packet queued for a port (R284, R285, R289): its buffer flits are freed only when it is sent. -/
def State.queueOut (s : State) (i c n : Nat) (dateline : Bool) (k : Packet) (rest : List Packet) : State :=
  let s := s.setRx i c rest
  let c' := chanOf k.cls dateline
  s.setEg n c' (s.egAt n c' ++ [⟨k, i, c, i != n ^^^ 1, 0, false⟩])

/-- A QUARANTINED port takes module packets addressed to this module only (R264). -/
def State.quarantined (s : State) (i : Nat) (k : Packet) : Bool :=
  decide (i < 10) && s.klState i == 5 && (!k.isModule || k.dst != s.coord)

/-- A packet of a partition that its port's plan does not name (R297). -/
def State.denied (s : State) (i : Nat) (k : Packet) : Bool :=
  decide (i < 10) && !k.isModule && !bit (s.fld (KL_PLAN i) KL_PLAN_PART_MASK) k.part

/-- The rules of a port that received a packet (R264, R297) bar it. -/
def State.ingressBar (s : State) (i : Nat) (k : Packet) : Bool := s.quarantined i k || s.denied i k

/-- PACKET_ARRIVAL (R279 to R290): the first packet of a channel of a receive buffer, or of the local injections (ingress 10). -/
def execPacketArrival (i c : Nat) (s : State) : Res :=
  match s.firstFree (s.rxAt i c) with
  | none => .next s
  | some (k, rest) =>
    let gone := s.leaveRx i c k rest
    let storage := k.kind == 4 && (i == 8 || i == 9)
    if s.quarantined i k then .next (gone.klDiscard i k)
    else if !storage && !s.flag RT_COORD RT_COORD_VALID then .next (gone.routeDiscard dNoRoute i k)
    else if s.denied i k then .next ((gone.routeDiscard dDenied i k).count 1 i 0x06 1 k.attr)
    else if storage then .next (if s.headerWrong k then gone.routeDiscard dBadHeader i k else s)
    else if s.headerBad k then .next (gone.routeDiscard dBadHeader i k)
      else if k.kind = 6 ∨ k.kind = 7 then .next (gone.setInbox k.kind (gone.inboxOf k.kind ++ [(i, k)]))
      else
        match s.hop k i c with
        | .discard cause => .next (gone.routeDiscard cause i k)
        | .out n dl => .next (s.queueOut i c n dl k rest)
        | .here =>
          match s.localFate k with
          | .stay => .next s
          | .wait d => .next (s.holdWork (0x90000 + i * 10 + c) d)
          | .discard cause => .next (gone.routeDiscard cause i k)
          | .take => .next (gone.setInbox k.kind (gone.inboxOf k.kind ++ [(i, k)]))

/-! ## MESSAGE_DELIVERY (R281, 10 R234) -/

/-- A packet's entries: its payload in entries of the queue's size, the last one padded with zeros; one at least. -/
def messageEntries (e : Nat) (b : List Byte) : List (List Byte) :=
  let n := (max b.length 1 + e - 1) / e
  (List.range n).map (fun j => padTo e (b.drop (j * e)))

/-- A producer finds a queue full: no entry is free, or a packet that waits for it does not fit (R226, R234). -/
def State.producerFull (s : State) (d q : Nat) : Bool :=
  let x := s.queue d q
  x.occupancy == x.size || s.router.rx.any (fun e => e.2.any (fun k =>
    (k.kind == 0 || k.kind == 5 || k.kind == 0xB) && !k.isModule && k.dst == s.coord && bits k.data 14 14 == d && bits k.data 13 0 == q &&
    !x.room (messageEntries x.entryBytes k.body).length))

/-- HEAD_WORD_READ (R226): the hub reads the head word of a tile-consumed queue that a producer finds full. -/
def execHeadWordRead (d q : Nat) (s : State) : Res :=
  let x := s.queue d q
  let a := x.headAddr
  if !(s.domOn (100 + d) && x.enabled && x.tileConsumed && a != 0 && s.producerFull d q) then .next s
  else if s.memOn a 4 = false then .next (s.holdAccess (0x10000 + d) a)
  else
    match s.firstBad a 4 with
    | some u => .next (s.ueMet 2 u ⟨6, d, 0, s.queueOwner d q, some 1⟩)
    | none =>
      let s := s.hbRead a 4 { part := s.queueOwner d q, master := some 6 }
      let v := s.readNat a 4
      if (v + 2 ^ 32 - x.cons) % 2 ^ 32 ≤ x.occupancy then .next ((s.noteCounts d q).setQueue d q { x with cons := v })
      else .next ((s.sticky (QH_ERR d) QH_ERR_HEAD_BAD (QH_ERR_EVENTS d)).postEvent (s.queueOwner d q) d 0x0002 q
        (leBytes 4 v ++ leBytes 4 x.cons))

/-- MESSAGE_DELIVERY (10 R234): every entry is written, then PROD advances once; the buffer's flits are freed. -/
def execMessageDelivery (i c : Nat) (s : State) : Res :=
  match s.firstFree (s.rxAt i c) with
  | none => .next s
  | some (k, rest) =>
    let d := bits k.data 14 14
    let q := bits k.data 13 0
    let x := s.queue d q
    let es := messageEntries x.entryBytes k.body
    let mine := (k.kind == 0 || k.kind == 5 || k.kind == 0xB) && !k.isModule && k.dst == s.coord && s.flag RT_COORD RT_COORD_VALID &&
      !s.headerBad k && !s.ingressBar i k
    if !(mine && s.queueValid k && x.enabled && s.roomFor d q es.length) then .next s
    else if !s.domOn (100 + d) then .next (s.holdWork (0x90000 + i * 10 + c) (100 + d))
    else
      match (enumFrom 0 es).find? (fun e => !s.memOn (x.slot (x.prod + e.1)) x.entryBytes) with
      | some e => .next (s.holdAccess (0x90000 + i * 10 + c) (x.slot (x.prod + e.1)))
      | none =>
        let at_ : Attr := { part := some k.part, master := some 7, cls := some k.cls, layerOp := k.attr.layerOp }
        let s := (enumFrom 0 es).foldl (fun s e =>
          let a := x.slot (x.prod + e.1)
          ((s.hbWrite a x.entryBytes at_).writeBytes a e.2).cleanUnits a x.entryBytes) s
        .next (((s.leaveRx i c k rest).advanceProd d q es.length))

/-! ## PACKET_BOUNDARY (R283 to R297) -/

/-- A port whose traffic is held meanwhile: asleep, or on its way back after a lane's or software's retraining (R267, R269, R270). -/
def State.portHolds (s : State) (n : Nat) : Bool :=
  let st := s.klState n
  st == 9 || ((s.port n).back.isSome && decide (1 ≤ st) && decide (st ≤ 4))

/-- What a port does with a packet that it may not send: none keeps it (R264, R265, R290, R297). -/
def State.egressBar (s : State) (n : Nat) (g : EgPkt) : Option (State → State) :=
  let st := s.klState n
  let k := g.pkt
  if s.portHolds n then none
  else if st = 6 then
    (if !k.isModule && decide (1 ≤ k.cls) && (s.bucket (bucketKey n k)).isNone then some (fun s => (s.routeDiscard dNoShare g.ingress k).count 1 n 0x06 1 k.attr)
     else none)
  else if k.isModule then
    (if st = 5 ∧ k.dst = s.fld (KL_PLAN n) KL_PLAN_PEER_COORD ∧ 10 ≤ g.ingress then none else some (fun s => s.routeDiscard dNoRoute g.ingress k))
  else some (fun s => s.klDiscard n k)

/-- The packets of a port that it may not send leave it. -/
def State.purgePort (s : State) (n : Nat) : State :=
  (List.range 10).foldl (fun s c =>
    let l := s.egAt n c
    let out := l.filter (fun g => (s.egressBar n g).isSome)
    let kept := l.filter (fun g => (s.egressBar n g).isNone)
    let s0 := s
    out.foldl (fun s g => match s0.egressBar n g with
      | some f => (f s).freeRx g.ingress g.chan g.pkt.flits
      | none => s) (if out.isEmpty then s else s.setEg n c kept)) s

/-- The first packet of an egress channel that no stop holds. -/
def State.egHead (s : State) (n c : Nat) : Option EgPkt := (s.egAt n c).find? (fun g => !s.packetHeld g.pkt)

/-- An egress channel with its first free packet replaced or removed. -/
def State.putHead (s : State) (n c : Nat) (g' : Option EgPkt) : State :=
  match s.egHead n c with
  | none => s
  | some g =>
    let l := s.egAt n c
    let i := l.findIdx (fun x => x == g)
    s.setEg n c (l.take i ++ g'.toList ++ l.drop (i + 1))

/-- A packet at the head of its channel is judged once against its bucket (R295). -/
def State.judgeHead (s : State) (n c : Nat) : State :=
  match s.egHead n c with
  | none => s
  | some g =>
    if g.judged ≠ 0 then s
    else
      let key := bucketKey n g.pkt
      match s.bucket key with
      | none => s.putHead n c (some { g with judged := 2 })
      | some b =>
        let b := b.refill s.zt (s.fld (KL_STATUS n) KL_STATUS_WIDTH_TX)
        let need := g.pkt.flits * bucketUnit
        let ok := decide (need ≤ b.tokens)
        let b := if ok then { b with tokens := b.tokens - need } else b
        ({ s with router := { s.router with buckets := sset (fun _ => none) s.router.buckets key (some b) } }).putHead n c
          (some { g with judged := if ok then 1 else 2 })

/-- The credits that a packet needs (R283, R285). -/
def EgPkt.need (g : EgPkt) (n : Nat) : Nat :=
  g.pkt.flits + (if g.enters && decide (n < 8) && (g.pkt.cls == 0 || g.pkt.cls == 5) then 9 else 0)

/-- A head that lacks credits is counted as waiting once. -/
def State.waitHead (s : State) (n c : Nat) : State :=
  match s.egHead n c with
  | none => s
  | some g =>
    if g.waited || decide (g.need n ≤ (s.port n).credits c) then s
    else
      let s := s.putHead n c (some { g with waited := true })
      let w := (sget (fun _ => 0) s.router.waits (n * 10 + c) + 1) % 2 ^ 32
      ({ s with router := { s.router with waits := sset (fun _ => 0) s.router.waits (n * 10 + c) w } }).count 1 n 0x04 1 g.pkt.attr

/-- The heads that may be sent now, by channel. -/
def State.readyHeads (s : State) (n : Nat) : List (Nat × EgPkt) :=
  let x := s.port n
  let room := 8192 - (x.txSeq + 65536 - x.ackSeq) % 65536
  (List.range 10).filterMap (fun c => match s.egHead n c with
    | some g => if decide (g.need n ≤ x.credits c) && decide (g.pkt.flits ≤ room) then some (c, g) else none
    | none => none)

/-- The pair of an over-share packet, module packets forming one pair (R296). -/
def pairOf (k : Packet) : Nat := if k.isModule then 64 else k.part * 8 + k.cls

/-! The deficit round robin of R296: a port stands at a pair and goes round the 64 pairs; each waiting pair that it comes to gains a quantum in
proportion to its SHARE, and sends while its deficit covers its packet. A moment is 64 × the round + the place in it. -/

/-- The deficit that a packet takes. -/
def EgPkt.cost (g : EgPkt) : Nat := g.pkt.flits * 65536

/-- What a pair gains at each visit. -/
def State.drrGain (s : State) (n : Nat) (k : Packet) : Nat :=
  max 1 (match s.bucket (bucketKey n k) with | some b => b.share | none => 0) * (Config.drrQuantum + 1)

/-- A pair's deficit, and its place after the pair at which the port stands. -/
def State.deficit (s : State) (n pair : Nat) : Nat := sget (fun _ => 0) s.router.deficits (n * 64 + pair)
def State.drrPlace (s : State) (n pair : Nat) : Nat := (pair + 64 - sget (fun _ => 0) s.router.drr n) % 64

/-- The moment at which a pair's packet may be sent. -/
def State.drrMoment (s : State) (n : Nat) (g : EgPkt) : Nat :=
  let pair := pairOf g.pkt
  let need := g.cost - s.deficit n pair
  let gain := s.drrGain n g.pkt
  let visits := (need + gain - 1) / gain
  let place := s.drrPlace n pair
  if place = 0 then visits * 64 else (max 1 visits - 1) * 64 + place

/-- The visits to a pair up to a moment. -/
def State.drrVisits (s : State) (n pair moment : Nat) : Nat :=
  let place := s.drrPlace n pair
  if place = 0 then moment / 64 else if place ≤ moment then (moment - place) / 64 + 1 else 0

/-- The head of least moment. -/
def State.drrFirst (s : State) (n : Nat) : List (Nat × EgPkt) → Option (Nat × EgPkt)
  | [] => none
  | e :: t =>
    match s.drrFirst n t with
    | none => some e
    | some m => if s.drrMoment n m.2 < s.drrMoment n e.2 then some m else some e

/-- In-share heads of TC1 to TC5. -/
def drrHeads (l : List (Nat × EgPkt)) : List (Nat × EgPkt) := l.filter (fun e => e.2.judged == 1 && e.2.pkt.cls != 0 && e.2.pkt.kind != 0xA)

/-- The deficits once a head is sent: those of the waiting pairs visited meanwhile grow, the sender's falls, and a pair with nothing waiting loses
its own. -/
def State.drrSend (s : State) (n : Nat) (l : List (Nat × EgPkt)) (g : EgPkt) : State :=
  let l := drrHeads l
  let m := s.drrMoment n g
  let kept := s.router.deficits.filter (fun e => e.1 / 64 != n)
  let d := l.foldl (fun d e =>
    let pair := pairOf e.2.pkt
    let v := s.deficit n pair + s.drrVisits n pair m * s.drrGain n e.2.pkt
    sset (fun _ => 0) d (n * 64 + pair) (if pair = pairOf g.pkt then v - g.cost else v)) kept
  { s with router := { s.router with deficits := d, drr := sset (fun _ => 0) s.router.drr n (pairOf g.pkt) } }

/-- The packet to send first (R296): in-share TC0, in-share MGMT, in-share TC1 to TC5 by deficit round robin, then over-share packets in turn of
their pairs. -/
def State.pickHead (s : State) (n : Nat) (l : List (Nat × EgPkt)) : Option (Nat × EgPkt) :=
  let last := sget (fun _ => 0) s.router.turn n
  let inShare := l.filter (fun e => e.2.judged == 1)
  let rest := l.filter (fun e => e.2.judged != 1)
  match inShare.find? (fun e => e.2.pkt.cls == 0), inShare.find? (fun e => e.2.pkt.kind == 0xA) with
  | some e, _ => some e
  | none, some e => some e
  | none, none =>
    match s.drrFirst n (drrHeads l) with
    | some e => some e
    | none =>
      let after := rest.filter (fun e => decide (last < pairOf e.2.pkt))
      let pool := if after.isEmpty then rest else after
      let least := pool.foldl (fun m e => min m (pairOf e.2.pkt)) 65
      pool.find? (fun e => pairOf e.2.pkt == least)

/-- Flits with rising sequence numbers put out by a port. -/
def State.putFlits (s : State) (n c : Nat) : Nat → List Byte → Nat → State
  | 0, _, _ => s
  | k + 1, b, seq => { s with out := s.out ++ [Output.flit n seq c (b.take 64)] }.putFlits n c k (b.drop 64) ((seq + 1) % 65536)

/-- A packet of a storage request has left its port: the request's timeout runs from now, and WRITE_DATA counts its bytes (11 R272, R273). -/
def State.storageSent (s : State) (n : Nat) (g : EgPkt) : State :=
  if g.ingress = 11 then
    let x := s.port n
    s.setPort n { x with reqs := x.reqs.map (fun r => if r.tag = fieldAt g.pkt.body 4 4 then
      { r with last := s.zt, moved := if fieldAt g.pkt.body 0 1 = 3 then r.moved + (g.pkt.body.length - 32) else r.moved } else r) }
  else s

/-- A packet sent (R257, R283, R296). -/
def State.sendHead (s : State) (n c : Nat) (g : EgPkt) : State :=
  let k := g.pkt
  let f := k.flits
  let s := (s.putHead n c none).storageSent n g
  let x := s.port n
  let s := (s.putFlits n c f k.bytes x.txSeq).setPort n { x with
    txSeq := (x.txSeq + f) % 65536
    flitsOut := x.flitsOut + f
    replay := x.replay ++ [(x.txSeq, c, k)]
    used := sset (fun _ => 0) x.used c (sget (fun _ => 0) x.used c + f) }
  let key := bucketKey n k
  let v := sget (fun _ => (0, 0)) s.router.sent key
  let v := if g.judged = 1 then ((v.1 + f) % 2 ^ 32, v.2) else (v.1, (v.2 + f) % 2 ^ 32)
  let turn := if g.judged = 1 then s.router.turn else sset (fun _ => 0) s.router.turn n (pairOf k)
  let s := { s with router := { s.router with sent := sset (fun _ => (0, 0)) s.router.sent key v, turn := turn } }
  let s := if g.judged = 1 then s else s.count 1 n 0x05 f k.attr
  let s := if g.judged ≠ 1 ∧ k.cls = 0 then s.sticky RT_ERR RT_ERR_TC0_OVER RT_ERR_EVENTS else s
  ((s.count 1 n 0x00 f k.attr).count 1 n 0x02 1 k.attr).freeRx g.ingress g.chan f

/-- A replay from a sequence number (R257): every flit from there on is sent again. -/
def State.replayFlits (s : State) (n from_ : Nat) : State :=
  let x := s.port n
  let all := (x.replay.map (fun e => (List.range e.2.2.flits).map (fun j => ((e.1 + j) % 65536, e.2.1, (e.2.2.bytes.drop (64 * j)).take 64, e.2.2)))).flatten
  let again := all.filter (fun e => decide ((e.1 + 65536 - from_) % 65536 < 8192))
  let s := s.setPort n { x with replayFrom := none, flitsOut := x.flitsOut + again.length }
  again.foldl (fun s e =>
    (({ s with out := s.out ++ [Output.flit n e.1 e.2.1 e.2.2.1] }).addFld (KL_REPLAY n) KL_REPLAY_FLITS_REPLAYED 1).count 1 n 0x0A 1 e.2.2.2.attr) s

/-- PACKET_BOUNDARY (R296): the egress port sends the first eligible packet; packets that it may not send are discarded. -/
def execPacketBoundary (n : Nat) (s : State) : Res :=
  let s := s.purgePort n
  let st := s.klState n
  if !((st == 5 || st == 6) && s.domOn (72 + n) && !(s.port n).degTx) then .next s
  else
    match (s.port n).replayFrom with
    | some from_ => .next (s.replayFlits n from_)
    | none =>
      let s := (List.range 10).foldl (fun s c => (s.judgeHead n c).waitHead n c) s
      let l := s.readyHeads n
      match s.pickHead n l with
      | none => .next s
      | some (c, g) =>
        let planned := g.judged == 1 && g.pkt.cls != 0 && g.pkt.kind != 0xA
        .next ((if planned then s.drrSend n l g else s).sendHead n c g)

/-! ## Coordinates (R288, R303) -/

/-- A write of RT_COORD, which Welkin alone makes: a bad size or coordinate is ignored and sets COORD_BAD. -/
def State.writeCoord (s : State) (v : Nat) : State :=
  let ok := (List.range 4).all (fun a =>
    let l := bits v (25 + 6 * a) (20 + 6 * a)
    decide (1 ≤ l) && decide (l ≤ 32) && decide (coordAt v a < l))
  if ok then (s.wr RT_COORD (v % 2 ^ 44 + b2n (bit v 63) * 2 ^ 63)).setFld RT_STATUS RT_STATUS_COORD_VALID (b2n (bit v 63))
  else s.sticky RT_ERR RT_ERR_COORD_BAD RT_ERR_EVENTS

/-- RT_COORD: the row's command. -/
def execRtCoord (ctx : Ctx) (value : Word) (s : State) : Res :=
  .next (if ctx = .welkin then s.writeCoord value.toNat else s.accessError ctx RT_COORD)

/-! ## Epoch switches (R291 to R293) -/

/-- A context that partition p's group accepts writes from (R303). -/
def groupWriter (ctx : Ctx) (p : Nat) : Bool :=
  match ctx with | .kernel q => q.val == p | .library => true | .welkin => true | _ => false

/-- STATE of a partition's switch. -/
def State.epochState (s : State) (p : Nat) : Nat := s.fld (RT_EPOCH_STATE p) RT_EPOCH_STATE_STATE
def State.currentEpoch (s : State) (p : Nat) : Nat := s.fld (RT_EPOCH_STATE p) RT_EPOCH_STATE_CURRENT

/-- The close list of an accepted SWITCH is read and STATE becomes ARMED (R292 step 1); while its memory is not ON the switch waits (17 R411). -/
def State.closeRead (s : State) (p : Nat) : State :=
  let r := RT_EPOCH_STATE p
  let a := s.fld (RT_CLOSE_LIST p) RT_CLOSE_LIST_ADDR
  let n := s.fld (RT_CLOSE_LIST p) RT_CLOSE_LIST_COUNT
  let refuse := fun (s : State) => s.sticky RT_ERR RT_ERR_EPOCH_REFUSED RT_ERR_EVENTS
  if !s.memOn a (4 * n) then
    { s with router := { s.router with switchWait := p :: s.router.switchWait.filter (· != p) } }.holdAccess (0xA0000 + p) (match s.firstOff a (4 * n) with | some b => b | none => a)
  else
    match s.firstBad a (4 * n) with
    | some u => refuse (s.ueMet 2 u ⟨7, 0xFFFF, 0, some p, some 1⟩)
    | none =>
      let l := (List.range n).map (fun i => s.readNat (a + 4 * i) 4)
      let s := s.hbRead a (4 * n) { part := some p, master := some 7 }
      if l.any (fun e => e / 2 ^ 26 != 0) then refuse s
      else
        let s := { s with router := { s.router with
          closing := sset (fun _ => []) s.router.closing p l
          timedOut := s.router.timedOut.filter (· != p)
          extra := sset (fun _ => 0) s.router.extra p 0 } }
        ((s.setFld r RT_EPOCH_STATE_CLOSE_SEEN 0).setFld r RT_EPOCH_STATE_CLOSES_SENT 0).setFld r RT_EPOCH_STATE_STATE 1

/-- An epoch switch of a partition is under way, or the routes of its active image are not in force yet (13 R328). -/
def State.epochPending (s : State) (p : Nat) : Bool :=
  s.epochState p != 0 || (match (s.part p).routes with | some v => s.currentEpoch p != v | none => false)

/-- SWITCH (R292 step 1): refused with EPOCH_REFUSED, or accepted. -/
def State.epochSwitch (s : State) (p : Nat) : State :=
  let r := RT_EPOCH_STATE p
  let a := s.fld (RT_CLOSE_LIST p) RT_CLOSE_LIST_ADDR
  let n := s.fld (RT_CLOSE_LIST p) RT_CLOSE_LIST_COUNT
  if s.epochState p ≠ 0 ∨ s.flag r (validFld (1 - s.currentEpoch p)) = false ∨ s.rd (RT_SWITCH_AT p) < s.zt + 10000 ∨
      s.owns p a (4 * n) = false then s.sticky RT_ERR RT_ERR_EPOCH_REFUSED RT_ERR_EVENTS
  else s.closeRead p

/-- The switches that waited for their close list take it up (17 R411). -/
def State.switchRetry (s : State) : State :=
  s.router.switchWait.foldl (fun s p =>
    if s.memOn (s.fld (RT_CLOSE_LIST p) RT_CLOSE_LIST_ADDR) (4 * s.fld (RT_CLOSE_LIST p) RT_CLOSE_LIST_COUNT) then
      { s with router := { s.router with switchWait := s.router.switchWait.filter (· != p) } }.closeRead p
    else s) s

def execSwitch (ctx : Ctx) (p : Nat) (s : State) : Res :=
  .next (if groupWriter ctx p then s.epochSwitch p else s.accessError ctx (RT_EPOCH_CTRL p))

/-- The switch completes (R292 step 5, R293): with FORCED the signal is not applied. -/
def State.epochDone (s : State) (p : Nat) (forced : Bool) : State :=
  let r := RT_EPOCH_STATE p
  let seen := s.fld r RT_EPOCH_STATE_CLOSE_SEEN
  let s := ((s.setFld r RT_EPOCH_STATE_STATE 0).addFld r RT_EPOCH_STATE_SWITCHES 1).wr (RT_EPOCH_DONE_ZT p) s.zt
  let t := s.fld (RT_CLOSE_EXPECT p) RT_CLOSE_EXPECT_SIG_TILE
  let s := if forced || t == 0xFFFF then s
    else s.sendSig { src := 0x10010, dst := t, obj := 128 + s.fld (RT_CLOSE_EXPECT p) RT_CLOSE_EXPECT_SIG_COUNTER, op := 3, value := 1 }
  s.postEvent (s.activeScope (some p)) 0 0x0120 0xFFFF (leBytes 4 seen ++ leBytes 4 (b2n forced) ++ leBytes 8 s.zt)

/-- The switch completes once its closes are sent and EXPECT is reached. -/
def State.epochCheck (s : State) (p : Nat) : State :=
  if s.epochState p == 2 && s.flag (RT_EPOCH_STATE p) RT_EPOCH_STATE_CLOSES_SENT &&
      decide (s.fld (RT_CLOSE_EXPECT p) RT_CLOSE_EXPECT_EXPECT ≤ s.fld (RT_EPOCH_STATE p) RT_EPOCH_STATE_CLOSE_SEEN) then s.epochDone p false
  else s

/-- T_SW (R292 step 2): at T_sw, or at the end of a stop that covers it (14 R355), CURRENT flips. -/
def execTSw (p : Nat) (s : State) : Res :=
  let r := RT_EPOCH_STATE p
  if s.epochState p == 1 && decide (s.rd (RT_SWITCH_AT p) ≤ s.zt) && !s.stopHolds (some p) then
    .next ((s.setFld r RT_EPOCH_STATE_STATE 2).setFld r RT_EPOCH_STATE_CURRENT (1 - s.currentEpoch p))
  else .next s

/-- An operation of a partition still runs in an epoch. -/
def State.runsEpoch (s : State) (p e : Nat) : Bool :=
  s.ces.any (fun x => x.2.ops.any (fun o => o.part == p && o.epoch == e))

/-- The close packets of a partition: one for each list entry and class of its mask, in the old epoch (R292 step 3). -/
def State.closePackets (s : State) (p : Nat) : List Packet :=
  let old := 1 - s.currentEpoch p
  ((sget (fun _ => []) s.router.closing p).map (fun e =>
    ((List.range 6).filter (fun k => bit e (20 + k))).map (fun k =>
      (⟨mkHdr (e % 2 ^ 20) s.coord p k old true false 9 0 0 0, []⟩ : Packet)))).flatten

/-- CLOSES_SENT (R292 step 3): after the last old-epoch operation the closes are injected and held packets released. -/
def execClosesSent (p : Nat) (s : State) : Res :=
  let r := RT_EPOCH_STATE p
  if s.epochState p == 2 && !s.flag r RT_EPOCH_STATE_CLOSES_SENT && !s.runsEpoch p (1 - s.currentEpoch p) && !s.stopHolds (some p) then
    let s := (s.closePackets p).foldl (fun s k => s.injectNow k) s
    let held := s.router.heldNew.filter (fun k => k.part == p)
    let s := { s with router := { s.router with heldNew := s.router.heldNew.filter (fun k => k.part != p) } }
    let s := held.foldl (fun s k => s.injectNow k) (s.setFld r RT_EPOCH_STATE_CLOSES_SENT 1)
    .next (s.epochCheck p)
  else .next s

/-- EPOCH_CLOSE (R292 step 4, R293): a close is counted, or found late. -/
def execEpochClose (s : State) : Res :=
  match s.inboxOf 9 with
  | [] => .next s
  | (_, k) :: rest =>
    let p := k.part
    let s := s.setInbox 9 rest
    if s.epochState p = 1 ∨ s.epochState p = 2 then .next ((s.addFld (RT_EPOCH_STATE p) RT_EPOCH_STATE_CLOSE_SEEN 1).epochCheck p)
    else .next (s.sticky RT_ERR RT_ERR_CLOSE_LATE RT_ERR_EVENTS)

/-- FORCE_DONE (R293). -/
def State.forceDone (s : State) (p : Nat) : State :=
  if s.epochState p == 2 && s.flag (RT_EPOCH_STATE p) RT_EPOCH_STATE_CLOSES_SENT then s.epochDone p true else s

def execForceDone (ctx : Ctx) (p : Nat) (s : State) : Res :=
  .next (if groupWriter ctx p then s.forceDone p else s.accessError ctx (RT_EPOCH_CTRL p))

/-- EPOCH_TIMEOUT (R293): T_sw + TIMEOUT_US, extended by stops (14 R355), has passed; the arrival of its instant wins (14 R339). -/
def execEpochTimeout (p : Nat) (s : State) : Res :=
  let t := s.fld (RT_CLOSE_EXPECT p) RT_CLOSE_EXPECT_TIMEOUT_US
  let due := s.rd (RT_SWITCH_AT p) + t * 1000 + sget (fun _ => 0) s.router.extra p
  if s.epochState p == 2 && t != 0 && decide (due < s.zt) && !s.router.timedOut.contains p && !s.stopHolds (some p) then
    let s := { s with router := { s.router with timedOut := p :: s.router.timedOut } }
    .next ((s.sticky RT_ERR RT_ERR_CLOSE_TIMEOUT RT_ERR_EVENTS).postEvent (s.activeScope (some p)) 0 0x0121 0xFFFF
      (leBytes 4 (s.fld (RT_EPOCH_STATE p) RT_EPOCH_STATE_CLOSE_SEEN) ++ leBytes 4 (s.fld (RT_CLOSE_EXPECT p) RT_CLOSE_EXPECT_EXPECT)))
  else .next s

end Sys2Proof.Machine
end

