-- ==== Sys2Proof/Machine/CeOps.lean ====
section
/-! DEFINITION. What a collective descriptor asks for and the packets that it makes: fields and checks, members and lines,
shards, and the schedule of each member (13_collectives_and_mapping.md R305 to R317, R321). -/
namespace Sys2Proof.Machine

/-! ## Descriptors (R307 to R309) -/

/-- A descriptor's fields (R307, R308). -/
structure CeDesc where
  op : Nat
  fmt : Nat
  flags : Nat
  tag : Nat
  src : Nat
  dst : Nat
  count : Nat
  members : Nat
  root : Nat
  cq : Nat
  deadline : Nat
  contribAddr : Nat
  resultAddr : Nat
  statsAddr : Nat
  bucket : Nat
  sigTile : Nat
  samples : Nat
  sigCounter : Nat
  layerOp : Nat
  peer : Nat
  queue : Nat
  table : Nat
  tableCount : Nat
  deriving DecidableEq, Repr

def ceDesc (b : List Byte) : CeDesc :=
  ⟨fieldAt b 0 1, fieldAt b 1 1, fieldAt b 2 2, fieldAt b 4 4, fieldAt b 8 6, fieldAt b 0x10 6, fieldAt b 0x18 5, fieldAt b 0x20 4,
   fieldAt b 0x24 1, fieldAt b 0x26 2, fieldAt b 0x28 8, fieldAt b 0x30 6, fieldAt b 0x38 6, fieldAt b 0x40 6, fieldAt b 0x48 2,
   fieldAt b 0x4A 2, fieldAt b 0x4C 4, fieldAt b 0x50 1, fieldAt b 0x54 4, fieldAt b 0x58 4, fieldAt b 0x5C 2, fieldAt b 0x60 6,
   fieldAt b 0x68 4⟩

def CeDesc.mode (d : CeDesc) : Nat := d.flags % 4
def CeDesc.fallback (d : CeDesc) : Bool := bit d.flags 2
def CeDesc.stats (d : CeDesc) : Bool := bit d.flags 3
def CeDesc.epochWait (d : CeDesc) : Bool := bit d.flags 4
def CeDesc.tc0 (d : CeDesc) : Bool := bit d.flags 5
def CeDesc.fence (d : CeDesc) : Bool := bit d.flags 6

/-- Bytes of an element, elements of a unit of cutting, and the alignment of SRC and DST, by format (R309, R312). -/
def CeDesc.elemBytes (d : CeDesc) : Nat := if d.fmt = 9 then 4 else if d.fmt = 0xC then 64 else 1
def CeDesc.unit (d : CeDesc) : Nat := if d.fmt = 9 then 64 else if d.fmt = 0xC then 1 else 32
def CeDesc.align (d : CeDesc) : Nat := if d.fmt = 9 then 256 else if d.fmt = 0xC then 64 else 32

/-- An operation of a ring or line, and a reducing one. -/
def CeDesc.ringOp (d : CeDesc) : Bool := decide (1 ≤ d.op) && decide (d.op ≤ 4)
def CeDesc.reduces (d : CeDesc) : Bool := d.op == 1 || d.op == 3

/-- The formats of an operation (R309). -/
def CeDesc.fmtOk (d : CeDesc) : Bool :=
  match d.op with
  | 1 => d.fmt == 9 || d.fmt == 0xC
  | 3 => d.fmt == 9 || d.fmt == 0xC
  | 2 => d.fmt == 9 || d.fmt == 0xC || d.fmt == 0xD
  | 4 => d.fmt == 9 || d.fmt == 0xC || d.fmt == 0xD
  | 5 => d.fmt == 0xD
  | 6 => d.fmt == 0xD
  | 7 => d.fmt == 0xD
  | _ => false

/-- Reserved fields and bits are zero (R307, R308). -/
def ceReservedOk (b : List Byte) : Bool :=
  fieldAt b 2 2 / 128 == 0 && fieldAt b 0xE 2 == 0 && fieldAt b 0x16 2 == 0 && fieldAt b 0x1D 3 == 0 && fieldAt b 0x25 1 == 0 &&
  fieldAt b 0x36 2 == 0 && fieldAt b 0x3E 2 == 0 && fieldAt b 0x46 2 == 0 && fieldAt b 0x51 3 == 0 && fieldAt b 0x5E 2 == 0 &&
  fieldAt b 0x66 2 == 0 && fieldAt b 0x6C 20 == 0

/-- Fields that an operation does not use are zero (R307). -/
def CeDesc.unusedOk (d : CeDesc) : Bool :=
  (d.reduces || (d.deadline == 0 && d.contribAddr == 0)) &&
  (d.stats || (d.statsAddr == 0 && d.bucket == 0 && d.samples == 0)) &&
  (d.op == 4 || d.root == 0) &&
  (d.op == 6 || d.op == 7 || d.peer == 0) && (d.op == 6 || d.queue == 0) &&
  (d.op == 5 || d.op == 7 || d.table == 0) && (d.op == 5 || d.tableCount == 0) &&
  (d.ringOp || (d.members == 0 && d.mode == 0 && !d.fallback)) &&
  (d.ringOp || d.op == 6 || d.src == 0) && (d.ringOp || d.op == 7 || d.dst == 0) && (d.op == 6 || !d.fence) &&
  (!d.tc0 || d.op != 7)

/-- The descriptor meets R307 to R309 and R310 on an axis of a ring size, at an own coordinate. -/
def CeDesc.ok (d : CeDesc) (b : List Byte) (ring own : Nat) (wrapOwned : Bool) : Bool :=
  ceReservedOk b && decide (1 ≤ d.op) && decide (d.op ≤ 7) && d.fmtOk && d.unusedOk &&
  d.src % d.align == 0 && d.dst % d.align == 0 && (d.op == 6 || d.count % (if d.fmt = 9 then 64 else if d.fmt = 0xD then 32 else 1) == 0) &&
  d.contribAddr % 4 == 0 && d.resultAddr % 64 == 0 && d.statsAddr % 64 == 0 && decide (d.sigCounter ≤ 127) &&
  d.mode != 3 && (!d.stats || (d.reduces && d.fmt == 9)) &&
  (!d.ringOp || (bit d.members own && d.members / 2 ^ ring == 0)) && !(d.mode == 2 && !wrapOwned) &&
  (d.op != 4 || bit d.members d.root) &&
  (d.op != 6 || (decide (1 ≤ d.count) && decide (d.count ≤ 65536) && d.queue / 2 ^ 15 == 0)) && d.peer / 2 ^ 20 == 0 &&
  decide (d.tableCount ≤ 65535)

/-! ## Members, shards, lines (R311, R312, R321) -/

/-- P, and the rank of a coordinate (R311). -/
def CeDesc.p (d : CeDesc) : Nat := popCount 32 d.members
def CeDesc.rank (d : CeDesc) (c : Nat) : Nat := popCount c d.members

/-- The coordinate of the member of a rank. -/
def CeDesc.coordOf (d : CeDesc) (k : Nat) : Nat := ((List.range 32).filter (fun c => bit d.members c)).getD k 0

/-- Shard k: its first element and the one after its last (R312). -/
def CeDesc.shard (d : CeDesc) (k : Nat) : Nat × Nat :=
  let z := roundUp ((d.count + d.p - 1) / d.p) d.unit
  (min (k * z) d.count, min ((k + 1) * z) d.count)

/-- The part of a shard that travels a way in RING mode: the lower part plus, the upper part minus (R312). -/
def CeDesc.half (d : CeDesc) (k way : Nat) : Nat × Nat :=
  let (x, y) := d.shard k
  let h := min (y - x) (roundUp ((y - x + 1) / 2) d.unit)
  if way = 0 then (x, x + h) else (x + h, y)

/-- The packets of a range of elements: byte offset in DST and length, at most 512 bytes each (R312). -/
def CeDesc.chunks (d : CeDesc) (r : Nat × Nat) : List (Nat × Nat) :=
  let n := (r.2 - r.1) * d.elemBytes
  (List.range ((n + 511) / 512)).map (fun i => (r.1 * d.elemBytes + 512 * i, min 512 (n - 512 * i)))

/-- The links of an axis that are broken, each named by its minus-side coordinate (R321). -/
def State.brokenLinks (s : State) (a : Nat) : List Nat :=
  let r := CE_STATUS a
  (if 1 ≤ s.fld r CE_STATUS_BREAK_COUNT then [s.fld r CE_STATUS_BREAK_A] else []) ++
  (if 2 ≤ s.fld r CE_STATUS_BREAK_COUNT then [s.fld r CE_STATUS_BREAK_B] else [])

/-- The partition owns the whole ring of an axis (R300). -/
def State.wrapOwned (s : State) (p a : Nat) : Bool := bit (s.fld (RT_EPOCH_STATE p) RT_EPOCH_STATE_WRAP_OWNED) a

/-- Coordinates from c on, plus-ward, up to a broken link. -/
def walkUp (l : Nat) (broken : List Nat) : Nat → Nat → List Nat
  | 0, _ => []
  | n + 1, c => c :: (if broken.contains c then [] else walkUp l broken n ((c + 1) % l))

/-- Coordinates below c, minus-ward, up to a broken link. -/
def walkDown (l : Nat) (broken : List Nat) : Nat → Nat → List Nat
  | 0, _ => []
  | n + 1, c =>
    let b := (c + l - 1) % l
    if broken.contains b then [] else b :: walkDown l broken n b

/-- The line of an axis: ascending coordinates while no link is broken, else those that this module can reach in ring order; a
wrap link that the partition does not own is not crossed (R321). -/
def State.axisLine (s : State) (p a : Nat) : List Nat :=
  let l := s.ringSize a
  if (s.brokenLinks a).isEmpty then List.range l
  else
    let broken := s.brokenLinks a ++ (if s.wrapOwned p a then [] else [l - 1])
    let c := coordAt s.coord a
    onceEach ((walkDown l broken (l - 1) c).reverse ++ walkUp l broken l c)

/-- The members of an operation that this module can reach, in line order; none where the breaks split its members (R321): only one
module of the axis may be cut off. -/
def State.lineMembers (s : State) (p a : Nat) (d : CeDesc) : Option (List Nat) :=
  let line := s.axisLine p a
  let away := (List.range 32).filter (fun c => bit d.members c && !line.contains c)
  if away.isEmpty || line.length + 1 == s.ringSize a then some (line.filter (fun c => bit d.members c)) else none

/-! ## Schedules (R314, R315) -/

/-- What an operation's schedule depends on: its descriptor, its mode, its members in order, and the ring size. -/
structure CeGeom where
  d : CeDesc
  mode : Nat
  order : List Nat
  ring : Nat
  deriving DecidableEq, Repr

/-- The first member after a cut-off coordinate in the plus direction (R322). -/
def CeGeom.adopter (g : CeGeom) (c : Nat) : Nat :=
  (((List.range g.ring).map (fun i => (c + 1 + i) % g.ring)).find? (fun x => g.order.contains x)).getD 0

/-- The coordinate that owns shard k. -/
def CeGeom.owner (g : CeGeom) (k : Nat) : Nat :=
  let c := g.d.coordOf k
  if g.order.contains c then c else g.adopter c

/-- The place of a coordinate in the order. -/
def CeGeom.pos (g : CeGeom) (c : Nat) : Nat := g.order.findIdx (· == c)

/-- When a packet may be sent: at once, after the same range has arrived the same way in a phase, or once the own shard is
reduced. -/
inductive Avail
  | free
  | after (phase : Nat)
  | reduced
  deriving DecidableEq, Repr

/-- A packet of a schedule: its phase (0 reduce, 1 gather or copy), byte offset in DST, length, and when it may be sent. -/
structure Send where
  phase : Nat
  off : Nat
  len : Nat
  avail : Avail
  deriving DecidableEq, Repr

/-- The packets of a range. -/
def CeGeom.sendsOf (g : CeGeom) (phase : Nat) (v : Avail) (r : Nat × Nat) : List Send :=
  (g.d.chunks r).map (fun c => ⟨phase, c.1, c.2, v⟩)

/-- RING mode (R314): what the member at place i of m sends a way (0 plus, 1 minus). -/
def CeGeom.ringSends (g : CeGeom) (i way : Nat) : List Send :=
  let m := g.order.length
  let back := fun (s : Nat) => if way = 0 then (i + m - s % m) % m else (i + s) % m
  let rs := ((List.range (m - 1)).map (fun s => g.sendsOf 0 (if s = 0 then .free else .after 0) (g.d.half (back (s + 1)) way))).flatten
  let ag := fun (first : Avail) => ((List.range (m - 1)).map (fun s => g.sendsOf 1 (if s = 0 then first else .after 1) (g.d.half (back s) way))).flatten
  match g.d.op with
  | 1 => rs
  | 2 => ag .free
  | 3 => rs ++ ag (.after 0)
  | 4 =>
    let r := g.pos g.d.root
    let far := (m - 1) / 2
    let dist := if way = 0 then (i + m - r) % m else (r + m - i) % m
    let reach := if way = 0 then far else m - 1 - far
    if dist < reach then g.sendsOf 1 (if dist = 0 then .free else .after 1) (0, g.d.count) else []
  | _ => []

/-- LINE mode (R315): what the member at place i of m sends a way. -/
def CeGeom.lineSends (g : CeGeom) (i way : Nat) : List Send :=
  let m := g.order.length
  let shards := (List.range g.d.p).map (fun k => (g.pos (g.owner k), k))
  let beyond := shards.filter (fun e => if way = 0 then decide (i < e.1) else decide (e.1 < i))
  let upTo := shards.filter (fun e => if way = 0 then decide (e.1 ≤ i) else decide (i ≤ e.1))
  let places := if way = 0 then (List.range m).reverse else List.range m
  let edge := if way = 0 then i == 0 else i + 1 == m
  let rs := (places.map (fun q => ((beyond.filter (fun e => e.1 == q)).map (fun e =>
    g.sendsOf 0 (if edge then .free else .after 0) (g.d.shard e.2))).flatten)).flatten
  let ag := fun (own : Avail) => (upTo.map (fun e => g.sendsOf 1 (if e.1 = i then own else .after 1) (g.d.shard e.2))).flatten
  if (way = 0 ∧ m ≤ i + 1) ∨ (way = 1 ∧ i = 0) then []
  else
    match g.d.op with
    | 1 => rs
    | 2 => ag .free
    | 3 => rs ++ ag .reduced
    | 4 =>
      let r := g.pos g.d.root
      if (way = 0 ∧ r ≤ i) ∨ (way = 1 ∧ i ≤ r) then g.sendsOf 1 (if i = r then .free else .after 1) (0, g.d.count) else []
    | _ => []

/-- What the member at a place sends a way. -/
def CeGeom.sends (g : CeGeom) (i way : Nat) : List Send :=
  if g.order.length ≤ 1 then [] else if g.mode = 0 then g.ringSends i way else g.lineSends i way

/-- The place of the neighbour a way: 0 plus, 1 minus; none at a line's end. -/
def CeGeom.neighbour (g : CeGeom) (i way : Nat) : Option Nat :=
  let m := g.order.length
  if m ≤ 1 then none
  else if g.mode = 0 then some (if way = 0 then (i + 1) % m else (i + m - 1) % m)
  else if way = 0 then (if i + 1 < m then some (i + 1) else none)
  else (if 0 < i then some (i - 1) else none)

/-- What arrives at a place on a way: what the neighbour on the other side sends that way. -/
def CeGeom.arrivals (g : CeGeom) (i way : Nat) : List Send :=
  match g.neighbour i (1 - way) with
  | some j => g.sends j way
  | none => []

end Sys2Proof.Machine
end

