-- ==== Sys2Proof/Machine/Collectives.lean ====
section
/-! DEFINITION. Collective operations: rings of descriptors, contributions, data and control packets, breaks and decisions,
completion, permutes, remote reads and the reply engine (13_collectives_and_mapping.md R305 to R333). -/
namespace Sys2Proof.Machine

/-! ## Operations of a pair -/

/-- The operations of a pair set; CE_RUN and CE_STATUS show them (R331). -/
def State.setOps (s : State) (a : Nat) (l : List CeOp) : State :=
  let s := s.setCe a { s.ce a with ops := l }
  let s := (s.setFld (CE_STATUS a) CE_STATUS_RUNNING l.length).setFld (CE_STATUS (a + 4)) CE_STATUS_RUNNING l.length
  (List.range 8).foldl (fun s p =>
    let mine := l.filter (fun o => o.part == p)
    (s.setFld (CE_RUN a p) CE_RUN_RUNNING mine.length).setFld (CE_RUN a p) CE_RUN_HEAD_TAG
      (match mine with | o :: _ => (ceDesc o.desc).tag | [] => 0)) s

/-- An operation of a pair by its number, replaced or removed. -/
def State.opNo (s : State) (a no : Nat) : Option CeOp := (s.ce a).ops.find? (fun o => o.no == no)
def State.putOp (s : State) (o : CeOp) : State := s.setOps o.axis ((s.ce o.axis).ops.map (fun x => if x.no = o.no then o else x))

/-- An operation that has ended leaves; what a later break or ABORT asks of it stays known for the partition's last 8 (R322, R323). -/
def State.dropOp (s : State) (a no : Nat) : State :=
  let l := s.ce a
  let gone := (l.ops.filter (fun x => x.no == no && (ceDesc x.desc).ringOp)).map (fun x => { x with applied := [], sent := [], ready := [], table := [] })
  let past := gone.foldl (fun (past : List CeOp) o =>
    (o :: past.filter (fun x => x.part == o.part && (ceDesc x.desc).tag != (ceDesc o.desc).tag)).take 8 ++ past.filter (fun x => x.part != o.part)) l.past
  (s.setCe a { l with past := past }).setOps a (l.ops.filter (fun x => x.no != no))

/-- The k-th running operation of a partition's ring on an axis. -/
def State.opAt (s : State) (a p k : Nat) : Option CeOp := ((s.ce a).ops.filter (fun o => o.part == p))[k]?

/-- A CE_ERR bit of an engine with its event count (R9). -/
def State.ceErr (s : State) (e : Nat) (f : Fld) : State := s.sticky (CE_ERR e) f (CE_ERR_EVENTS e)

/-- The attributes of an operation's events. -/
def CeOp.d (o : CeOp) : CeDesc := ceDesc o.desc
def CeOp.attr (o : CeOp) : Attr := { priv := some o.priv, part := some o.part, layerOp := some (o.d.layerOp % 2 ^ 20, o.d.layerOp / 2 ^ 20) }
/-- The trace record of an operation's start (4) or end (5) (16 R394, R395). -/
def CeOp.traceRec (o : CeOp) (kind status : Nat) : TraceRec :=
  ⟨0, kind, status, 0xFFFF, 0xC0 + o.axis, o.part, o.d.layerOp % 2 ^ 20, o.d.layerOp / 2 ^ 20, o.d.tag, o.slot⟩
def CeOp.master (o : CeOp) : Master := ⟨5, o.axis, o.d.layerOp, some o.part, some o.priv⟩

/-- The attributes of its memory traffic. -/
def CeOp.hb (o : CeOp) : Attr := { o.attr with master := some 5 }

/-- The schedule that an operation follows in its present attempt, and this module's place in it. -/
def State.geom (s : State) (o : CeOp) : CeGeom := ⟨o.d, o.mode, o.order, s.ringSize o.axis⟩
def State.cePlace (s : State) (o : CeOp) : Nat := o.order.findIdx (· == coordAt s.coord o.axis)

/-- The pair's engines are both powered and no stop holds the partition (17 R411, 14 R354). -/
def State.pairRuns (s : State) (a p : Nat) : Bool := s.domOn (92 + a) && s.domOn (96 + a) && !s.stopHolds (some p)

/-- The coordinates of the module at coordinate c of an axis, the others being this module's (R307). -/
def State.peerOn (s : State) (a c : Nat) : Nat := putBits s.coord (5 * a + 4) (5 * a) c

/-- A control packet of R324 handed to the router: fenced TC0 with LEN 0, for the engine that faces this module. -/
def State.sendCtl (s : State) (a part epoch dst way sub attempt mode tag mask extra layerOp : Nat) : State :=
  let e := if way = 0 then a + 4 else a
  let data := sub + e * 2 ^ 4 + attempt * 2 ^ 7 + mode * 2 ^ 10 + tag * 2 ^ 11 + mask * 2 ^ 43 + extra
  s.injectPacket ⟨mkHdr dst s.coord part 0 epoch true false 1 0 layerOp data, []⟩

/-- A control packet of an operation to its neighbour a way, if it has one. -/
def State.opCtl (s : State) (o : CeOp) (way sub mask extra : Nat) : State :=
  match (s.geom o).neighbour (s.cePlace o) way with
  | some j => s.sendCtl o.axis o.part o.epoch (s.peerOn o.axis (o.order.getD j 0)) way sub o.attempt o.mode o.d.tag mask extra o.d.layerOp
  | none => s

/-! ## Progress (R313 to R318) -/

/-- An arrival has been applied. -/
def CeOp.has (o : CeOp) (way phase off len : Nat) : Bool :=
  o.applied.any (fun x => x.1 == way && x.2.1 == phase && x.2.2.1 == off && x.2.2.2.1 == len)

/-- The contributions in a range as a packet of a phase carries it (R324): those of the gather arrival that it passes on; else the own one and those of
the reduce arrivals applied to it. -/
def CeOp.maskOf (o : CeOp) (own phase off len : Nat) : Nat :=
  match (if phase = 0 then none else o.applied.find? (fun x => x.2.1 == 1 && x.2.2.1 == off && x.2.2.2.1 == len)) with
  | some x => x.2.2.2.2
  | none => (o.applied.filter (fun x => x.2.1 == 0 && x.2.2.1 == off && x.2.2.2.1 == len)).foldl (fun m x => m ||| x.2.2.2.2)
    (if o.contrib = some true then 2 ^ own else 0)

/-- A packet of the schedule may be sent (R314, R315). -/
def State.sendable (s : State) (o : CeOp) (way : Nat) (x : Send) : Bool :=
  match x.avail with
  | .free => true
  | .after ph => o.has way ph x.off x.len
  | .reduced => [0, 1].all (fun w => !((s.geom o).arrivals (s.cePlace o) w).any (fun y => y.phase == 0 && y.off == x.off && y.len == x.len) ||
      o.has w 0 x.off x.len)

/-- A failure of an operation: its STATUS and CAUSE (R320); the first one stands. -/
def CeOp.fail (o : CeOp) (status cause : Nat) : CeOp := if o.fault.isSome then o else { o with fault := some (status, cause) }

/-- One DATA packet of the schedule read from DST and handed to the router (R316, R324). -/
def State.sendData (s : State) (o : CeOp) (way : Nat) (x : Send) : State × CeOp :=
  let a := o.d.dst + x.off
  if !s.memOn a x.len then (s.holdAccess (0xB0000 + o.axis * 8 + o.part) ((s.firstOff a x.len).getD a) o.hb, o)
  else
    match s.firstBad a x.len with
    | some u => (s.ueMet 2 u o.master, o.fail stDataFault 1)
    | none =>
      match (s.geom o).neighbour (s.cePlace o) way with
      | none => (s, o)
      | some j =>
        let own := coordAt s.coord o.axis
        let mask := if o.d.reduces then o.maskOf own x.phase x.off x.len else o.mask
        let e := if way = 0 then o.axis + 4 else o.axis
        let data := e * 2 ^ 4 + o.attempt * 2 ^ 7 + x.phase * 2 ^ 9 + o.mode * 2 ^ 10 + o.d.tag * 2 ^ 11 + mask * 2 ^ 43 + x.off * 2 ^ 75
        let dst := s.peerOn o.axis (o.order.getD j 0)
        let body := s.readBytes a x.len
        let s := (s.hbRead a x.len o.hb).injectPacket
          ⟨mkHdr dst s.coord o.part (if o.d.tc0 then 0 else 1) o.epoch false false 1 x.len o.d.layerOp data, body⟩
        let e := if way = 0 then o.axis else o.axis + 4
        ((s.addFld (CE_BYTES e) CE_BYTES_SENT x.len).count 4 e 0x03 x.len o.attr,
         { o with sent := (way, x.phase, x.off, x.len) :: o.sent, bytes := o.bytes + x.len })

/-- Every packet of a way's schedule that may be sent is sent, in the schedule's order, once the neighbour's READY has
arrived (R313 step 5). -/
def State.sendWay (s : State) (o : CeOp) (way : Nat) : List Send → State × CeOp
  | [] => (s, o)
  | x :: t =>
    if o.fault.isNone && !o.sent.contains (way, x.phase, x.off, x.len) && s.sendable o way x then
      let (s, o) := s.sendData o way x
      s.sendWay o way t
    else s.sendWay o way t

/-- Every element of the result has been applied and every packet owed has been sent (R318). -/
def State.opFinished (s : State) (o : CeOp) : Bool :=
  let g := s.geom o
  let i := s.cePlace o
  [0, 1].all (fun w => (g.sends i w).all (fun x => o.sent.contains (w, x.phase, x.off, x.len)) &&
    (g.arrivals i w).all (fun x => o.has w x.phase x.off x.len))

/-- The members that must finish under FALLBACK. -/
def CeOp.everyone (o : CeOp) : Nat := o.order.foldl (fun m c => m ||| 2 ^ c) 0

/-- An operation of a ring or line goes on: it sends what it may; under FALLBACK a member that has just finished says so
(R318). -/
def State.advanceRing (s : State) (o : CeOp) : State :=
  if !o.ready0 || o.stopped || o.fault.isSome then s.putOp o
  else
    let g := s.geom o
    let i := s.cePlace o
    let (s, o) := if o.ready.contains 0 then s.sendWay o 0 (g.sends i 0) else (s, o)
    let (s, o) := if o.ready.contains 1 then s.sendWay o 1 (g.sends i 1) else (s, o)
    let own := coordAt s.coord o.axis
    if o.fault.isNone && o.d.fallback && !bit o.done own && s.opFinished o then
      let o := { o with done := putBits o.done own own 1 }
      ((s.opCtl o 0 2 o.done 0).opCtl o 1 2 o.done 0).putOp o
    else s.putOp o

/-! ## PERMUTE, SEND and READ (R325 to R327) -/

/-- A send-table entry (R325): COORD, SRC, DST, BYTES. -/
def tableEntry (b : List Byte) : Nat × Nat × Nat × Nat := (fieldAt b 0 4, fieldAt b 8 8, fieldAt b 0x10 8, fieldAt b 0x18 8)

/-- An entry is well formed (R325). -/
def tableEntryOk (b : List Byte) : Bool :=
  let (c, src, dst, n) := tableEntry b
  c / 2 ^ 20 == 0 && fieldAt b 4 4 == 0 && src % 32 == 0 && dst % 32 == 0 && n % 32 == 0 && decide (n ≤ 2 ^ 40) && src / 2 ^ 48 == 0 && dst / 2 ^ 48 == 0

/-- The send table of a PERMUTE. -/
def State.sendTable (s : State) (d : CeDesc) : List (List Byte) := (List.range d.tableCount).map (fun i => s.readBytes (d.table + 32 * i) 32)

/-- The send table of a running PERMUTE: the one in memory, or the one that the library keeps for its routine (15 R371). -/
def State.opTable (s : State) (o : CeOp) : List (List Byte) := if o.lib.isSome then o.table else s.sendTable o.d

/-- One piece of at most 512 bytes sent by a PERMUTE, or copied where its destination is this module (R325). -/
def State.permutePiece (s : State) (o : CeOp) (coord src dst n : Nat) : State × CeOp :=
  match s.firstBad src n with
  | some u => (s.ueMet 2 u o.master, o.fail stDataFault 1)
  | none =>
    let body := s.readBytes src n
    let s := s.hbRead src n o.hb
    if coord = s.coord then
      (if s.owns o.part dst n then
        let (s, bad) := (s.hbWrite dst n o.hb).store dst body o.master
        (s, match bad with | some _ => o.fail stDataFault 1 | none => o)
      else (s.ceErr o.axis CE_ERR_REJECTED, o.fail stAccessFault 0))
    else
      let data := o.axis * 2 ^ 4 + 1 * 2 ^ 9 + o.d.tag * 2 ^ 11 + dst * 2 ^ 75
      let s := s.injectPacket ⟨mkHdr coord s.coord o.part (if o.d.tc0 then 0 else 1) o.epoch false false 1 n o.d.layerOp data, body⟩
      ((s.addFld (CE_BYTES o.axis) CE_BYTES_SENT n).count 4 o.axis 0x03 n o.attr, { o with bytes := o.bytes + n })

/-- The pieces of n bytes. -/
def pieces (n : Nat) : List (Nat × Nat) := (List.range ((n + 511) / 512)).map (fun i => (512 * i, min 512 (n - 512 * i)))

/-- A PERMUTE's own sends, entries in table order (R325). -/
def State.permuteSends (s : State) (o : CeOp) : State × CeOp :=
  let (s, o) := (s.opTable o).foldl (fun (so : State × CeOp) b =>
    let (c, src, dst, n) := tableEntry b
    (pieces n).foldl (fun (so : State × CeOp) x =>
      if so.2.fault.isSome then so else so.1.permutePiece so.2 c (src + x.1) (dst + x.1) x.2) so) (s, o)
  (s, { o with cursor := 1 })

/-- A SEND's MESSAGE packets (R326); those of a routine's message come from the message that the library keeps. -/
def State.sendMessages (s : State) (o : CeOp) : State × CeOp :=
  let d := o.d
  let own := o.lib.isSome
  match (if own then none else s.firstBad d.src d.count) with
  | some u => (s.ueMet 2 u o.master, (o.fail stDataFault 1))
  | none =>
    let l := pieces d.count
    let s := (enumFrom 1 l).foldl (fun s e =>
      let body := if own then (o.table.flatten.drop e.2.1).take e.2.2 else s.readBytes (d.src + e.2.1) e.2.2
      let s := (if own then s else s.hbRead (d.src + e.2.1) e.2.2 o.hb).injectPacket
        ⟨mkHdr d.peer s.coord o.part (if d.tc0 then 0 else 1) o.epoch (d.fence && e.1 == l.length) false 0 e.2.2 d.layerOp d.queue, body⟩
      s) s
    (s, { o with cursor := 1 })

/-- The requests that the other operations of a pair have outstanding: the engine keeps at most 64 in all (R327). -/
def State.otherReqs (s : State) (o : CeOp) : Nat := (((s.ce o.axis).ops.filter (fun x => x.no != o.no)).map (fun x => x.reqs.length)).sum

/-- A READ's next requests (R327). -/
def State.readRequests (s : State) (o : CeOp) : Nat → State × CeOp
  | 0 => (s, o)
  | n + 1 =>
    if 64 ≤ s.otherReqs o + o.reqs.length ∨ o.d.count ≤ o.cursor then (s, o)
    else
      let len := min 512 (o.d.count - o.cursor)
      let tag := (s.ce o.axis).nextTag
      let s := s.setCe o.axis { s.ce o.axis with nextTag := (tag + 1) % 65536 }
      let data := (o.d.table + o.cursor) % 2 ^ 48 + len * 2 ^ 48 + o.axis * 2 ^ 58 + tag * 2 ^ 61
      let s := s.injectPacket ⟨mkHdr o.d.peer s.coord o.part 2 o.epoch false false 2 0 o.d.layerOp data, []⟩
      s.readRequests { o with reqs := o.reqs ++ [(tag, o.cursor, len)], cursor := o.cursor + len } n

/-- The place of a permute tag. -/
def State.tagPlace (s : State) (a p tag : Nat) : Option PermPlace := (s.ce a).places.find? (fun x => x.part == p && x.tag == tag)
def State.putPlace (s : State) (a : Nat) (x : PermPlace) : State :=
  let c := s.ce a
  let others := c.places.filter (fun y => !(y.part == x.part && y.tag == x.tag))
  s.setCe a { c with places := others ++ [x] }
def State.dropPlace (s : State) (a p tag : Nat) : State :=
  let c := s.ce a
  s.setCe a { c with places := c.places.filter (fun y => !(y.part == p && y.tag == tag)) }

/-- The memory that a point-to-point operation reads is powered. -/
def State.p2pOff (s : State) (o : CeOp) : Option Nat :=
  let d := o.d
  match d.op with
  | 6 => if o.lib.isSome then none else s.firstOff d.src d.count
  | 5 => (s.opTable o).findSome? (fun b =>
      let (c, src, dst, n) := tableEntry b
      match s.firstOff src n with
      | some x => some x
      | none => if c = s.coord ∧ s.owns o.part dst n = true then s.firstOff dst n else none)
  | _ => none

/-- A point-to-point operation goes on. -/
def State.advanceP2p (s : State) (o : CeOp) : State :=
  if o.fault.isSome then s.putOp o
  else if o.d.op = 7 then (let (s, o) := s.readRequests o 64; s.putOp o)
  else if o.cursor ≠ 0 then s.putOp o
  else
    match s.p2pOff o with
    | some x => (s.holdAccess (0xB0000 + o.axis * 8 + o.part) x o.hb).putOp o
    | none => let (s, o) := if o.d.op = 5 then s.permuteSends o else s.sendMessages o; s.putOp o

/-- An operation goes on. -/
def State.advanceOp (s : State) (o : CeOp) : State := if o.d.ringOp then s.advanceRing o else s.advanceP2p o

/-- An operation is done (R318, R325 to R327): it failed, or it has finished, under FALLBACK everywhere. -/
def State.opDone (s : State) (o : CeOp) : Bool :=
  o.fault.isSome || (o.ready0 &&
    (match o.d.op with
     | 5 => o.cursor != 0 && (match s.tagPlace o.axis o.part o.d.tag with
        | some x => x.denied || x.excess || x.bytes == o.d.count
        | none => o.d.count == 0)
     | 6 => o.cursor != 0
     | 7 => o.reqs.isEmpty && decide (o.d.count ≤ o.cursor)
     | _ => o.decided == 1 || (!o.stopped && s.opFinished o && (!o.d.fallback || o.done &&& o.everyone == o.everyone))))

/-! ## Start (R306, R310, R311, R313) -/

/-- PROD_POLL (R306): the PROD word is read when no posted descriptor waits, at most every 40 ns. -/
def execProdPoll (a p : Nat) (s : State) : Res :=
  let ring := CE_RING a p
  let cons := s.fld (CE_PTR a p) CE_PTR_CONS
  let w := s.fld (CE_PROD_ADDR a p) CE_PROD_ADDR_ADDR
  if !(s.flag ring CE_RING_ENABLE && s.pairRuns a p && s.fld (CE_PTR a p) CE_PTR_PROD == cons &&
      decide (sget (fun _ => 0) (s.ce a).pollAt p ≤ s.zt)) then .next s
  else if !s.memOn w 4 then .next (s.holdAccess (0xC0000 + a * 8 + p) w)
  else
    let s := s.setCe a { s.ce a with pollAt := sset (fun _ => 0) (s.ce a).pollAt p (s.zt + 40) }
    match s.firstBad w 4 with
    | some u => .next (s.ueMet 2 u ⟨5, a, 0, some p, some 1⟩)
    | none =>
      let s := s.hbRead w 4 { part := some p, master := some 5 }
      let v := s.readNat w 4
      if (v + 2 ^ 32 - cons) % 2 ^ 32 ≤ 2 ^ s.fld ring CE_RING_SIZE_LOG2 then .next (s.setFld (CE_PTR a p) CE_PTR_PROD v)
      else .next (s.ceErr a CE_ERR_PROD_BAD)

/-- The descriptor at the head of a ring: its slot and address, if one is posted. -/
def State.ceHead (s : State) (a p : Nat) : Option (Nat × Nat) :=
  let cons := s.fld (CE_PTR a p) CE_PTR_CONS
  if s.flag (CE_RING a p) CE_RING_ENABLE && s.fld (CE_PTR a p) CE_PTR_PROD != cons then
    let slot := cons % 2 ^ s.fld (CE_RING a p) CE_RING_SIZE_LOG2
    some (slot, s.fld (CE_RING a p) CE_RING_BASE + 128 * slot)
  else none

/-- The extents that an operation touches in its partition's memory, at this module's coordinate (R310). -/
def CeDesc.extents (d : CeDesc) (own : Nat) : List (Nat × Nat) :=
  let n := d.count * d.elemBytes
  let shard := d.shard (d.rank own)
  (match d.op with
   | 2 => [(d.src, (shard.2 - shard.1) * d.elemBytes), (d.dst, n)]
   | 4 => (if own = d.root then [(d.src, n)] else []) ++ [(d.dst, n)]
   | 5 => [(d.table, 32 * d.tableCount)]
   | 6 => [(d.src, d.count)]
   | 7 => [(d.dst, d.count)]
   | _ => [(d.src, n), (d.dst, n)]) ++
  (if d.contribAddr = 0 then [] else [(d.contribAddr, 4)]) ++ (if d.resultAddr = 0 then [] else [(d.resultAddr, 64)]) ++
  (if d.stats then [(d.statsAddr, 192)] else [])

/-- The checks of an operation's start (R305, R310, R311): the STATUS and CAUSE with which it ends there. -/
def State.ceStartFault (s : State) (a p : Nat) (b : List Byte) : Option (Nat × Nat) :=
  let d := ceDesc b
  let own := coordAt s.coord a
  let outside := fun (l : List (Nat × Nat)) => l.any (fun e => !s.owns p e.1 e.2)
  if s.ceFenced a || s.ceFenced (a + 4) then some (stUnitFenced, 0)
  else if (s.part p).active.isNone || !d.ok b (s.ringSize a) own (s.wrapOwned p a) then some (stBadCommand, 0)
  else if outside (d.extents own) then some (stAccessFault, 0)
  else if d.op == 5 && (s.firstBad d.table (32 * d.tableCount)).isSome then some (stDataFault, 1)
  else if d.op == 5 && (s.sendTable d).any (fun e => !tableEntryOk e) then some (stBadCommand, 0)
  else if d.op == 5 && outside ((s.sendTable d).map (fun e => ((tableEntry e).2.1, (tableEntry e).2.2.2)) ++
      ((s.sendTable d).filter (fun e => (tableEntry e).1 == s.coord)).map (fun e => ((tableEntry e).2.2.1, (tableEntry e).2.2.2))) then
    some (stAccessFault, 0)
  else if d.ringOp && d.mode == 2 && !(s.brokenLinks a).isEmpty then some (stDataFault, 3)
  else if d.ringOp && (match s.lineMembers p a d with | some l => d.op == 4 && !l.contains d.root | none => true) then some (stDataFault, 3)
  else none

/-- The sum of rne32(x²) over G32 elements of a range, INVALID excluded (08 R198). -/
def sumSquares (units : Nat) (b : List Byte) (first n : Nat) : Xsr :=
  (List.range n).foldl (fun (x : Xsr) i =>
    let g := fieldAt b (4 * i) 4
    match g32Val (Config.ceUnit units ((first + i) / 64)) g with
    | .fin v _ => x.addVal (r32 (.fin (v * v) false))
    | _ => x) {}

/-- What an operation copies into DST at an attempt's beginning: source, destination offset, bytes (R313 step 3). -/
def CeOp.copies (o : CeOp) (own : Nat) : List (Nat × Nat × Nat) :=
  let d := o.d
  let n := d.count * d.elemBytes
  match d.op with
  | 2 => let sh := d.shard (d.rank own); [(d.src, sh.1 * d.elemBytes, (sh.2 - sh.1) * d.elemBytes)]
  | 4 => if own = d.root then [(d.src, 0, n)] else []
  | _ => if o.contrib = some true then [(d.src, 0, n)] else []

/-- READYs held for an operation's attempt are taken; those that came to it before stay. -/
def State.takeReadys (s : State) (o : CeOp) : State × CeOp :=
  let c := s.ce o.axis
  let held := fun (side : Nat) => sget (fun _ => []) c.readys (o.part * 2 + side)
  let key := (o.d.tag, o.attempt, o.mode)
  let got := [0, 1].filter (fun side => (held side).contains key)
  let c' := got.foldl (fun (c : CeSt) side =>
    { c with readys := sset (fun _ => []) c.readys (o.part * 2 + side) ((sget (fun _ => []) c.readys (o.part * 2 + side)).erase key) }) c
  (s.setCe o.axis c', { o with ready := got ++ o.ready })

/-- An operation ends with TAG_MISMATCH, and its neighbours are told (R313, R323). -/
def State.mismatch (s : State) (o : CeOp) : State :=
  (((s.ceErr o.axis CE_ERR_TAG_MISMATCH).opCtl o 0 6 0 0).opCtl o 1 6 0 0).putOp { o.fail stDataFault 5 with told := true }

/-- The oldest READY held from a neighbour is of another operation or mode (R313). -/
def State.readyWrong (s : State) (o : CeOp) : Bool :=
  [0, 1].any (fun side => match sget (fun _ => []) (s.ce o.axis).readys (o.part * 2 + side) with
    | r :: _ => r.1 != o.d.tag || r.2.2 != o.mode
    | [] => false)

/-- Initialisation and READY (R313 steps 3 and 4): DST is prepared, the neighbours are told, and READYs held for this attempt are taken. -/
def State.initOp (s : State) (o : CeOp) : State :=
  let d := o.d
  let own := coordAt s.coord o.axis
  let n := d.count * d.elemBytes
  let cps := o.copies own
  match (cps.map (fun c => (c.1, c.2.2)) ++ [(d.dst, n)]).findSome? (fun e => s.firstOff e.1 e.2) with
  | some x => (s.holdAccess (0xB0000 + o.axis * 8 + o.part) x o.hb).putOp o
  | none =>
    match cps.findSome? (fun c => s.firstBad c.1 c.2.2) with
    | some u => (s.ueMet 2 u o.master).putOp (o.fail stDataFault 1)
    | none =>
      let data := cps.map (fun c => (c.2.1, s.readBytes c.1 c.2.2))
      let s := cps.foldl (fun s c => s.hbRead c.1 c.2.2 o.hb) s
      let data := if d.reduces && data.isEmpty then [(0, zeros n)] else data
      let (s, bad) := data.foldl (fun (sb : State × Option Nat) e =>
        let (s, b) := (sb.1.hbWrite (d.dst + e.1) e.2.length o.hb).store (d.dst + e.1) e.2 o.master
        (s, match sb.2 with | some u => some u | none => b)) (s, none)
      let sq := if d.stats && o.contrib == some true then sumSquares o.units ((data.headD (0, [])).2) 0 d.count else {}
      let o := { o with
        ready0 := true
        localSq := sq
        mask := if d.reduces then (if o.contrib = some true then 2 ^ own else 0) else o.everyone
        last := s.zt }
      let o := if bad.isSome then o.fail stDataFault 1 else o
      let g := s.geom o
      let i := s.cePlace o
      -- arrivals on way 0 come from the minus neighbour, who is told by way 1
      let s := if (g.arrivals i 0).isEmpty then s else s.opCtl o 1 1 0 0
      let s := if (g.arrivals i 1).isEmpty then s else s.opCtl o 0 1 0 0
      let (s, o) := s.takeReadys o
      s.advanceRing o

/-- The contribution word of an operation read (R313 step 2): true once it is not zero, none while its memory is not ON. -/
def State.readContribution (s : State) (o : CeOp) : State × Option Bool :=
  let w := o.d.contribAddr
  if w = 0 then (s, some true)
  else if !s.memOn w 4 then (s.holdAccess (0xB0000 + o.axis * 8 + o.part) w o.hb, none)
  else (s.hbRead w 4 o.hb, some (s.readNat w 4 != 0))

/-- A contribution word that cannot be read ends the operation (R320). -/
def State.contribBad (s : State) (o : CeOp) : Option State :=
  if o.d.contribAddr = 0 ∨ s.memOn o.d.contribAddr 4 = false then none
  else (s.firstBad o.d.contribAddr 4).map (fun u => (s.ueMet 2 u o.master).putOp (o.fail stDataFault 1))

/-- The contribution decision settles and the operation is initialised. -/
def State.decide_ (s : State) (o : CeOp) (yes : Bool) : State := s.initOp { o with contrib := some yes }

/-- A ring operation's first steps after its checks (R313): the oldest READYs held are compared and taken, the contribution is read. -/
def State.beginRing (s : State) (o : CeOp) : State :=
  if s.readyWrong o then s.mismatch o
  else
    let (s, o) := s.takeReadys o
    if o.d.reduces then
      match s.contribBad o, s.readContribution o with
      | some s, _ => s
      | none, (s, some true) => s.decide_ o true
      | none, (s, _) => s.putOp { o with readAt := s.zt + 40 }
    else s.initOp o

/-- A permute claims the place of its tag, with the bytes that came early (R325). -/
def State.beginPermute (s : State) (o : CeOp) : State :=
  let x := (s.tagPlace o.axis o.part o.d.tag).getD { part := o.part, tag := o.d.tag, first := s.zt }
  (s.putPlace o.axis { x with excess := x.excess || decide (o.d.count < x.bytes) }).advanceP2p { o with ready0 := true }

/-- What stands for a descriptor that cannot be read (R320): no completion queue, no signal. -/
def lostDesc : List Byte := zeros 0x26 ++ leBytes 2 0xFFFF ++ zeros 34 ++ leBytes 2 0xFFFF ++ zeros 52

/-- An operation of code `op` at the head of a ring starts (R306, R310, R313): at most 4 of a ring run; EPOCH_WAIT holds it until the
epoch switch is IDLE with the new version in force (R328); CONS advances. A descriptor of no defined code starts, and ends, with any of the rows. -/
def State.ceStart (s : State) (a p op : Nat) : State :=
  match s.ceHead a p with
  | none => s
  | some (slot, addr) =>
    if !s.pairRuns a p || decide (4 ≤ ((s.ce a).ops.filter (fun o => o.part == p)).length) then s
    else if !s.memOn addr 128 then s.holdAccess (0xC0000 + a * 8 + p) addr
    else
      let started := fun (s : State) => s.addFld (CE_PTR a p) CE_PTR_CONS 1
      match s.firstBad addr 128 with
      | some u =>
        let s := started (s.ueMet 2 u ⟨5, a, 0, some p, some 1⟩)
        let c := s.ce a
        let o : CeOp := { no := c.started, axis := a, part := p, desc := lostDesc, slot := slot, epoch := s.currentEpoch p }
        ((s.setCe a { c with started := c.started + 1 }).setOps a (c.ops ++ [{ o with fault := some (stDataFault, 1), last := s.zt }])).count 4 a 0x00 1 o.attr |>.trace (o.traceRec 4 0)
      | none =>
        let b := s.readBytes addr 128
        let d := ceDesc b
        let known := decide (1 ≤ d.op) && decide (d.op ≤ 7)
        let noPlace := d.op == 5 && (s.tagPlace a p d.tag).isNone && decide (32 ≤ (s.ce a).places.length)
        if (known && d.op != op) || (d.epochWait && s.epochPending p) || noPlace then s
        else if d.op == 5 && (match s.firstOff d.table (32 * d.tableCount) with | some _ => true | none => false) then
          s.holdAccess (0xC0000 + a * 8 + p) ((s.firstOff d.table (32 * d.tableCount)).getD 0)
        else
          let s := (started (s.hbRead addr 128 { priv := some 1, part := some p, master := some 5 }))
          let (units, s) := s.fresh
          let c := s.ce a
          let links := s.brokenLinks a
          let ringMode := d.mode != 1 && s.wrapOwned p a && links.isEmpty
          let order := (s.lineMembers p a d).getD []
          let own := coordAt s.coord a
          let lost := (List.range 32).filter (fun x => bit d.members x && !order.contains x)
          let g : CeGeom := ⟨d, 1, order, s.ringSize a⟩
          let o : CeOp := { no := c.started, axis := a, part := p, desc := b, slot := slot, epoch := s.currentEpoch p }
          let o := { o with
            mode := if ringMode then 0 else 1
            order := order
            units := units
            adopted := lost.find? (fun x => g.adopter x == own)
            last := s.zt }
          let s := (s.setCe a { c with started := c.started + 1, past := c.past.filter (fun x => !(x.part == p && x.d.tag == d.tag)) }).setOps a (c.ops ++ [o])
          let s := (s.count 4 a 0x00 1 o.attr).trace (o.traceRec 4 0)
          match s.ceStartFault a p b with
          | some f => s.putOp { o with fault := some f }
          | none =>
            if d.ringOp then s.beginRing o
            else if d.op = 5 then s.beginPermute o
            else s.advanceP2p { o with ready0 := true }

/-- Every operation of a ring goes on as far as it can: what waited for memory is taken up. -/
def State.ceAdvance (s : State) (a p : Nat) : State :=
  if !s.pairRuns a p then s
  else ((s.ce a).ops.filter (fun o => o.part == p)).foldl (fun s o =>
    match s.opNo a o.no with
    | some o =>
      if o.fault.isSome then s
      else if o.ready0 then s.advanceOp o
      else if o.d.ringOp && (!o.d.reduces || o.contrib.isSome) then s.initOp o
      else s
    | none => s) s

def execReduceScatter (a p : Nat) (s : State) : Res := .next ((s.ceStart a p 1).ceAdvance a p)
def execAllGather (a p : Nat) (s : State) : Res := .next ((s.ceStart a p 2).ceAdvance a p)
def execAllReduce (a p : Nat) (s : State) : Res := .next ((s.ceStart a p 3).ceAdvance a p)
def execBroadcast (a p : Nat) (s : State) : Res := .next ((s.ceStart a p 4).ceAdvance a p)
def execPermute (a p : Nat) (s : State) : Res := .next ((s.ceStart a p 5).ceAdvance a p)
def execSend (a p : Nat) (s : State) : Res := .next ((s.ceStart a p 6).ceAdvance a p)
def execRead (a p : Nat) (s : State) : Res := .next ((s.ceStart a p 7).ceAdvance a p)

/-- CONTRIBUTION (R313): the word is read again every 40 ns until it is not zero. -/
def execContribution (a p k : Nat) (s : State) : Res :=
  match s.opAt a p k with
  | none => .next s
  | some o =>
    if o.d.reduces && o.contrib.isNone && o.fault.isNone && s.pairRuns a p && decide (o.readAt ≤ s.zt) &&
        (o.d.deadline == 0 || decide (s.zt < o.d.deadline)) then
      match s.contribBad o, s.readContribution o with
      | some s, _ => .next s
      | none, (s, some true) => .next (s.decide_ o true)
      | none, (s, _) => .next (s.putOp { o with readAt := s.zt + 40 })
    else .next s

/-- DEADLINE (R313): the word is read once more at DEADLINE, or at the end of a stop that covers it (14 R355); the decision is
final. -/
def execDeadline (a p k : Nat) (s : State) : Res :=
  match s.opAt a p k with
  | none => .next s
  | some o =>
    if o.d.reduces && o.contrib.isNone && o.fault.isNone && o.d.deadline != 0 && decide (o.d.deadline ≤ s.zt) && s.pairRuns a p then
      match s.contribBad o, s.readContribution o with
      | some s, _ => .next s
      | none, (s, some yes) => .next (s.decide_ o yes)
      | none, (s, none) => .next s
    else .next s

/-! ## Arrivals (R313 to R316, R324) -/

/-- The first COLLECTIVE packet of a subtype for an engine that no earlier packet of its source, partition and class precedes
(R294): with the inbox without it. -/
def takeCollective (e sub : Nat) : List (Nat × Packet) → List (Nat × Packet) → Option (Packet × List (Nat × Packet))
  | _, [] => none
  | seen, x :: t =>
    let k := x.2
    if k.engine == e && k.data % 16 == sub &&
        !seen.any (fun y => y.2.engine == e && y.2.src == k.src && y.2.part == k.part && y.2.cls == k.cls) then some (k, seen ++ t)
    else takeCollective e sub (seen ++ [x]) t

/-- The packet that a row of an engine takes; none while the pair does not run for its partition. -/
def State.collective (s : State) (e sub : Nat) : Option (Packet × State) :=
  match takeCollective e sub [] (s.inboxOf 1) with
  | some (k, rest) => if s.pairRuns (e % 4) k.part then some (k, s.setInbox 1 rest) else none
  | none => none

/-- Fields of a COLLECTIVE packet (R324). -/
def Packet.attempt (k : Packet) : Nat := bits k.data 8 7
def Packet.phase (k : Packet) : Nat := bits k.data 9 9
def Packet.mode (k : Packet) : Nat := bits k.data 10 10
def Packet.mask (k : Packet) : Nat := bits k.data 74 43
def Packet.offset (k : Packet) : Nat := bits k.data 122 75
def Packet.flagBit (k : Packet) : Bool := bit k.data 123
def Packet.restart (k : Packet) : Bool := bit k.data 124

/-- The side from which an engine receives: engine a from the plus neighbour (0), engine a + 4 from the minus neighbour (1); and the
way that its DATA travels. -/
def engineSide (e : Nat) : Nat := if e < 4 then 0 else 1
def engineWay (e : Nat) : Nat := if e < 4 then 1 else 0

/-- A running ring operation of a packet's partition and tag. -/
def State.opOf (s : State) (e : Nat) (k : Packet) : Option CeOp :=
  (s.ce (e % 4)).ops.find? (fun o => o.part == k.part && o.d.tag == k.opTag && o.d.ringOp)

/-- Two ranges of bytes combined element by element (R316): G32 addition, or exact sums. -/
def combineBytes (fmt : Nat) (x y : List Byte) : List Byte :=
  let w := if fmt = 9 then 4 else 64
  ((List.range (y.length / w)).map (fun i =>
    let a := fieldAt x (w * i) w
    let b := fieldAt y (w * i) w
    leBytes w (if fmt = 9 then g32Add a b else ((Xsr.ofImage a).combine (Xsr.ofImage b)).image))).flatten

/-- A stale arrival (R322). -/
def State.stale (s : State) (e : Nat) (x : Attr) : State := (s.ceErr e CE_ERR_STALE).count 4 e 0x08 1 x

/-- A DATA packet of a ring operation applied (R316). -/
def State.ringData (s : State) (e : Nat) (k : Packet) (o : CeOp) (back : State) : State :=
  let way := engineWay e
  let n := k.body.length
  let a := o.d.dst + k.offset
  let awaited := ((s.geom o).arrivals (s.cePlace o) way).any (fun x => x.phase == k.phase && x.off == k.offset && x.len == n)
  if o.stopped || !o.ready0 || o.fault.isSome || k.attempt != o.attempt || k.mode != o.mode || !awaited || o.has way k.phase k.offset n then
    s.stale e o.attr
  else if !s.memOn a n then back.holdAccess (0xB0000 + o.axis * 8 + o.part) ((s.firstOff a n).getD a) o.hb
  else
    let s := s.count 4 e 0x04 n o.attr
    let o := { o with last := s.zt }
    match (if k.phase = 0 then s.firstBad a n else none) with
    | some u => (s.ueMet 2 u o.master).putOp (o.fail stDataFault 1)
    | none =>
      let body := if k.phase = 0 then combineBytes o.d.fmt (s.readBytes a n) k.body else k.body
      let s := if k.phase = 0 then (s.hbRead a n o.hb).count 4 e 0x05 (n / o.d.elemBytes) o.attr else s
      let (s, bad) := (s.hbWrite a n o.hb).store a body o.master
      let o := { o with
        applied := (way, k.phase, k.offset, n, k.mask) :: o.applied
        mask := if k.phase = 0 then o.mask ||| k.mask else o.mask }
      s.advanceRing (if bad.isSome then o.fail stDataFault 1 else o)

/-- A DATA packet of a permute (R325). -/
def State.permuteIn (s : State) (e : Nat) (k : Packet) (back : State) : State :=
  let a := e % 4
  let p := k.part
  let n := k.body.length
  let x := (s.tagPlace a p k.opTag).getD { part := p, tag := k.opTag, first := s.zt }
  let x := { x with packets := x.packets + 1 }
  let o := (s.ce a).ops.find? (fun o => o.part == p && o.d.tag == k.opTag && o.d.op == 5)
  let m : Master := ⟨5, e, k.layerOp, some p, none⟩
  let touch := fun (s : State) => match o with | some o => s.putOp { o with last := s.zt } | none => s
  if !s.owns p k.offset n then (touch ((s.ceErr e CE_ERR_REJECTED).putPlace a { x with denied := true }))
  else if (match o with | some o => decide (o.d.count < x.bytes + n) | none => false) then
    touch ((s.ceErr e CE_ERR_REJECTED).putPlace a { x with excess := true })
  else if !s.memOn k.offset n then back.holdAccess (0xB0000 + a * 8 + p) ((s.firstOff k.offset n).getD k.offset)
  else
    let (s, _) := ((s.hbWrite k.offset n { part := some p, master := some 5 }).count 4 e 0x04 n k.attr).store k.offset k.body m
    touch (s.putPlace a { x with bytes := x.bytes + n })

/-- DATA (R316, R325): an arriving packet is combined, written, or found stale or rejected. -/
def execData (e : Nat) (s : State) : Res :=
  match s.collective e 0 with
  | none => .next s
  | some (k, s1) =>
    match s.opOf e k with
    | some o => .next (s1.ringData e k o s)
    | none => .next (s1.permuteIn e k s)

/-- READY (R313): matched with its operation, held for it, or discarded when its 8 places are full. -/
def execReady (e : Nat) (s : State) : Res :=
  match s.collective e 1 with
  | none => .next s
  | some (k, s) =>
    let a := e % 4
    let side := engineSide e
    let key := (k.opTag, k.attempt, k.mode)
    let hold := fun (s : State) =>
      let c := s.ce a
      let l := sget (fun _ => []) c.readys (k.part * 2 + side)
      if 8 ≤ l.length then s.ceErr e CE_ERR_READY_OVERFLOW
      else s.setCe a { c with readys := sset (fun _ => []) c.readys (k.part * 2 + side) (l ++ [key]) }
    match s.opOf e k with
    | none => .next (hold s)
    | some o =>
      if o.fault.isSome then .next s
      else if o.attempt < k.attempt then .next (hold s)
      else if k.attempt < o.attempt then .next (s.stale e o.attr)
      else if k.mode = o.mode then .next (s.advanceRing { o with ready := side :: o.ready, last := s.zt })
      else .next (s.mismatch o)

/-- DONE (R318): the bitmap is merged, and a change is forwarded to both neighbours. -/
def execDoneMsg (e : Nat) (s : State) : Res :=
  match s.collective e 2 with
  | none => .next s
  | some (k, s) =>
    match s.opOf e k with
    | none => .next s
    | some o =>
      let m := o.done ||| k.mask
      if k.attempt ≠ o.attempt then .next (s.stale e o.attr)
      else if m = o.done then .next (s.putOp { o with last := s.zt })
      else
        let o := { o with done := m, last := s.zt }
        .next (((s.opCtl o 0 2 m 0).opCtl o 1 2 m 0).putOp o)

/-! ## Breaks and decisions (R321, R322) -/

/-- A broken link recorded in both engines of a pair (R321). -/
def State.recordBreak (s : State) (a link : Nat) : State :=
  if (s.brokenLinks a).contains link then s
  else
    [a, a + 4].foldl (fun s e =>
      let s := s.ceErr e CE_ERR_BREAK
      match s.fld (CE_STATUS e) CE_STATUS_BREAK_COUNT with
      | 0 => (s.setFld (CE_STATUS e) CE_STATUS_BREAK_A link).setFld (CE_STATUS e) CE_STATUS_BREAK_COUNT 1
      | 1 => (s.setFld (CE_STATUS e) CE_STATUS_BREAK_B link).setFld (CE_STATUS e) CE_STATUS_BREAK_COUNT 2
      | _ => s) s

/-- A member's FINISHED bit. -/
def State.finishedBit (s : State) (o : CeOp) : Bool := o.ready0 && o.fault.isNone && s.opFinished o

/-- An operation starts again in LINE mode over the members that are left (R322). -/
def State.restartOp (s : State) (o : CeOp) : State :=
  let own := coordAt s.coord o.axis
  match s.lineMembers o.part o.axis o.d with
  | none => s.putOp (o.fail stDataFault 3)
  | some l =>
    let g : CeGeom := ⟨o.d, 1, l, s.ringSize o.axis⟩
    let lost := (List.range 32).filter (fun x => bit o.d.members x && !l.contains x)
    let o := { o with
      attempt := o.attempt + 1
      mode := 1
      order := l
      applied := []
      sent := []
      ready := []
      done := 0
      stopped := false
      ready0 := false
      decided := 2
      adopted := lost.find? (fun x => g.adopter x == own)
      last := s.zt }
    let s := s.addFld (CE_OPS o.axis) CE_OPS_RESTARTS 1
    if o.d.op == 4 && !l.contains o.d.root then s.putOp (o.fail stDataFault 3)
    else if o.d.reduces && o.contrib.isNone then s.putOp o
    else s.initOp o

/-- An outcome reaches a member (R322): 1 COMPLETE, 2 RESTART, 3 ABORT. -/
def State.applyDecision (s : State) (o : CeOp) (outcome : Nat) : State :=
  match outcome with
  | 1 => s.putOp { o with decided := 1, stopped := false }
  | 2 => s.restartOp o
  | _ => s.putOp ({ o with decided := 3 }.fail stDataFault 3)

/-- The line of a stopped operation: its connected members in order, and this module's place. -/
def State.decisionLine (s : State) (o : CeOp) : Option (List Nat × Nat) :=
  match s.lineMembers o.part o.axis o.d with
  | some l => some (l, l.findIdx (· == coordAt s.coord o.axis))
  | none => none

/-- A control packet along the line of a stopped operation: up (way 0) or down (way 1). -/
def State.lineCtl (s : State) (o : CeOp) (l : List Nat) (j way sub extra : Nat) : State :=
  s.sendCtl o.axis o.part o.epoch (s.peerOn o.axis (l.getD j 0)) way sub o.attempt o.mode o.d.tag 0 extra o.d.layerOp

/-- The last member's decision (R322): the outcome, sent back along the line and applied. -/
def State.decideLast (s : State) (o : CeOp) (l : List Nat) (i : Nat) (all : Bool) : State :=
  let outcome := if all then 1 else if o.d.fallback && decide (o.attempt < 3) then 2 else 3
  let extra := b2n (outcome == 1) * 2 ^ 123 + b2n (outcome == 2) * 2 ^ 124
  let s := if 0 < i then s.lineCtl o l (i - 1) 1 5 extra else s
  s.applyDecision o outcome

/-- An operation is stopped by a break; the first member of the line opens the decision pass (R322). -/
def State.stopOp (s : State) (o : CeOp) : State :=
  if !o.d.ringOp || o.fault.isSome || o.stopped then s
  else
    let fin := s.finishedBit o
    let o := { o with stopped := true, decided := 0 }
    match s.decisionLine o with
    | none => s.putOp (o.fail stDataFault 3)
    | some (l, i) =>
      if i ≠ 0 then s.putOp o
      else if l.length ≤ 1 then (s.putOp o).decideLast o l i fin
      else (s.lineCtl o l 1 0 4 (b2n fin * 2 ^ 123)).putOp o

/-- The operations of a partition on an axis, or of every partition, are stopped. -/
def State.stopOps (s : State) (a : Nat) (p : Option Nat) : State :=
  ((s.ce a).ops.filter (fun o => match p with | some p => o.part == p | none => true)).foldl (fun s o =>
    match s.opNo a o.no with | some o => s.stopOp o | none => s) s

/-- A BREAK packet to the adjacent module a way along an axis (R321, R324). -/
def State.sendBreak (s : State) (a p way link : Nat) : State :=
  let l := s.ringSize a
  let c := coordAt s.coord a
  let j := if way = 0 then (c + 1) % l else (c + l - 1) % l
  let blocked := (s.brokenLinks a).contains (if way = 0 then c else j)
  if blocked || l ≤ 1 then s
  else s.sendCtl a p (s.currentEpoch p) (s.peerOn a j) way 3 0 0 0 0 (link * 2 ^ 75) 0

/-- The first member of the line opens the decision pass also for the operations without FALLBACK that it has completed (R322). -/
def State.openPast (s : State) (a : Nat) (p : Option Nat) : State :=
  ((s.ce a).past.filter (fun o => (match p with | some p => o.part == p | none => true) && o.fault.isNone && !o.d.fallback)).foldl (fun s o =>
    match s.decisionLine o with
    | some (l, 0) => if 1 < l.length then s.lineCtl o l 1 0 4 (2 ^ 123) else s
    | _ => s) s

/-- A torus port has lost its link (R321): the pair records it, posts COLLECTIVE_BREAK, tells the axis for every partition with a
running operation, and stops its operations. -/
def State.portBreak (s : State) (n : Nat) : State :=
  if 8 ≤ n ∨ s.ringSize (n / 2) ≤ 1 then s
  else
    let a := n / 2
    let l := s.ringSize a
    let c := coordAt s.coord a
    let link := if n % 2 = 0 then c else (c + l - 1) % l
    let parts := onceEach ((s.ce a).ops.map (·.part))
    let s := if (s.brokenLinks a).contains link then s else (s.recordBreak a link).openPast a none
    let s := s.postEvent none 0 0x0130 0xFFFF (leBytes 1 a ++ leBytes 1 link ++ leBytes 1 n)
    let s := parts.foldl (fun s p => s.sendBreak a p (if n % 2 = 0 then 1 else 0) link) s
    s.stopOps a none

/-- BREAK (R321, R322): the link is recorded, the packet forwarded away from it, and the member stops its attempt. -/
def execLinkBreak (e : Nat) (s : State) : Res :=
  match s.collective e 3 with
  | none => .next s
  | some (k, s) =>
    let a := e % 4
    let link := k.offset % 32
    let s := if (s.brokenLinks a).contains link then s else (s.recordBreak a link).openPast a (some k.part)
    .next ((s.sendBreak a k.part (engineWay e) link).stopOps a (some k.part))

/-- DECIDE_REQ (R322): the own FINISHED bit is ANDed in; the last member answers. A module that no longer holds the operation has
finished it, and passes the request along the axis. -/
def execDecideReq (e : Nat) (s : State) : Res :=
  match s.collective e 4 with
  | none => .next s
  | some (k, s) =>
    let a := e % 4
    match s.opOf e k with
    | some o =>
      let s := s.stopOp o
      match s.opNo a o.no with
      | none => .next s
      | some o =>
        match s.decisionLine o with
        | none => .next s
        | some (l, i) =>
          let all := k.flagBit && s.finishedBit { o with stopped := false }
          if i + 1 < l.length then .next ((s.lineCtl o l (i + 1) 0 4 (b2n all * 2 ^ 123)).putOp { o with last := s.zt })
          else .next (s.decideLast o l i all)
    | none =>
      let way := engineWay e
      let l := s.ringSize a
      let c := coordAt s.coord a
      let j := if way = 0 then (c + 1) % l else (c + l - 1) % l
      let ends := (s.brokenLinks a).contains (if way = 0 then c else j)
      let fwd := fun (s : State) (dst way sub extra : Nat) => s.sendCtl a k.part k.epoch dst way sub k.attempt k.mode k.opTag 0 extra k.layerOp
      if ends then .next (fwd s k.src (1 - way) 5 (b2n k.flagBit * 2 ^ 123))
      else .next (fwd s (s.peerOn a j) way 4 (b2n k.flagBit * 2 ^ 123))

/-- A DECIDE goes on to the adjacent module the way it travels, unless that link is broken: so it passes a module that no longer holds the
operation. -/
def State.passOn (s : State) (e : Nat) (k : Packet) (sub : Nat) : State :=
  let a := e % 4
  let way := engineWay e
  let l := s.ringSize a
  let c := coordAt s.coord a
  let j := if way = 0 then (c + 1) % l else (c + l - 1) % l
  if (s.brokenLinks a).contains (if way = 0 then c else j) then s
  else s.sendCtl a k.part k.epoch (s.peerOn a j) way sub k.attempt k.mode k.opTag 0
    (b2n k.flagBit * 2 ^ 123 + b2n k.restart * 2 ^ 124) k.layerOp

/-- DECIDE (R322): the outcome is forwarded back along the line and applied. -/
def execDecideMsg (e : Nat) (s : State) : Res :=
  match s.collective e 5 with
  | none => .next s
  | some (k, s) =>
    match s.opOf e k with
    | none => .next (s.passOn e k 5)
    | some o =>
      if o.fault.isSome || k.attempt != o.attempt then .next s
      else
        let outcome := if k.flagBit then 1 else if k.restart then 2 else 3
        let s := match s.decisionLine o with
          | some (l, i) => if 0 < i then s.lineCtl o l (i - 1) 1 5 (b2n k.flagBit * 2 ^ 123 + b2n k.restart * 2 ^ 124) else s
          | none => s
        .next (s.applyDecision { o with last := s.zt } outcome)

/-- COLLECTIVE_ABORT (R323): the operation ends with ABORTED, unless it has ended already; the ABORT goes on the way it came, once. -/
def execCollectiveAbort (e : Nat) (s : State) : Res :=
  match s.collective e 6 with
  | none => .next s
  | some (k, s) =>
    let a := e % 4
    match s.opOf e k, (s.ce a).past.find? (fun o => o.part == k.part && o.d.tag == k.opTag && !o.told) with
    | some o, _ =>
      if o.told then .next s
      else .next ((s.opCtl o (engineWay e) 6 0 0).putOp { o.fail stDataFault 6 with told := true })
    | none, some o =>
      .next ((s.opCtl o (engineWay e) 6 0 0).setCe a { s.ce a with past := (s.ce a).past.map (fun x => if x.no = o.no then { x with told := true } else x) })
    | none, none => .next s

/-- An operation ends with a failure that it tells its neighbours (R323). -/
def State.abortOp (s : State) (o : CeOp) (status cause : Nat) : State :=
  let s := if o.d.ringOp then (s.opCtl o 0 6 0 0).opCtl o 1 6 0 0 else s
  s.putOp { o.fail status cause with told := true }

/-- COLLECTIVE_TIMEOUT (R323): no packet of a waiting operation for TIMEOUT_US; the arrival of the instant wins (14 R339). A SEND waits
for no packet. -/
def execCollectiveTimeout (a p k : Nat) (s : State) : Res :=
  match s.opAt a p k with
  | none => .next s
  | some o =>
    let t := s.fld (CE_LIMIT a p) CE_LIMIT_TIMEOUT_US
    if t != 0 && o.d.op != 6 && o.ready0 && o.fault.isNone && !s.opDone o && s.pairRuns a p && decide (o.last + 1000 * t < s.zt) then
      .next (s.abortOp o stDataFault 4)
    else .next s

/-! ## Completion (R318, R319) -/

/-- The shards that an operation's member owns at completion: the extents that REDUCED_SQ reads (R318). -/
def State.ownShards (s : State) (o : CeOp) : List (Nat × Nat) :=
  ((List.range o.d.p).filter (fun k => (s.geom o).owner k == coordAt s.coord o.axis)).map o.d.shard

/-- The gradient-noise record (08 R198). The descriptor names no launch: STEP is that of the partition's latest launch, and free where it had none. -/
def State.noiseRecord (s : State) (o : CeOp) : List Byte × State :=
  let d := o.d
  let mine := s.ownShards o
  let red := mine.foldl (fun (x : Xsr) e => x.combine (sumSquares o.units (s.readBytes (d.dst + 4 * e.1) (4 * (e.2 - e.1))) e.1 (e.2 - e.1))) {}
  let elems := (mine.map (fun e => e.2 - e.1)).sum
  let (step, s) := match (s.part o.part).step with | some n => (n, s) | none => s.fresh
  (leBytes 4 step ++ leBytes 2 d.bucket ++ zeros 2 ++ leBytes 4 (popCount 32 o.mask) ++ leBytes 4 d.samples ++ leBytes 8 elems ++ zeros 40 ++
   leBytes 64 o.localSq.image ++ leBytes 64 red.image, s)

/-- The result record (R319). -/
def State.resultRecord (s : State) (o : CeOp) (status cause : Nat) : List Byte :=
  leBytes 4 (if o.d.reduces then popCount 32 o.mask else o.d.p) ++ leBytes 4 o.mask ++ leBytes 8 s.zt ++ leBytes 1 status ++ leBytes 1 cause ++
  leBytes 1 o.mode ++ leBytes 1 (o.attempt + 1) ++ leBytes 4 o.d.tag ++ leBytes 1 (o.adopted.getD 0xFF) ++ zeros 7 ++ leBytes 8 o.bytes ++ zeros 24

/-- STATUS and CAUSE of a finished operation: a permute's place may hold a failure (R325). -/
def State.opOutcome (s : State) (o : CeOp) : Nat × Nat :=
  match o.fault with
  | some f => f
  | none =>
    match (if o.d.op = 5 then s.tagPlace o.axis o.part o.d.tag else none) with
    | some x => if x.denied then (stAccessFault, 0) else if x.excess then (stDataFault, 7) else (stOk, 0)
    | none => (stOk, 0)

/-- The routine that posted an operation learns how it ended (15 R371, R373). -/
def State.libResult (s : State) (o : CeOp) (status : Nat) : State :=
  match o.lib with
  | none => s
  | some (t, inst, i) =>
    match (s.tile t).routine with
    | none => s
    | some k =>
      if k.inst ≠ inst then s
      else
        let bad := if status ≠ stOk ∧ k.libFail = none then some (i, status) else k.libFail
        s.setTile t { s.tile t with routine := some { k with libOps := k.libOps - 1, libFail := bad } }

/-- Step 1 of a completion (R318): the gradient-noise record of an operation that passed the checks of its start; its own shards that cannot be read
make its cause LOCAL_UE (R320). -/
def State.noiseStep (s : State) (o : CeOp) : State × CeOp :=
  let d := o.d
  let early := match o.fault with | some f => f.1 == stBadCommand || f.1 == stAccessFault || f.1 == stUnitFenced | none => false
  if !d.stats || early then (s, o)
  else
    match (s.ownShards o).findSome? (fun e => s.firstBad (d.dst + 4 * e.1) (4 * (e.2 - e.1))) with
    | some u => (s.ueMet 2 u o.master, o.fail stDataFault 1)
    | none =>
      let s := (s.ownShards o).foldl (fun s e => s.hbRead (d.dst + 4 * e.1) (4 * (e.2 - e.1)) o.hb) s
      let (b, s) := s.noiseRecord o
      (((s.hbWrite d.statsAddr 192 o.hb).store d.statsAddr b o.master).1, o)

/-- The records and the signal of a completion, in the order of R318, with what becomes of the completion record. -/
def State.finishWith (s : State) (o : CeOp) (post : State → DoneRec → Option State) : Option State :=
  let (s, o) := s.noiseStep o
  let d := o.d
  let (status, cause) := s.opOutcome o
  let bad := status == stBadCommand || status == stAccessFault || status == stUnitFenced
  let rec_ : DoneRec := ⟨0, some o.part, d.cq, recordBytes 0xFFFF (0xC0 + o.axis) status d.layerOp s.zt d.tag o.slot (cause + o.mask * 2 ^ 32)⟩
  let s := if d.resultAddr = 0 ∨ bad = true ∧ s.owns o.part d.resultAddr 64 = false then s
    else ((s.hbWrite d.resultAddr 64 o.hb).store d.resultAddr (s.resultRecord o status cause) o.master).1
  match (if d.cq = 0xFFFF then some s else post s rec_) with
  | none => none
  | some s =>
    let s := if status = stOk ∧ d.sigTile ≠ 0xFFFF then
        s.sendSig { src := 0x20000 + o.axis, dst := d.sigTile, obj := 128 + d.sigCounter, op := 3, value := 1 }
      else s
    let s := if status = stOk then (s.addFld (CE_OPS o.axis) CE_OPS_COMPLETED 1).count 4 o.axis 0x01 1 o.attr
      else ((s.addFld (CE_OPS o.axis) CE_OPS_FAILED 1).ceErr o.axis CE_ERR_OP_FAILED).count 4 o.axis 0x02 1 o.attr
    let s := (if d.op = 5 then s.dropPlace o.axis o.part d.tag else s).trace (o.traceRec 5 status)
    let s := s.postEvent (s.activeScope (some o.part)) 0 0x0131 0xFFFF
      (leBytes 4 d.tag ++ leBytes 1 status ++ leBytes 1 cause ++ leBytes 1 o.decided)
    some ((s.dropOp o.axis o.no).libResult o status)

/-- A completion with its record; none while the record must wait. -/
def State.finishOp (s : State) (o : CeOp) : Option State := s.finishWith o State.putDone

/-- COLLECTIVE_COMPLETE (R318): an operation that is done writes its records and leaves. -/
def execCollectiveComplete (a p k : Nat) (s : State) : Res :=
  match s.opAt a p k with
  | none => .next s
  | some o =>
    if !(s.opDone o && s.pairRuns a p) then .next s
    else
      let off := [(o.d.resultAddr, 64), (o.d.statsAddr, 192)].findSome? (fun e =>
        if e.1 = 0 ∨ s.owns p e.1 e.2 = false then none else s.firstOff e.1 e.2)
      match off with
      | some x => .next (s.holdAccess (0xB0000 + a * 8 + p) x o.hb)
      | none =>
        match s.finishOp o, s.doneOff 0 (some p) o.d.cq with
        | some s, _ => .next s
        | none, some x => .next (s.holdAccess (0xB0000 + a * 8 + p) x o.hb)
        | none, none => .next s

/-! ## The reply engine and REPLY (R327, R333) -/

/-- A reply packet may leave: its TC3 credits are held at the port that it takes (R286). -/
def State.replyCredits (s : State) (k : Packet) : Bool :=
  match s.hop k 10 3 with
  | .out n dl =>
    let st := s.klState n
    if st = 6 then decide (k.flits ≤ (s.port n).credits (chanOf 3 dl)) else !s.portHolds n
  | _ => true

/-- REQUEST (R286, R327): the reply engine reads the data and sends one REPLY. -/
def execRequest (i c : Nat) (s : State) : Res :=
  match s.firstFree (s.rxAt i c) with
  | none => .next s
  | some (k, rest) =>
    if !(k.kind == 2 && !k.isModule && k.dst == s.coord && s.flag RT_COORD RT_COORD_VALID && !s.headerBad k && !s.ingressBar i k) then .next s
    else
      let a := bits k.data 47 0
      let n := bits k.data 57 48
      let m : Master := ⟨7, 0xFFFF, k.layerOp, some k.part, none⟩
      let mk := fun (s : State) (st : Nat) (body : List Byte) =>
        (⟨mkHdr k.src s.coord k.part 3 k.epoch false false 3 body.length k.layerOp (bits k.data 76 61 + bits k.data 60 58 * 2 ^ 16 + st * 2 ^ 19), body⟩ : Packet)
      if !s.replyCredits (mk s 0 (zeros n)) then .next s
      else
        let owned := s.owns k.part a n
        if owned && !s.memOn a n then .next (s.holdAccess (0x90000 + i * 10 + c) ((s.firstOff a n).getD a))
        else
          let s1 := s.leaveRx i c k rest
          let s1 := (s1.addFld (CE_REPLY 0) CE_REPLY_REQUESTS 1).count 4 0 0x09 1 k.attr
          if !owned then .next ((s1.addFld (CE_REPLY 0) CE_REPLY_FAULTS 1).injectPacket (mk s 1 []))
          else
            match s.firstBad a n with
            | some u => .next (((s1.ueMet 2 u m).addFld (CE_REPLY 0) CE_REPLY_FAULTS 1).injectPacket (mk s 2 []))
            | none => .next ((s1.hbRead a n { part := some k.part, master := some 7, cls := some 2 }).injectPacket (mk s 0 (s.readBytes a n)))

/-- REPLY (R327): written into the space reserved for it, or the READ ends with REMOTE_FAULT. -/
def execReply (e : Nat) (s : State) : Res :=
  match (s.inboxOf 3).find? (fun x => x.2.engine == e) with
  | none => .next s
  | some x =>
    let k := x.2
    let s1 := s.setInbox 3 ((s.inboxOf 3).erase x)
    let tag := bits k.data 15 0
    if !s.pairRuns (e % 4) k.part then .next s
    else
      match (s.ce (e % 4)).ops.find? (fun o => o.part == k.part && o.reqs.any (fun r => r.1 == tag)) with
      | none => .next s1
      | some o =>
        match o.reqs.find? (fun r => r.1 == tag) with
        | none => .next s1
        | some r =>
          let o1 := { o with reqs := o.reqs.filter (fun q => q.1 != tag), last := s.zt }
          let a := o.d.dst + r.2.1
          if bits k.data 21 19 ≠ 0 then .next (s1.putOp (o1.fail stDataFault 2))
          else if !s.memOn a k.body.length then .next (s.holdAccess (0xB0000 + o.axis * 8 + o.part) ((s.firstOff a k.body.length).getD a) o.hb)
          else
            let n := k.body.length
            let (s2, bad) := (((s1.hbWrite a n o.hb).count 4 e 0x04 n o.attr).store a k.body o.master)
            .next (s2.advanceP2p (if bad.isSome then o1.fail stDataFault 1 else o1))

/-- PLACE_EXPIRY (R325): a tag place that no operation has claimed is released; each of its packets counts as rejected. -/
def execPlaceExpiry (a p : Nat) (tag : BitVec 32) (s : State) : Res :=
  match s.tagPlace a p tag.toNat with
  | none => .next s
  | some x =>
    let t := s.fld (CE_LIMIT a p) CE_LIMIT_TIMEOUT_US
    let claimed := (s.ce a).ops.any (fun o => o.part == p && o.d.op == 5 && o.d.tag == x.tag)
    if !claimed && t != 0 && decide (x.first + 1000 * t < s.zt) && s.pairRuns a p then
      .next ((List.range x.packets).foldl (fun s _ => s.ceErr a CE_ERR_REJECTED) (s.dropPlace a p x.tag))
    else .next s

/-- CLEAR_BREAK (R321, R331). -/
def State.clearBreak (s : State) (a : Nat) : State :=
  [a, a + 4].foldl (fun s e => ((s.setFld (CE_STATUS e) CE_STATUS_BREAK_COUNT 0).setFld (CE_STATUS e) CE_STATUS_BREAK_A 0).setFld
    (CE_STATUS e) CE_STATUS_BREAK_B 0) s

def execClearBreak (ctx : Ctx) (n : Nat) (s : State) : Res :=
  .next (if klWriter ctx then s.clearBreak (n % 4) else s.accessError ctx (CE_CTRL n))

/-- A reset ends the operations of a partition (R333): they end with TILE_RESET and tell their neighbours, descriptors not started
are discarded, and ENABLE is cleared. A warm reset writes no completion record (19 R449). -/
def State.resetCollectives (s : State) (p : Nat) (warm : Bool) : State :=
  (List.range 4).foldl (fun s a =>
    let s := ((s.ce a).ops.filter (fun o => o.part == p)).foldl (fun s o =>
      let s := if o.fault.isNone then s.abortOp o stTileReset 0 else s
      match s.opNo a o.no with
      | some o => match (if warm then s.finishWith o (fun s _ => some s) else s.finishOp o) with | some s => s | none => s
      | none => s) s
    let s := s.setFld (CE_PTR a p) CE_PTR_PROD (s.fld (CE_PTR a p) CE_PTR_CONS)
    s.setFld (CE_RING a p) CE_RING_ENABLE 0) s

end Sys2Proof.Machine
end

