-- ==== Sys2Proof/Machine/Counters.lean ====
section
/-! DEFINITION. The Tally unit's commands: counter configuration, snapshots, the trace and debug rings, the watches
(16_counters_and_trace.md R384 to R402). -/
namespace Sys2Proof.Machine

/-! ## Counters (R384, R386, R388, R393) -/

/-- Instances and counters of each kind (R384). -/
def kindInstances (k : Nat) : Nat :=
  match k with | 0 => 2048 | 1 => 10 | 2 => 8 | 3 => 8 | 4 => 8 | _ => 0
def kindCounters (k : Nat) : Nat :=
  match k with | 0 => 8 | 1 => 8 | 2 => 16 | 3 => 8 | 4 => 8 | _ => 0

/-- An instance exists and its unit is present (R384, R5). -/
def State.tallyPresent (s : State) (kind inst : Nat) : Bool :=
  decide (inst < kindInstances kind) &&
    (match kind with | 0 => s.tilePresent inst | 3 => s.anvilPresent inst | _ => true)

/-- The instance that a selection register names: TL_SEL and TL_PSEL share one layout. -/
def selKind (v : Nat) : Nat := bits v 2 0
def selInst (v : Nat) : Nat := bits v 18 8

/-- Counter n of an instance exists. -/
def State.hasCounter (s : State) (kind inst n : Nat) : Bool := s.tallyPresent kind inst && decide (n < kindCounters kind)

/-- A counter's value and its configuration; those that do not exist read zero (R384, R401). -/
def State.counterValue (s : State) (kind inst n : Nat) : Nat :=
  if s.hasCounter kind inst n then sget (fun _ => 0) s.tally.value (tallyKey kind inst + n) else 0
def State.counterA (s : State) (kind inst n : Nat) : Nat :=
  if s.hasCounter kind inst n then sget (fun _ => 0) s.tally.cfgA (tallyKey kind inst + n) else 0
def State.counterB (s : State) (kind inst n : Nat) : Nat :=
  if s.hasCounter kind inst n then sget (fun _ => 0) s.tally.cfgB (tallyKey kind inst + n) else 0

/-- CFG_GEN of an instance (R386). -/
def State.cfgGen (s : State) (kind inst : Nat) : Nat := sget (fun _ => 0) s.tally.gen (kind * 4096 + inst)
def State.bumpGen (s : State) (kind inst : Nat) : State :=
  { s with tally := { s.tally with gen := sset (fun _ => 0) s.tally.gen (kind * 4096 + inst) ((s.cfgGen kind inst + 1) % 2 ^ 32) } }

/-- A kind has an event (R388). -/
def eventDefined (kind ev : Nat) : Bool :=
  match kind with
  | 0 => decide (ev < 8) || (decide (0x10 ≤ ev) && decide (ev < 0x30) && decide (ev % 8 < 7))
  | 1 => decide (ev ≤ 0x0B)
  | 2 => decide (ev ≤ 0x0C)
  | 3 => decide (ev ≤ 7)
  | 4 => decide (ev ≤ 9)
  | _ => false

/-- A value that CFGA accepts (R386): reserved bits zero, a defined event, a defined address range. -/
def cfgAOk (kind v : Nat) : Bool :=
  bits v 63 34 == 0 && !bit v 9 && decide (bits v 33 31 ≤ 4) && eventDefined kind (bits v 7 0)

/-- A write of CFGA through a register: accepted, or refused with CFG_REFUSED and an access error (R386). -/
def State.writeCfgA (s : State) (ctx : Ctx) (reg kind inst n v : Nat) (welkinOk : Bool) : State :=
  if !s.hasCounter kind inst n then s
  else if cfgAOk kind v && (welkinOk || !bit v 10) then
    ({ s with tally := { s.tally with cfgA := sset (fun _ => 0) s.tally.cfgA (tallyKey kind inst + n) v } }).bumpGen kind inst
  else (s.sticky TL_ERR TL_ERR_CFG_REFUSED TL_ERR_EVENTS).accessError ctx reg

/-- A write of CFGB. -/
def State.writeCfgB (s : State) (kind inst n v : Nat) : State :=
  if !s.hasCounter kind inst n then s
  else ({ s with tally := { s.tally with cfgB := sset (fun _ => 0) s.tally.cfgB (tallyKey kind inst + n) v } }).bumpGen kind inst

/-- A write of a counter's value (R401). -/
def State.writeCounter (s : State) (kind inst n v : Nat) : State :=
  if !s.hasCounter kind inst n then s
  else { s with tally := { s.tally with value := sset (fun _ => 0) s.tally.value (tallyKey kind inst + n) v } }

/-- A kernel context may configure the tile that its window selects (R393). -/
def State.ownsSelected (s : State) (p : Nat) : Bool :=
  let v := s.rd (TL_PSEL p)
  selKind v == 0 && s.tileOwner (selInst v) == some p

/-- A CFGA write through TL_CFGA or a partition's window (R386, R393, R401). -/
def State.cfga (s : State) (ctx : Ctx) (window : Option Nat) (n v : Nat) : State :=
  match window, ctx with
  | none, _ =>
    let k := s.rd TL_SEL
    if ctxGlobal ctx then s.writeCfgA ctx (TL_CFGA n) (selKind k) (selInst k) n v true else s.accessError ctx (TL_CFGA n)
  | some p, .kernel q =>
    let k := s.rd (TL_PSEL p)
    if q.val = p ∧ s.ownsSelected p = true then s.writeCfgA ctx (TL_PCFGA p n) (selKind k) (selInst k) n v false
    else s.accessError ctx (TL_PCFGA p n)
  | some p, _ => s.accessError ctx (TL_PCFGA p n)

/-- A CFGB write through TL_CFGB or a partition's window. -/
def State.cfgb (s : State) (ctx : Ctx) (window : Option Nat) (n v : Nat) : State :=
  match window, ctx with
  | none, _ =>
    let k := s.rd TL_SEL
    if ctxGlobal ctx then s.writeCfgB (selKind k) (selInst k) n v else s.accessError ctx (TL_CFGB n)
  | some p, .kernel q =>
    let k := s.rd (TL_PSEL p)
    if q.val = p ∧ s.ownsSelected p = true then s.writeCfgB (selKind k) (selInst k) n v else s.accessError ctx (TL_PCFGB p n)
  | some p, _ => s.accessError ctx (TL_PCFGB p n)

/-- CFGA: a write of a counter's first configuration register. -/
def execCfga (ctx : Ctx) (window : Option (Fin 8)) (n : Nat) (value : Word) (s : State) : Res :=
  .next (s.cfga ctx (window.map (·.val)) n value.toNat)

/-- What a partition's window shows of its selected instance: zero where R393 hides it. -/
def State.windowShows (s : State) (ctx : Ctx) (p n : Nat) : Bool :=
  let v := s.rd (TL_PSEL p)
  let a := s.counterA (selKind v) (selInst v) n
  let mine := if selKind v = 0 then s.tileOwner (selInst v) == some p else bits a 20 13 == 2 ^ p
  mine && !bit a 10 && !(match ctx with | .user _ => bit a 11 | _ => false)

/-! ## Snapshots (R389 to R392) -/

/-- The list entries of a schedule: kind, first instance, count. -/
def State.snapList (s : State) (i : Nat) : List (Nat × Nat × Nat) :=
  let first := s.fld (TL_SNAP_CTRL i) TL_SNAP_CTRL_LIST_FIRST
  (List.range (s.fld (TL_SNAP_CTRL i) TL_SNAP_CTRL_LIST_COUNT)).map (fun k =>
    (s.fld (TL_LIST (first + k)) TL_LIST_KIND, s.fld (TL_LIST (first + k)) TL_LIST_FIRST, s.fld (TL_LIST (first + k)) TL_LIST_COUNT))

/-- The size of a snapshot (R390). -/
def snapSize (l : List (Nat × Nat × Nat)) : Nat := roundUp (64 + (l.map (fun e => e.2.2 * (16 + 8 * kindCounters e.1))).sum) 64

/-- The slot size and the number of slots of a ring. -/
def State.snapSlot (s : State) (i : Nat) : Nat := 2 ^ s.fld (TL_SNAP_RING i) TL_SNAP_RING_SLOT_LOG2
def State.snapSlots (s : State) (i : Nat) : Nat := 2 ^ s.fld (TL_SNAP_RING i) TL_SNAP_RING_SLOTS_LOG2

/-- What refuses ENABLE (R390). -/
def State.snapRefused (s : State) (i : Nat) : Bool :=
  let r := TL_SNAP_CTRL i
  let period := s.fld r TL_SNAP_CTRL_PERIOD_NS
  let base := s.fld (TL_SNAP_RING i) TL_SNAP_RING_BASE
  (period != 0 && decide (period < 10000)) || decide (64 < s.fld r TL_SNAP_CTRL_LIST_FIRST + s.fld r TL_SNAP_CTRL_LIST_COUNT) ||
  (s.snapList i).any (fun e => decide (kindInstances e.1 < e.2.1 + e.2.2)) || decide (s.snapSlot i < snapSize (s.snapList i)) ||
  !(isHbm base && decide (base + s.snapSlot i * s.snapSlots i ≤ 0x006000000000))

/-- The number of a schedule's next instant, and the instant, if there is one (R390). -/
def State.snapNo (s : State) (i : Nat) : Nat := sget (fun _ => 0) s.tally.instant i
def State.snapAt (s : State) (i : Nat) : Option Nat :=
  let period := s.fld (TL_SNAP_CTRL i) TL_SNAP_CTRL_PERIOD_NS
  if !s.flag (TL_SNAP_CTRL i) TL_SNAP_CTRL_ENABLE then none
  else if period = 0 then (if s.snapNo i = 0 then some (s.rd (TL_SNAP_START i)) else none)
  else some (s.rd (TL_SNAP_START i) + s.snapNo i * period)

/-- The kept counts of a schedule's instants, up to a number, are let go. -/
def State.snapForget (s : State) (i : Nat) (gone : Nat → Bool) : State :=
  { s with tally := { s.tally with taken := s.tally.taken.filter (fun x => x.1 != i || !gone x.2.1) } }

/-- The next instant's number set. -/
def State.setSnapNo (s : State) (i k : Nat) : State :=
  ({ s.snapForget i (· < k) with tally := { (s.snapForget i (· < k)).tally with instant := sset (fun _ => 0) s.tally.instant i k } }).setFld (TL_SNAP_STAT i) TL_SNAP_STAT_SEQ k

/-- A write of TL_SNAP_CTRL (R390): ENABLE is judged with the fields written beside it; instants within 1,000 zt are skipped. -/
def State.snapCtrl (s : State) (ctx : Ctx) (i v : Nat) : State :=
  let r := TL_SNAP_CTRL i
  if !ctxGlobal ctx then s.accessError ctx r
  else
    let s := (((s.setFld r TL_SNAP_CTRL_LIST_FIRST (bits v 61 56)).setFld r TL_SNAP_CTRL_LIST_COUNT (bits v 54 48)).setFld r TL_SNAP_CTRL_PERIOD_NS
      (bits v 39 0)).setFld r TL_SNAP_CTRL_ENABLE 0
    if !bit v 63 then s
    else if s.snapRefused i then s.sticky TL_ERR TL_ERR_SNAP_CFG TL_ERR_EVENTS
    else
      let start := s.rd (TL_SNAP_START i)
      let period := s.fld r TL_SNAP_CTRL_PERIOD_NS
      let skip := if s.zt + 1000 ≤ start then 0 else if period = 0 then 1 else (s.zt + 1000 - start + period - 1) / period
      ((s.setFld r TL_SNAP_CTRL_ENABLE 1).snapForget i (fun _ => true)).setSnapNo i skip

/-- SNAP_ENABLE: a write of TL_SNAP_CTRL. -/
def execSnapEnable (ctx : Ctx) (i : Nat) (value : Word) (s : State) : Res := .next (s.snapCtrl ctx i value.toNat)

/-- The power domain of an instance's unit (17 R403). -/
def kindDomain (kind inst : Nat) : Nat :=
  match kind with | 0 => tileRegion inst | 1 => 72 + inst | 2 => 64 + inst | 3 => 84 + inst | _ => 92 + inst

/-- The unit of an instance is fenced (15 R365). -/
def State.tallyFenced (s : State) (kind inst : Nat) : Bool :=
  match kind with
  | 0 => !s.physUsable (s.physOf inst) | 2 => bit s.spares.hbm inst | 3 => bit s.spares.anvil inst | 4 => bit s.spares.ce inst | _ => false

/-- An instance record (R392). -/
def State.snapInstance (s : State) (i kind inst : Nat) : List Byte :=
  let dom := kindDomain kind inst
  let flags := b2n (!s.tallyPresent kind inst) + 2 * b2n (s.tallyFenced kind inst) + 4 * b2n (!s.domOn dom) +
    8 * b2n (bit (sget (fun _ => 0) s.tally.lost i) dom)
  leBytes 1 kind ++ leBytes 1 (kindCounters kind) ++ leBytes 2 inst ++ leBytes 1 flags ++ zeros 3 ++ leBytes 4 (s.cfgGen kind inst) ++ zeros 4 ++
    ((List.range (kindCounters kind)).map (fun n => leBytes 8 (s.counterValue kind inst n))).flatten

/-- The instance records of a schedule. -/
def State.snapBody (s : State) (i : Nat) : List Byte :=
  (s.snapList i).flatMap (fun e => (List.range e.2.2).flatMap (fun k => s.snapInstance i e.1 (e.2.1 + k)))

/-- What was counted before an instant is kept for its snapshot, which is written later (R389): as the Zenith time reaches the instant, before
anything of that time. -/
def State.snapTake (s : State) (i : Nat) : State :=
  let period := s.fld (TL_SNAP_CTRL i) TL_SNAP_CTRL_PERIOD_NS
  let k := s.snapNo i + (s.tally.taken.filter (fun x => x.1 == i)).length
  if s.flag (TL_SNAP_CTRL i) TL_SNAP_CTRL_ENABLE && (period != 0 || k == 0) && decide (s.rd (TL_SNAP_START i) + k * period ≤ s.zt) then
    { s with tally := { s.tally with taken := s.tally.taken ++ [(i, k, s.snapBody i)] } }
  else s

/-- What was kept for an instant, or what is counted now. -/
def State.snapKept (s : State) (i k : Nat) : List Byte :=
  match s.tally.taken.find? (fun x => x.1 == i && x.2.1 == k) with
  | some x => x.2.2
  | none => s.snapBody i

/-- A snapshot (R392); its T_WRITTEN is filled in when it is written. -/
def State.snapBytes (s : State) (i t : Nat) : List Byte :=
  let l := s.snapList i
  let size := snapSize l
  padTo size (leBytes 4 0x4E534C54 ++ leBytes 1 i ++ zeros 1 ++ leBytes 2 l.length ++ leBytes 8 (s.snapNo i) ++ leBytes 8 t ++ zeros 8 ++
    leBytes 4 size ++ leBytes 4 (l.map (·.2.2)).sum ++ leBytes 4 (sget (fun _ => 0) s.tally.dropped i) ++ zeros 20 ++
    s.snapKept i (s.snapNo i))

/-- The snapshot of an instant is dropped (R391). -/
def State.snapDrop (s : State) (i : Nat) : State :=
  let n := sget (fun _ => 0) s.tally.dropped i + 1
  (({ s with tally := { s.tally with dropped := sset (fun _ => 0) s.tally.dropped i n } }).addFld (TL_SNAP_STAT i) TL_SNAP_STAT_DROPPED 1).sticky
    TL_ERR TL_ERR_SNAP_DROP TL_ERR_EVENTS

/-- SNAPSHOT_INSTANT (R389 to R392): an instant of a schedule has come; its snapshot is written or dropped. -/
def execSnapshotInstant (i : Nat) (s : State) : Res :=
  match s.snapAt i with
  | none => .next s
  | some t =>
    if s.zt < t then .next s
    else
      let s := s.tallyFlush
      let head := s.fld (TL_SNAP_PTR i) TL_SNAP_PTR_HEAD
      let full := (head + 2 ^ 32 - s.fld (TL_SNAP_PTR i) TL_SNAP_PTR_TAIL) % 2 ^ 32 == s.snapSlots i
      if full || s.tally.waiting.any (fun w => w.what == 4 + i) then .next ((s.snapDrop i).setSnapNo i (s.snapNo i + 1))
      else
        let b := s.snapBytes i t
        let a := s.fld (TL_SNAP_RING i) TL_SNAP_RING_BASE + head % s.snapSlots i * s.snapSlot i
        let s := { s with tally := { s.tally with dropped := sset (fun _ => 0) s.tally.dropped i 0, lost := sset (fun _ => 0) s.tally.lost i 0 } }
        .next ((s.tallyPut ⟨4 + i, a, b, (head + 1) % 2 ^ 32⟩).setSnapNo i (s.snapNo i + 1))

/-- The counters of a power domain's units restart from zero (R384). -/
def State.zeroCounters (s : State) (dom : Nat) : State :=
  { s with tally := { s.tally with value := s.tally.value.filter (fun e => kindDomain (e.1 / 16 / 4096) (e.1 / 16 % 4096) != dom) } }

/-- The counters of a power domain that goes OFF are lost (R384, 17 R406), and every schedule's next snapshot says so. -/
def State.restartCounters (s : State) (dom : Nat) : State :=
  let lost := (List.range 4).foldl (fun m i => sset (fun _ => 0) m i (putBits (sget (fun _ => 0) m i) dom dom 1)) s.tally.lost
  { s.zeroCounters dom with tally := { (s.zeroCounters dom).tally with lost := lost } }

/-- What waits to be written to a ring is discarded. -/
def State.tallyForget (s : State) (what : Nat) : State :=
  { s with tally := { s.tally with waiting := s.tally.waiting.filter (fun w => w.what != what) } }

/-- A write of TL_SNAP_RING sets HEAD and TAIL of its schedule to zero (R401). -/
def State.snapRing (s : State) (ctx : Ctx) (i v : Nat) : State :=
  let r := TL_SNAP_RING i
  if !ctxGlobal ctx then s.accessError ctx r
  else (((((s.tallyForget (4 + i)).setFld r TL_SNAP_RING_SLOTS_LOG2 (bits v 63 60)).setFld r TL_SNAP_RING_SLOT_LOG2 (bits v 52 48)).setFld r
    TL_SNAP_RING_BASE (bits v 47 0)).setFld (TL_SNAP_PTR i) TL_SNAP_PTR_HEAD 0).setFld (TL_SNAP_PTR i) TL_SNAP_PTR_TAIL 0

/-- TL_SNAP_RING: a write of that register. -/
def execTlSnapRing (ctx : Ctx) (i : Nat) (value : Word) (s : State) : Res := .next (s.snapRing ctx i value.toNat)

/-! ## The trace ring, the watches and the debug ring (R396, R397, R401) -/

/-- Trace records that wait to be written are discarded and counted as dropped (R402). -/
def State.traceDiscard (s : State) (d : Nat) : State :=
  (s.tallyForget d).traceDropped d (s.tally.waiting.filter (fun w => w.what == d)).length

/-- A write of TL_TRACE_BASE (R396): one that changes ADDR or SIZE_LOG2 resets both pointers. -/
def State.traceBase (s : State) (ctx : Ctx) (d v : Nat) : State :=
  let r := TL_TRACE_BASE d
  if !ctxGlobal ctx then s.accessError ctx r
  else if bits v 52 48 = s.fld r TL_TRACE_BASE_SIZE_LOG2 ∧ bits v 47 0 = s.fld r TL_TRACE_BASE_ADDR then s
  else ((((s.traceDiscard d).setFld r TL_TRACE_BASE_SIZE_LOG2 (bits v 52 48)).setFld r TL_TRACE_BASE_ADDR (bits v 47 0)).setFld (TL_TRACE_PTR d)
    TL_TRACE_PTR_HEAD 0).setFld (TL_TRACE_PTR d) TL_TRACE_PTR_TAIL 0

/-- TL_TRACE_BASE: a write of that register. -/
def execTlTraceBase (ctx : Ctx) (d : Nat) (value : Word) (s : State) : Res := .next (s.traceBase ctx d value.toNat)

/-- A write of TL_WATCH_CTRL (R397): while ENABLE is set the watch's own fields do not change; setting ENABLE looks the handle up. -/
def State.watchCtrl (s : State) (ctx : Ctx) (w v : Nat) : State :=
  let r := TL_WATCH_CTRL w
  let same := bits v 31 0 == s.fld r TL_WATCH_CTRL_HANDLE && bits v 58 56 == s.fld r TL_WATCH_CTRL_PARTITION &&
    bits v 55 44 == s.fld r TL_WATCH_CTRL_REMAIN && bits v 43 32 == s.fld r TL_WATCH_CTRL_MAX_KIB
  if !ctxGlobal ctx then s.accessError ctx r
  else if s.flag r TL_WATCH_CTRL_ENABLE then
    if !same then s.accessError ctx r
    else if bit v 63 then s
    else (s.setFld r TL_WATCH_CTRL_ENABLE 0).setFld r TL_WATCH_CTRL_STATE 0
  else
    let s := (((s.setFld r TL_WATCH_CTRL_HANDLE (bits v 31 0)).setFld r TL_WATCH_CTRL_PARTITION (bits v 58 56)).setFld r TL_WATCH_CTRL_REMAIN
      (bits v 55 44)).setFld r TL_WATCH_CTRL_MAX_KIB (bits v 43 32)
    if bit v 63 then (s.setFld r TL_WATCH_CTRL_ENABLE 1).watchLookup w else s

/-- WATCH_ENABLE: a write of TL_WATCH_CTRL. -/
def execWatchEnable (ctx : Ctx) (w : Nat) (value : Word) (s : State) : Res := .next (s.watchCtrl ctx w value.toNat)

/-- A watch returned to IDLE (R402). -/
def State.watchIdle (s : State) (w : Nat) : State :=
  (s.setFld (TL_WATCH_CTRL w) TL_WATCH_CTRL_ENABLE 0).setFld (TL_WATCH_CTRL w) TL_WATCH_CTRL_STATE 0

/-- A write of TL_DBG_BASE, or of TL_DBG_SIZE, sets HEAD and TAIL to zero (R401). -/
def State.debugBase (s : State) (ctx : Ctx) (size : Bool) (v : Nat) : State :=
  if !ctxGlobal ctx then s.accessError ctx (if size then TL_DBG_SIZE else TL_DBG_BASE)
  else
    let s := s.tallyForget 2
    let s := if size then s.setFld TL_DBG_SIZE TL_DBG_SIZE_SIZE_LOG2 (bits v 4 0) else s.setFld TL_DBG_BASE TL_DBG_BASE_ADDR (bits v 47 0)
    (s.setFld TL_DBG_PTR TL_DBG_PTR_HEAD 0).setFld TL_DBG_PTR TL_DBG_PTR_TAIL 0

/-- TL_DBG_BASE: a write of TL_DBG_BASE, or of its size. -/
def execTlDbgBase (ctx : Ctx) (size : Bool) (value : Word) (s : State) : Res := .next (s.debugBase ctx size value.toNat)

end Sys2Proof.Machine
end

