-- ==== Sys2Proof/Machine/Storage.lean ====
section
/-! DEFINITION. The storage engines of KL8 and KL9 (11_kwebel_ports.md R271 to R273), and the loss of a link or of a Contrail
module, which ends what storage and collectives had under way (R268, R274). -/
namespace Sys2Proof.Machine

/-! ## Entries (R271) -/

/-- An entry's fields. -/
def seOp (b : List Byte) : Nat := fieldAt b 0 1
def sePort (b : List Byte) : Nat := fieldAt b 1 1
def seCq (b : List Byte) : Nat := fieldAt b 2 2
def seTag (b : List Byte) : Nat := fieldAt b 4 4
def seAddr (b : List Byte) : Nat := fieldAt b 8 8
def seLen (b : List Byte) : Nat := fieldAt b 0x10 8
def seObject (b : List Byte) : Nat := fieldAt b 0x18 8
def seOffset (b : List Byte) : Nat := fieldAt b 0x20 8

/-- An entry is well-formed: OP, PORT, alignment, LEN and reserved fields. -/
def storageEntryOk (b : List Byte) : Bool :=
  (seOp b == 1 || seOp b == 2) && (sePort b == 8 || sePort b == 9) && decide (seAddr b < 2 ^ 48) && seAddr b % 32 == 0 &&
  seLen b % 32 == 0 && decide (0 < seLen b) && decide (seLen b ≤ 2 ^ 32) && fieldAt b 0x28 24 == 0

/-- An entry that a port's engine may take: one that names it, or none of the storage ports, or that cannot be read. -/
def State.storageMine (s : State) (n d q : Nat) : Bool :=
  let x := s.queue d q
  let a := x.slot x.cons
  let p := (s.byte (a + 1)).toNat
  x.enabled && x.ty == 4 && decide (0 < x.occupancy) && !s.stopHolds (s.queueOwner d q) &&
  ((s.firstBad a 64).isSome || !s.memOn a 64 || p == n || !(p == 8 || p == 9))

/-- The queue that a port's engine takes its next entry from: round robin by queue number (R271). -/
def State.storageQueue (s : State) (n : Nat) : Option Nat :=
  let l := (s.queues.filter (fun e => s.storageMine n (e.1 / 16384) (e.1 % 16384))).map (·.1)
  match l.find? (fun q => decide ((s.port n).turn ≤ q)) with
  | some q => some q
  | none => l.head?

/-! ## Packets (R272) -/

/-- The 32-byte storage header. -/
def storageHeader (kind tag object offset len : Nat) : List Byte :=
  leBytes 1 kind ++ zeros 3 ++ leBytes 4 tag ++ leBytes 8 object ++ leBytes 8 offset ++ leBytes 8 len

/-- The storage packet of a request: PARTITION and EPOCH of an entry of the module are free values (log entry 1). -/
def State.storagePacket (s : State) (n : Nat) (o : Option Nat) (fence : Bool) (body : List Byte) : Packet × State :=
  let (p, e, s) := match o with
    | some p => (p, s.currentEpoch p, s)
    | none => let (v, s) := s.fresh; (v % 8, v / 8 % 2, s)
  (⟨mkHdr (s.fld (KL_PLAN n) KL_PLAN_PEER_COORD) s.coord p 4 e fence false 4 body.length 0 0, body⟩, s)

/-- A storage packet waits at its port, whose SEQ it takes (R278). -/
def State.storageSend (s : State) (n : Nat) (o : Option Nat) (fence : Bool) (body : List Byte) : State :=
  let (k, s) := s.storagePacket n o fence body
  let key := (k.dst * 8 + k.cls) * 16 + k.part
  let c := sget (fun _ => 0) s.router.seqs key
  let k : Packet := { k with hdr := putBits k.hdr 95 64 c }
  let s := { s with router := { s.router with seqs := sset (fun _ => 0) s.router.seqs key ((c + 1) % 2 ^ 32) } }
  s.setEg n 4 (s.egAt n 4 ++ [⟨k, 11, 4, true, 0, false⟩])

/-- Who meets an error in a storage transfer. -/
def storageMaster (o : Option Nat) : Master := ⟨7, 0xFFFF, 0, o, none⟩

/-- WRITE_DATA packets of at most 480 bytes in ascending offset, up to n of them; the bytes before the first that cannot be read. -/
def State.writeData (s : State) (n tag : Nat) (o : Option Nat) (b : List Byte) : Nat → Nat → State × Nat × Bool
  | 0, off => (s, off, true)
  | fuel + 1, off =>
    if seLen b ≤ off then (s, off, true)
    else
      let k := min 480 (seLen b - off)
      let a := seAddr b + off
      match s.firstBad a k with
      | some u => (s.ueMet 2 u (storageMaster o), off, false)
      | none =>
        let s := s.hbRead a k { part := o, master := some 7, cls := some 4 }
        (s.storageSend n o false (storageHeader 3 tag (seObject b) (seOffset b + off) 0 ++ s.readBytes a k)).writeData n tag o b fuel (off + k)

/-! ## Completions (R273) -/

/-- The first waiting record of a port's engine waits for its memory's domain: counted (17 R411). -/
def State.doneWaits (s : State) (n : Nat) : State :=
  match (s.port n).dones.head? with
  | none => s
  | some r =>
    match s.doneOff r.die r.owner r.cq with
    | some a => s.holdAccess (0xC1000 + n) a { part := r.owner, master := some 7 }
    | none => s

/-- A request's completion record, written now or kept until its queue takes it. -/
def State.storageDone (s : State) (n d slot : Nat) (o : Option Nat) (b : List Byte) (status detail : Nat) : State :=
  let r : DoneRec := ⟨d, o, seCq b, recordBytes 0xFFFF (0xF0 + n) status 0 s.zt (seTag b) slot detail⟩
  let x := s.port n
  if !x.dones.isEmpty then s.setPort n { x with dones := x.dones ++ [r] }
  else
    match s.putDone r with
    | some s => s
    | none => ((s.setPort n { x with dones := [r] }).doneWaits n)

/-- An outstanding request ends with a status; cause 0 is success, 2 comes with the node's status. -/
def State.storageEnd (s : State) (n : Nat) (r : StorageReq) (cause node : Nat) : State :=
  let x := s.port n
  let s := s.setPort n { x with reqs := x.reqs.filter (fun q => q.tag != r.tag) }
  s.storageDone n r.die r.slot r.owner r.entry (if cause = 0 then stOk else stDataFault)
    (if cause = 0 then 0 else cause + node * 2 ^ 8 + r.moved % 2 ^ 48 * 2 ^ 16)

/-- Records that waited are written as far as their queues take them. -/
def State.storageRetry (s : State) (n : Nat) : State :=
  let x := s.port n
  let (s, l) := s.putDones x.dones
  (s.setPort n { s.port n with dones := l }).doneWaits n

/-- The first address from a on that no memory holds. -/
def firstUnmapped (a : Nat) : Nat := if isHbm a then 0x006000000000 else if isSram a then 0x010080000000 else a

/-- An entry that has been taken is carried out (R272, R273). -/
def State.storageRun (s : State) (n d slot : Nat) (o : Option Nat) (b : List Byte) : State :=
  let a := seAddr b
  if !storageEntryOk b then s.storageDone n d slot o b stBadCommand 0
  else if !s.ownerMemory o a (seLen b) then
    s.storageDone n d slot o b stAccessFault (match o with | some p => (s.firstUnowned p a (seLen b)).getD a | none => firstUnmapped a)
  else if s.klState n ≠ 6 then s.storageDone n d slot o b stDataFault 3
  else
    let x := s.port n
    let r : StorageReq := { tag := x.nextTag, die := d, queue := 0, slot := slot, entry := b, owner := o, last := s.zt }
    let s := s.setPort n { x with nextTag := (x.nextTag + 1) % 2 ^ 32, reqs := x.reqs ++ [r] }
    if seOp b = 1 then s.storageSend n o false (storageHeader 1 r.tag (seObject b) (seOffset b) (seLen b))
    else
      let (s, sent, ok) := s.writeData n r.tag o b (seLen b / 480 + 1) 0
      if ok then s.storageSend n o true (storageHeader 4 r.tag (seObject b) (seOffset b) (seLen b))
      else s.storageEnd n { r with moved := sent } 1 0

/-- STORAGE_ENTRY (R271): the engine of KL8 or KL9 takes its next entry, at most 16 outstanding, and none while a completion waits
for its queue. -/
def execStorageEntry (k : Nat) (s : State) : Res :=
  let n := 8 + k
  let s := s.storageRetry n
  let x := s.port n
  if 16 ≤ x.reqs.length ∨ x.dones.isEmpty = false then .next s
  else
    match s.storageQueue n with
    | none => .next s
    | some e =>
      let d := e / 16384
      let q := e % 16384
      let y := s.queue d q
      let a := y.slot y.cons
      let o := s.queueOwner d q
      let s := s.setPort n { x with turn := e + 1 }
      if !s.memOn a 64 then .next (s.holdAccess (0xC0000 + n) a)
      else
        match s.firstBad a 64 with
        | some u => .next ((s.ueMet 2 u (storageMaster o)).consume d q)
        | none =>
          let b := s.readBytes a 64
          let far := storageEntryOk b && seOp b == 2 && s.ownerMemory o (seAddr b) (seLen b) && s.klState n == 6
          if far && !s.memOn (seAddr b) (seLen b) then .next (s.holdAccess (0xC0000 + n) (seAddr b))
          else
            let s := (s.hbRead a 64 { part := o, master := some 7 }).consume d q
            .next (s.storageRun n d (y.cons % y.size) o b)

/-! ## What the node sends (R272) -/

/-- The next STORAGE packet of a storage port that its rules let pass, with the rest of the channel. -/
def State.storageIn (s : State) (n : Nat) : Option (Packet × List Packet) :=
  match s.firstFree (s.rxAt n 4) with
  | some (k, rest) => if k.kind == 4 && !s.ingressBar n k && !s.headerWrong k then some (k, rest) else none
  | none => none

/-- The request that a packet's TAG names. -/
def State.storageReq (s : State) (n : Nat) (k : Packet) : Option StorageReq :=
  (s.port n).reqs.find? (fun r => r.tag == fieldAt k.body 4 4)

/-- The bytes that a list of ranges covers below a length: the length of the union, for ranges inserted in order. -/
def coverAdd (l : List (Nat × Nat)) (r : Nat × Nat) : List (Nat × Nat) :=
  let touch := l.filter (fun e => decide (e.1 ≤ r.2) && decide (r.1 ≤ e.2))
  let keep := l.filter (fun e => !(decide (e.1 ≤ r.2) && decide (r.1 ≤ e.2)))
  keep ++ [(touch.foldl (fun m e => min m e.1) r.1, touch.foldl (fun m e => max m e.2) r.2)]

/-- READ_DATA (R272): a packet's data goes to LOCAL_ADDR plus its offset from the request. A STORAGE packet that names no
outstanding READ, or that lies outside it, has no effect. -/
def execReadData (k : Nat) (s : State) : Res :=
  let n := 8 + k
  match s.storageIn n with
  | none => .next s
  | some (k, rest) =>
    let kind := fieldAt k.body 0 1
    if kind = 5 then .next s
    else
      let gone := s.leaveRx n 4 k rest
      match s.storageReq n k with
      | none => .next gone
      | some r =>
        let off := fieldAt k.body 0x10 8
        let rel := off - seOffset r.entry
        let data := k.body.drop 32
        if !(kind == 2 && seOp r.entry == 1 && decide (32 ≤ k.body.length) && decide (seOffset r.entry ≤ off) && decide (rel + data.length ≤ seLen r.entry)) then
          .next gone
        else
          let a := seAddr r.entry + rel
          if !s.memOn a data.length then .next (s.holdAccess (0xC0000 + n) ((s.firstOff a data.length).getD a))
          else
            let at_ : Attr := { part := r.owner, master := some 7, cls := some 4 }
            let (t, bad) := (gone.hbWrite a data.length at_).store a data (storageMaster r.owner)
            let got := coverAdd r.got (rel, rel + data.length)
            let r := { r with got := got, moved := (got.map (fun e => e.2 - e.1)).sum, ue := r.ue || bad.isSome, last := s.zt }
            .next (t.setPort n { t.port n with reqs := (t.port n).reqs.map (fun q => if q.tag = r.tag then r else q) })

/-- STATUS (R272, R273): a request whose bytes are all accounted for ends; a STATUS other than OK ends it at once; an OK that comes
too early is dropped, and the request waits for its timeout. -/
def execStatus (k : Nat) (s : State) : Res :=
  let n := 8 + k
  match s.storageIn n with
  | none => .next s
  | some (k, rest) =>
    if fieldAt k.body 0 1 ≠ 5 then .next s
    else
      let gone := s.leaveRx n 4 k rest
      match s.storageReq n k with
      | none => .next gone
      | some r =>
        let node := fieldAt k.body 1 1
        if node ≠ 0 then .next (gone.storageEnd n r 2 node)
        else if r.moved = seLen r.entry then .next (gone.storageEnd n r (if r.ue then 1 else 0) 0)
        else
          let r := { r with last := s.zt }
          .next (gone.setPort n { gone.port n with reqs := (gone.port n).reqs.map (fun q => if q.tag = r.tag then r else q) })

/-- STORAGE_TIMEOUT (R272): the time after a request's last packet has passed; a STATUS in the zt of expiry counts. -/
def execStorageTimeout (k : Nat) (tag : BitVec 32) (s : State) : Res :=
  let n := 8 + k
  let t := s.fld (KL_LIMITS n) KL_LIMITS_STORAGE_TIMEOUT
  match (s.port n).reqs.find? (fun r => r.tag == tag.toNat) with
  | none => .next s
  | some r => if t != 0 && decide (r.last + t * 1000 < s.zt) && !s.stopHolds r.owner then .next (s.storageEnd n r 4 0) else .next s

/-! ## LOSS and REMOVED (R268, R274) -/

/-- Every outstanding storage request of a lost port completes with PORT_DOWN (R273). -/
def State.storageLoss (s : State) (n : Nat) : State :=
  (s.port n).reqs.foldl (fun s r => s.storageEnd n r 3 0) s

/-- A link is lost (R268): what it held is dropped, the port goes DOWN, storage and collectives learn of it. -/
def State.portLost (s : State) (n : Nat) : State :=
  let s := (((s.dropLink n).klErr n KL_ERR_LOSS).setCause n 4).portTo n 7
  ((s.purgePort n).storageLoss n).portBreak n

/-- A port has a link that can be lost: UP or QUARANTINED, or in a DISCOVER repeated from there (R265, R267). -/
def State.linkAlive (s : State) (n : Nat) : Bool :=
  let st := s.klState n
  st == 5 || st == 6 || (st == 4 && ((s.port n).back.isSome || (s.port n).recheck))

/-- LOSS (R268): its four conditions; whether signal or codeword lock was lost for its time comes from outside. -/
def execLoss (n : Nat) (signalLost lockLost : Bool) (s : State) : Res :=
  let x := s.port n
  if s.linkAlive n && (signalLost || lockLost || decide (x.lastCtrl + 1000 < s.zt) || decide (16 ≤ x.uncorr)) then .next (s.portLost n)
  else .next s

/-- REMOVED (R274): the cage is empty; under a live link that is a loss. -/
def execRemoved (n : Nat) (s : State) : Res :=
  let x := s.port n
  let serial := match x.contrail with | some c => c.serial | none => 0
  let s := if s.linkAlive n then s.portLost n else s
  let s := (((s.setPort n { s.port n with contrail := none, copper := false }).setFld (KL_STATUS n) KL_STATUS_MEDIUM 0).wr (KL_CONTRAIL n) 0).wr
    (KL_CONTRAIL_SENS n) 0
  match x.contrail with
  | some _ => .next (s.contrailEvent n 1 serial)
  | none => .next s

end Sys2Proof.Machine
end

