-- ==== Sys2Proof/Machine/Domains.lean ====
section
/-! DEFINITION. Votes, quiescence and transitions of the power domains (17_power_domains.md R403 to R412, R419). -/
namespace Sys2Proof.Machine

/-- PD_ERR bits with their event count (R9). -/
def State.pdErr (s : State) (f : Fld) : State := s.sticky PD_ERR f PD_ERR_EVENTS

/-! ## Votes (R407, R417) -/

/-- A host vote on a domain withdraws the resume vote that Welkin placed there (R417). -/
def State.dropResume (s : State) (i : Nat) : State :=
  if bit s.power.resumed i then
    ({ s with power := { s.power with resumed := putBits s.power.resumed i i 0 } }).setFld (PD_DOM i) PD_DOM_WELKIN 0
  else s

/-- A write of PD_DOM (R407): the writer's own vote changes, unless its value is 3; the domain's TARGET follows. -/
def State.vote (s : State) (ctx : Ctx) (i v : Nat) : State :=
  match voteField ctx with
  | none => s.accessError ctx (PD_DOM i)
  | some f =>
    let x := bits v f.hi f.lo
    if !s.domPresent i then s
    else if x = 3 then s.pdErr PD_ERR_VOTE_BAD
    else
      let s := if ctx = .module then s.dropResume i else s
      (s.setFld (PD_DOM i) f x).retargetAll

/-- VOTE: a write of PD_DOM. -/
def execVote (ctx : Ctx) (i : Nat) (value : Word) (s : State) : Res := .next (s.vote ctx i value.toNat)

/-! ## Quiescence (R406) -/

/-- A tile holds no launch and no command. -/
def TileSt.idle (x : TileSt) : Bool :=
  x.launch.isNone && x.next.isNone && x.allCmds.isEmpty && x.routine.isNone && x.fetched.isNone

/-- The condition under which a domain leaves ON for a level (R406). A bank group's accesses are over once its region runs no more. -/
def State.quiescent (s : State) (i level : Nat) : Bool :=
  if i < 32 then (regionTiles i).all (fun t => (s.tile t).idle) && !s.tests.slices.any (fun r => tileRegion r.tile == i)
  else if i < 64 then !(s.domState (i - 32) == 3 || s.domState (i - 32) == 6)
  else if i < 72 then !s.waits.any (fun w => w.1 == i)
  else if i < 82 then level == 0 || s.klState (i - 72) == 9
  else if i < 84 then !s.link.held.any (fun h => h.um == i - 82)
  else if i < 92 then (s.anvil (i - 84)).input.isEmpty
  else if i < 100 then !s.ceRingOn (i - 92)
  else !s.dieQueueOn (i - 100)

/-- QUIESCENCE (R406): a domain that is ON with a lower TARGET leaves ON once its condition holds. -/
def execQuiescence (i : Nat) (s : State) : Res :=
  let t := s.domTarget i
  if s.domOn i && decide (t < 2) && s.quiescent i t then .next (s.beginMove i (targetState t)) else .next s

/-! ## Transitions (R406, R412) -/

/-- The registers of one block instance return to their reset values, but for those an address test keeps. -/
def State.resetInstance (s : State) (base : Nat) (keep : Nat → Bool) : State :=
  { s with regs := s.regs.filter (fun r => !(decide (base ≤ r.1) && decide (r.1 < base + 0x10000)) || keep r.1) }

/-- A collective pair without what one of its engines held (R406): the pair's operations, places and READYs with engine a; the READYs of the minus
neighbours with engine a + 4. -/
def State.dropEngine (s : State) (n : Nat) : State :=
  let x : CeSt := sget (fun _ => {}) s.ces (n % 4)
  { s with ces := sset (fun _ => {}) s.ces (n % 4) (if n < 4 then {} else { x with readys := x.readys.filter (fun e => e.1 % 2 == 0) }) }

/-- What a collective engine keeps of CE_STATUS (R406): its breaks. -/
def State.resetCe (s : State) (n : Nat) : State :=
  let a := s.fld (CE_STATUS n) CE_STATUS_BREAK_A
  let b := s.fld (CE_STATUS n) CE_STATUS_BREAK_B
  let c := s.fld (CE_STATUS n) CE_STATUS_BREAK_COUNT
  let s := s.resetInstance (CE_STATUS n) (fun _ => false)
  ((s.setFld (CE_STATUS n) CE_STATUS_BREAK_A a).setFld (CE_STATUS n) CE_STATUS_BREAK_B b).setFld (CE_STATUS n) CE_STATUS_BREAK_COUNT c

/-- A bank group's contents are lost, and zero when it returns (R406, 09 R209). -/
def State.zeroRegion (s : State) (r : Nat) : State :=
  (regionTiles r).foldl (fun s t =>
    { s with mem := cellsZero s.mem (sramBase t) 0x100000
             ue := s.ue.filter (fun u => !(decide (sramBase t ≤ u) && decide (u < sramBase t + 0x100000))) }) s

/-- Every queue of a die returns to its reset state (R406, 10 R227). -/
def State.resetQueues (s : State) (d : Nat) : State :=
  { s with queues := s.queues.filter (fun e => e.1 / 16384 != d), hubStart := s.hubStart.filter (fun e => e.1 / 16384 != d) }

/-- What a domain loses as its supply goes (R406). -/
def State.loseDomain (s : State) (i : Nat) : State :=
  if i < 32 then ((regionTiles i).foldl (fun s t => s.resetTile t false) s).restartCounters i
  else if i < 64 then s.zeroRegion (i - 32)
  else if i < 72 then
    let n := i - 64
    let s := ((List.range 4).foldl (fun s j => s.wr (HB_LANE n j) 0) (s.zeroStack n)).restartCounters i
    if s.stackFailed n then s else s.setFld (HB_STATUS n) HB_STATUS_STATE 0
  else if i < 82 then (((s.disablePort (i - 72)).purgePort (i - 72)).storageLoss (i - 72)).restartCounters i
  else if i < 84 then
    let m := i - 82
    if s.fld (UC_STATUS m) UC_STATUS_STATE = 0 then s else (s.setLink m 0).ucErr m UC_ERR_LINK_DOWN
  else if i < 92 then (s.resetInstance (AV_STATUS (i - 84)) (fun _ => false)).restartCounters i
  else if i < 100 then ((s.resetCe (i - 92)).dropEngine (i - 92)).restartCounters i
  else s.resetQueues (i - 100)

/-- A UCIe module's training has ended (10 R241, R250). -/
def State.ucTrained (s : State) (m : Nat) (o : UcieTraining) : State :=
  match o with
  | .failed => (s.setLink m 0).ucErr m UC_ERR_LINK_DOWN
  | .trained x64 rate repaired =>
    let old := s.rd (UC_STATUS m)
    let s := (s.setFld (UC_STATUS m) UC_STATUS_WIDTH (if x64 then 64 else 32)).setFld (UC_STATUS m) UC_STATUS_RATE (32 - 8 * rate.val)
    let s := (s.setFld (UC_STATUS m) UC_STATUS_REPAIRED repaired.val).setFld (UC_STATUS m) UC_STATUS_STATE (if x64 && rate.val == 0 then 2 else 3)
    s.linkNews m old

/-- The link has come up: pending vectors are sent (10 R247, R250). -/
def State.sendPending (s : State) : State :=
  (List.range 2048).foldl (fun s v =>
    if s.flag (UC_MSI_DATA 0 v) UC_MSI_DATA_PENDING && !s.flag (UC_MSI_DATA 0 v) UC_MSI_DATA_MASK then
      (s.setFld (UC_MSI_DATA 0 v) UC_MSI_DATA_PENDING 0).sendMsi v
    else s) s

/-- A transition that cannot complete (R412). -/
def State.transitionFail (s : State) (i old new : Nat) : State := (s.pdErr PD_ERR_TRANSITION_FAIL).powerEvent i old new 1

/-- A domain reaches a state: the count (but for a transition that could not complete), its counters, the events, the waits that end (R406, R411, R419), and what its votes now ask (R406). -/
def State.arrive (s : State) (i new : Nat) (failed : Bool) : State :=
  let old := sget (fun _ => 0) s.power.moving i
  let s := ({ s with power := { s.power with moving := sset (fun _ => 0) s.power.moving i 0 } }).setFld (PD_DOM i) PD_DOM_STATE new
  let s := if failed then s else s.addFld (PD_DOM i) PD_DOM_TRANSITIONS 1
  let s := if old = 1 ∧ new = 3 then s.zeroCounters i else s
  let s := if new = 3 then { s with waits := s.waits.filter (fun w => w.1 != i) } else s
  let s := if failed then s.transitionFail i old new else if old = 1 ∨ new = 1 then s.powerEvent i old new 0 else s
  let s := match s.power.exitEvent with
    | some e => if s.domOn 100 then
        ({ s with power := { s.power with exitEvent := none } }).postEvent none 0 0x0161 0xFFFF
          (leBytes 1 1 ++ leBytes 1 e.1 ++ zeros 6 ++ leBytes 4 e.2.1 ++ leBytes 4 e.2.2)
      else s
    | none => s
  s.retargetAll

/-- What a domain that comes up is waiting for: a region its bank group, an Anvil unit the stacks it serves (R408). -/
def State.risesLater (s : State) (i : Nat) : Bool :=
  if i < 32 then !s.domOn (32 + i)
  else if 84 ≤ i ∧ i < 92 then (List.range 8).any (fun k => bit (s.fuses.serves (i - 84)) k && !s.stackFailed k && !s.domOn (64 + k))
  else false

/-- A domain on its way to ON arrives, if its unit is ready (R406, R412). -/
def State.comeUp (s : State) (i : Nat) (o : UcieTraining) : State :=
  let fromOff := sget (fun _ => 0) s.power.moving i == 1
  if s.risesLater i then s
  else if 64 ≤ i ∧ i < 72 then
    let n := i - 64
    match s.fld (HB_STATUS n) HB_STATUS_STATE with
    | 3 => s.arrive i 3 false
    | 4 => (s.setFld (HB_STATUS n) HB_STATUS_STATE 3).arrive i 3 false
    | 5 => ({ s with power := { s.power with failed := putBits s.power.failed i i 1 } }).arrive i 1 true
    | _ => s
  else if 72 ≤ i ∧ i < 82 then
    let st := s.klState (i - 72)
    if (1 ≤ st ∧ st ≤ 4) ∨ st = 9 then s
    else s.arrive i 3 (fromOff && st == 7 && s.fld (KL_STATUS (i - 72)) KL_STATUS_CAUSE != 1)
  else if i = 82 ∨ i = 83 then
    if fromOff then
      let s := (s.ucTrained (i - 82) o).arrive i 3 (o == .failed)
      if o == .failed || i == 83 then s else s.sendPending
    else s.arrive i 3 false
  else s.arrive i 3 false

/-- TRANSITION (R406, R412): the transition of a domain completes. -/
def execTransition (i : Nat) (training : UcieTraining) (s : State) : Res :=
  match s.domState i with
  | 4 => .next ((s.loseDomain i).arrive i 1 false)
  | 5 => if 64 ≤ i ∧ i < 72 ∧ s.fld (HB_STATUS (i - 64)) HB_STATUS_STATE = 3 then .next s else .next (s.arrive i 2 false)
  | 6 => .next (s.comeUp i training)
  | _ => .next s

end Sys2Proof.Machine
end

