-- ==== Sys2Proof/Machine/Zenith.lean ====
section
/-! DEFINITION. Zenith time: announcements and the election, windows and discipline, the external reference, frames and time
outputs, and the Overcast stop (14_zenith_time.md R334 to R360). -/
namespace Sys2Proof.Machine

/-- A context that ZN_ registers accept writes from (R359). -/
def znWriter : Ctx → Bool | .module => true | .welkin => true | _ => false

/-- A TIME or STOP packet to the partner of a torus port (R346). -/
def State.znPacket (s : State) (n kind src data : Nat) : Packet :=
  ⟨mkHdr (s.fld (KL_PLAN n) KL_PLAN_PEER_COORD) src 0 0 0 false true kind 0 0 data, []⟩

/-- The torus ports that carry Zenith traffic. -/
def State.zenithPorts (s : State) : List Nat := (List.range 8).filter (fun n => s.zenithPort n)

/-- Zenith replaced. -/
def State.setZn (s : State) (z : ZenithSt) : State := { s with zenith := z }

/-- The first TIME packet with a SUB, from the ports that may carry it; the packets before it stay. -/
def State.timeIn (s : State) (sub : Nat) : Option (Nat × Packet × State) :=
  match (s.inboxOf 6).find? (fun e => e.2.data % 16 == sub) with
  | none => none
  | some e => some (e.1, e.2, s.setInbox 6 ((s.inboxOf 6).erase e))

/-! ## Announcements (R340) -/

/-- The state that this module announces: 4 for the root (R346). -/
def State.shownState (s : State) : Nat := if s.flag ZN_STATUS ZN_STATUS_ROOT then 4 else s.znState

/-- ANNOUNCE_SEND (R340): every 125 µs the best candidate goes out on every port that carries Zenith traffic. -/
def execAnnounceSend (s : State) : Res :=
  if sget (fun _ => 0) s.zenith.annSent 0 ≤ s.zt then
    let s := s.setZn { s.zenith with annSent := sset (fun _ => 0) s.zenith.annSent 0 (s.zt + 125000) }
    let s := s.elect
    match s.bestCand with
    | none => .next s
    | some b =>
      let hops := if s.flag ZN_STATUS ZN_STATUS_ROOT then 0 else s.fld ZN_STATUS ZN_STATUS_HOPS
      let data := 0 + b.1 * 2 ^ 4 + b.2.1 * 2 ^ 6 + hops * 2 ^ 14 + b.2.2 * 2 ^ 22 + s.shownState * 2 ^ 86
      .next (s.zenithPorts.foldl (fun s n => s.sendLinkLocal n (s.znPacket n 6 s.coord data)) s)
  else .next s

/-- ANNOUNCE (R340, R346): a received announcement is kept for its port, and the election runs. -/
def execAnnounce (s : State) : Res :=
  match s.timeIn 0 with
  | none => .next s
  | some (n, k, s) =>
    if !s.zenithPort n then .next s
    else
      let d := k.data
      let a : Announce := ⟨bits d 5 4, bits d 13 6, bits d 21 14, bits d 85 22, bits d 88 86, s.zt⟩
      .next (s.setZn { s.zenith with anns := sset (fun _ => none) s.zenith.anns n (some a) }).elect

/-- PARENT_TIMEOUT (R340): the parent port has not announced for 375 µs. -/
def execParentTimeout (s : State) : Res :=
  match s.znParent with
  | none => .next s
  | some p => if s.liveAnns.any (fun e => e.1 == p) then .next s else .next s.elect

/-! ## Windows and discipline (R343) -/

/-- A quotient rounded to one of its two neighbours, the free number says which (the spec gives no rounding). -/
def looseDiv (num : Int) (den free : Nat) : Int := (num + ((free % max den 1 : Nat) : Int)) / ((max den 1 : Nat) : Int)

/-- A window's mean in 2^−8 ns. -/
def ZnWindow.mean (w : ZnWindow) (free : Nat) : Int := looseDiv (w.sum * 256) w.count free

/-- The window that ended last. -/
def State.lastWindow (s : State) : Nat := s.zt / 1000 * 1000 - 1000

/-- TIME_SYNC_SEND (R343, R346): every 16 µs the mean of the newest window of a port goes to its partner. -/
def execTimeSyncSend (n : Nat) (s : State) : Res :=
  if s.zenithPort n && decide (sget (fun _ => 0) s.zenith.syncSent n ≤ s.zt) && decide (1000 ≤ s.zt) then
    let s := s.setZn { s.zenith with syncSent := sset (fun _ => 0) s.zenith.syncSent n (s.zt + 16000) }
    let w := s.lastWindow
    let asym := s.fld (ZN_CAL_ASYM n) ZN_CAL_ASYM_EFFECTIVE
    let (v, s) := s.fresh
    let (mean, valid) := match (sget (fun _ => []) s.zenith.windows n).find? (fun x => x.start == w) with
      | some x => (unsignedOf 32 (x.mean v), 1)
      | none => (0, 0)
    .next (s.sendLinkLocal n (s.znPacket n 6 s.coord (1 + w % 2 ^ 64 * 2 ^ 4 + mean * 2 ^ 68 + asym * 2 ^ 100 + valid * 2 ^ 116)))
  else .next s

/-- TIME_SYNC (R343, R346): a valid SYNC of the parent whose window this module also has, among its last 16, is kept. -/
def execTimeSync (s : State) : Res :=
  match s.timeIn 1 with
  | none => .next s
  | some (n, k, s) =>
    let d := k.data
    let w := bits d 67 4
    let own := (sget (fun _ => []) s.zenith.windows n).filter (fun x => decide (x.start + 1000 ≤ s.zt) && decide (s.zt / 1000 ≤ x.start / 1000 + 16))
    match own.find? (fun x => x.start == w) with
    | some x =>
      if s.zenithPort n && s.znParent == some n && bit d 116 then
        let (v, s) := s.fresh
        let asym := signed 16 (s.fld (ZN_CAL_ASYM n) ZN_CAL_ASYM_EFFECTIVE) - signed 16 (bits d 115 100)
        .next (s.setZn { s.zenith with pairs := sset (fun _ => none) s.zenith.pairs n (some ⟨w, x.mean v, signed 32 (bits d 99 68), asym⟩) })
      else .next s
    | none => .next s

/-- θ of a pair in 2^−8 ns (R343): the means' difference less the asymmetry in ps, halved. -/
def SyncPair.theta (p : SyncPair) (free : Nat) : Int := looseDiv ((p.own - p.parent) * 1000 - p.asym * 256) 2000 free

/-- THETA and MAX_ABS (R359). -/
def State.setTheta (s : State) (x : Int) : State :=
  let s := s.setFld ZN_OFFSET ZN_OFFSET_THETA (unsignedOf 32 x)
  if s.fld ZN_OFFSET ZN_OFFSET_MAX_ABS < x.natAbs then s.setFld ZN_OFFSET ZN_OFFSET_MAX_ABS (sat 32 x.natAbs) else s

/-- A correction against an offset: of the other sign, its size free up to a limit in 10^−9 (R343). -/
def slewRate (off : Int) (limit free : Nat) : Int :=
  let m : Int := ((free % (limit + 1) : Nat) : Int)
  if off = 0 then 0 else if 0 < off then -m else m

/-- A step forward by some ps (R334): what was measured before it is void. -/
def State.stepBy (s : State) (ps : Nat) : State :=
  let t := s.zenith.acc * 1000 + ps * 10 ^ 9
  let z : ZenithSt := { s.zenith with
    acc := t / 1000 % 10 ^ 9
    stepped := true
    windows := []
    pairs := []
    theta := none
    rate := 0
    quiet := 0 }
  { s with zt := (s.zt + t / 1000 / 10 ^ 9) % 2 ^ 64, zenith := z }

/-- A follower in ACQUIRE takes its parent's time once (R343): it steps forward, or slews back where it is ahead, since the counter
never decreases (R334). -/
def State.takeTime (s : State) (p : Nat) : State :=
  match (sget (fun _ => []) s.zenith.windows p).find? (fun x => x.start == s.lastWindow) with
  | none => s
  | some w =>
    let off := w.sum * 1000 - ((s.fld (KL_DELAY p) KL_DELAY_ROUND_TRIP_PS / 2 : Nat) : Int) * ((w.count : Nat) : Int)
    let ahead := off / ((max w.count 1 : Nat) : Int)
    if ahead < 0 then
      s.stepBy (-ahead).toNat
    else if ahead < 1000000 then s.setZn { s.zenith with stepped := true }
    else
      let (v, s) := s.fresh
      s.setZn { s.zenith with rate := slewRate 1 100000 v }

/-- A follower with a parent: a new pair gives θ; its rate follows within the limit of its state; 64 windows in a row that were measured
below 2 ns, behind a parent that is LOCKED or the root, lock it. -/
def State.follow (s : State) (p : Nat) : State :=
  match sget (fun _ => none) s.zenith.pairs p with
  | none => s
  | some x =>
    let (v, s) := s.fresh
    let th := x.theta v
    let s := (s.setTheta th).setZn { s.zenith with theta := some th, pairs := sset (fun _ => none) s.zenith.pairs p none }
    let (u, s) := s.fresh
    let z := s.zenith
    let rate := slewRate th (if s.znState = 1 then 100000 else 10000) u
    let avg := if s.znState = 2 then z.avg + looseDiv ((rate - z.avg) * ((v % 1001 : Nat) : Int)) 1000 u else z.avg
    let quiet := if th.natAbs < 512 then z.quiet + 1 else 0
    let s := s.setZn { z with rate := rate, avg := avg, quiet := quiet }
    let parent := match sget (fun _ => none) s.zenith.anns p with | some a => a.state | none => 0
    if 64 ≤ quiet ∧ (s.znState = 1 ∨ s.znState = 3) ∧ (parent = 2 ∨ parent = 4) then s.setZnState 2 else s

/-- WINDOW (R343): the end of a window of 1 µs. -/
def execWindow (s : State) : Res :=
  let w := s.zt / 1000
  if w ≤ s.zenith.lastWin then .next s
  else
    let s := s.setZn { s.zenith with lastWin := w }
    match s.znParent with
    | some p =>
      let parent := match sget (fun _ => none) s.zenith.anns p with | some a => a.state | none => 0
      if s.znState = 1 ∧ s.zenith.stepped = false then .next (if parent = 0 then s else s.takeTime p)
      else .next (s.follow p)
    | none => .next (if s.znState = 3 then s.setZn { s.zenith with rate := s.zenith.avg } else s)

/-- Entering ACQUIRE (R343). -/
def State.acquire (s : State) : State :=
  let s := s.setZnState 1
  s.setZn { s.zenith with stepped := false, theta := none, pairs := [], quiet := 0 }

/-- REACQUIRE (R343): refused while a partition's image is ACTIVE, ARMED or SWITCHING. -/
def State.reacquire (s : State) : State :=
  if s.frameWork then s.znErr ZN_ERR_STEP_REFUSED
  else s.acquire

def execReacquire (ctx : Ctx) (s : State) : Res := .next (if znWriter ctx then s.reacquire else s.accessError ctx ZN_CTRL)

/-! ## The external reference (R341, R342) -/

/-- QUALITY changes, and the election with it. -/
def State.setQuality (s : State) (q : Nat) : State :=
  if s.fld ZN_STATUS ZN_STATUS_QUALITY = q then s else (s.setFld ZN_STATUS ZN_STATUS_QUALITY q).elect

/-- ZN_NEXT_SEC (R341): the second that the next edge marks. -/
def State.nextSecond (s : State) (v : Nat) : State := s.setZn { s.zenith with nextSec := some (v % 2 ^ 64) }

def execZnNextSec (ctx : Ctx) (value : Word) (s : State) : Res :=
  .next (if znWriter ctx then s.nextSecond value.toNat else s.accessError ctx ZN_NEXT_SEC)

/-- The reference is lost: QUALITY falls to HOLDOVER where it was locked (R341), and the root keeps the frequency averaged over its lock; one that
never locked runs on its oscillator's trim (R342). -/
def State.refLost (s : State) : State :=
  let rate := if s.fld ZN_STATUS ZN_STATUS_QUALITY = 0 then 0 else s.zenith.avg
  let s := (s.znErr ZN_ERR_REF_LOST).setZn { s.zenith with badEdges := 0, goodEdges := 0, lastEdge := 0, rate := rate }
  if s.fld ZN_STATUS ZN_STATUS_QUALITY = 2 then s.setQuality 1 else s

/-- An edge taken, at an offset in ps from the second that it marks, and a deviation from the second that was expected. -/
def State.takeEdge (s : State) (sec at_ : Nat) (off dev : Int) (named : Bool) : State :=
  let z := s.zenith
  let slew := if named && decide (1000000 < off.natAbs) then 1 else if off.natAbs < 1000000 then 0 else s.fld ZN_STATUS ZN_STATUS_TOD_SLEW
  let s := if named then s.setFld ZN_STATUS ZN_STATUS_TOD_VALID 1 else s
  let near := decide (dev.natAbs ≤ 10000)
  let good := if near then z.goodEdges + 1 else 0
  let s := s.setZn { z with nextSec := none, edgeSec := some sec, edgeAt := at_, goodEdges := good, badEdges := 0, lastEdge := s.zt }
  if named && s.znState == 1 && decide (off < 0) then
    let s := (s.stepBy off.natAbs).setZn { (s.stepBy off.natAbs).zenith with edgeAt := sec * 10 ^ 9 }
    (s.setFld ZN_STATUS ZN_STATUS_TOD_SLEW 0).setZnState 4
  else
    let s := if named && s.znState == 1 then s.setZnState 4 else s
    let s := s.setFld ZN_STATUS ZN_STATUS_TOD_SLEW slew
    let (v, s) := s.fresh
    let rate := slewRate off 10000 v
    let s := if 8 ≤ good then s.setQuality 2 else s
    let mean := s.zenith.avg + looseDiv ((rate - s.zenith.avg) * ((v % 1001 : Nat) : Int)) 1000 v
    s.setZn { s.zenith with rate := rate, avg := if s.fld ZN_STATUS ZN_STATUS_QUALITY = 2 then mean else s.zenith.avg }

/-- REF_PPS_IN (R341): a rising edge at the pin, measured against the counter less the effective PPS_IN delay. -/
def execRefPpsIn (s : State) : Res :=
  if !(s.flag ZN_STATUS ZN_STATUS_ROOT && s.flag ZN_REF_CFG ZN_REF_CFG_PPS_EN) then .next s
  else
    let z := s.zenith
    let m : Int := ((s.zt * 1000 + z.acc / 10 ^ 6 : Nat) : Int) - signed 16 (s.fld ZN_CAL_PPS_IN ZN_CAL_PPS_IN_EFFECTIVE)
    let at_ := (m / 1000).toNat
    match z.nextSec with
    | some sec => .next (s.takeEdge sec at_ (m - ((sec * 10 ^ 12 : Nat) : Int)) (m - ((sec * 10 ^ 12 : Nat) : Int)) true)
    | none =>
      let slewing := s.flag ZN_STATUS ZN_STATUS_TOD_SLEW
      let whole := (at_ + 500000000) / 10 ^ 9
      let sec := if slewing then (match z.edgeSec with | some x => x + 1 | none => whole) else whole
      let expected : Int := if slewing then (((z.edgeAt + 10 ^ 9) * 1000 : Nat) : Int) else ((whole * 10 ^ 12 : Nat) : Int)
      if (m - expected).natAbs ≤ 1000000 then .next (s.takeEdge sec at_ (m - ((sec * 10 ^ 12 : Nat) : Int)) (m - expected) false)
      else
        let s := (s.addFld ZN_REF_CFG ZN_REF_CFG_MISSED_EDGES 1).setZn { z with badEdges := z.badEdges + 1, goodEdges := 0, lastEdge := s.zt }
        .next (if 3 ≤ s.zenith.badEdges then s.refLost else s)

/-- REF_LOST (R341): 2 s without an edge. -/
def execRefLost (s : State) : Res :=
  if s.flag ZN_STATUS ZN_STATUS_ROOT && s.flag ZN_REF_CFG ZN_REF_CFG_PPS_EN && s.zenith.lastEdge != 0 &&
      decide (s.zenith.lastEdge + 2000000000 < s.zt) then .next s.refLost
  else .next s

/-! ## Time outputs (R349, R350) -/

/-- The second whose edge is due at the pin: the counter with the effective PPS_OUT advance (R349, R351). -/
def State.ppsSecond (s : State) : Nat :=
  ((((s.zt * 1000 + s.zenith.acc / 10 ^ 6 : Nat) : Int) + signed 16 (s.fld ZN_CAL_PPS_OUT ZN_CAL_PPS_OUT_EFFECTIVE)) / (10 ^ 12 : Nat)).toNat

/-- PPS_OUT (R349): the edge of a whole second, driven early by the PPS_OUT advance so that it leaves the pin at that second; the pin goes high where
PPS_EN is set and the state is LOCKED, HOLDOVER or root. -/
def execPpsOut (s : State) : Res :=
  let sec := s.ppsSecond
  if sec ≤ s.zenith.ppsAt then .next s
  else
    let s := s.setZn { s.zenith with ppsAt := sec }
    if s.flag ZN_OUT_CFG ZN_OUT_CFG_PPS_EN && (s.shownState == 2 || s.shownState == 3 || s.shownState == 4) then
      .next { s.setZn { s.zenith with todFor := some sec } with out := s.out ++ [Output.pps (sec * 10 ^ 9)] }
    else .next s

/-- One bit of the CRC of R350, and one byte. -/
def crcBit (c : Nat) : Nat := if c / 32768 % 2 = 1 then (c * 2 % 65536) ^^^ 0x1021 else c * 2 % 65536
def crcByte (c : Nat) (b : Byte) : Nat :=
  crcBit (crcBit (crcBit (crcBit (crcBit (crcBit (crcBit (crcBit (c ^^^ b.toNat * 256))))))))
def crc16 (l : List Byte) : Nat := l.foldl crcByte 0xFFFF

/-- The timecode of an edge (R350); ERR_NS is an estimate that the spec leaves to the module. -/
def State.timecode (s : State) (sec err : Nat) : List Byte :=
  let root := s.flag ZN_STATUS ZN_STATUS_ROOT
  let rootQ := match s.bestCand with | some b => b.1 | none => 0
  let flags := s.fld ZN_STATUS ZN_STATUS_TOD_VALID + 2 * b2n root + 4 * b2n (rootQ == 2) + 8 * b2n (s.znState == 3 || rootQ == 1)
  let b := leBytes 1 0x5A ++ leBytes 1 0xA5 ++ leBytes 1 1 ++ leBytes 1 flags ++ leBytes 8 sec ++ leBytes 1 s.shownState ++
    leBytes 1 (if root then 0 else s.fld ZN_STATUS ZN_STATUS_HOPS) ++ leBytes 2 (err % 65536) ++ leBytes 8 (s.rd ZN_ROOT) ++ leBytes 4 s.coord ++ zeros 2
  b ++ leBytes 2 (crc16 b)

/-- TOD_OUT (R350): 10 ms after a PPS_OUT edge. -/
def execTodOut (s : State) : Res :=
  match s.zenith.todFor with
  | none => .next s
  | some sec =>
    if s.zt < sec * 10 ^ 9 + 10000000 then .next s
    else
      let s := s.setZn { s.zenith with todFor := none }
      if s.flag ZN_OUT_CFG ZN_OUT_CFG_TOD_EN then
        let (v, s) := s.fresh
        .next { s with out := s.out ++ [Output.timecode (s.timecode sec v)] }
      else .next s

/-! ## Frames (R347) -/

/-- A frame-signal slot at a boundary: its tile is signalled, or the boundary counts as missed. -/
def State.frameSlot (s : State) (p k : Nat) : State :=
  let r := ZN_FRAME_SIG p k
  let t := s.fld r ZN_FRAME_SIG_TILE
  if !s.flag r ZN_FRAME_SIG_ENABLE then s
  else if s.stopHolds (some p) || !(decide (t < 2048) && s.tileOwner t == some p && s.physUsable (s.physOf t)) then
    s.addFld (ZN_FRAME_COUNT p) ZN_FRAME_COUNT_MISSED 1
  else (s.sendSig { src := 0x10020, dst := t, obj := 128 + s.fld r ZN_FRAME_SIG_COUNTER, op := 3, value := 1 }).addFld (ZN_FRAME_COUNT p)
    ZN_FRAME_COUNT_FRAMES 1

/-- FRAME_BOUNDARY (R347): the next frame boundary of a partition with an ACTIVE image has come. -/
def execFrameBoundary (p : Nat) (s : State) : Res :=
  match s.flag (SI_STATUS p) SI_STATUS_ACTIVE, (s.part p).active with
  | true, some img =>
    let f := sget (fun _ => 0) s.zenith.frameAt p
    if f * (img.head.frameUs * 1000) ≤ s.zt then
      let s := s.setZn { s.zenith with frameAt := sset (fun _ => 0) s.zenith.frameAt p (f + 1) }
      .next ((List.range 4).foldl (fun s k => s.frameSlot p k) s)
    else .next s
  | _, _ => .next s

/-! ## The Overcast stop (R352 to R358) -/

/-- KIND_DATA of a STOP packet (R352). -/
def StopOrder.data (o : StopOrder) : Nat :=
  o.t + o.id * 2 ^ 64 + o.scope * 2 ^ 96 + b2n o.all * 2 ^ 104 + o.action * 2 ^ 105 + b2n o.immediate * 2 ^ 107

/-- The order of a STOP packet. -/
def stopOrderOf (k : Packet) : StopOrder :=
  let d := k.data
  { t := bits d 63 0, id := bits d 95 64, scope := bits d 103 96, all := bit d 104, action := bits d 106 105, immediate := bit d 107, origin := k.src }

/-- A STOP goes to the partner of every port that carries Zenith traffic, but for one (R352). -/
def State.flood (s : State) (o : StopOrder) (from_ : Nat) : State :=
  (s.zenithPorts.filter (fun n => n != from_)).foldl (fun s n => s.sendLinkLocal n (s.znPacket n 7 o.origin o.data)) s

/-- Hops between two modules by ring distance (R288, R290). -/
def State.hopsTo (s : State) (c : Nat) : Nat :=
  ((List.range 4).map (fun a =>
    let l := max (s.ringSize a) 1
    let d := (coordAt c a + l - coordAt s.coord a % l) % l
    min d (l - d))).sum

/-- This module's bound on the spread of an immediate or late cut (R353, R357); the flight times of other modules' links are free. -/
def State.smear (s : State) (o : StopOrder) : Nat × State :=
  let d := s.hopsTo o.origin
  if d = 0 && o.kind != 2 then (400, s)
  else
    let (v, s) := s.fresh
    ((400 + 250 * d + (if o.kind = 2 then s.zt - o.t else 0) + v) % 2 ^ 32, s)

/-- The partitions that a stop holds: every one where it stops the module (R352, R359). -/
def StopOrder.holds (o : StopOrder) : Nat := if o.all then 0xFF else o.scope

/-- The scope stops now (R354): bits of STOPPED, or ALL; a stop that is not at its T sets STOP_LATE. -/
def State.applyStop (s : State) (o : StopOrder) : State :=
  let r := ZN_STOP_STATE
  let s := s.setFld r ZN_STOP_STATE_STOPPED (s.fld r ZN_STOP_STATE_STOPPED ||| o.holds)
  let s := if o.all then s.setFld r ZN_STOP_STATE_ALL 1 else s
  let (m, s) := if o.kind = 0 then (0, s) else s.smear o
  let s := if o.kind = 0 then s else s.znErr ZN_ERR_STOP_LATE
  let o := { o with stoppedAt := some (if o.kind = 0 then o.t else s.zt), smear := m }
  s.setZn { s.zenith with orders := s.zenith.orders.filter (fun x => x.id != o.id) ++ [o] }

/-- The partitions, or the module, that a RESUME names are stopped (R356). -/
def State.resumable (s : State) (o : StopOrder) : Bool :=
  let scope := s.fld ZN_STOP_STATE ZN_STOP_STATE_STOPPED
  (!o.all || s.flag ZN_STOP_STATE ZN_STOP_STATE_ALL) && (o.scope &&& scope) == o.scope && (o.all || o.scope != 0)

/-- A module acts on an order that it has not seen among its last 8 (R352, R353, R356, R357). -/
def State.actOnStop (s : State) (o : StopOrder) : State :=
  let s := s.setZn { s.zenith with seen := (o.id :: s.zenith.seen).take 8 }
  let s := s.setFld ZN_STOP_STATE ZN_STOP_STATE_LAST_ID o.id
  if o.action = 1 then
    (if s.resumable o then s.setZn { s.zenith with orders := s.zenith.orders ++ [o] } else s.znErr ZN_ERR_STOP_REFUSED)
  else if o.immediate then s.applyStop { o with kind := 1 }
  else if o.t ≤ s.zt then s.applyStop { o with kind := 2 }
  else s.setZn { s.zenith with orders := s.zenith.orders ++ [o] }

/-- An order with the scope that ZN_STOP_SCOPE holds. -/
def State.ownOrder (s : State) (action : Nat) (immediate : Bool) (t : Nat) : StopOrder :=
  { t := t
    id := s.zenith.nextId
    scope := s.fld ZN_STOP_SCOPE ZN_STOP_SCOPE_SCOPE
    all := s.flag ZN_STOP_SCOPE ZN_STOP_SCOPE_ALL
    action := action
    immediate := immediate
    origin := s.coord }

/-- An order of this module: an identifier of its own, acted on and flooded. -/
def State.originate (s : State) (action : Nat) (immediate : Bool) (t : Nat) : State :=
  let o := s.ownOrder action immediate t
  ((s.setZn { s.zenith with nextId := (s.zenith.nextId + 1) % 2 ^ 32 }).actOnStop o).flood o 0xFF

/-- T is too near (R352). -/
def State.leadShort (s : State) : Bool := decide (s.rd ZN_STOP_T < s.zt + s.fld ZN_STOP_LEAD ZN_STOP_LEAD_LEAD_US * 1000)

/-- ZN_STOP_CMD STOP. -/
def State.orderStop (s : State) : State := if s.leadShort then s.znErr ZN_ERR_STOP_REFUSED else s.originate 0 false (s.rd ZN_STOP_T)

/-- ZN_STOP_CMD RESUME: refused for a scope that is not stopped (R356). -/
def State.orderResume (s : State) : State :=
  if s.leadShort || !s.resumable (s.ownOrder 1 false 0) then s.znErr ZN_ERR_STOP_REFUSED else s.originate 1 false (s.rd ZN_STOP_T)

/-- STOP (R352). -/
def execStop (ctx : Ctx) (s : State) : Res := .next (if znWriter ctx then s.orderStop else s.accessError ctx ZN_STOP_CMD)

/-- ZN_RESUME (R356). -/
def execZnResume (ctx : Ctx) (s : State) : Res := .next (if znWriter ctx then s.orderResume else s.accessError ctx ZN_STOP_CMD)

/-- IMMEDIATE (R357): from Welkin alone. -/
def execImmediate (ctx : Ctx) (s : State) : Res :=
  .next (if ctx = .welkin then s.originate 0 true s.zt else s.accessError ctx ZN_STOP_CMD)

/-- STOP_PACKET (R352): a STOP_ID not among the last 8 is acted on and sent on; repeats are consumed. -/
def execStopPacket (s : State) : Res :=
  match s.inboxOf 7 with
  | [] => .next s
  | (n, k) :: rest =>
    let s := s.setInbox 7 rest
    let o := stopOrderOf k
    if !s.zenithPort n || s.zenith.seen.contains o.id then .next s else .next ((s.actOnStop o).flood o n)

/-- STOP_AT_T (R354): the first scheduled stop whose T has come. -/
def execStopAtT (s : State) : Res :=
  match s.zenith.orders.find? (fun o => o.action == 0 && o.stoppedAt.isNone && decide (o.t ≤ s.zt)) with
  | none => .next s
  | some o => .next (s.applyStop o)

/-- Packets of a scope held at a port (R358). -/
def State.heldAt (s : State) (n : Nat) (o : StopOrder) : Nat :=
  ((List.range 10).map (fun c => ((s.rxAt n c).filter (fun k => !k.isModule && (o.all || bit o.scope k.part))).length)).sum

/-- The stop record (R358). -/
def State.stopRecord (s : State) (o : StopOrder) : List Byte :=
  leBytes 4 o.id ++ leBytes 1 o.kind ++ leBytes 1 o.scope ++ leBytes 1 (b2n o.all) ++ zeros 1 ++ leBytes 8 o.t ++
  leBytes 8 (match o.stoppedAt with | some t => t | none => 0) ++ leBytes 8 s.zt ++ leBytes 4 o.origin ++ leBytes 4 o.smear ++
  ((List.range 10).flatMap (fun n => leBytes 2 (s.heldAt n o))) ++ zeros 4

/-- T_QUIET (R354, R358): requests issued before T have completed; the record is written, logged and posted. -/
def execTQuiet (s : State) : Res :=
  match s.zenith.orders.find? (fun o => o.action == 0 && o.stoppedAt.isSome && !o.written) with
  | none => .next s
  | some o =>
    let a := s.fld ZN_STOP_REC_ADDR ZN_STOP_REC_ADDR_ADDR / 64 * 64
    if a ≠ 0 ∧ memExtent a 64 = true ∧ s.memOn a 64 = false then .next (s.holdAccess 0x30000 a)
    else
      let b := s.stopRecord o
      let s := if a ≠ 0 ∧ memExtent a 64 = true then (s.store a b ⟨7, 0xFFFF, 0, none, some 0⟩).1 else s
      let s := s.setZn { s.zenith with orders := s.zenith.orders.map (fun x => if x.id = o.id ∧ x.action = 0 then { x with written := true } else x) }
      let s := s.postEvent none 0 0x0141 0xFFFF (b.take 0x30)
      .next (((List.range 8).filter (fun p => (o.all || bit o.scope p) && (s.part p).active.isSome)).foldl
        (fun s p => s.postEvent (some p) 0 0x0141 0xFFFF (b.take 0x30)) s)

/-- Timeouts of a scope's units are extended by the length of its stop (R355). -/
def State.extendScope (s : State) (mine : Option Nat → Bool) (len : Nat) : State :=
  let ports := s.ports.map (fun e => (e.1, { e.2 with reqs := e.2.reqs.map (fun (r : StorageReq) => if mine r.owner then { r with last := r.last + len } else r) }))
  let later := fun (c : CeSt) =>
    let ops := c.ops.map (fun (o : CeOp) => if mine (some o.part) then { o with last := o.last + len } else o)
    let places := c.places.map (fun (x : PermPlace) => if mine (some x.part) then { x with first := x.first + len } else x)
    { c with ops := ops, places := places }
  let ces := s.ces.map (fun e => (e.1, later e.2))
  let extra := (List.range 8).foldl (fun m p => if mine (some p) then sset (fun _ => 0) m p (sget (fun _ => 0) m p + len) else m) s.router.extra
  { s with ports := ports, ces := ces, router := { s.router with extra := extra } }

/-- A Zenith-timed action that fell due while its partition was stopped (R355): a contribution deadline, T_act, T_sw. -/
inductive Due
  | deadline (axis no : Nat)
  | act (p : Nat)
  | sw (p : Nat)
  deriving DecidableEq, Repr

/-- The actions of a partition that are overdue, with their times. -/
def State.overdue (s : State) (p : Nat) : List (Nat × Due) :=
  let ops := (List.range 4).flatMap (fun a => ((s.ce a).ops.filter (fun o => o.part == p && o.d.reduces && o.contrib.isNone && o.fault.isNone &&
    o.d.deadline != 0 && decide (o.d.deadline ≤ s.zt))).map (fun o => (o.d.deadline, Due.deadline a o.no)))
  ops ++ (if s.stage p = 3 ∧ s.rd (SI_ACT_TIME p) ≤ s.zt then [(s.rd (SI_ACT_TIME p), Due.act p)] else []) ++
  (if s.epochState p = 1 ∧ s.rd (RT_SWITCH_AT p) ≤ s.zt then [(s.rd (RT_SWITCH_AT p), Due.sw p)] else [])

/-- An action put into its place by time, after those of the same time. -/
def insertDue (x : Nat × Due) : List (Nat × Due) → List (Nat × Due)
  | [] => [x]
  | y :: t => if x.1 < y.1 then x :: y :: t else y :: insertDue x t

/-- An overdue action is carried out. -/
def State.doDue (s : State) (d : Due) : State :=
  let r : Res := match d with
    | .act p => if (s.part p).unloading then execUnloadSwitch p s else execActivation p s
    | .sw p => execTSw p s
    | .deadline a no =>
      match s.opNo a no with
      | none => .next s
      | some o => execDeadline a o.part (((s.ce a).ops.filter (fun x => x.part == o.part)).findIdx (fun x => x.no == no)) s
  match r with | .next s' => s' | _ => s

/-- What fell due for some partitions while they were stopped is carried out in the order of its time (R355). -/
def State.catchUp (s : State) (parts : List Nat) : State :=
  ((parts.flatMap (fun p => s.overdue p)).foldl (fun l x => insertDue x l) []).foldl (fun s x => s.doDue x.2) s

/-- What a RESUME leaves of the orders in force. -/
def resumeOrders (o : StopOrder) (l : List StopOrder) : List StopOrder :=
  (l.filter (fun x => !(x == o))).filterMap (fun x =>
    if x.action = 1 ∨ x.stoppedAt.isNone then some x
    else
      let y := { x with scope := x.scope &&& (0xFF - o.scope % 256), all := x.all && !o.all }
      if y.scope = 0 ∧ y.all = false then none else some y)

/-- RESUME_AT_T2 (R355, R356): the first resume whose time has come ends the stop of its scope; what other stops hold stays held. -/
def execResumeAtT2 (s : State) : Res :=
  match s.zenith.orders.find? (fun o => o.action == 1 && decide (o.t ≤ s.zt)) with
  | none => .next s
  | some o =>
    let r := ZN_STOP_STATE
    let stopped := s.zenith.orders.filter (fun x => x.action == 0 && x.stoppedAt.isSome)
    let since := fun (p : Nat) => (stopped.filter (fun x => bit x.holds p)).foldl (fun m x => min m (x.stoppedAt.getD s.zt)) s.zt
    let allSince := (stopped.filter (·.all)).foldl (fun m x => min m (x.stoppedAt.getD s.zt)) s.zt
    let was := s.fld r ZN_STOP_STATE_STOPPED
    let wasAll := s.flag r ZN_STOP_STATE_ALL
    let orders := resumeOrders o s.zenith.orders
    let held := (orders.filter (fun x => x.action == 0 && x.stoppedAt.isSome)).foldl (fun m x => m ||| x.holds) 0
    let s := s.setFld r ZN_STOP_STATE_STOPPED (was &&& held)
    let s := if o.all then s.setFld r ZN_STOP_STATE_ALL 0 else s
    let freed := (List.range 8).filter (fun p => bit was p && !bit held p)
    let s := freed.foldl (fun s p => s.extendScope (fun q => q == some p) (s.zt - since p)) s
    let s := if o.all && wasAll then s.extendScope (fun q => q == none) (s.zt - allSince) else s
    .next ((s.setZn { s.zenith with orders := orders }).catchUp freed)

end Sys2Proof.Machine
end

