-- ==== Sys2Proof/Machine/Welkin.lean ====
section
/-! DEFINITION. Welkin: its two request interfaces, the staging buffer, records and calibration, the event log and the plan, as its
requests share them (18_welkin_and_trust.md R420 to R440; 10 R248). -/
namespace Sys2Proof.Machine

/-! ## The block's own state (R440) -/

/-- WK_ERR bits with their event count (R9). -/
def State.wkErr (s : State) (f : Fld) : State := s.sticky WK_ERR f WK_ERR_EVENTS

/-- BOOT_STATE: 0 ROM, 1 VERIFYING, 2 RECOVERY, 3 RUNNING, 4 DRIZZLE. -/
def State.bootState (s : State) : Nat := s.fld WK_STATUS WK_STATUS_BOOT_STATE

/-- DEBUG by life-cycle state (R431): 0 CLOSED, 1 STATUS_ONLY, 2 OPEN. -/
def debugLevel (lc : Nat) : Nat := match lc with | 0 => 2 | 1 => 2 | 2 => 1 | 3 => 1 | 4 => 2 | _ => 0

/-- WK_STATUS as it reads: the fields that fuses and the buffer hold beside those of the register (R440). -/
def State.wkStatus (s : State) : Nat :=
  let own := match s.welkin.buffer with | none => 0 | some b => if b.i3c then 2 else 1
  let v := putBits (s.rd WK_STATUS) WK_STATUS_MIN_SVN.hi WK_STATUS_MIN_SVN.lo s.fuses.minSvn
  let v := putBits v WK_STATUS_BUF_OWNER.hi WK_STATUS_BUF_OWNER.lo own
  let v := putBits v WK_STATUS_DEBUG.hi WK_STATUS_DEBUG.lo (debugLevel s.fuses.lifecycle)
  let v := putBits v WK_STATUS_LC_PEND_VALID.hi WK_STATUS_LC_PEND_VALID.lo (b2n s.fuses.lcTarget.isSome)
  let v := putBits v WK_STATUS_LC_PENDING.hi WK_STATUS_LC_PENDING.lo (s.fuses.lcTarget.getD 0)
  putBits v WK_STATUS_LIFECYCLE.hi WK_STATUS_LIFECYCLE.lo s.fuses.lifecycle

/-- Welkin replaced. -/
def State.setWk (s : State) (w : WelkinSt) : State := { s with welkin := w }

/-- n bytes of the entropy source. -/
def State.drawBytes (s : State) (n : Nat) : List Byte × State :=
  ((List.range n).map (fun i => Config.entropy s.welkin.draws i), s.setWk { s.welkin with draws := s.welkin.draws + 1 })

/-! ## Frames (R422, R423; 10 R248) -/

/-- RESULT values (R425). -/
def rsOk : Nat := 0
def rsUnknown : Nat := 1
def rsArg : Nat := 2
def rsState : Nat := 3
def rsBusy : Nat := 4
def rsAuth : Nat := 5
def rsRollback : Nat := 6
def rsFlash : Nat := 7
def rsFormat : Nat := 8
def rsTimeout : Nat := 9

/-- A frame (10 R248). -/
def frameBytes (channel seq : Nat) (payload : List Byte) : List Byte :=
  leBytes 1 channel ++ zeros 1 ++ leBytes 2 seq ++ leBytes 2 payload.length ++ zeros 2 ++ payload

/-- The main link of UCIe module 0 is active. -/
def State.linkActive (s : State) : Bool := let x := s.fld (UC_STATUS 0) UC_STATUS_STATE; x == 2 || x == 3

/-- A frame on the mailbox: it fires vector 1 while the link is active (10 R248). -/
def State.mailFrame (s : State) (b : List Byte) : State :=
  let s := { s with out := s.out ++ [Output.frame true b] }
  if s.linkActive then s.fireVector 1 else s

/-- An in-band interrupt on the I3C port; the spec gives it no data (R422). -/
def State.inBand (s : State) : State := { s with out := s.out ++ [Output.ibi []] }

/-- A NOTICE on the mailbox (10 R248); its SEQ is free. -/
def State.notice (s : State) (payload : List Byte) : State :=
  let (v, s) := s.fresh
  s.mailFrame (frameBytes 2 v payload)

/-- A response frame to its interface (R422): the mailbox's goes out; the I3C port's waits to be read, announced in I3C mode. -/
def State.respond (s : State) (i3c : Bool) (seq : Nat) (payload : List Byte) : State :=
  let b := frameBytes 1 seq payload
  if i3c then
    let s := s.setWk { s.welkin with answers := s.welkin.answers ++ [b] }
    if s.fld WK_STATUS WK_STATUS_I3C_MODE = 1 then s.inBand else s
  else s.mailFrame b

/-- A response (R423): CODE, RESULT, and at most 244 bytes of data. -/
def State.answer (s : State) (i3c : Bool) (seq code result : Nat) (data : List Byte) : State :=
  s.respond i3c seq (leBytes 2 code ++ leBytes 2 result ++ data.take 244)

/-- The CODEs of R423. -/
def codes : List Nat := [0x0001, 0x0002, 0x0003, 0x0004, 0x0005, 0x0010, 0x0011, 0x0020, 0x0021, 0x0022, 0x0030, 0x0031, 0x0040, 0x0041, 0x0050,
  0x0051, 0x0052, 0x0053, 0x0060, 0x0061, 0x0062, 0x0070, 0x0071]

/-- Life-cycle states in which a CODE is allowed (R423, R431): bit k for state k. -/
def codeStates (code : Nat) : Nat :=
  match code with
  | 0x0011 => 0x3E | 0x0020 => 0x1C | 0x0021 => 0x1C | 0x0022 => 0x1E | 0x0031 => 0x3E | 0x0040 => 0x1F
  | 0x0050 => 0x1E | 0x0051 => 0x1E | 0x0052 => 0x1E | 0x0053 => 0x1E | 0x0060 => 0x0C | 0x0061 => 0x12 | 0x0062 => 0x12
  | 0x0071 => 0x3E | _ => 0x3F

/-- CODEs that the ROM answers in recovery (R436). -/
def codeInRecovery (code : Nat) : Bool := code ≤ 0x0010 || code == 0x0070

/-- A CODE is allowed now. -/
def State.codeAllowed (s : State) (code : Nat) : Bool :=
  bit (codeStates code) s.fuses.lifecycle && (s.bootState != 2 || codeInRecovery code)

/-- Welkin takes requests: its firmware runs, or the ROM's recovery (R421, R436); not between the samples of Drizzle mode (17 R413). -/
def State.welkinServes (s : State) : Bool := s.bootState == 2 || s.bootState == 3

/-- An interface has a request outstanding: not yet taken, or whose answer comes later (10 R248). -/
def State.outstanding (s : State) (i3c : Bool) : Bool :=
  s.welkin.reqs.any (fun r => r.i3c == i3c) || s.welkin.fabric.any (fun w => w.i3c == i3c) || s.welkin.retrain.any (fun w => w.i3c == i3c)

/-- A frame reaches Welkin (R422, 10 R248): it waits for its turn; one that comes while another is outstanding is discarded, and answered
with an empty response. -/
def State.receive (s : State) (i3c : Bool) (seq : Nat) (payload : List Byte) : State :=
  if s.outstanding i3c then s.respond i3c seq []
  else s.setWk { s.welkin with reqs := s.welkin.reqs ++ [⟨i3c, seq, payload⟩] }

/-- What a request does: from its interface, SEQ and arguments. -/
abbrev Serve := State → Bool → Nat → List Byte → State

/-- The request at the head is taken (R422, R423): a CODE not allowed is answered STATE, a RESULT that is not zero ARG. -/
def State.takeHead (s : State) (code : Nat) (serve : Serve) : State :=
  match s.welkinServes, s.welkin.reqs with
  | true, r :: rest =>
    if fieldAt r.payload 0 2 ≠ code then s
    else
      let s := s.setWk { s.welkin with reqs := rest }
      if !s.codeAllowed code then s.answer r.i3c r.seq code rsState []
      else if fieldAt r.payload 2 2 ≠ 0 ∨ r.payload.length < 4 ∨ 248 < r.payload.length then s.answer r.i3c r.seq code rsArg []
      else serve s r.i3c r.seq (r.payload.drop 4)
  | _, _ => s

/-- A request of a CODE: it arrives on the mailbox now, or waits already at an interface; it is served in its turn. -/
def State.request (s : State) (code : Nat) (r : WkReq) (serve : Serve) : State :=
  match r with
  | .mail seq args =>
    if s.outstanding false then s.respond false seq.toNat []
    else
      let s := s.receive false seq.toNat (leBytes 2 code ++ zeros 2 ++ args)
      match s.welkin.reqs with | [_] => s.takeHead code serve | _ => s
  | .waiting i3c =>
    match s.welkin.reqs with
    | h :: _ => if h.i3c = i3c then s.takeHead code serve else s
    | [] => s

/-! ## The staging buffer (R424) -/

/-- The buffer is claimed by the other interface. -/
def State.bufferBusy (s : State) (i3c : Bool) : Bool := s.welkin.buffer.any (fun b => b.i3c != i3c)

/-- The buffer of an interface. -/
def State.bufferOf (s : State) (i3c : Bool) : Option WkBuffer := s.welkin.buffer.filter (fun b => b.i3c == i3c)

/-- n bytes of the buffer. -/
def WkBuffer.read (b : WkBuffer) (off n : Nat) : List Byte := (List.range n).map (fun i => sget (fun _ => 0) b.bytes (off + i))

/-- Bytes written into a sparse buffer. -/
def bufferPut : Sparse Byte → Nat → List Byte → Sparse Byte
  | m, _, [] => m
  | m, a, b :: t => bufferPut (sset (fun _ => 0) m a b) (a + 1) t

/-- The buffer claimed and filled with a result (R423). -/
def State.fillBuffer (s : State) (i3c : Bool) (b : List Byte) : State :=
  s.setWk { s.welkin with buffer := some ⟨i3c, b.length, bufferPut [] 0 b, s.start.clock⟩ }

def State.releaseBuffer (s : State) : State := s.setWk { s.welkin with buffer := none }

/-- A request that needs the buffer: the owner's claim is renewed; the other interface is answered BUSY, and one without a claim STATE. -/
def State.withBuffer (s : State) (i3c : Bool) (seq code : Nat) (go : State → WkBuffer → State) : State :=
  if s.bufferBusy i3c then s.answer i3c seq code rsBusy []
  else
    match s.welkin.buffer with
    | none => s.answer i3c seq code rsState []
    | some b => let b := { b with last := s.start.clock }; go (s.setWk { s.welkin with buffer := some b }) b

/-- A request that places its result in the buffer: BUSY while the other interface holds it. -/
def State.intoBuffer (s : State) (i3c : Bool) (seq code : Nat) (go : State → State) : State :=
  if s.bufferBusy i3c then s.answer i3c seq code rsBusy [] else go s

/-- A RESULT that the spec leaves open: free, and not OK (log entry 1). -/
def State.freeRefusal (s : State) (i3c : Bool) (seq code : Nat) : State :=
  let (v, s) := s.fresh
  s.answer i3c seq code (1 + v % 9) []

/-! ## The event log (R427) -/

/-- An entry of one of Welkin's own codes; the layout of its DATA is not given. -/
def State.logOwn (s : State) (code : Nat) (vals : List Nat) : State := s.logFree code (padTo 16 (Config.logData code vals))
def State.logSev (s : State) (code sev : Nat) (vals : List Nat) : State := s.logEntry code sev (padTo 16 (Config.logData code vals))

/-- SEQ and SEVERITY of an entry. -/
def entrySeq (e : List Byte) : Nat := fieldAt e 8 4
def entrySev (e : List Byte) : Nat := fieldAt e 0x0E 1

/-- An entry put into its place by SEQ, once. -/
def insertEntry (e : List Byte) : List (List Byte) → List (List Byte)
  | [] => [e]
  | x :: t => if entrySeq e = entrySeq x then x :: t else if entrySeq e < entrySeq x then e :: x :: t else x :: insertEntry e t

/-- The entries held, in SEQ order: the ring's, and the mirror's. -/
def State.logAll (s : State) : List (List Byte) :=
  s.welkin.log.foldl (fun l e => insertEntry e.2 l) s.welkin.mirror

/-- Entries from a SEQ on (R423, R427). -/
def State.logFrom (s : State) (from_ n : Nat) : List (List Byte) := (s.logAll.filter (fun e => decide (from_ ≤ entrySeq e))).take n

/-- The entries of the ring that a test picks are copied to the mirror of 65,536 entries (R420, R427). -/
def State.mirrorSome (s : State) (pick : List Byte → Bool) : State :=
  let due := s.welkin.log.filter (fun e => !e.1 && pick e.2)
  if due.isEmpty then s
  else
    let m := due.foldl (fun l e => insertEntry e.2 l) s.welkin.mirror
    let s := s.setWk { s.welkin with mirror := m.drop (m.length - 65536), log := s.welkin.log.map (fun e => if pick e.2 then (true, e.2) else e) }
    s.setFld WK_LOG WK_LOG_MIRRORED (entrySeq ((due.getLastD (true, [])).2))

/-! ## Sensors (R426, R414) -/

/-- How many sensors a kind has, their period in ns, and the power domain of one. -/
def sensorCount (k : Nat) : Nat := match k with | 0 => 32 | 1 => 8 | 2 => 1 | 3 => 1 | 4 => 1 | 5 => 10 | 6 => 32 | 7 => 32 | _ => 0
def sensorPeriod (k : Nat) : Nat := match k with | 0 => 1000000 | 1 => 10000000 | 2 => 100000 | 3 => 100000 | 4 => 100000 | 5 => 100000000 | _ => 1000000
def sensorDomain (c : Nat) : Option Nat :=
  match c / 4096 with | 0 => some (c % 4096) | 1 => some (64 + c % 4096) | 6 => some (c % 4096) | 7 => some (c % 4096) | _ => none

/-- A sensor code names a sensor; a Contrail module's only while one is fitted. -/
def State.sensorExists (s : State) (c : Nat) : Bool :=
  decide (c % 4096 < sensorCount (c / 4096)) && (c / 4096 != 5 || (s.port (c % 4096)).contrail.isSome)

/-- Its domain is not off: a domain in RETENTION has its sensor (R426, 17 R417). -/
def State.sensorOn (s : State) (c : Nat) : Bool := match sensorDomain c with | some d => decide (2 ≤ s.domState d) | none => true

/-- Its latest value and stamp. -/
def State.sensor (s : State) (c : Nat) : Nat × Nat := sget (fun _ => (0, 0)) s.sensors c
def State.setSensor (s : State) (c v : Nat) : State := { s with sensors := sset (fun _ => (0, 0)) s.sensors c (v, s.zt) }

/-! ## Records and calibration (R428 to R430) -/

/-- A signed value limited to the range of a field of w bits (R430). -/
def clampTo (w : Nat) (x : Int) : Int := max (-(2 ^ (w - 1) : Int)) (min x (2 ^ (w - 1) - 1))

/-- The effective value of a factory value and a user offset, each of w bits. -/
def effective (w factory user : Nat) : Nat := unsignedOf w (clampTo w (signed w factory + signed w user))

/-- A calibration value that a record in force gives, or 0 (R430, 14 R351). -/
def State.factoryOf (s : State) (ty i w : Nat) : Nat :=
  match s.record ty 0 with | some b => Config.recordValue ty b i % 2 ^ w | none => 0

/-- WK_CAL_DATA of a sensor: factory, user, effective (R440). -/
def State.calData (s : State) (c : Nat) : Nat :=
  let f := s.factoryOf 0x0001 c 16
  let u := sget (fun _ => 0) s.welkin.calUser c
  f + u * 2 ^ 16 + effective 16 f u * 2 ^ 32

/-- A reading with its sensor's effective offset, as a value of 32 bits (R430). -/
def State.calibrated (s : State) (c raw : Nat) : Nat := unsignedOf 32 (signed 32 raw + signed 16 (bits (s.calData c) 47 32))

/-- A calibration register of the layout of WK_OSC_TRIM brought up to date from its factory value and its user offset. -/
def State.recal (s : State) (reg factory : Nat) : State :=
  let u := bits (s.rd reg) 31 16
  s.wr reg (factory + u * 2 ^ 16 + effective 16 factory u * 2 ^ 32)

/-- A user offset written into such a register. -/
def State.calUserWrite (s : State) (reg u : Nat) : State :=
  let f := bits (s.rd reg) 15 0
  s.wr reg (f + u * 2 ^ 16 + effective 16 f u * 2 ^ 32)

/-- The registers that calibration records feed (R429, 14 R351): the oscillator trim and the Zenith delays. -/
def State.loadCalibration (s : State) : State :=
  let s := s.recal WK_OSC_TRIM (s.factoryOf 0x0002 0 16)
  let s := (s.recal ZN_CAL_PPS_IN (s.factoryOf 0x0004 8 16)).recal ZN_CAL_PPS_OUT (s.factoryOf 0x0004 9 16)
  (List.range 8).foldl (fun s n => s.recal (ZN_CAL_ASYM n) (s.factoryOf 0x0004 n 16)) s

/-- The signer of a TYPE (R429): 0 VENDOR, 1 OWNER, 2 MODULE; none for a TYPE not defined. -/
def recSigner (ty : Nat) : Option Nat :=
  if 0x0001 ≤ ty ∧ ty ≤ 0x0006 then some 0
  else if 0x0010 ≤ ty ∧ ty ≤ 0x0012 then some 1
  else if 0x0020 ≤ ty ∧ ty ≤ 0x0022 then some 2
  else none

/-- The INDEX values of a TYPE (R429). -/
def recIndexOk (ty ix : Nat) : Bool := if ty = 0x0003 then ix < 10 else if ty = 0x0011 then ix < 4 else ix == 0

/-- The layout of a record (R428). -/
def recordFormOk (r : List Byte) : Bool :=
  let n := fieldAt r 8 4
  fieldAt r 0 4 == 0x43524B57 && fieldAt r 7 1 == 0 && decide (n ≤ 65536) && fieldAt r 0x1A 6 == 0 && r.length == 0x20 + n + 3309 &&
  recSigner (recTy r) == some (fieldAt r 6 1) && recIndexOk (recTy r) (recIx r)

/-- The body matches its TYPE: a key is 1,952 bytes; the other layouts are not given (R429). -/
def recordBodyOk (r : List Byte) : Bool :=
  if recTy r = 0x0010 ∨ recTy r = 0x0011 ∨ recTy r = 0x0006 then (recBody r).length == 1952 else Config.bodyOk (recTy r) (recBody r)

/-- A record names this module, or is fleet-wide with SERIAL 0 (R428). -/
def State.recordMine (s : State) (r : List Byte) : Bool :=
  fieldAt r 0x10 8 == s.fuses.serial || (recTy r == 0x0006 && fieldAt r 0x10 8 == 0)

/-- A record's signature verifies (R428). -/
def State.recordVerifies (s : State) (r : List Byte) : Bool :=
  let n := fieldAt r 8 4
  let msg := r.take (0x20 + n)
  let sig := (r.drop (0x20 + n)).take 3309
  match fieldAt r 6 1 with
  | 0 => Config.mldsaVerify Config.vendorRecordKey msg sig
  | 1 => if recTy r = 0x0010 then Config.mldsaVerify (recBody r) msg sig
    else (match s.record 0x0010 0 with | some k => Config.mldsaVerify k msg sig | none => false)
  | _ => match s.fuses.seed with | some x => Config.mldsaVerify (Config.mldsaPublic x) msg sig | none => false

/-- A record's types that wait for an image (R429). -/
def State.recordWaits (s : State) (r : List Byte) : Bool :=
  (recTy r == 0x0011 || recTy r == 0x0012) && (List.range 8).any (fun p => s.stage p == 3 || s.stage p == 4)

/-- A verified record comes into force: at once in its registers, or when its image has settled (R429). -/
def State.enforce (s : State) (r : List Byte) : State :=
  if s.recordWaits r then s.setWk { s.welkin with deferred := s.welkin.deferred ++ [r] }
  else
    let s := s.setWk { s.welkin with inForce := s.welkin.inForce ++ [r] }
    if recTy r = 0x0011 ∨ recTy r = 0x0012 then s.loadPolicy
    else if recTy r = 0x0002 ∨ recTy r = 0x0004 then s.loadCalibration
    else s

/-! ## The plan (R438) -/

/-- COORD, MACHINE_ID, the ring size of an axis, and the fields of a port's entry. -/
def planCoord (b : List Byte) : Nat := fieldAt b 0 4
def planSize (b : List Byte) (a : Nat) : Nat := fieldAt b (4 + a) 1
def planExpect (b : List Byte) (n : Nat) : Nat := fieldAt b (16 + 8 * n) 1
def planPeer (b : List Byte) (n : Nat) : Nat := fieldAt b (17 + 8 * n) 1
def planMask (b : List Byte) (n : Nat) : Nat := fieldAt b (18 + 8 * n) 1
def planPeerCoord (b : List Byte) (n : Nat) : Nat := fieldAt b (20 + 8 * n) 4

/-- A plan's fields lie in the ranges of RT_COORD and KL_PLAN (12 R303, 11 R277). -/
def planOk (b : List Byte) : Bool :=
  b.length == 96 && decide (planCoord b < 2 ^ 20) && fieldAt b 12 4 == 0 &&
  (List.range 4).all (fun a => decide (1 ≤ planSize b a) && decide (planSize b a ≤ 32) && decide (coordAt (planCoord b) a < planSize b a)) &&
  (List.range 10).all (fun n => decide (planExpect b n ≤ 3) && decide (planPeer b n < 16) && fieldAt b (19 + 8 * n) 1 == 0 &&
    decide (planPeerCoord b n < 2 ^ 20))

/-- The RT_COORD value of a plan. -/
def planRtCoord (b : List Byte) : Nat :=
  2 ^ 63 + planCoord b + planSize b 0 * 2 ^ 20 + planSize b 1 * 2 ^ 26 + planSize b 2 * 2 ^ 32 + planSize b 3 * 2 ^ 38

/-- KL_MACHINE and KL_PLAN of every port from a plan; AUTO_RETRAIN is not the plan's. -/
def State.planPorts (s : State) (b : List Byte) : State :=
  (List.range 10).foldl (fun s n =>
    let s := s.setFld (KL_MACHINE n) KL_MACHINE_MACHINE_ID (fieldAt b 8 4)
    s.writePlan n (s.fld (KL_PLAN n) KL_PLAN_AUTO_RETRAIN * 2 ^ 47 + planPeer b n * 2 ^ 40 + planMask b n * 2 ^ 32 + planPeerCoord b n * 2 ^ 12 +
      planExpect b n)) s

/-- The whole plan written (R438). -/
def State.applyPlan (s : State) (b : List Byte) : State :=
  let s := (s.wr RT_COORD (planRtCoord b)).setFld RT_STATUS RT_STATUS_COORD_VALID 1
  (s.planPorts b).setFld WK_STATUS WK_STATUS_PLAN_PENDING 0

/-- A new plan (R438): before the port phase it is only stored; coordinates that differ from those in force wait for a reset. -/
def State.takePlan (s : State) (b : List Byte) : State :=
  let s := s.setWk { s.welkin with plan := some b, planFlash := some b }
  let ph := s.fld SI_START SI_START_PHASE
  if ph < 5 ∨ 8 ≤ ph then s
  else if !s.flag RT_COORD RT_COORD_VALID then s.applyPlan b
  else if s.rd RT_COORD = planRtCoord b then (s.planPorts b).setFld WK_STATUS WK_STATUS_PLAN_PENDING 0
  else s.setFld WK_STATUS WK_STATUS_PLAN_PENDING 1

end Sys2Proof.Machine
end

