-- ==== Sys2Proof/Machine/Requests.lean ====
section
/-! DEFINITION. Welkin's requests, one meaning each (18_welkin_and_trust.md R422 to R439). -/
namespace Sys2Proof.Machine

/-! ## The I3C port (R422, R440) -/

/-- The length a frame states is its own, and it is a request (10 R248). -/
def frameOk (b : List Byte) : Bool :=
  decide (8 ≤ b.length) && fieldAt b 0 1 == 0 && fieldAt b 1 1 == 0 && fieldAt b 6 2 == 0 && fieldAt b 4 2 == b.length - 8 &&
  decide (b.length ≤ 256)

/-- The port acknowledges: in I3C mode once an address is assigned; under I2C fallback where that is allowed; never while Drizzle mode
has stopped Welkin (17 R416). -/
def State.portAcks (s : State) (i2c : Bool) : Bool :=
  s.bootState != 4 && (if i2c then s.flag WK_I3C WK_I3C_I2C_EN else s.flag WK_I3C WK_I3C_DYN_VALID)

/-- I3C_MODE follows what the bus uses. -/
def State.portMode (s : State) (i2c : Bool) : State := s.setFld WK_STATUS WK_STATUS_I3C_MODE (if i2c then 2 else 1)

/-- PRIVATE_WRITE (R422): a private write delivers a frame; a CODE that no request has is answered UNKNOWN, a malformed frame ARG. -/
def execPrivateWrite (i2c : Bool) (frame : List Byte) (s : State) : Res :=
  if !s.portAcks i2c then .next s
  else
    let s := s.portMode i2c
    let seq := fieldAt frame 2 2
    let code := fieldAt frame 8 2
    if !frameOk frame then .next (s.answer true seq code rsArg [])
    else if !codes.contains code then .next (s.answer true seq code rsUnknown [])
    else .next (s.receive true seq (frame.drop 8))

/-- PRIVATE_READ (R422): the response that is ready, or a NACK. -/
def execPrivateRead (i2c : Bool) (s : State) : Res :=
  if !s.portAcks i2c then .next s
  else
    match s.welkin.answers with
    | [] => .next s
    | b :: rest => .next { ((s.portMode i2c).setWk { s.welkin with answers := rest }) with out := s.out ++ [Output.frame false b] }

/-- DYNAMIC_ADDRESS_ASSIGNMENT (R422): the bus controller assigns an address; in Drizzle mode the port first wakes (17 R416). -/
def execDynamicAddressAssignment (addr : BitVec 7) (s : State) : Res :=
  if s.bootState = 4 then .next s
  else .next (((s.setFld WK_I3C WK_I3C_DYN_ADDR addr.toNat).setFld WK_I3C WK_I3C_DYN_VALID 1).portMode false)

/-! ## Status, log and sensors (R423): served for other modules too (R439) -/

/-- The answer to GET_STATUS, LOG_READ and SENSOR_READ: RESULT and data. -/
def State.wkReply (s : State) (code : Nat) (args : List Byte) : Nat × List Byte :=
  match code with
  | 0x0001 => if args.isEmpty then (rsOk, leBytes 8 s.wkStatus ++ leBytes 8 (s.rd ID_LIBRARY) ++ leBytes 8 (s.rd WK_ERR)) else (rsArg, [])
  | 0x0070 =>
    let n := fieldAt args 4 1
    if args.length = 5 ∧ 1 ≤ n ∧ n ≤ 7 then
      let l := s.logFrom (fieldAt args 0 4) n
      (rsOk, leBytes 4 l.length ++ l.flatten)
    else (rsArg, [])
  | _ =>
    let c := fieldAt args 0 2
    if args.length = 2 ∧ s.sensorExists c = true then (rsOk, leBytes 4 (s.sensor c).1 ++ leBytes 8 (s.sensor c).2) else (rsArg, [])

/-- One of those three on an interface. -/
def State.replyTo (s : State) (code : Nat) (i3c : Bool) (seq : Nat) (args : List Byte) : State :=
  s.answer i3c seq code (s.wkReply code args).1 (s.wkReply code args).2

/-- GET_STATUS (R423). -/
def execGetStatus (r : WkReq) (s : State) : Res := .next (s.request 0x0001 r (fun s => s.replyTo 0x0001))
/-- LOG_READ (R423, R427). -/
def execLogRead (r : WkReq) (s : State) : Res := .next (s.request 0x0070 r (fun s => s.replyTo 0x0070))
/-- SENSOR_READ (R423, R426). -/
def execSensorRead (r : WkReq) (s : State) : Res := .next (s.request 0x0071 r (fun s => s.replyTo 0x0071))

/-! ## The staging buffer (R424) -/

/-- BUF_BEGIN: a new buffer of a length, zero-filled. -/
def State.bufBegin (s : State) (i3c : Bool) (seq : Nat) (args : List Byte) : State :=
  let n := fieldAt args 0 4
  if args.length ≠ 4 ∨ n = 0 ∨ 6 * 2 ^ 20 < n then s.answer i3c seq 0x0002 rsArg []
  else if s.bufferBusy i3c then s.answer i3c seq 0x0002 rsBusy []
  else (s.setWk { s.welkin with buffer := some { i3c := i3c, len := n, last := s.start.clock } }).answer i3c seq 0x0002 rsOk []

def execBufBegin (r : WkReq) (s : State) : Res := .next (s.request 0x0002 r State.bufBegin)

/-- BUF_WRITE: N bytes at OFFSET. -/
def State.bufWrite (s : State) (i3c : Bool) (seq : Nat) (args : List Byte) : State :=
  s.withBuffer i3c seq 0x0003 (fun s b =>
    let off := fieldAt args 0 4
    let n := fieldAt args 4 4
    if args.length ≠ 8 + n ∨ 236 < n ∨ b.len < off + n then s.answer i3c seq 0x0003 rsArg []
    else (s.setWk { s.welkin with buffer := some { b with bytes := bufferPut b.bytes off (args.drop 8) } }).answer i3c seq 0x0003 rsOk [])

def execBufWrite (r : WkReq) (s : State) : Res := .next (s.request 0x0003 r State.bufWrite)

/-- BUF_READ: N bytes from OFFSET. -/
def State.bufRead (s : State) (i3c : Bool) (seq : Nat) (args : List Byte) : State :=
  s.withBuffer i3c seq 0x0004 (fun s b =>
    let off := fieldAt args 0 4
    let n := fieldAt args 4 4
    if args.length ≠ 8 ∨ 240 < n ∨ b.len < off + n then s.answer i3c seq 0x0004 rsArg []
    else s.answer i3c seq 0x0004 rsOk (b.read off n))

def execBufRead (r : WkReq) (s : State) : Res := .next (s.request 0x0004 r State.bufRead)

/-- BUF_RELEASE. -/
def State.bufRelease (s : State) (i3c : Bool) (seq : Nat) (args : List Byte) : State :=
  s.withBuffer i3c seq 0x0005 (fun s _ =>
    if args.isEmpty then s.releaseBuffer.answer i3c seq 0x0005 rsOk [] else s.answer i3c seq 0x0005 rsArg [])

def execBufRelease (r : WkReq) (s : State) : Res := .next (s.request 0x0005 r State.bufRelease)

/-- BUF_TIMEOUT: 60 s without a buffer request from the owner. -/
def execBufTimeout (s : State) : Res :=
  match s.welkin.buffer with
  | some b => if b.last + 60000000000 ≤ s.start.clock then .next s.releaseBuffer else .next s
  | none => .next s

/-! ## Firmware (R435 to R437) -/

/-- TOTAL_LEN, BODY_LEN, SVN and VERSION of a firmware image. -/
def fwTotal (b : List Byte) : Nat := fieldAt b 12 4
def fwBody (b : List Byte) : Nat := fieldAt b 8 4
def fwSvn (b : List Byte) : Nat := fieldAt b 7 1
def fwVersion (b : List Byte) : Nat := fieldAt b 0x10 8

/-- The measurement of an image (R435). -/
def fwMeasure (b : List Byte) : BitVec 512 := Config.shake256 (b.take (64 + fwBody b))

/-- The ROM's verdict on an image (R435, R436): 0 passes, 1 MAGIC, 2 header, 3 rollback, 4 signature. -/
def State.fwVerdict (s : State) (b : List Byte) : Nat :=
  if fieldAt b 0 4 ≠ 0x57464B57 then 1
  else if fieldAt b 4 2 ≠ 1 ∨ fwTotal b ≠ 64 + fwBody b + 3309 ∨ 6 * 2 ^ 20 < fwTotal b ∨ fieldAt b 0x18 40 ≠ 0 ∨ b.length < fwTotal b then 2
  else if fieldAt b 6 1 ≠ s.fld ID_DEVICE ID_DEVICE_ARCH_GEN ∨ fwSvn b < s.fuses.minSvn then 3
  else if Config.mldsaVerify Config.vendorFirmwareKey (digestBytes (fwMeasure b)) ((b.drop (64 + fwBody b)).take 3309) then 0 else 4

/-- FW_COMMIT (R437): the verdict, then the flash, whose write may fail once and, retried, twice; the claim ends whatever the result. The
image is the TOTAL_LEN bytes at the buffer's beginning. In recovery the ROM's sequence starts again (19 R444). -/
def State.fwCommit (failures : Nat) (s : State) (i3c : Bool) (seq : Nat) (args : List Byte) : State :=
  s.withBuffer i3c seq 0x0010 (fun s b =>
    let all := b.read 0 b.len
    let v := s.fwVerdict all
    let img := all.take (fwTotal all)
    let s := s.releaseBuffer
    if args ≠ [] then s.answer i3c seq 0x0010 rsArg []
    else if v ≠ 0 then s.answer i3c seq 0x0010 (match v with | 3 => rsRollback | 4 => rsAuth | _ => rsFormat) []
    else if 2 ≤ failures then
      let (n, s) := s.fresh
      ((s.setWk { s.welkin with fw := Config.brokenFlash n img }).wkErr WK_ERR_FLASH).answer i3c seq 0x0010 rsFlash []
    else
      let s := (s.setWk { s.welkin with fw := img }).logOwn 2 [rsOk, fwVersion img, fwSvn img]
      let s := s.answer i3c seq 0x0010 rsOk (digestBytes (fwMeasure img))
      if s.bootState = 2 then (s.setFld WK_STATUS WK_STATUS_BOOT_STATE 0).setFld SI_START SI_START_PHASE 1 else s)

def execFwCommit (r : WkReq) (failures : Nat) (s : State) : Res := .next (s.request 0x0010 r (State.fwCommit failures))

/-- SVN_COMMIT (R437). -/
def State.svnCommit (s : State) (i3c : Bool) (seq : Nat) (args : List Byte) : State :=
  if args ≠ [] then s.answer i3c seq 0x0011 rsArg []
  else
    let m := max s.fuses.minSvn (s.fld WK_STATUS WK_STATUS_FW_SVN)
    ({ s with fuses := { s.fuses with minSvn := m } }).answer i3c seq 0x0011 rsOk (leBytes 1 m)

def execSvnCommit (r : WkReq) (s : State) : Res := .next (s.request 0x0011 r State.svnCommit)

/-! ## Identity (R433, R434) -/

/-- The identity key's public key. -/
def State.publicKey (s : State) : Option (List Byte) := s.fuses.seed.map (fun x => padTo 1952 (Config.mldsaPublic x))

/-- The report's bytes 0x000 to 0x2FF (R434). -/
def State.reportBody (s : State) (nonce : List Byte) : List Byte :=
  padTo 0x300 (leBytes 4 0x54414B57 ++ leBytes 2 1 ++ leBytes 1 s.fuses.lifecycle ++ leBytes 1 (s.fld ID_DEVICE ID_DEVICE_ARCH_GEN) ++
    leBytes 8 s.fuses.serial ++ padTo 32 nonce ++ leBytes 8 s.zt ++ leBytes 8 (s.rd ID_LIBRARY) ++ leBytes 1 (s.fld WK_STATUS WK_STATUS_FW_SVN) ++
    leBytes 1 s.fuses.minSvn ++ leBytes 1 s.fuses.stepping ++ leBytes 1 s.fuses.grade ++ leBytes 1 (s.fld SI_FORCE_PASS SI_FORCE_PASS_MODE) ++
    leBytes 1 (s.fld SI_POLICY SI_POLICY_KEY_SLOT_MASK) ++ leBytes 1 (s.fld SI_POLICY SI_POLICY_REQUIRE_SIGNED) ++ zeros 9 ++
    ((List.range 8).map (fun i => leBytes 8 (s.rd (WK_FW_MEAS i)))).flatten ++
    ((List.range 8).map (fun p => ((List.range 8).map (fun i => leBytes 8 (s.rd (SI_MEAS_ACTIVE p i)))).flatten)).flatten ++
    ((List.range 8).map (fun p => leBytes 8 (match (s.part p).active with | some g => g.head.imageId | none => 0))).flatten ++
    ((List.range 8).map (fun p => leBytes 1 (b2n (s.isActive p) + 2 * b2n (s.stage p == 4)))).flatten)

/-- ATTEST (R434): a signed report in the buffer. -/
def State.attest (s : State) (i3c : Bool) (seq : Nat) (args : List Byte) : State :=
  if args.length ≠ 32 then s.answer i3c seq 0x0020 rsArg []
  else
    s.intoBuffer i3c seq 0x0020 (fun s =>
      match s.fuses.seed with
      | none => s.freeRefusal i3c seq 0x0020
      | some x =>
        let b := s.reportBody args
        let n := s.welkin.draws
        let s := s.setWk { s.welkin with draws := n + 1 }
        (s.fillBuffer i3c (padTo 4096 (b ++ padTo 3309 (Config.mldsaSign x b n)))).answer i3c seq 0x0020 rsOk [])

def execAttest (r : WkReq) (s : State) : Res := .next (s.request 0x0020 r State.attest)

/-- GET_CERT: the identity certificate in the buffer; with none in force the RESULT is open. -/
def State.getCert (s : State) (i3c : Bool) (seq : Nat) (args : List Byte) : State :=
  if args ≠ [] then s.answer i3c seq 0x0021 rsArg []
  else
    s.intoBuffer i3c seq 0x0021 (fun s =>
      match s.record 0x0005 0 with
      | some c => (s.fillBuffer i3c c).answer i3c seq 0x0021 rsOk (leBytes 4 c.length)
      | none => s.freeRefusal i3c seq 0x0021)

def execGetCert (r : WkReq) (s : State) : Res := .next (s.request 0x0021 r State.getCert)

/-- The seed, drawn and fused on the first request in MANUFACTURE (R433). -/
def State.makeSeed (s : State) : State :=
  if s.fuses.seed.isNone && s.fuses.lifecycle == 1 then
    let (b, s) := s.drawBytes 32
    { s with fuses := { s.fuses with seed := some b } }
  else s

/-- ID_PUBKEY: the identity public key in the buffer. -/
def State.idPubkey (s : State) (i3c : Bool) (seq : Nat) (args : List Byte) : State :=
  if args ≠ [] then s.answer i3c seq 0x0022 rsArg []
  else
    s.intoBuffer i3c seq 0x0022 (fun s =>
      let s := s.makeSeed
      match s.publicKey with
      | some k => (s.fillBuffer i3c k).answer i3c seq 0x0022 rsOk []
      | none => s.freeRefusal i3c seq 0x0022)

def execIdPubkey (r : WkReq) (s : State) : Res := .next (s.request 0x0022 r State.idPubkey)

/-! ## Records (R428, R429) -/

/-- The life-cycle states in which RECORD_WRITE takes a TYPE (R429). -/
def State.recordAllowed (s : State) (ty : Nat) : Bool :=
  let lc := s.fuses.lifecycle
  match recSigner ty with
  | some 0 => lc == 0 || lc == 1 || (ty == 0x0006 && lc != 5)
  | some 1 => if ty = 0x0010 then lc == 2 && (s.record 0x0010 0).isNone else lc == 2 || lc == 3
  | _ => false

/-- RECORD_WRITE (R429): form, permission, signature, body; then the store. -/
def State.recordWrite (flashOk : Bool) (s : State) (i3c : Bool) (seq : Nat) (args : List Byte) : State :=
  s.withBuffer i3c seq 0x0030 (fun s b =>
    let r := b.read 0 b.len
    if args ≠ [] then s.answer i3c seq 0x0030 rsArg []
    else if recSigner (recTy r) = some 2 then s.answer i3c seq 0x0030 rsState []
    else if !recordFormOk r then s.answer i3c seq 0x0030 rsFormat []
    else if !s.recordAllowed (recTy r) then s.answer i3c seq 0x0030 rsState []
    else if !(s.recordMine r && s.recordVerifies r) then s.answer i3c seq 0x0030 rsAuth []
    else if !recordBodyOk r then s.answer i3c seq 0x0030 rsFormat []
    else if !flashOk then (s.wkErr WK_ERR_FLASH).answer i3c seq 0x0030 rsFlash []
    else
      let s := (s.releaseBuffer.setWk { s.releaseBuffer.welkin with records := s.welkin.records ++ [r] }).enforce r
      (s.logOwn 7 [recTy r, recIx r, recGen r]).answer i3c seq 0x0030 rsOk [])

def execRecordWrite (r : WkReq) (flashOk : Bool) (s : State) : Res := .next (s.request 0x0030 r (State.recordWrite flashOk))

/-- A stored record (R423): of the record store, the highest generation that verified; of Welkin's own, the bytes that it wrote. -/
def State.storedRecord (s : State) (ty ix : Nat) : Option (List Byte) :=
  match ty with
  | 0x0020 => if ix = 0 then some (Config.moduleRecord ty ix ((s.welkin.marks.tiles.map (fun e => e.1 * 256 + e.2)) ++
      [s.welkin.marks.anvil, s.welkin.marks.ce, s.welkin.marks.hbm])) else none
  | 0x0021 => match s.welkin.hours[ix]? with | some e => some (Config.moduleRecord ty ix [e.1, e.2]) | none => none
  | 0x0022 => match s.welkin.planFlash, ix with | some b, 0 => some (Config.moduleRecord ty ix [leNat b]) | _, _ => none
  | _ =>
    match (s.welkin.inForce ++ s.welkin.deferred).filter (fun r => recTy r == ty && recIx r == ix) with
    | [] => none
    | r :: t => some (t.foldl (fun a b => if recGen a ≤ recGen b then b else a) r)

/-- RECORD_READ: a stored record in the buffer. -/
def State.recordRead (s : State) (i3c : Bool) (seq : Nat) (args : List Byte) : State :=
  if args.length ≠ 4 then s.answer i3c seq 0x0031 rsArg []
  else
    s.intoBuffer i3c seq 0x0031 (fun s =>
      match s.storedRecord (fieldAt args 0 2) (fieldAt args 2 2) with
      | some b => (s.fillBuffer i3c b).answer i3c seq 0x0031 rsOk (leBytes 4 b.length)
      | none => s.answer i3c seq 0x0031 rsArg [])

def execRecordRead (r : WkReq) (s : State) : Res := .next (s.request 0x0031 r State.recordRead)

/-! ## Life cycle (R431, R432) -/

/-- LC_CHALLENGE: a fresh challenge. -/
def State.lcChallenge (s : State) (i3c : Bool) (seq : Nat) (args : List Byte) : State :=
  if args ≠ [] then s.answer i3c seq 0x0040 rsArg []
  else
    let (b, s) := s.drawBytes 32
    (s.setWk { s.welkin with challenge := some (b, s.start.clock) }).answer i3c seq 0x0040 rsOk b

def execLcChallenge (r : WkReq) (s : State) : Res := .next (s.request 0x0040 r State.lcChallenge)

/-- The rows of R432's table. -/
def lcRow (from_ to_ : Nat) : Bool :=
  match from_, to_ with
  | 0, 1 => true | 1, 2 => true | 2, 3 => true | 2, 4 => true | 3, 4 => true
  | f, 5 => f != 5
  | _, _ => false

/-- The records that PROVISIONED needs, and the owner's key that DEPLOYED needs (R432). -/
def State.lcReady (s : State) (to_ : Nat) : Bool :=
  match to_ with
  | 2 => (s.record 0x0001 0).isSome && (s.record 0x0002 0).isSome && (s.record 0x0004 0).isSome &&
      (List.range 10).all (fun n => (s.record 0x0003 n).isSome) &&
      (match s.record 0x0005 0, s.publicKey with | some c, some k => Config.certKey c == k | _, _ => false)
  | 3 => (s.record 0x0010 0).isSome
  | _ => true

/-- The vendor's signature that RMA needs (R432). -/
def State.rmaSigned (s : State) (challenge : List Byte) : Bool :=
  match s.welkin.buffer with
  | some b => b.len == 3309 && Config.mldsaVerify Config.rmaKey (leBytes 8 s.fuses.serial ++ challenge ++ leBytes 1 4) (b.read 0 3309)
  | none => false

/-- LC_TRANSITION: the fuses of the target are blown; the new state waits for a reset. -/
def State.lcTransition (s : State) (i3c : Bool) (seq : Nat) (args : List Byte) : State :=
  let t := fieldAt args 0 1
  let ch := (args.drop 4).take 32
  let good := match s.welkin.challenge with | some c => c.1 == ch && decide (s.start.clock < c.2 + 60000000000) | none => false
  if args.length ≠ 36 ∨ fieldAt args 1 3 ≠ 0 then s.answer i3c seq 0x0041 rsArg []
  else if s.fuses.lcTarget.isSome then s.answer i3c seq 0x0041 rsBusy []
  else if !(lcRow s.fuses.lifecycle t && s.lcReady t) then s.answer i3c seq 0x0041 rsState []
  else if !good then s.answer i3c seq 0x0041 rsAuth []
  else
    let s := s.setWk { s.welkin with challenge := none }
    if t = 4 ∧ s.rmaSigned ch = false then s.answer i3c seq 0x0041 rsAuth []
    else
      let old := s.fuses.lifecycle
      let s := ({ s with fuses := { s.fuses with lcTarget := some t } }).releaseBuffer
      (s.logOwn 3 [old, t, b2n i3c]).answer i3c seq 0x0041 rsOk []

def execLcTransition (r : WkReq) (s : State) : Res := .next (s.request 0x0041 r State.lcTransition)

/-! ## Plan, time and links (R438) -/

/-- PLAN_SET. -/
def State.planSet (flashOk : Bool) (s : State) (i3c : Bool) (seq : Nat) (args : List Byte) : State :=
  if !planOk args then s.answer i3c seq 0x0050 rsArg []
  else if !flashOk then (s.wkErr WK_ERR_FLASH).answer i3c seq 0x0050 rsFlash []
  else (s.takePlan args).answer i3c seq 0x0050 rsOk []

def execPlanSet (r : WkReq) (flashOk : Bool) (s : State) : Res := .next (s.request 0x0050 r (State.planSet flashOk))

/-- TIME_SET: ZN_NEXT_SEC (14 R341). -/
def State.timeSet (s : State) (i3c : Bool) (seq : Nat) (args : List Byte) : State :=
  if args.length ≠ 8 then s.answer i3c seq 0x0051 rsArg []
  else (s.nextSecond (fieldAt args 0 8)).answer i3c seq 0x0051 rsOk []

def execTimeSet (r : WkReq) (s : State) : Res := .next (s.request 0x0051 r State.timeSet)

/-- A UCIe module retrains (10 R250). -/
def State.ucRetrain (s : State) (m : Nat) : State :=
  let old := s.rd (UC_STATUS m)
  ((s.setFld (UC_STATUS m) UC_STATUS_STATE 4).satFld (UC_STATUS m) UC_STATUS_RETRAINS 1).linkNews m old

/-- LINK_RETRAIN: answered when the named modules' training has ended. -/
def State.linkRetrain (s : State) (i3c : Bool) (seq : Nat) (args : List Byte) : State :=
  let m := fieldAt args 0 1
  if args.length ≠ 1 ∨ 3 < m then s.answer i3c seq 0x0052 rsArg []
  else if s.welkin.retrain.isSome then s.answer i3c seq 0x0052 rsBusy []
  else if m = 0 then s.answer i3c seq 0x0052 rsOk []
  else
    let s := (List.range 2).foldl (fun s k => if bit m k then s.ucRetrain k else s) s
    s.setWk { s.welkin with retrain := some { i3c := i3c, seq := seq, mask := m } }

def execLinkRetrain (r : WkReq) (s : State) : Res := .next (s.request 0x0052 r State.linkRetrain)

/-- A module's training has ended: a LINK_RETRAIN that waits only for it is answered. -/
def State.retrainEnded (s : State) (m : Nat) : State :=
  match s.welkin.retrain with
  | none => s
  | some w =>
    let left := putBits w.mask m m 0
    if left = 0 then (s.setWk { s.welkin with retrain := none }).answer w.i3c w.seq 0x0052 rsOk []
    else s.setWk { s.welkin with retrain := some { w with mask := left } }

/-! ## Requests between modules (R439) -/

/-- A MGMT packet: SUB and TAG, and a payload. -/
def State.mgmtPacket (s : State) (dst sub tag : Nat) (payload : List Byte) : State :=
  s.injectPacket ⟨mkHdr dst s.coord 0 5 0 false true 0xA payload.length 0 (sub + tag % 65536 * 16), payload⟩

/-- FABRIC_REQUEST: one REQUEST to DEST with a fresh TAG. -/
def State.fabricRequest (s : State) (i3c : Bool) (seq : Nat) (args : List Byte) : State :=
  let dst := fieldAt args 0 4
  let n := args.length - 4
  if args.length < 8 ∨ 240 < n ∨ 2 ^ 20 ≤ dst then s.answer i3c seq 0x0053 rsArg []
  else if s.welkin.fabric.isSome then s.answer i3c seq 0x0053 rsBusy []
  else
    let tag := s.welkin.nextTag
    let s := s.setWk { s.welkin with fabric := some { i3c := i3c, seq := seq, tag := tag, at_ := s.zt }, nextTag := (tag + 1) % 65536 }
    s.mgmtPacket dst 0 tag (args.drop 4)

def execFabricRequest (r : WkReq) (s : State) : Res := .next (s.request 0x0053 r State.fabricRequest)

/-- FABRIC_TIMEOUT: 10 ms have passed; a RESPONSE in the zt of expiry counts. -/
def execFabricTimeout (s : State) : Res :=
  match s.welkin.fabric with
  | some w => if w.at_ + 10000000 < s.zt then .next ((s.setWk { s.welkin with fabric := none }).answer w.i3c w.seq 0x0053 rsTimeout []) else .next s
  | none => .next s

/-- A received request is answered: three CODEs as on Welkin's own interfaces, every other with STATE. -/
def State.serveMgmt (s : State) (q : Nat × Nat × List Byte) : State :=
  let code := fieldAt q.2.2 0 2
  let known := code == 0x0001 || code == 0x0070 || code == 0x0071
  let a : Nat × List Byte :=
    if !known || !s.codeAllowed code then (rsState, [])
    else if fieldAt q.2.2 2 2 ≠ 0 then (rsArg, [])
    else s.wkReply code (q.2.2.drop 4)
  s.mgmtPacket q.1 1 q.2.1 (leBytes 2 code ++ leBytes 2 a.1 ++ a.2)

/-- The requests received are answered in arrival order. -/
def State.serveAllMgmt (s : State) : State :=
  s.welkin.mgmt.foldl (fun s q => s.serveMgmt q) (s.setWk { s.welkin with mgmt := [] })

/-- MGMT: the first packet that Welkin has received; up to eight requests wait while it cannot answer. -/
def execMgmt (s : State) : Res :=
  match s.inboxOf 0xA with
  | [] => .next s
  | (_, k) :: rest =>
    let gone := s.setInbox 0xA rest
    let sub := k.data % 16
    let tag := bits k.data 19 4
    if sub = 1 then
      if !s.welkinServes then .next s
      else
        match s.welkin.fabric with
        | some w => if w.tag = tag then .next ((gone.setWk { gone.welkin with fabric := none }).answer w.i3c w.seq 0x0053 rsOk k.body) else .next gone
        | none => .next gone
    else if sub = 0 then
      if 8 ≤ s.welkin.mgmt.length then .next gone
      else
        let s := gone.setWk { gone.welkin with mgmt := gone.welkin.mgmt ++ [(k.src, tag, k.body)] }
        .next (if s.welkinServes then s.serveAllMgmt else s)
    else .next gone

/-! ## Self-test and fences (R423, 15 R367) -/

/-- SELFTEST_ENABLE: SI_TEST_CTRL ENABLE (R431). -/
def State.selftestEnable (s : State) (i3c : Bool) (seq : Nat) (args : List Byte) : State :=
  if args.length ≠ 1 ∨ 1 < fieldAt args 0 1 then s.answer i3c seq 0x0060 rsArg []
  else (s.setFld SI_TEST_CTRL SI_TEST_CTRL_ENABLE (fieldAt args 0 1)).answer i3c seq 0x0060 rsOk []

def execSelftestEnable (r : WkReq) (s : State) : Res := .next (s.request 0x0060 r State.selftestEnable)

/-- SELFTEST_FULL: the full self-test over a tile range finds a number of failures. -/
def State.selftestFull (found : Nat) (s : State) (i3c : Bool) (seq : Nat) (args : List Byte) : State :=
  if args.length ≠ 5 ∨ 7 < fieldAt args 0 1 ∨ 2048 < fieldAt args 1 2 + fieldAt args 3 2 then s.answer i3c seq 0x0061 rsArg []
  else s.answer i3c seq 0x0061 rsOk (leBytes 4 found)

def execSelftestFull (r : WkReq) (found : BitVec 32) (s : State) : Res := .next (s.request 0x0061 r (State.selftestFull found.toNat))

/-- The spares map with marks removed. -/
def SparesSt.clearTile (m : SparesSt) (n mask : Nat) : SparesSt :=
  { m with tiles := sset (fun _ => 0) m.tiles n (sget (fun _ => 0) m.tiles n &&& (255 - mask % 256)) }
def SparesSt.clearUnit (m : SparesSt) (u : Nat) : SparesSt :=
  if u < 0x20 then { m with anvil := putBits m.anvil (u % 16) (u % 16) 0 }
  else if u < 0x30 then { m with ce := putBits m.ce (u % 16) (u % 16) 0 }
  else { m with hbm := putBits m.hbm (u % 16) (u % 16) 0 }

/-- FENCE_CLEAR: bits of a physical tile's record, or a unit's mark, in the map and in flash. -/
def State.fenceClear (flashOk : Bool) (s : State) (i3c : Bool) (seq : Nat) (args : List Byte) : State :=
  let go := fun (f : SparesSt → SparesSt) =>
    if !flashOk then (s.wkErr WK_ERR_FLASH).answer i3c seq 0x0062 rsFlash []
    else (({ s with spares := f s.spares }).setWk { s.welkin with marks := f s.welkin.marks }).answer i3c seq 0x0062 rsOk []
  if args.length = 4 ∧ fieldAt args 0 1 < 2 ∧ fieldAt args 1 1 < 32 ∧ fieldAt args 2 1 < 33 then
    go (fun m => m.clearTile (physNo (fieldAt args 0 1) (fieldAt args 1 1) (fieldAt args 2 1)) (fieldAt args 3 1))
  else if args.length = 1 ∧ 0x10 ≤ fieldAt args 0 1 ∧ fieldAt args 0 1 < 0x40 ∧ fieldAt args 0 1 % 16 < 8 then
    go (fun m => m.clearUnit (fieldAt args 0 1))
  else s.answer i3c seq 0x0062 rsArg []

def execFenceClear (r : WkReq) (flashOk : Bool) (s : State) : Res := .next (s.request 0x0062 r (State.fenceClear flashOk))

/-! ## The log mirror (R427) -/

/-- LOG_MIRROR: entries of severity ERROR and CRITICAL at once, every entry each 10 s; a write to flash may fail. -/
def execLogMirror (flashOk : Bool) (s : State) : Res :=
  let all := decide (s.welkin.mirroredAt + 10000000000 ≤ s.start.clock)
  let urgent := s.welkin.log.any (fun e => !e.1 && decide (2 ≤ entrySev e.2))
  if !all && !urgent then .next s
  else if !flashOk then .next (s.wkErr WK_ERR_FLASH)
  else if all then .next ((s.mirrorSome (fun _ => true)).setWk { (s.mirrorSome (fun _ => true)).welkin with mirroredAt := s.start.clock })
  else .next (s.mirrorSome (fun e => decide (2 ≤ entrySev e)))

end Sys2Proof.Machine
end

