-- ==== Sys2Proof/Machine/Drizzle.lean ====
section
/-! DEFINITION. Drizzle mode: entry, sample instants, wake and exit (17_power_domains.md R413 to R417). -/
namespace Sys2Proof.Machine

/-- Drizzle mode is in force. -/
def State.drizzling (s : State) : Bool := s.flag PD_STATUS PD_STATUS_DRIZZLE

/-- The first multiple of INTERVAL_MS × 10^6 after this time (R414). -/
def State.nextSample (s : State) : Nat :=
  let i := max (s.fld PD_DZ_CTRL PD_DZ_CTRL_INTERVAL_MS) 1 * 1000000
  (s.zt / i + 1) * i

/-- A DRIZZLE event (R419). -/
def drizzleDetail (exit cause samples alerts : Nat) : List Byte :=
  leBytes 1 exit ++ leBytes 1 cause ++ zeros 6 ++ leBytes 4 samples ++ leBytes 4 alerts

/-- A WAKE packet waits at Welkin. -/
def State.wakeWaits (s : State) : Bool := !(s.inboxOf 8).isEmpty

/-- The conditions of entry (R413, 19 R446). -/
def State.drizzleAllowed (s : State) : Bool :=
  s.fld SI_START SI_START_PHASE == 7 &&
  (List.range 102).all (fun i => i == 82 || !s.domPresent i || decide (s.domTarget i < 2)) &&
  (List.range 8).all (fun n => s.stackFailed n || s.domTarget (64 + n) == 1) &&
  decide (1 ≤ s.fld PD_DZ_CTRL PD_DZ_CTRL_INTERVAL_MS) && decide (s.fld PD_DZ_CTRL PD_DZ_CTRL_INTERVAL_MS ≤ 10000)

/-- Entry (R413, R416): Welkin stops; a wake condition already present, the WAKE packets that wait at Welkin, takes effect at the first sample. -/
def State.enterDrizzle (s : State) : State :=
  let wake := if s.wakeWaits then 4 + 8 else 0
  let s := ({ s with power := { s.power with outside := 0, wake := wake, sampleAt := s.nextSample } }.setInbox 8 []).setFld PD_STATUS PD_STATUS_DRIZZLE 1
  let s := s.setFld WK_STATUS WK_STATUS_BOOT_STATE 4
  s.postEvent none 0 0x0161 0xFFFF
    (drizzleDetail 0 (s.fld PD_STATUS PD_STATUS_WAKE_CAUSE) (s.fld PD_DZ_STATUS PD_DZ_STATUS_SAMPLES) (s.fld PD_DZ_STATUS PD_DZ_STATUS_ALERTS))

/-- A write of PD_DZ_CTRL (R413): its fields are written; with ENTER the mode is entered or the request refused. -/
def State.writeDz (s : State) (ctx : Ctx) (v : Nat) : State :=
  if !ctxGlobal ctx then s.accessError ctx PD_DZ_CTRL
  else
    let s := ((s.setFld PD_DZ_CTRL PD_DZ_CTRL_WAKE_ON_ALERT (bits v 62 62)).setFld PD_DZ_CTRL PD_DZ_CTRL_RESUME_MASK (bits v 55 48)).setFld
      PD_DZ_CTRL PD_DZ_CTRL_INTERVAL_MS (bits v 13 0)
    if !bit v 63 || s.drizzling then s
    else if s.drizzleAllowed then s.enterDrizzle
    else s.pdErr PD_ERR_DZ_REFUSED

/-- ENTER (R413): a write of PD_DZ_CTRL. -/
def execEnter (ctx : Ctx) (value : Word) (s : State) : Res := .next (s.writeDz ctx value.toNat)

/-! ## Exit (R416, R417) -/

/-- The domain kind of a domain (R403). -/
def domKind (i : Nat) : Nat :=
  if i < 32 then 0 else if i < 64 then 1 else if i < 72 then 2 else if i < 82 then 3 else if i < 84 then 4 else if i < 92 then 5
  else if i < 100 then 6 else 7

/-- Welkin's own vote on a domain set to ON. -/
def State.resumeVote (s : State) (i : Nat) : State :=
  if s.domPresent i then
    ({ s with power := { s.power with resumed := putBits s.power.resumed i i 1 } }).setFld (PD_DOM i) PD_DOM_WELKIN 2
  else s

/-- Drizzle mode ends: the causes, Welkin's votes, the notice, the event. -/
def State.leaveDrizzle (s : State) (cause : Nat) : State :=
  let s := (s.setFld PD_STATUS PD_STATUS_DRIZZLE 0).setFld PD_STATUS PD_STATUS_WAKE_CAUSE cause
  let s := (s.addFld PD_DZ_STATUS PD_DZ_STATUS_EXITS 1).setFld WK_STATUS WK_STATUS_BOOT_STATE 3
  let mask := s.fld PD_DZ_CTRL PD_DZ_CTRL_RESUME_MASK
  let s := (List.range 102).foldl (fun s i => if bit mask (domKind i) then s.resumeVote i else s) s
  let (v, s) := s.retargetAll.fresh
  let s := s.notice (leBytes 2 v)
  let n := s.fld PD_DZ_STATUS PD_DZ_STATUS_SAMPLES
  let a := s.fld PD_DZ_STATUS PD_DZ_STATUS_ALERTS
  let s := { s with power := { s.power with wake := 0, wokeAt := some s.zt } }
  if s.domOn 100 then s.postEvent none 0 0x0161 0xFFFF (drizzleDetail 1 cause n a)
  else { s with power := { s.power with exitEvent := some (cause, n, a) } }

/-- A wake source: it ends the mode, with the causes that waited for the next sample; one that coincides with the exit adds its bit. -/
def State.wakeSource (s : State) (k : Nat) : State :=
  if s.drizzling then s.leaveDrizzle (putBits s.power.wake k k 1)
  else if s.power.wokeAt = some s.zt then
    let c := putBits (s.fld PD_STATUS PD_STATUS_WAKE_CAUSE) k k 1
    ({ s with power := { s.power with exitEvent := s.power.exitEvent.map (fun (e : Nat × Nat × Nat) => (c, e.2)) } }).setFld PD_STATUS PD_STATUS_WAKE_CAUSE c
  else s

/-- ADDRESS_MATCH (R416): a header carries the module's static or dynamic address; the bus falls back to I2C where that is allowed. -/
def execAddressMatch (addr : BitVec 7) (i2c : Bool) (s : State) : Res :=
  let mine := (addr.toNat == s.fld WK_I3C WK_I3C_STATIC_ADDR) ||
    (s.flag WK_I3C WK_I3C_DYN_VALID && addr.toNat == s.fld WK_I3C WK_I3C_DYN_ADDR)
  if mine && (!i2c || s.flag WK_I3C WK_I3C_I2C_EN) then .next (s.wakeSource 0) else .next s

/-- WAKE (R416, 12 R280): Welkin takes a WAKE module packet; outside Drizzle mode it has no further effect. -/
def execWake (s : State) : Res :=
  match s.inboxOf 8 with
  | [] => .next s
  | _ :: rest => .next ((s.setInbox 8 rest).wakeSource 2)

/-! ## Samples (R414, R415) -/

/-- A reading lies inside its bounds: kinds 0, 1 and 5 compare as two's complement. -/
def insideBounds (kind v lo hi : Nat) : Bool :=
  if kind = 0 ∨ kind = 1 ∨ kind = 5 then decide (signed 16 lo ≤ signed 32 v) && decide (signed 32 v ≤ signed 16 hi)
  else decide (lo ≤ v) && decide (v ≤ hi)

/-- One threshold entry evaluated with its sensor's raw reading. -/
def State.sampleEntry (s : State) (n raw : Nat) : State :=
  let c := s.fld (PD_DZ_THR n) PD_DZ_THR_SENSOR
  if !(s.flag (PD_DZ_THR n) PD_DZ_THR_ENABLE) || decide (6 ≤ c / 4096) || !s.sensorExists c || !s.sensorOn c then s
  else
    let v := s.calibrated c raw
    let s := s.setSensor c v
    let inside := insideBounds (c / 4096) v (s.fld (PD_DZ_THR n) PD_DZ_THR_LOW) (s.fld (PD_DZ_THR n) PD_DZ_THR_HIGH)
    let was := bit s.power.outside n
    let s := { s with power := { s.power with outside := putBits s.power.outside n n (b2n (!inside)) } }
    if inside || was then s
    else
      let s := (s.pdErr PD_ERR_DZ_ALERT).addFld PD_DZ_STATUS PD_DZ_STATUS_ALERTS 1
      let s := (s.logOwn 6 [n, v]).inBand
      if s.flag PD_DZ_CTRL PD_DZ_CTRL_WAKE_ON_ALERT then
        { s with power := { s.power with wake := putBits s.power.wake 1 1 1 } }
      else s

/-- A request of any CODE served; outcomes that hang on the flash or on a test are free (log entry 1). -/
def State.serveAny (s : State) (code : Nat) : State :=
  let (v, s) := s.fresh
  let ok := v % 2 == 0
  match code with
  | 0x0001 => s.takeHead code (fun s => s.replyTo 0x0001)
  | 0x0002 => s.takeHead code State.bufBegin
  | 0x0003 => s.takeHead code State.bufWrite
  | 0x0004 => s.takeHead code State.bufRead
  | 0x0005 => s.takeHead code State.bufRelease
  | 0x0010 => s.takeHead code (State.fwCommit (v % 3))
  | 0x0011 => s.takeHead code State.svnCommit
  | 0x0020 => s.takeHead code State.attest
  | 0x0021 => s.takeHead code State.getCert
  | 0x0022 => s.takeHead code State.idPubkey
  | 0x0030 => s.takeHead code (State.recordWrite ok)
  | 0x0031 => s.takeHead code State.recordRead
  | 0x0040 => s.takeHead code State.lcChallenge
  | 0x0041 => s.takeHead code State.lcTransition
  | 0x0050 => s.takeHead code (State.planSet ok)
  | 0x0051 => s.takeHead code State.timeSet
  | 0x0052 => s.takeHead code State.linkRetrain
  | 0x0053 => s.takeHead code State.fabricRequest
  | 0x0060 => s.takeHead code State.selftestEnable
  | 0x0061 => s.takeHead code (State.selftestFull (v % 2 ^ 32))
  | 0x0062 => s.takeHead code (State.fenceClear ok)
  | 0x0070 => s.takeHead code (fun s => s.replyTo 0x0070)
  | 0x0071 => s.takeHead code (fun s => s.replyTo 0x0071)
  | _ => s

/-- The requests held at both interfaces, and those of other modules, answered in order of arrival (R413, 18 R439). -/
def State.serveHeld (s : State) : State :=
  let s := s.setFld WK_STATUS WK_STATUS_BOOT_STATE 3
  let s := (List.range 2).foldl (fun s _ =>
    match s.welkin.reqs with | h :: _ => s.serveAny (fieldAt h.payload 0 2) | [] => s) s
  s.serveAllMgmt.setFld WK_STATUS WK_STATUS_BOOT_STATE 4

/-- SAMPLE (R414): at a sample instant, with the raw reading that each entry's sensor has. -/
def execSample (readings : List (BitVec 32)) (s : State) : Res :=
  if !s.drizzling || decide (s.zt < s.power.sampleAt) then .next s
  else
    let s := (enumFrom 0 (readings.take 16)).foldl (fun s e => s.sampleEntry e.1 e.2.toNat) s
    let s := (s.addFld PD_DZ_STATUS PD_DZ_STATUS_SAMPLES 1).serveHeld
    let s := { s with power := { s.power with sampleAt := s.nextSample } }
    .next (if s.power.wake = 0 then s else s.leaveDrizzle s.power.wake)

end Sys2Proof.Machine
end

