-- ==== Sys2Proof/Machine/Resets.lean ====
section
/-! DEFINITION. The five reset levels (19_startup_and_reset.md R447 to R450, R453; 02 R53, 03 R85, 08 R200, 10 R240, 13 R333, 16 R402). -/
namespace Sys2Proof.Machine

/-! ## The reach of warm and partition reset (R447) -/

/-- Self-test slices of some tiles end, counted neither as passed nor as failed; an SRAM bank's contents are back (R449). -/
def State.dropSlices (s : State) (hit : Nat → Bool) : State :=
  { s with tests := { s.tests with slices := s.tests.slices.filter (fun r => !hit r.tile) } }

/-- A tile reset (03 R85, 04 R109, 07 R170, 08 R200). -/
def State.tileReset (s : State) (t : Nat) : State := (s.dropSlices (· == t)).resetTile t false

/-- Commands of a partition's tiles that an Anvil unit holds and has not started are removed with TILE_RESET; the first of a unit's input
is running and completes under the partition's present image (08 R200). -/
def State.dropHeldAnvil (s : State) (p : Nat) (mine : Nat → Bool) : State :=
  (List.range 8).foldl (fun s u =>
    let l := (s.anvil u).input
    let under := match l.head? with
      | some e => if mine e.1 && (s.anvil u).under.isNone then some (e.2.fwd, s.part p) else (s.anvil u).under
      | none => none
    let out := (l.drop 1).filter (fun e => mine e.1)
    out.foldl (fun s e => s.anvilReport e.1 e.2 stTileReset 0 []) (s.setAnvil u { input := l.take 1 ++ (l.drop 1).filter (fun e => !mine e.1), under := under })) s

/-- The launches that nothing is left of as a partition is reset: those of a switch that it ends, and those of a sliced image between two slots; each is
abandoned and asks for its LAUNCH_DONE record (03 R57). -/
def PartSt.cutShort (ps : PartSt) : List LaunchTrack :=
  (ps.aborted ++ ps.tracks.filter (fun k => k.tiles.isEmpty)).map (fun k => { k with abandoned := true })

/-- The loader state of a partition after a reset (02 R53, R8): no image staged, armed or active; launches that tiles have still to finish stay
known. The routing tables and the shares stay in the router. -/
def State.resetLoader (s : State) (p : Nat) (warm : Bool) : State :=
  let old := s
  let ps := s.part p
  let s := s.setPart p { tracks := if warm then [] else ps.tracks.filter (fun k => !k.tiles.isEmpty) }
  let s := if warm then s else ps.cutShort.foldl (fun s k => s.launchDone k) s
  let s := (((s.wr (SI_STATUS p) (regReset (SI_STATUS p)).toNat).setMeas (SI_MEAS_STAGED p) 0).setMeas (SI_MEAS_ACTIVE p) 0)
  let s := { s with zenith := { s.zenith with frameAt := sset (fun _ => 0) s.zenith.frameAt p 0 } }
  s.resetChanged old

/-- Watches of a partition return to IDLE and its USER_EN clears (16 R402). -/
def State.resetWatches (s : State) (p : Nat) : State :=
  let s := (List.range 8).foldl (fun s w => if s.fld (TL_WATCH_CTRL w) TL_WATCH_CTRL_PARTITION = p then s.watchIdle w else s) s
  s.setFld (TL_PCTRL p) TL_PCTRL_USER_EN 0

/-- What partition and warm reset do alike for a partition: its collectives, its loader state, its queues, its image votes other than port
votes, its bit in ZN_STOP_STATE (R447, R450; 17 R410). -/
def State.resetJob (s : State) (p : Nat) (warm : Bool) : State :=
  let s := (s.resetCollectives p warm).resetLoader p warm
  let st := s.fld ZN_STOP_STATE ZN_STOP_STATE_STOPPED
  ((s.setFld ZN_STOP_STATE ZN_STOP_STATE_STOPPED (putBits st p p 0)).imageUnvote p (fun i => decide (72 ≤ i) && decide (i < 82))).settleRecords

/-- A partition reset. -/
def State.partReset (s : State) (p : Nat) : State :=
  let tiles := (s.part p).ownTiles
  let mine := fun (t : Nat) => tiles.contains t
  let s := (s.dropSlices mine).dropHeldAnvil p mine
  let s := tiles.foldl (fun s t => s.resetTile t true) s
  let s := { s with waits := s.waits.filter (fun w => !(decide (w.2 < 16384) && mine (w.2 / 8))) }
  let s := (s.resetJob p false).resetWatches p
  (List.range 2).foldl (fun s d => s.setWindow d (1 + p) ((s.window d (1 + p)).1, 0)) s

/-- The registers of every block instance of a kind zeroed. -/
def State.clearInstances (s : State) (base : Nat → Nat) (n : Nat) : State :=
  (List.range n).foldl (fun s k => s.resetInstance (base k) (fun _ => false)) s

/-- A warm reset: nothing of it is reported (10 R240). Memory, Zenith, Welkin, the router with its ports, UC_ registers, HB_ counts, the
spares map, HOST and WELKIN votes, counters and schedules stay. -/
def State.warmReset (s : State) : State :=
  let s := (List.range 2048).foldl (fun s t => ((s.zeroSync t).resetTcRegs t true).resetMeRegs t true) s
  let s := { s with tiles := [], queues := [], hubs := [], win := [], hubStart := [], evPend := [] }
  let s := (List.range 8).foldl (fun s p => (s.resetJob p true).resetWatches p) s
  let s := (List.range 2).foldl (fun s d => s.traceDiscard d) s
  let s := { s with tiles := [], queues := [], hubs := [], win := [], hubStart := [], evPend := [], sigNet := [], sync := [], haloNet := [], anvils := [], tests := {}
                    waits := s.waits.filter (fun w => decide (0x90000 ≤ w.2)) }
  let s := (s.clearInstances AV_STATUS 8).clearInstances QH_STATUS 2
  let s := (List.range 8).foldl (fun s p => (s.wr (SI_DRAW_KEY0 p) 0).wr (SI_DRAW_KEY1 p) 0) (s.setFld SI_FORCE_PASS SI_FORCE_PASS_MODE 0)
  ((List.range 102).foldl (fun s i => s.setFld (PD_DOM i) PD_DOM_LIB 0) s).retargetAll

/-! ## SI_RESET (R448 to R450) -/

/-- A request that is ignored (R448, R450). -/
def State.resetRefused (s : State) : State := s.addFld SI_RESET_STATUS SI_RESET_STATUS_REFUSED 1

/-- The reset of a level and its argument (R449 steps 1 to 3): 1 TILE, 2 PARTITION, 3 WARM. -/
def State.applyReset (s : State) (r : Nat × Nat) : State :=
  match r.1 with
  | 1 => s.tileReset r.2
  | 2 => s.partReset r.2
  | _ => s.warmReset

/-- A request from a context that the level accepts: refused while BUSY, else BUSY is set and the reached scope is reset (R449). -/
def State.requestReset (s : State) (ctx : Ctx) (allowed : Bool) (good : Bool) (r : Nat × Nat) : State :=
  if !allowed then s.accessError ctx SI_RESET
  else if !good || s.flag SI_RESET_STATUS SI_RESET_STATUS_BUSY then s.resetRefused
  else
    let s := s.applyReset r
    ({ s with start := { s.start with resetting := some r } }).setFld SI_RESET_STATUS SI_RESET_STATUS_BUSY 1

/-- TILE_RESET: from the module context, Welkin, the library, and the kernel context of the partition that owns the tile. -/
def State.tileResetBy (s : State) (ctx : Ctx) (t : Nat) : State :=
  let ok := match ctx with
    | .module => true | .welkin => true | .library => true
    | .kernel p => s.tileOwner t == some p.val
    | _ => false
  s.requestReset ctx ok (s.tilePresent t) (1, t)

def execTileReset (ctx : Ctx) (t : Nat) (s : State) : Res := .next (s.tileResetBy ctx t)

/-- PARTITION_RESET: from the module context, Welkin, and the partition's kernel context. -/
def State.partResetBy (s : State) (ctx : Ctx) (p : Nat) : State :=
  let ok := match ctx with | .module => true | .welkin => true | .kernel q => q.val == p | _ => false
  s.requestReset ctx ok true (2, p)

def execPartitionReset (ctx : Ctx) (p : Nat) (s : State) : Res := .next (s.partResetBy ctx p)

/-- WARM_RESET: from the module context and Welkin. -/
def State.warmResetBy (s : State) (ctx : Ctx) : State := s.requestReset ctx (ctxGlobal ctx) true (3, 0)

def execWarmReset (ctx : Ctx) (s : State) : Res := .next (s.warmResetBy ctx)

/-- The level's count. -/
def resetCount (level : Nat) : Fld :=
  match level with | 1 => SI_RESET_STATUS_TILE | 2 => SI_RESET_STATUS_PARTITION | _ => SI_RESET_STATUS_WARM

/-- RESET_COMPLETION (R449 steps 3 and 4): what reached the scope since is reset with it; ZT, the count, LAST_LEVEL, BUSY. -/
def execResetCompletion (s : State) : Res :=
  match s.start.resetting with
  | none => .next s
  | some r =>
    let s := s.applyReset r
    let s := ({ s with start := { s.start with resetting := none } }).wr SI_RESET_ZT s.zt
    let s := (s.addFld SI_RESET_STATUS (resetCount r.1) 1).setFld SI_RESET_STATUS SI_RESET_STATUS_LAST_LEVEL r.1
    .next (s.setFld SI_RESET_STATUS SI_RESET_STATUS_BUSY 0)

/-- A write of SI_RESET (R448): LEVEL 0 or a reserved field set is refused. -/
def State.writeReset (s : State) (ctx : Ctx) (v : Nat) : State :=
  let bad := decide (2 ^ 32 ≤ v) || bits v 15 11 != 0 || bits v 7 2 != 0
  let level := bits v 1 0
  if bad || level == 0 then s.resetRefused
  else if level = 1 then s.tileResetBy ctx (bits v 31 16)
  else if level = 2 then s.partResetBy ctx (bits v 10 8)
  else s.warmResetBy ctx

/-! ## Module and power-on reset (R447, R453, 18 R421, R432) -/

/-- The records of a type are erased. -/
def WelkinSt.eraseOwner (w : WelkinSt) : WelkinSt :=
  { w with records := w.records.filter (fun r => recSigner (recTy r) != some 1) }

/-- A pending life-cycle transition takes effect at the reset (18 R432). -/
def State.applyLifecycle (s : State) : State :=
  match s.fuses.lcTarget with
  | none => s
  | some t =>
    let s := { s with fuses := { s.fuses with lifecycle := t, lcTarget := none } }
    if t = 4 then s.setWk { s.welkin.eraseOwner with plan := none, planFlash := none, hours := [] }
    else if t = 5 then
      ({ s with fuses := { s.fuses with seed := some (List.replicate 32 0xFF) } }).setWk
        { s.welkin.eraseOwner with plan := none, planFlash := none, hours := [], marks := {} }
    else s

/-- The equivalent hours of every Contrail module are written (R453, 11 R275). -/
def State.writeHours (s : State) : State :=
  (List.range 10).foldl (fun s n =>
    match (s.port n).contrail with
    | some c => if c.ok then s.setWk { s.welkin with hours := putHours s.welkin.hours c.serial (c.hours / 2 ^ 32) } else s
    | none => s) s

/-- What Welkin keeps through a module reset: its flash, its always-on SRAM and its frame buffers (18 R421). -/
def WelkinSt.restarted (w : WelkinSt) : WelkinSt :=
  { w with inForce := [], deferred := [], fabric := none, retrain := none, mgmt := [], buffer := none, challenge := none }

/-- The registers that a module reset keeps: the WK_ block (18 R440) and the ZN_ block (14 R359). -/
def keptAtModule (a : Nat) : Bool :=
  (decide (0x20000010000 ≤ a) && decide (a < 0x20000020000)) || (decide (0x20000020000 ≤ a) && decide (a < 0x20000030000))

/-- Zenith at a module reset (14 R343, R345): every port leaves, so that the parent and the announcements are lost; STATE is ACQUIRE, and the
election begins anew. -/
def State.zenithReset (s : State) : State :=
  let s := if s.znParent.isSome then s.znErr ZN_ERR_PARENT_LOST else s
  let s := ((s.setFld ZN_STATUS ZN_STATUS_ROOT 0).setFld ZN_STATUS ZN_STATUS_PARENT 0xF).setFld ZN_STATUS ZN_STATUS_HOPS 0
  ({ s with zenith := { s.zenith with anns := [], windows := [] } }).acquire

/-- Module reset (R447, R453): the log is mirrored and the hours are written; then everything is reset but what the level keeps. -/
def State.moduleReset (s : State) : State :=
  let s := (((s.mirrorSome (fun _ => true)).writeHours).applyLifecycle).zenithReset
  let t : State := { State.reset with
    pending := s.pending
    free := s.free
    out := s.out
    zt := s.zt
    fuses := s.fuses
    spares := s.spares
    sensors := s.sensors
    welkin := s.welkin.restarted
    zenith := s.zenith
    regs := s.regs.filter (fun r => keptAtModule r.1)
    pwr := { req := s.fld WK_PCAP WK_PCAP_F_REQ_MHZ, capW := s.fld WK_PCAP WK_PCAP_CAP_W, cap := s.fld WK_PCAP WK_PCAP_F_REQ_MHZ
             lowSince := s.pwr.lowSince, tripped := s.pwr.tripped }
    start := { clock := s.start.clock, releasedAt := s.start.clock, phaseAt := s.start.clock } }
  (t.setFld WK_STATUS WK_STATUS_BOOT_STATE 0).setFld WK_STATUS WK_STATUS_PLAN_PENDING 0

/-- MODULE_RESET: RESET_N has been low for 1 µs. -/
def execModuleReset (s : State) : Res := .next s.moduleReset

/-- What the flash keeps through a loss of power: firmware, records, the log's mirror, hours, plan and marks (R447, 18 R420); entries of
severity ERROR and CRITICAL have reached the mirror (18 R427). -/
def WelkinSt.poweredOff (w : WelkinSt) : WelkinSt :=
  { fw := w.fw, records := w.records, mirror := w.mirror, hours := w.hours, planFlash := w.planFlash, marks := w.marks, draws := w.draws }

/-- Power-on reset (R447). -/
def State.powerOnReset (s : State) : State :=
  let s := (s.mirrorSome (fun e => decide (2 ≤ entrySev e))).applyLifecycle
  { State.reset with
    pending := s.pending
    free := s.free
    out := s.out
    fuses := s.fuses
    welkin := s.welkin.poweredOff
    start := { clock := s.start.clock, releasedAt := s.start.clock, phaseAt := s.start.clock } }

/-- POWER_ON_RESET: the input is applied, or leaves its operating range. -/
def execPowerOnReset (s : State) : Res := .next s.powerOnReset

end Sys2Proof.Machine
end

