-- ==== Sys2Proof/Machine/Electrical.lean ====
section
/-! DEFINITION. Sensors, frequency points, the power cap, temperature limits, the supervision of the input and the thermal trip
(20_electrical_and_mechanical.md R454 to R460, R464; 18 R426). -/
namespace Sys2Proof.Machine

/-- WK_PWR_ERR bits with their event count (R464). -/
def State.pwrErr (s : State) (f : Fld) : State := s.sticky WK_PWR_ERR f WK_PWR_EVENTS

def State.setPwr (s : State) (p : PwrSt) : State := { s with pwr := p }

/-- A log entry of a severity whose CODE the spec does not give: a free value (log entry 1). -/
def State.logAnon (s : State) (sev : Nat) (vals : List Nat) : State :=
  let (v, s) := s.fresh
  s.logSev (v % 65536) sev vals

/-- The regions whose clock runs have a point in force. -/
def State.pointsInForce (s : State) : List Nat := ((List.range 32).filter (fun r => s.domOn r)).map (fun r => s.regionMHz r)

/-- The mean of the input power readings of the last 10 ms. -/
def PwrSt.mean (p : PwrSt) : Nat := if p.readings.isEmpty then 0 else p.readings.sum / p.readings.length

/-- The mean exceeds a power. -/
def PwrSt.meanOver (p : PwrSt) (w : Nat) : Bool := decide (w * p.readings.length < p.readings.sum)

/-- A region's thermal point lies below the requested point. -/
def State.thermalLow (s : State) : Bool :=
  (List.range 32).any (fun r => decide (sget (fun _ => 1800) s.pwr.thermal r < s.fld WK_PCAP WK_PCAP_F_REQ_MHZ))

/-- The cap point lies below the requested point (R457). -/
def PwrSt.capped (p : PwrSt) : Bool := decide (p.cap < p.req)

/-- WK_PWR_STATUS as it reads (R464): with no region clocked no point is in force. -/
def State.pwrStatus (s : State) : Nat :=
  let l := s.pointsInForce
  let v := putBits (s.rd WK_PWR_STATUS) WK_PWR_STATUS_F_HIGH_MHZ.hi WK_PWR_STATUS_F_HIGH_MHZ.lo (l.foldl max 0)
  let v := putBits v WK_PWR_STATUS_F_LOW_MHZ.hi WK_PWR_STATUS_F_LOW_MHZ.lo (match l with | [] => 0 | x :: t => t.foldl min x)
  let v := putBits v WK_PWR_STATUS_INPUT_W.hi WK_PWR_STATUS_INPUT_W.lo s.pwr.mean
  let v := putBits v WK_PWR_STATUS_HBM_LIMIT.hi WK_PWR_STATUS_HBM_LIMIT.lo (b2n (s.pwr.hbmLimited != 0))
  let v := putBits v WK_PWR_STATUS_THERMAL.hi WK_PWR_STATUS_THERMAL.lo (b2n s.thermalLow)
  putBits v WK_PWR_STATUS_CAP.hi WK_PWR_STATUS_CAP.lo (b2n s.pwr.capped)

/-! ## Sensors (R459, 18 R426) -/

/-- A region's thermal point follows its temperature, in 1/256 °C (R459): one step down a sample at 95 °C or more, one step up each 10 ms below
90 °C until it limits nothing. -/
def State.thermalStep (s : State) (r : Nat) (temp : Int) : State :=
  let t := sget (fun _ => 1800) s.pwr.thermal r
  let stamp := fun (p : PwrSt) => { p with thermalAt := sset (fun _ => 0) p.thermalAt r s.start.clock }
  if temp ≥ 95 * 256 then
    let t' := max 800 (min t s.pwr.req - 50)
    let s' := s.setPwr (stamp { s.pwr with thermal := sset (fun _ => 1800) s.pwr.thermal r t' })
    if s.pwr.req ≤ t then s'.pwrErr WK_PWR_ERR_THERMAL else s'
  else if temp < 90 * 256 ∧ t < 1800 ∧ sget (fun _ => 0) s.pwr.thermalAt r + 10000000 ≤ s.start.clock then
    let t' := if s.pwr.req ≤ t + 50 then 1800 else t + 50
    s.setPwr (stamp { s.pwr with thermal := sset (fun _ => 1800) s.pwr.thermal r t' })
  else s

/-- A stack's refresh rate and bandwidth limit follow its temperature (R459, 09 R216). -/
def State.stackHeat (s : State) (n : Nat) (temp : Int) : State :=
  let s := if s.fld (HB_STATUS n) HB_STATUS_STATE = 3 then s.refreshRate n temp else s
  let was := bit s.pwr.hbmLimited n
  if temp ≥ 92 * 256 ∧ was = false then (s.setPwr { s.pwr with hbmLimited := putBits s.pwr.hbmLimited n n 1 }).pwrErr WK_PWR_ERR_HBM_LIMIT
  else if temp < 88 * 256 ∧ was = true then s.setPwr { s.pwr with hbmLimited := putBits s.pwr.hbmLimited n n 0 }
  else s

/-- An input power reading, in W: the last 100 make the 10 ms mean; readings in a row above 1,950 W are counted (R457). -/
def State.powerReading (s : State) (v : Nat) : State :=
  s.setPwr { s.pwr with readings := (v :: s.pwr.readings).take 100, fast := if 1950 < v then s.pwr.fast + 1 else 0 }

/-- What a sensor's value causes. -/
def State.sensorActs (s : State) (c v : Nat) : State :=
  match c / 4096 with
  | 0 => s.thermalStep (c % 4096) (signed 32 v)
  | 1 => s.stackHeat (c % 4096) (signed 32 v)
  | 2 => if 48000 ≤ v then s.setFld WK_PWR_STATUS WK_PWR_STATUS_VIN_LOW 0 else s
  | 4 => s.powerReading v
  | _ => s

/-- A sensor's period has passed since its last value. -/
def State.sensorDue (s : State) (c : Nat) : Bool :=
  !s.sensors.any (fun e => e.1 == c) || decide ((s.sensor c).2 + sensorPeriod (c / 4096) ≤ s.zt) || decide (s.zt < (s.sensor c).2)

/-- SENSOR_SAMPLE (18 R426): Welkin samples a sensor, whose raw reading is given, at its period; in Drizzle mode it does not. -/
def execSensorSample (code : BitVec 16) (value : BitVec 32) (s : State) : Res :=
  let c := code.toNat
  if s.bootState == 3 && s.sensorExists c && s.sensorOn c && s.sensorDue c then
    let v := s.calibrated c value.toNat
    .next ((s.setSensor c v).sensorActs c v)
  else .next s

/-! ## The power cap (R457) -/

/-- The cap point set, with the CAP bit on entry into the capped state. -/
def State.setCap (s : State) (was : Bool) (p : PwrSt) : State :=
  let s := s.setPwr p
  if !was && p.capped then s.pwrErr WK_PWR_ERR_CAP else s

/-- CAP_DECISION: each 1 ms, by Welkin's clock. Values written to WK_PCAP are taken first; a cap point that limits nothing follows the request. -/
def State.capDecision (s : State) : State :=
  let now := s.start.clock
  let req := s.fld WK_PCAP WK_PCAP_F_REQ_MHZ
  let w := s.fld WK_PCAP WK_PCAP_CAP_W
  let was := s.pwr.capped
  let p : PwrSt := { s.pwr with req := req, capW := w, cap := if was then min s.pwr.cap req else req, decidedAt := now }
  let above : Bool := p.meanOver w
  let low : Bool := (List.range 32).all (fun r => s.regionMHz r == 800)
  let n : Nat := if above && low then p.overFor + 1 else 0
  let p : PwrSt := { p with overFor := n }
  let s : State := if above then s.setCap was { p with cap := max 800 (p.cap - 50) }
    else if p.raisedAt + 10000000 ≤ now ∧ p.readings.sum * 100 < 97 * w * p.readings.length then
      s.setCap was { p with cap := min req (p.cap + 50), raisedAt := now }
    else s.setCap was p
  if n = 100 then s.logAnon 2 [p.mean, w] else s

def execCapDecision (s : State) : Res :=
  if s.bootState == 3 && decide (s.pwr.decidedAt + 1000000 ≤ s.start.clock) then .next s.capDecision else .next s

/-- FAST_LIMIT: two 100 µs readings in a row above 1,950 W lower every region four steps; the cap loop goes on from there. -/
def State.fastLimit (s : State) : State :=
  let m := min s.pwr.req s.pwr.cap
  let s' := s.setCap s.pwr.capped { s.pwr with
    cap := max 800 (m - 200)
    thermal := (List.range 32).foldl (fun l r => let t := sget (fun _ => 1800) l r; if t < m then sset (fun _ => 1800) l r (max 800 (t - 200)) else l) s.pwr.thermal
    fast := 0 }
  s'.pwrErr WK_PWR_ERR_FAST_LIMIT

def execFastLimit (s : State) : Res := if 2 ≤ s.pwr.fast then .next s.fastLimit else .next s

/-- A write of WK_PCAP (R464): one with a value out of its range or off its step is ignored and counted; it acts at the next decision. -/
def State.writePcap (s : State) (ctx : Ctx) (v : Nat) : State :=
  let f := bits v 47 32
  let w := bits v 15 0
  if !ctxGlobal ctx then s.accessError ctx WK_PCAP
  else
    if 800 ≤ f ∧ f ≤ 1800 ∧ f % 50 = 0 ∧ 600 ≤ w ∧ w ≤ 1950 then (s.setFld WK_PCAP WK_PCAP_F_REQ_MHZ f).setFld WK_PCAP WK_PCAP_CAP_W w
    else s.accessError ctx WK_PCAP

/-! ## The input (R455) -/

/-- VIN_LOW: the input falls into the ride-through band. -/
def execVinLow (s : State) : Res :=
  if s.flag WK_PWR_STATUS WK_PWR_STATUS_VIN_LOW then .next s
  else .next (((s.setPwr { s.pwr with lowSince := s.start.clock }).setFld WK_PWR_STATUS WK_PWR_STATUS_VIN_LOW 1).pwrErr WK_PWR_ERR_VIN_LOW)

/-- Power-on reset from the input leaving its range, logged as CRITICAL. -/
def State.inputLost (s : State) (why : Nat) : State := (s.logAnon 3 [why]).powerOnReset

/-- RIDE_THROUGH: below 48.0 V for more than 10 ms. -/
def execRideThrough (s : State) : Res :=
  if s.flag WK_PWR_STATUS WK_PWR_STATUS_VIN_LOW && decide (s.pwr.lowSince + 10000000 < s.start.clock) then .next (s.inputLost 0) else .next s

/-- BROWN_OUT: below 47.0 V. -/
def execBrownOut (s : State) : Res := .next (s.inputLost 1)

/-- OVERVOLTAGE: above 58.0 V for 10 µs. -/
def execOvervoltage (s : State) : Res := .next (s.inputLost 2)

/-! ## The thermal trip (R460) -/

/-- The trip limit of a sensor, in 1/256 °C: regions 110 °C, stacks 100 °C. -/
def tripLimit (c : Nat) : Int := if c / 4096 = 0 then 110 * 256 else 100 * 256

/-- A sensor that the comparators watch. -/
def tripSensor (c : Nat) : Bool := decide (c / 4096 < 2) && decide (c % 4096 < sensorCount (c / 4096))

/-- TRIP: a comparator finds a region or a stack at its limit; the module enters module reset and stays there. -/
def execTrip (code : BitVec 16) (s : State) : Res :=
  let c := code.toNat
  if !tripSensor c then .next s
  else
    let s := (s.pwrErr WK_PWR_ERR_TRIP).logAnon 3 [c]
    .next (s.setPwr { s.pwr with tripped := if s.pwr.tripped.contains c then s.pwr.tripped else s.pwr.tripped ++ [c] }).moduleReset

/-- The reading of a tripped sensor is 20 °C below its limit or lower. -/
def tripCool (c : Nat) (v : BitVec 32) : Bool := decide (v.toInt ≤ tripLimit c - 20 * 256)

/-- TRIP_RELEASE: every sensor that tripped reads at least 20 °C below its limit; reset is released. -/
def execTripRelease (readings : List (BitVec 32)) (s : State) : Res :=
  if s.pwr.tripped ≠ [] ∧ readings.length = s.pwr.tripped.length ∧ (s.pwr.tripped.zip readings).all (fun e => tripCool e.1 e.2) = true then
    .next { s.setPwr { s.pwr with tripped := [] } with start := { s.start with releasedAt := s.start.clock, phaseAt := s.start.clock } }
  else .next s

end Sys2Proof.Machine
end

