-- ==== Sys2Proof/Machine/Mmio.lean ====
section
/-! DEFINITION. Register accesses: the writer restrictions, access codes and side effects of every block's registers, and what each
register reads as (00_scope.md R5 to R10, 01 R19 to R22 and the register tables of the chapters); REGISTER_WRITE, READ_CLEARS, ZN_NOW
and MASK_CLEAR. -/
namespace Sys2Proof.Machine

/-! ## Access codes (R7, R8, R10) -/

/-- A register's value after a write, field by field; a locked RWL field keeps its value. -/
def writtenValue (r : RegRow) (old v : Nat) (locked : Bool) : Nat :=
  r.fields.foldl (fun m f =>
    let x := bits v f.1.hi f.1.lo
    let y := bits m f.1.hi f.1.lo
    match f.2 with
    | .rw => putBits m f.1.hi f.1.lo x
    | .rwl => if locked then m else putBits m f.1.hi f.1.lo x
    | .w1c => putBits m f.1.hi f.1.lo (y - (y &&& x))
    | .w1s => putBits m f.1.hi f.1.lo (y ||| x)
    | _ => m) old

/-- A register has a field of an access code. -/
def RegRow.hasAcc (r : RegRow) (c : Acc) : Bool := r.fields.any (fun f => f.2 == c)

/-- A write that its block's rules allow, by the access codes alone; an offset that holds no register is reserved and ignores it. A
write to a locked register is counted as a lock violation (R7, 02 R46). -/
def State.putReg (s : State) (a v : Nat) (locked : Bool) : State :=
  match rowOf a with
  | none => s
  | some r =>
    let s := s.wr a (writtenValue r (s.rd a) v locked)
    if locked && r.hasAcc .rwl then s.satFld SI_LOCK_VIOL SI_LOCK_VIOL_COUNT 1 else s

/-- A write that a context may make, else an access error (10 R245). -/
def State.grant (s : State) (ok : Bool) (ctx : Ctx) (a : Nat) (t : State) : State := if ok then t else s.accessError ctx a

/-- A context of a partition: outside the grants of R244 it has no access. -/
def ctxJob : Ctx → Bool | .kernel _ => true | .user _ => true | .reserved _ => true | _ => false

/-! ## Writes, block by block -/

/-- WK_ (18 R440): Welkin and the module context. -/
def State.writeWk (s : State) (ctx : Ctx) (a v : Nat) : State :=
  s.grant (ctxGlobal ctx) ctx a
    (if a = WK_CAL_DATA then
      s.setWk { s.welkin with calUser := sset (fun _ => 0) s.welkin.calUser (s.fld WK_CAL_SEL WK_CAL_SEL_SENSOR) (bits v 31 16) }
    else if a = WK_OSC_TRIM then s.calUserWrite a (bits v 31 16)
    else if a = WK_PCAP then s.writePcap ctx v
    else s.putReg a v false)

/-- ZN_STOP_CMD (14 R352, R356, R357): STOP, then RESUME, then IMMEDIATE, which only Welkin may set. -/
def State.stopCmd (s : State) (ctx : Ctx) (v : Nat) : State :=
  if bit v 2 && ctx != .welkin then s.accessError ctx ZN_STOP_CMD
  else
    let s := if bit v 0 then s.orderStop else s
    let s := if bit v 1 then s.orderResume else s
    if bit v 2 then s.originate 0 true s.zt else s

/-- ZN_ (14 R359). -/
def State.writeZn (s : State) (ctx : Ctx) (a o v : Nat) : State :=
  if 0x400 ≤ o ∧ o < 0x600 then
    let p := (o - 0x400) / 0x40
    s.grant (groupWriter ctx p) ctx a (s.putReg a v (s.part p).locked)
  else if a = ZN_ELECT then s.grant (ctx == .welkin) ctx a ((s.putReg a v false).elect)
  else if a = ZN_REF_CFG then
    let t := s.putReg a v false
    s.grant (ctx == .welkin) ctx a
      (if t.flag a ZN_REF_CFG_PPS_EN && !s.flag a ZN_REF_CFG_PPS_EN then t.setZn { t.zenith with lastEdge := t.zt } else t)
  else s.grant (znWriter ctx) ctx a
    (if a = ZN_NEXT_SEC then s.nextSecond v
    else if a = ZN_CTRL then (if bit v 0 then s.reacquire else s)
    else if a = ZN_STOP_CMD then s.stopCmd ctx v
    else if a = ZN_CAL_PPS_IN ∨ a = ZN_CAL_PPS_OUT ∨ (0x80 ≤ o ∧ o < 0xC0) then s.calUserWrite a (bits v 31 16)
    else s.putReg a v false)

/-- PD_ (17 R407, R413, R418). -/
def State.writePd (s : State) (ctx : Ctx) (a o v : Nat) : State :=
  if 0x1000 ≤ o ∧ o < 0x1330 then s.vote ctx ((o - 0x1000) / 8) v
  else if a = PD_DZ_CTRL then s.writeDz ctx v
  else s.grant (ctxGlobal ctx) ctx a (s.putReg a v false)

/-- SI_CTRL (02 R46, R47). -/
def State.siCommand (s : State) (ctx : Ctx) (p v : Nat) : State :=
  match bits v 2 0 with
  | 1 => s.loadImage ctx p
  | 2 => s.armImage p
  | 3 => s.abortStaged p
  | 4 => s.unloadImage p
  | _ => s

/-- SI_ (02 R46, 06 R141, 15 R368, R383, 19 R445, R448). -/
def State.writeSi (s : State) (ctx : Ctx) (a o v : Nat) : State :=
  if 0x100 ≤ o ∧ o < 0x900 then
    let p := (o - 0x100) / 0x100
    s.grant (siWriter ctx p) ctx a (if a = SI_CTRL p then s.siCommand ctx p v else s.putReg a v (s.part p).locked)
  else if a = SI_FORCE_PASS then s.forcePass ctx v
  else if a = SI_RESET then s.writeReset ctx v
  else if 0x1000 ≤ o ∧ o < 0x1048 then s.grant (ctx == .welkin || ctx == .library) ctx a (s.putReg a v false)
  else if a = SI_POLICY ∨ a = SI_TEST_CTRL ∨ (0x1078 ≤ o ∧ o < 0x10A0) then s.grant (ctx == .welkin) ctx a (s.putReg a v false)
  else s.grant (!ctxJob ctx) ctx a (s.putReg a v false)

/-- A partition's window in the TL_ block (16 R393, R401). -/
def State.writeTlWindow (s : State) (ctx : Ctx) (a p w v : Nat) : State :=
  if w = 0 then s.grant (ctx == .module) ctx a (s.putReg a v false)
  else if w = 8 then
    let ok := match ctx with
      | .kernel q => q.val == p
      | .user q => q.val == p && s.flag (TL_PCTRL p) TL_PCTRL_USER_EN
      | _ => false
    s.grant ok ctx a (s.putReg a (bits v 18 8 * 2 ^ 8 + bits v 2 0) false)
  else if 0x100 ≤ w ∧ w < 0x200 then
    if w % 16 = 0 then s.cfga ctx (some p) ((w - 0x100) / 16) v else s.cfgb ctx (some p) ((w - 0x100) / 16) v
  else s.grant (!ctxJob ctx) ctx a s

/-- TL_ (16 R386, R390, R396, R397, R401). -/
def State.writeTl (s : State) (ctx : Ctx) (a o v : Nat) : State :=
  if 0x2000 ≤ o ∧ o < 0x3000 then s.writeTlWindow ctx a ((o - 0x2000) / 0x200) ((o - 0x2000) % 0x200) v
  else if 0x200 ≤ o ∧ o < 0x300 then
    if o % 16 = 0 then s.cfga ctx none ((o - 0x200) / 16) v else s.cfgb ctx none ((o - 0x200) / 16) v
  else if 0x600 ≤ o ∧ o < 0x700 ∧ o % 0x40 = 8 then s.snapCtrl ctx ((o - 0x600) / 0x40) v
  else if 0x600 ≤ o ∧ o < 0x700 ∧ o % 0x40 = 0x10 then s.snapRing ctx ((o - 0x600) / 0x40) v
  else if o = 0x820 ∨ o = 0x830 then s.traceBase ctx ((o - 0x820) / 16) v
  else if 0x900 ≤ o ∧ o < 0x980 ∧ o % 16 = 0 then s.watchCtrl ctx ((o - 0x900) / 16) v
  else if a = TL_DBG_BASE then s.debugBase ctx false v
  else if a = TL_DBG_SIZE then s.debugBase ctx true v
  else s.grant (ctxGlobal ctx) ctx a
    (if 0x100 ≤ o ∧ o < 0x180 then s.writeCounter (selKind (s.rd TL_SEL)) (selInst (s.rd TL_SEL)) ((o - 0x100) / 8) v
    else s.putReg a v false)

/-- RT_ (12 R292, R293, R303). -/
def State.writeRt (s : State) (ctx : Ctx) (a o v : Nat) : State :=
  if 0x100 ≤ o ∧ o < 0x300 then
    let p := (o - 0x100) / 0x40
    let w := o % 0x40
    if !groupWriter ctx p then s.accessError ctx a
    else if w = 8 then
      let s := if bit v 0 then s.epochSwitch p else s
      if bit v 1 then s.forceDone p else s
    else if (w = 0x10 ∨ w = 0x18 ∨ w = 0x20) ∧ s.epochState p ≠ 0 then s.accessError ctx a
    else s.putReg a v false
  else if a = RT_COORD then s.grant (ctx == .welkin) ctx a (s.writeCoord v)
  else s.grant (ctxGlobal ctx) ctx a (s.putReg a v false)

/-- A vector unmasked while PENDING is set and the link is up: one MSI, and PENDING clear (10 R247, R250). -/
def State.unmasked (s : State) (n : Nat) : State :=
  if s.flag (UC_MSI_DATA 0 n) UC_MSI_DATA_PENDING && !s.flag (UC_MSI_DATA 0 n) UC_MSI_DATA_MASK && s.linkActive then
    (s.setFld (UC_MSI_DATA 0 n) UC_MSI_DATA_PENDING 0).sendMsi n
  else s

/-- UC_ (10 R247, R249): instance 1 has no MSI table. -/
def State.writeUc (s : State) (ctx : Ctx) (a n o v : Nat) : State :=
  s.grant (ctxGlobal ctx) ctx a
    (if 0x8000 ≤ o then
      if n = 0 then (let s := s.putReg a v false; if o % 16 = 8 then s.unmasked ((o - 0x8000) / 16) else s) else s
    else s.putReg a v false)

/-- QH_ (10 R228, R230, R239): the global registers, and the writer's window copy. -/
def State.writeQh (s : State) (ctx : Ctx) (a d o v : Nat) : State :=
  match o with
  | 0x100 => s.doorbell ctx d v
  | 0x108 => s.writeWsel ctx d v
  | 0x110 => s.writeDesc0 ctx d v
  | 0x118 => s.writeDesc1 ctx d v
  | 0x120 => s.writeDesc2 ctx d v
  | 0x138 => s.writeWctrl ctx d v
  | 0x140 => s.writeWevq ctx d v
  | _ =>
    if o = 0x128 ∨ o = 0x130 then
      match ctxWin ctx with
      | some w => s.grant (s.actsOn ctx d (s.wsel d w)) ctx a s
      | none => s.accessError ctx a
    else if o < 0x100 then s.grant (ctxGlobal ctx) ctx a (s.putReg a v false)
    else s.grant (!ctxJob ctx) ctx a s

/-- KL_CTRL (11 R265, R270, R277): the bits act in ascending order. -/
def State.klControl (s : State) (n v : Nat) : State :=
  let s := if bit v 0 then s.admitPort n else s
  let s := if bit v 1 then s.retrain n else s
  let s := if bit v 2 then s.recheck n else s
  if bit v 3 then s.disablePort n else s

/-- KL_ (11 R277). -/
def State.writeKl (s : State) (ctx : Ctx) (a n o v : Nat) : State :=
  s.grant (klWriter ctx) ctx a
    (if o = 8 then s.klControl n v
    else if o = 0x10 then s.writePlan n v
    else if o = 0x68 then
      let lane := s.fld (KL_EQ_SEL n) KL_EQ_SEL_LANE
      let x := s.port n
      if lane < 9 then s.setPort n { x with eqUser := sset (fun _ => 0) x.eqUser lane (v % 2 ^ 28) } else s
    else s.putReg a v false)

/-- A partition's ring may be put into service (13 R331): it has an active image, and the ring and the PROD word lie in its owned set. -/
def State.ceRingOk (s : State) (n p : Nat) : Bool :=
  let r := CE_RING n p
  let z := s.fld r CE_RING_SIZE_LOG2
  decide (4 ≤ z) && decide (z ≤ 12) && (s.part p).active.isSome && s.owns p (s.fld r CE_RING_BASE) (2 ^ z * 128) &&
    s.owns p (s.fld (CE_PROD_ADDR n p) CE_PROD_ADDR_ADDR) 4

/-- A write of CE_RING (13 R331): BASE and SIZE_LOG2 only while ENABLE is clear; setting ENABLE may be refused. -/
def State.writeRing (s : State) (n p v : Nat) : State :=
  let r := CE_RING n p
  if s.flag r CE_RING_ENABLE then (if bit v 63 then s else (s.setFld r CE_RING_ENABLE 0).retargetAll)
  else
    let s := (s.setFld r CE_RING_SIZE_LOG2 (bits v 52 48)).setFld r CE_RING_BASE (bits v 47 0)
    if !bit v 63 then s
    else if s.ceRingOk n p then (s.setFld r CE_RING_ENABLE 1).retargetAll
    else s.ceErr n CE_ERR_CFG_REFUSED

/-- CE_ (13 R321, R331): instances 4 to 7 have no partition groups. -/
def State.writeCe (s : State) (ctx : Ctx) (a n o v : Nat) : State :=
  if 0x100 ≤ o ∧ o < 0x300 ∧ n < 4 then
    let p := (o - 0x100) / 0x40
    s.grant (groupWriter ctx p) ctx a
      (if a = CE_RING n p then s.writeRing n p v
      else if a = CE_PROD_ADDR n p ∧ s.flag (CE_RING n p) CE_RING_ENABLE = true then s
      else s.putReg a v false)
  else s.grant (ctxGlobal ctx) ctx a (if o = 0x28 then (if bit v 0 then s.clearBreak (n % 4) else s) else s.putReg a v false)

/-- HB_ (09 R221, R223): clearing CE_THRESHOLD restarts the counts of the stack's pseudo-channels. -/
def State.writeHb (s : State) (ctx : Ctx) (a n o v : Nat) : State :=
  if a = HB_LOG_BASE n then s.writeLogBase ctx n v
  else if a = HB_LOG_CTRL n then s.writeLogCtrl ctx n v
  else s.grant (ctxGlobal ctx) ctx a
    (let t := s.putReg a v false
     if o = 0x58 ∧ bit v 3 = true then { t with pch := t.pch.filter (fun e => e.1 / 32 != n) } else t)

/-- A write of a flag or counter register is an update of the cycle (03 R65 step 4): each flag that it changes, or the counter. -/
def State.noteSyncWrite (s : State) (a t v : Nat) : State :=
  if a = TC_FLAGS0 t ∨ a = TC_FLAGS1 t then
    let lo := if a = TC_FLAGS0 t then 0 else 64
    (List.range 64).foldl (fun s k => if bit (s.rd a) k == bit v k then s else s.noteUpdate t (lo + k) (if bit v k then 1 else 2) 0) s
  else if TC_COUNTER t 0 ≤ a ∧ a ≤ TC_COUNTER t 127 then s.noteUpdate t (128 + (a - TC_COUNTER t 0) / 8) 5 (v % 2 ^ 32)
  else s

/-- TC_, ME_ and VU_ (01 R21, 03 R84, 04 R108): the owner's kernel context and the library; a tile out of residence takes none (03 R81), an
absent one ignores them (R5). -/
def State.writeTile (s : State) (ctx : Ctx) (a t v : Nat) : State :=
  if !s.tilePresent t then s.grant (!ctxJob ctx) ctx a s
  else if !s.tileWriter ctx t || (s.slicedOut t && decide (a < 0x20020000000)) then s.accessError ctx a
  else if a = TC_QCTRL t then s.queueCtrl t (bits v 7 0) (bits v 15 8)
  else (s.noteSyncWrite a t v).putReg a v false

/-- A register write by a context (R6, R20, 10 R244, R245): misaligned, or to an address that no block's instance holds, it is refused. -/
def State.mmioWrite (s : State) (ctx : Ctx) (a v : Nat) : State :=
  if a % 8 ≠ 0 then s.accessError ctx a
  else
    match blockOf a with
    | none => s.accessError ctx a
    | some (b, n, o) =>
      match b with
      | .id => s.grant (!ctxJob ctx) ctx a s
      | .wk => s.writeWk ctx a v
      | .zn => s.writeZn ctx a o v
      | .pd => s.writePd ctx a o v
      | .si => s.writeSi ctx a o v
      | .tl => s.writeTl ctx a o v
      | .rt => s.writeRt ctx a o v
      | .uc => s.writeUc ctx a n o v
      | .qh => s.writeQh ctx a n o v
      | .kl => s.writeKl ctx a n o v
      | .ce => s.writeCe ctx a n o v
      | .av => s.grant (ctxGlobal ctx) ctx a (if s.anvilPresent n then s.putReg a v false else s)
      | .hb => s.writeHb ctx a n o v
      | .tc => s.writeTile ctx a n v
      | .me => s.writeTile ctx a n v
      | .vu => s.writeTile ctx a n v

/-- REGISTER_WRITE: a write of a register that has no row of its own, and of those that have one, by the same rules. -/
def execRegisterWrite (ctx : Ctx) (addr : Nat) (value : Word) (s : State) : Res := .next (s.mmioWrite ctx addr value.toNat)

/-- MASK_CLEAR (10 R247): MASK of a vector is cleared. -/
def execMaskClear (ctx : Ctx) (n : Nat) (s : State) : Res :=
  .next (s.grant (ctxGlobal ctx) ctx (UC_MSI_DATA 0 n) ((s.setFld (UC_MSI_DATA 0 n) UC_MSI_DATA_MASK 0).unmasked n))

/-! ## Reads, block by block -/

/-- ID_ (01 R22): fuses, and the running library's version. -/
def State.readId (s : State) (a o : Nat) : Nat :=
  let f := s.fuses
  let rows := if f.grade = 0 then 32 else 24
  match o with
  | 0 => s.rd a + f.stepping % 256 * 2 ^ 16 + f.grade % 256
  | 0x8 => s.rd a + rows * 2 ^ 48 + rows * 32 * 2 ^ 32 + rows * 32 * 2 ^ 16 + rows * 64
  | 0x10 => s.rd a + f.regionMask
  | 0x18 => s.rd a + 0xFF * 2 ^ 56 + 0x3FF * 2 ^ 32 + 0xFF * 2 ^ 24 + f.anvilMask % 256 * 2 ^ 16 + popCount 8 f.anvilMask * 2 ^ 12
  | 0x40 => f.serial
  | _ => s.rd a

/-- WK_ (18 R426, R440, 20 R464). -/
def State.readWk (s : State) (a : Nat) : Nat :=
  if a = WK_STATUS then s.wkStatus
  else if a = WK_CAL_DATA then s.calData (s.fld WK_CAL_SEL WK_CAL_SEL_SENSOR)
  else if a = WK_PWR_STATUS then s.pwrStatus
  else if a = WK_SENS_DATA then
    let c := s.fld WK_SENS_SEL WK_SENS_SEL_SENSOR
    if s.sensorExists c then (s.sensor c).1 % 2 ^ 32 + b2n (s.sensorOn c && s.sensors.any (fun e => e.1 == c)) * 2 ^ 63 else 0
  else s.rd a

/-- Mirror image of the spares map in the SI_ block (15 R368), and the group's registers. -/
def State.readSi (s : State) (a o : Nat) : Nat :=
  if 0x1008 ≤ o ∧ o < 0x1030 then
    let row := physNo (s.fld SI_SPARE_SEL SI_SPARE_SEL_DIE) (s.fld SI_SPARE_SEL SI_SPARE_SEL_ROW) ((o - 0x1008) / 8 * 8)
    leNat ((List.range (if o = 0x1028 then 1 else 8)).map (fun k => BitVec.ofNat 8 (s.tileRecord (row + k))))
  else if a = SI_SPARE_UNITS then
    ((List.range 8).foldl (fun m n => m + b2n (bit s.spares.hbm n || s.stackFailed n) * 2 ^ n) 0) * 2 ^ 16 + s.spares.ce % 256 * 2 ^ 8 + s.spares.anvil % 256
  else s.rd a

/-- The counters of the selected instance, and a partition's window (16 R393, R401). -/
def State.readTl (s : State) (ctx : Ctx) (a o : Nat) : Nat :=
  let k := s.rd TL_SEL
  if 0x100 ≤ o ∧ o < 0x180 then s.counterValue (selKind k) (selInst k) ((o - 0x100) / 8)
  else if 0x200 ≤ o ∧ o < 0x300 then
    if o % 16 = 0 then s.counterA (selKind k) (selInst k) ((o - 0x200) / 16) else s.counterB (selKind k) (selInst k) ((o - 0x200) / 16)
  else if 0x2000 ≤ o ∧ o < 0x3000 then
    let p := (o - 0x2000) / 0x200
    let w := (o - 0x2000) % 0x200
    let k := s.rd (TL_PSEL p)
    if 0x10 ≤ w ∧ w < 0x90 then
      if s.windowShows ctx p ((w - 0x10) / 8) then s.counterValue (selKind k) (selInst k) ((w - 0x10) / 8) else 0
    else if 0x100 ≤ w ∧ w < 0x200 then
      let n := (w - 0x100) / 16
      if !s.windowShows ctx p n then 0
      else if w % 16 = 0 then s.counterA (selKind k) (selInst k) n else s.counterB (selKind k) (selInst k) n
    else s.rd a
  else s.rd a

/-- RT_ (12 R303): the selected counts, channel and table entry. -/
def State.readRt (s : State) (a : Nat) : Nat :=
  if a = RT_POL_DATA then
    let r := RT_POL_SEL
    let c := s.fld r RT_POL_SEL_CLASS
    let n := s.fld r RT_POL_SEL_PORT
    let v := sget (fun _ => (0, 0)) s.router.sent (if c = 0 then n * 64 else n * 64 + s.fld r RT_POL_SEL_PARTITION * 8 + c)
    if n < 10 ∧ c < 6 then v.2 % 2 ^ 32 * 2 ^ 32 + v.1 % 2 ^ 32 else 0
  else if a = RT_VC_DATA then
    let n := s.fld RT_VC_SEL RT_VC_SEL_PORT
    let c := s.fld RT_VC_SEL RT_VC_SEL_CHANNEL
    if n < 10 ∧ c < 10 then
      sget (fun _ => 0) s.router.waits (n * 10 + c) % 2 ^ 32 * 2 ^ 32 + s.occupancy n c % 2 ^ 16 * 2 ^ 16 + (s.port n).credits c % 2 ^ 16
    else 0
  else if a = RT_TBL_DATA then
    let r := RT_TBL_SEL
    let p := s.fld r RT_TBL_SEL_PARTITION
    let v := s.fld r RT_TBL_SEL_VERSION
    let e := sget (fun _ => 0) s.router.tables (tableKey p v (s.fld r RT_TBL_SEL_AXIS) (s.fld r RT_TBL_SEL_COORD))
    b2n (s.flag (RT_EPOCH_STATE p) (validFld v)) * 2 ^ 63 + e % 8
  else s.rd a

/-- The equalisation values of a lane, in the layout of KL_EQ_FACTORY: a factory record's, else MAIN = 48 alone (11 R261). -/
def State.eqFactory (s : State) (n lane : Nat) : Nat :=
  match s.record 0x0003 n with | some b => Config.recordValue 0x0003 b lane % 2 ^ 28 | none => 48 * 2 ^ 10

/-- A signed field of a factory value with its offset, limited to the field's range. -/
def eqSigned (f u hi lo : Nat) : Nat := effective (hi + 1 - lo) (bits f hi lo) (bits u hi lo) * 2 ^ lo

/-- An unsigned field of a factory value with its signed offset, limited to the field's range. -/
def eqUnsigned (f u hi lo : Nat) : Nat :=
  (max 0 (min ((bits f hi lo : Int) + signed (hi + 1 - lo) (bits u hi lo)) (2 ^ (hi + 1 - lo) - 1))).toNat * 2 ^ lo

/-- The effective values (R261). -/
def eqEffective (f u : Nat) : Nat :=
  eqUnsigned f u 27 23 + eqSigned f u 22 17 + eqUnsigned f u 16 10 + eqSigned f u 9 4 + eqSigned f u 3 0

/-- KL_ (11 R277). -/
def State.readKl (s : State) (a n o : Nat) : Nat :=
  let lane := s.fld (KL_EQ_SEL n) KL_EQ_SEL_LANE
  let x := s.port n
  let user := sget (fun _ => 0) x.eqUser lane
  if 0x60 ≤ o ∧ o < 0x80 ∧ 9 ≤ lane then 0
  else
    match o with
    | 0x60 => s.eqFactory n lane
    | 0x68 => user
    | 0x70 => eqEffective (s.eqFactory n lane) user
    | 0x78 => sget (fun _ => 0) x.trained lane % 2 ^ 28
    | _ => s.rd a

/-- TC_INFO (03 R84). R84 does not say when a tile reads IDLE or RUNNING, nor which of SLICED_OUT and FENCED a tile that is both reads: RUNNING is a tile
whose control core holds a launch, and SLICED_OUT comes before FENCED, the model's choices (log entry 53). -/
def State.tcInfo (s : State) (t : Nat) : Nat :=
  let n := s.physOf t
  let own := s.tileOwner t
  let slot := match own with | some p => if 1 < s.fld (SI_STATUS p) SI_STATUS_SLICE then sget (fun _ => 0) (s.part p).slots t % 256 else 0 | none => 0
  let cluster := match own with | some p => (match s.clusterOf p t with | some c => c.id | none => 0xFFFF) | none => 0xFFFF
  let st := if own.isNone then 0 else if s.slicedOut t then 4 else if !s.physUsable n then 3 else if (s.tile t).launch.isSome then 2 else 1
  slot % 256 * 2 ^ 48 + n % 33 * 2 ^ 42 + n % 1056 / 33 * 2 ^ 37 + tileRegion t * 2 ^ 32 + cluster % 2 ^ 16 * 2 ^ 16 + st

/-- The byte of TC_QSTATE for a queue (03 R84). -/
def State.tcQueue (s : State) (t q : Nat) : Nat :=
  let x := s.tile t
  let head := if q = 6 then (if x.started6 then none else x.inl) else if q = 5 ∧ x.moved.isSome then none else (x.queue q).head?
  let waiting := match head with | some c => !s.waitHolds t c | none => false
  let n := if q = 6 then 0 else (x.queue q).length + (if q = 7 then x.outstanding.length else 0)
  n % 32 + b2n (x.isStopped q) * 2 ^ 5 + b2n waiting * 2 ^ 6

/-- TC_ (03 R84). -/
def State.readTc (s : State) (a t o : Nat) : Nat :=
  let x := s.tile t
  match o with
  | 0 => s.tcInfo t
  | 8 => (List.range 8).foldl (fun m q => m + s.tcQueue t q * 2 ^ (8 * q)) 0
  | 0x30 => (b2n x.launch.isSome + b2n x.next.isSome) * 2 ^ 56 + x.wordIx % 2 ^ 20 * 2 ^ 32 + (match x.launch with | some l => l.seq % 2 ^ 32 | none => 0)
  | _ => s.rd a

/-- ME_ (04 R108). -/
def State.readMe (s : State) (a t o : Nat) : Nat :=
  let e := o / 0x100
  let m := (s.settle t).me t e
  let now := s.cycle t
  if 4 ≤ e then 0
  else if a = ME_STATUS t e then
    m.tokens.length % 16 * 2 ^ 24 + m.feeds.length % 16 * 2 ^ 20 + b2n m.drain.isSome * 2 ^ 19 + b2n m.store.isSome * 2 ^ 18 +
      b2n (m.loadBusy now) * 2 ^ 17 + b2n (m.feedBusy now) * 2 ^ 16 + b2n (bit (s.recordOf t) e) * 2 + 1
  else if a = ME_VALID t e then
    m.shadowTag % 2 ^ 16 * 2 ^ 32 + (List.range 32).foldl (fun v i => v + b2n (m.entry i).valid * 2 ^ i) 0
  else s.rd a

/-- VU_ (07 R161, R164): BUSY while a command that has started is not completed; one that a flush or a reset has ended runs no more. -/
def State.readVu (s : State) (a t o : Nat) : Nat :=
  let x := s.tile t
  let run := (x.flying 4).find? (fun c => x.ended.all (fun e => !(e.q == 4 && e.cmd == c && (e.status == stFlushed || e.status == stTileReset))))
  if o = 0 then
    (match run with | some c => wOpcode c.w * 2 ^ 8 + 4 | none => 0) + b2n (bit (s.recordOf t) 4) * 2 + 1
  else if 8 ≤ o ∧ o < 0x30 then x.xsr.s / 2 ^ (8 * (o - 8)) % 2 ^ 64
  else if o = 0x30 then b2n x.xsr.nan * 2 ^ 50 + b2n x.xsr.ninf * 2 ^ 49 + b2n x.xsr.pinf * 2 ^ 48 + x.xsr.count % 2 ^ 48
  else s.rd a

/-- AV_STATUS (08 R199). -/
def State.readAv (s : State) (a u o : Nat) : Nat :=
  let l := (s.anvil u).input
  if !s.anvilPresent u then 0
  else if o = 0 then
    l.length % 256 * 2 ^ 40 + (match l with | e :: _ => wOpcode e.2.w * 2 ^ 32 + 4 | [] => 0) + s.fuses.serves u % 256 * 2 ^ 24 +
      b2n (bit s.spares.anvil u) * 2 + 1
  else s.rd a

/-- What the registers of a block's instance read as. -/
def State.readBlock (s : State) (ctx : Ctx) (b : Block) (a n o : Nat) : Nat :=
  match b with
  | .id => s.readId a o
  | .wk => s.readWk a
  | .zn => if a = ZN_NOW then s.zt % 2 ^ 64 else s.rd a
  | .pd => if 0x1000 ≤ o ∧ o < 0x1330 then putBits (s.rd a) 42 40 (s.domState ((o - 0x1000) / 8)) else s.rd a
  | .si => s.readSi a o
  | .tl => s.readTl ctx a o
  | .rt => s.readRt a
  | .uc => s.rd a
  | .qh => if 0x100 ≤ o then s.readWindow ctx n o else if o = 0 then s.rd a + 1 else s.rd a
  | .kl => s.readKl a n o
  | .ce => if o = 0 then s.rd a + n % 4 * 4 + b2n (bit s.spares.ce n) * 2 + 1 else s.rd a
  | .av => s.readAv a n o
  | .hb => if o = 0 then s.rd a + b2n (bit s.spares.hbm n) * 2 ^ 5 + 1 else s.rd a
  | .tc => if s.tilePresent n then s.readTc a n o else 0
  | .me => if s.tilePresent n then s.readMe a n o else 0
  | .vu => if s.tilePresent n then s.readVu a n o else 0

/-- An offset of an instance holds no register, or one that this instance lacks: it reads zero and ignores writes. -/
def reservedAt (b : Block) (n o : Nat) : Bool :=
  ((blockRows b).find? (·.covers o)).isNone || (b == .uc && n == 1 && decide (0x8000 ≤ o)) ||
    (b == .ce && decide (4 ≤ n) && decide (0x100 ≤ o)) || (b == .ce && n != 0 && o == 0x30)

/-- A context may read an offset of a block's instance (10 R244, 16 R393): a kernel context the feature registers, its groups and
windows, and the registers of its tiles; a user context its counters while USER_EN is set. -/
def State.mayRead (s : State) (ctx : Ctx) (b : Block) (n o : Nat) : Bool :=
  match ctx with
  | .module => true
  | .welkin => true
  | .library => true
  | .reserved _ => false
  | .user p => b == .tl && decide (0x2000 + p.val * 0x200 ≤ o) && decide (o < 0x2200 + p.val * 0x200) && s.flag (TL_PCTRL p.val) TL_PCTRL_USER_EN
  | .kernel p =>
    match b with
    | .id => true
    | .si => decide (0x100 + p.val * 0x100 ≤ o) && decide (o < 0x200 + p.val * 0x100)
    | .zn => decide (0x400 + p.val * 0x40 ≤ o) && decide (o < 0x440 + p.val * 0x40)
    | .rt => decide (0x100 + p.val * 0x40 ≤ o) && decide (o < 0x140 + p.val * 0x40)
    | .ce => decide (n < 4) && decide (0x100 + p.val * 0x40 ≤ o) && decide (o < 0x140 + p.val * 0x40)
    | .tl => decide (0x2000 + p.val * 0x200 ≤ o) && decide (o < 0x2200 + p.val * 0x200)
    | .qh => decide (0x100 ≤ o) && decide (o < 0x148)
    | .tc => s.tileOwner n == some p.val
    | .me => s.tileOwner n == some p.val
    | .vu => s.tileOwner n == some p.val
    | _ => false

/-- A register read is refused (R6, R20, 10 R245). -/
def State.readRefused (s : State) (ctx : Ctx) (a : Nat) : Bool :=
  a % 8 != 0 || (match blockOf a with | none => true | some (b, n, o) => !s.mayRead ctx b n o)

/-- What a register read returns: zero where it is refused, and for a reserved offset. -/
def State.mmioValue (s : State) (ctx : Ctx) (a : Nat) : Nat :=
  if s.readRefused ctx a then 0
  else match blockOf a with
    | some (b, n, o) => if reservedAt b n o then 0 else s.readBlock ctx b a n o % 2 ^ 64
    | none => 0

/-- The bits of a register that a read returned as 1 and that its RC fields clear (R7). -/
def rcCleared (r : RegRow) (m v : Nat) : Nat :=
  r.fields.foldl (fun m f => if f.2 = .rc then putBits m f.1.hi f.1.lo (bits m f.1.hi f.1.lo - (bits m f.1.hi f.1.lo &&& bits v f.1.hi f.1.lo)) else m) m

/-- What a register read does beside returning the value: a refused one is an access error, RC fields are cleared, and ZN_NOW latches the
fraction (14 R359). -/
def State.readEffect (s : State) (um : Nat) (ctx : Ctx) (a : Nat) : State :=
  if s.readRefused ctx a then s.accessErrorOn um ctx a 1
  else if a = ZN_NOW then s.setFld ZN_FRAC ZN_FRAC_FRAC (s.zenith.acc * 256 / 1000000000)
  else match rowOf a with
    | some r => if r.hasAcc .rc then s.wr a (rcCleared r (s.rd a) (s.mmioValue ctx a)) else s
    | none => s

/-- A register read by a context inside the module or by the host: the value goes out. -/
def State.readOut (s : State) (ctx : Ctx) (a : Nat) : State :=
  let v := s.mmioValue ctx a
  let s := s.readEffect 0 ctx a
  { s with out := s.out ++ [Output.read ctx a v] }

/-- READ_CLEARS (R7): a read of a register with an RC field. -/
def execReadClears (ctx : Ctx) (addr : Nat) (s : State) : Res := .next (s.readOut ctx addr)

/-- ZN_NOW (14 R359): a read of it returns Zenith nanoseconds and latches the fraction into ZN_FRAC. -/
def execZnNow (ctx : Ctx) (s : State) : Res := .next (s.readOut ctx ZN_NOW)

end Sys2Proof.Machine
end

