-- ==== Sys2Proof/Machine/Startup.lean ====
section
/-! DEFINITION. The start-up sequence: its phases, failures, status and host-ready (19_startup_and_reset.md R441 to R446; 18 R428, R436). -/
namespace Sys2Proof.Machine

/-! ## Status (R445) -/

/-- PHASE of SI_START. -/
def State.startPhase (s : State) : Nat := s.fld SI_START SI_START_PHASE

def State.setStart (s : State) (x : StartSt) : State := { s with start := x }

/-- The end of a phase: its time in µs after reset release, by Welkin's clock. -/
def State.phaseTime (s : State) (n : Nat) : State :=
  s.setFld (SI_START_TIME ((n - 1) / 2)) (if n % 2 = 1 then SI_START_TIME_END_LO else SI_START_TIME_END_HI)
    ((s.start.clock - s.start.releasedAt) / 1000)

/-- A phase ends and the next begins. -/
def State.endPhase (s : State) (n : Nat) : State :=
  ((s.phaseTime n).setFld SI_START SI_START_PHASE (n + 1)).setStart { s.start with phaseAt := s.start.clock, step := 0 }

/-- A flag of SI_START. -/
def State.startFlag (s : State) (f : Fld) (b : Bool) : State := if b then s.setFld SI_START f 1 else s

/-- The notice of R443: CODE 0x0080, RESULT 0 and SI_START, with an in-band interrupt. -/
def State.startNotice (s : State) : State :=
  (s.notice (leBytes 2 0x0080 ++ leBytes 2 0 ++ leBytes 8 (s.rd SI_START))).inBand

/-- A halted module (R444): every port DISABLED, every votable domain off and every vote withdrawn; Welkin goes on serving. -/
def State.halt (s : State) (phase cause : Nat) : State :=
  let s := ((s.setFld SI_START SI_START_PHASE 8).setFld SI_START SI_START_HALT_PHASE phase).setFld SI_START SI_START_HALT_CAUSE cause
  let s := (List.range 10).foldl (fun s n => s.disablePort n) s
  let s := (List.range 102).foldl (fun s i =>
    if s.domPresent i then
      let old := s.domState i
      let s := if 1 < old then ((s.loseDomain i).addFld (PD_DOM i) PD_DOM_TRANSITIONS 1).powerEvent i old 1 0 else s
      (s.wr (PD_DOM i) (putBits (s.rd (PD_DOM i)) 47 0 0)).setFld (PD_DOM i) PD_DOM_STATE 1
    else s) { s with power := { s.power with image := [], moving := [], resumed := 0 } }
  (s.logAnon 3 [phase, cause]).startNotice

/-! ## Votes (R441, 17 R407) -/

/-- Welkin votes ON for some domains, and those that leave OFF for that begin to come up. -/
def State.voteOn (s : State) (doms : List Nat) : State :=
  (doms.foldl (fun s i => if s.domPresent i then s.setFld (PD_DOM i) PD_DOM_WELKIN 2 else s) s).retargetAll

/-- Some domains that are coming up arrive. -/
def State.bringUp (s : State) (doms : List Nat) : State :=
  doms.foldl (fun s i => if s.domState i = 6 then s.comeUp i .failed else s) s

/-! ## Phase 1 (18 R436) -/

/-- The VERSION of a firmware image in ID_LIBRARY, its SVN and its measurement. -/
def State.runFirmware (s : State) (b : List Byte) : State :=
  let s := (s.wr ID_LIBRARY (fwVersion b)).setFld WK_STATUS WK_STATUS_FW_SVN (fwSvn b)
  (s.setMeas WK_FW_MEAS (fwMeasure b)).setFld WK_STATUS WK_STATUS_BOOT_STATE 3

/-- The log's SEQ goes on from the last mirrored entry, where the ring was lost (18 R427). -/
def State.resumeLog (s : State) : State :=
  match s.welkin.log, s.welkin.mirror.getLast? with
  | [], some e => (s.setFld WK_LOG WK_LOG_NEXT_SEQ (entrySeq e + 1)).setFld WK_LOG WK_LOG_MIRRORED (entrySeq e)
  | _, _ => s

/-- Recovery (18 R436): BOOT_STATE, the cause, a notice and an in-band interrupt; the sequence is held (R444). -/
def State.enterRecovery (s : State) (cause : Nat) : State :=
  let s := (s.setFld WK_STATUS WK_STATUS_BOOT_STATE 2).setFld SI_START SI_START_PHASE 9
  let s := (s.setFld WK_ERR WK_ERR_ROM_CAUSE cause).wkErr WK_ERR_RECOVERY
  let (v, s) := (s.logOwn 4 [cause]).fresh
  (s.notice (leBytes 2 v)).inBand

/-- PHASE_ROM: with reset released, the ROM verifies the flash's image and starts it, or enters recovery. -/
def execPhaseRom (readError : Bool) (s : State) : Res :=
  if 1 < s.startPhase ∨ s.pwr.tripped ≠ [] then .next s
  else
    let s := (s.resumeLog).setFld SI_START SI_START_PHASE 1
    let v := if readError then 5 else s.fwVerdict s.welkin.fw
    if v = 0 then .next ((s.runFirmware s.welkin.fw).endPhase 1) else .next (s.enterRecovery v)

/-! ## Phase 2 (18 R428, R430; 15 R367) -/

/-- A record of the store that verifies for this module. -/
def State.recordGood (s : State) (r : List Byte) : Bool := recordFormOk r && s.recordMine r && s.recordVerifies r

/-- Every record is verified, owner keys first; those that fail are ignored and set RECORD_BAD. -/
def State.loadRecords (s : State) : State :=
  let keys := s.welkin.records.filter (fun r => recTy r == 0x0010 && s.recordGood r)
  let s := s.setWk { s.welkin with inForce := keys, deferred := [] }
  let rest := s.welkin.records.filter (fun r => recTy r != 0x0010)
  let s' := s.setWk { s.welkin with inForce := keys ++ rest.filter (fun r => s.recordGood r) }
  (s.welkin.records.filter (fun r => !s'.welkin.inForce.contains r)).foldl (fun s _ => s.wkErr WK_ERR_RECORD_BAD) s'

/-- Missing calibration records (18 R430, 14 R351). -/
def State.calDefaults (s : State) : State :=
  let s := if (s.record 0x0001 0).isNone then s.wkErr WK_ERR_CAL_DEFAULT else s
  let s := if (s.record 0x0002 0).isNone then s.wkErr WK_ERR_CAL_DEFAULT else s
  if (s.record 0x0004 0).isNone then s.znErr ZN_ERR_CAL_DEFAULT else s

/-- The union of two spares maps. -/
def SparesSt.join (a b : SparesSt) : SparesSt :=
  { tiles := b.tiles.foldl (fun m e => sset (fun _ => 0) m e.1 (sget (fun _ => 0) m e.1 ||| e.2)) a.tiles
    anvil := a.anvil ||| b.anvil
    ce := a.ce ||| b.ce
    hbm := a.hbm ||| b.hbm }

/-- The marks in flash are applied (15 R367). -/
def State.applyMarks (s : State) : State :=
  let m := s.welkin.marks
  let s := { s with spares := s.spares.join m }
  s.startFlag SI_START_FLASH_MARKS (!(m.tiles.isEmpty && m.anvil == 0 && m.ce == 0 && m.hbm == 0))

/-- A UCIe module's training ends in phase 2. -/
def State.startLink (s : State) (m : Nat) (o : UcieTraining) : State :=
  let s := if s.domState (82 + m) = 6 then s.comeUp (82 + m) o else s.ucTrained m o
  s.startFlag SI_START_UCIE_DEGRADED (o == .failed)

/-- PHASE_ALWAYS_ON: the timing clock, the records, both UCIe modules. -/
def execPhaseAlwaysOn (clocksOk : Bool) (um0 um1 : UcieTraining) (s : State) : Res :=
  if s.startPhase ≠ 2 then .next s
  else if !clocksOk then .next (s.halt 2 4)
  else
    let s := { s with zenith := { s.zenith with running := true } }
    let s := ((s.loadRecords.calDefaults.applyMarks).loadPolicy).loadCalibration
    let s := s.setWk { s.welkin with plan := match s.welkin.plan with | some b => some b | none => s.welkin.planFlash }
    let s := (s.voteOn [82, 83, 100, 101]).bringUp [100, 101]
    .next (((s.startLink 0 um0).startLink 1 um1).endPhase 2)

/-! ## Phase 3 (09 R211, R212) -/

/-- A stack trains, is filled, and its domain arrives; one that is not to be trained is left. -/
def State.startStack (s : State) (n : Nat) (o : StackTraining) : State :=
  if s.domState (64 + n) ≠ 6 then s
  else
    let s := s.trainStack n o
    let s := if o.ok then s.fillStack n else s
    (s.comeUp (64 + n) .failed).startFlag SI_START_HBM_FAILED (!o.ok)

/-- PHASE_MEMORY: every stack trains with its outcome; one that no outcome names trains at the first attempt. -/
def execPhaseMemory (trained : List StackTraining) (s : State) : Res :=
  if s.startPhase ≠ 3 then .next s
  else
    let s := s.voteOn ((List.range 8).map (64 + ·))
    .next (((List.range 8).foldl (fun s n => s.startStack n ((trained[n]?).getD { failCodes := [], ok := true, repairs := [] })) s).endPhase 3)

/-! ## Phase 4 (15 R365, R367) -/

/-- Boot self-test finds a unit failing: it is marked, with cause BOOT; units that are absent or marked already are not tested. -/
def State.bootFailure (s : State) (f : SelfTestFailure) : State :=
  match f with
  | .tile d r c rec_ =>
    let n := physNo d.val r.val c.val
    let found := (List.range 7).filter (fun k => bit rec_.toNat k && !bit (s.tileRecord n) k)
    if found.isEmpty then s
    else (found.foldl (fun s k => s.fenceTileUnit n k 0 3) (s.markTile n 7)).setFld SI_START SI_START_MARKS_ADDED 1
  | .anvil u => if s.anvilUsable u.val then (s.fenceAnvil u.val 3).setFld SI_START SI_START_MARKS_ADDED 1 else s
  | .ce n =>
    if bit s.spares.ce n.val then s
    else (({ s with spares := { s.spares with ce := putBits s.spares.ce n.val n.val 1 } }).fenceEvent (n.val / 4) 0 0xFF (0x20 + n.val) 0 3 none).setFld
      SI_START SI_START_MARKS_ADDED 1

/-- PHASE_SELFTEST: the domains come up, every present unit is tested, bank groups are filled; a hub half or the router that fails halts
the module. -/
def execPhaseSelftest (failures : List SelfTestFailure) (hubOk routerOk : Bool) (s : State) : Res :=
  if s.startPhase ≠ 4 then .next s
  else
    let s := s.voteOn (List.range 64 ++ List.range' 84 16)
    let s := s.bringUp (List.range' 32 32 ++ List.range 32 ++ List.range' 84 16)
    let s := failures.foldl (fun s f => s.bootFailure f) s
    if !hubOk then .next (s.halt 4 1)
    else if !routerOk then .next (s.halt 4 2)
    else .next (((List.range 32).foldl (fun s r => s.zeroRegion r) s).endPhase 4)

/-! ## Phase 5 (18 R438, 11 R260, R263) -/

/-- A port whose plan expects a partner. -/
def State.portPlanned (s : State) (n : Nat) : Bool := s.fld (KL_PLAN n) KL_PLAN_EXPECT != 0

/-- The plan is written and the planned ports' lanes are voted on. -/
def State.beginPorts (s : State) : State :=
  match s.welkin.plan with
  | none => (s.setFld SI_START SI_START_NO_PLAN 1).setStart { s.start with step := 1 }
  | some b =>
    let s := s.applyPlan b
    let s := s.voteOn (((List.range 10).filter (fun n => s.portPlanned n)).map (72 + ·))
    s.setStart { s.start with step := 1 }

/-- Every planned port has settled: QUARANTINED, DARK or DOWN. -/
def State.portsSettled (s : State) : Bool :=
  (List.range 10).all (fun n => !s.portPlanned n || s.klState n == 5 || s.klState n == 8 || s.klState n == 7)

/-- PHASE_PORTS: the plan is applied when the phase begins; the phase ends when every planned port has settled, or at its bound. -/
def execPhasePorts (s : State) : Res :=
  if s.startPhase ≠ 5 then .next s
  else
    let s := if s.start.step = 0 then s.beginPorts else s
    if s.portsSettled || decide (s.start.phaseAt + 530000000 ≤ s.start.clock) then
      .next ((s.startFlag SI_START_PORT_UNSETTLED ((List.range 10).any (fun n => s.portPlanned n && s.klState n != 5))).endPhase 5)
    else .next s

/-! ## Phases 6 and 7 (R443) -/

/-- PHASE_ZENITH: ends when the module is root or LOCKED, or after 2 s. -/
def execPhaseZenith (s : State) : Res :=
  let done := s.flag ZN_STATUS ZN_STATUS_ROOT || s.znState == 2
  if s.startPhase = 6 ∧ s.start.step = 0 ∧ (done = true ∨ s.start.phaseAt + 2000000000 ≤ s.start.clock) then
    .next (((s.startFlag SI_START_ZENITH_UNLOCKED (!done)).phaseTime 6).setStart { s.start with phaseAt := s.start.clock, step := 1 })
  else .next s

/-- The votes are handed over in one cycle (R443, 17 R409). -/
def State.handOver (s : State) : State :=
  let s := (List.range 102).foldl (fun s i =>
    if s.domPresent i && !bit s.power.failed i then (s.setFld (PD_DOM i) PD_DOM_HOST 2).setFld (PD_DOM i) PD_DOM_WELKIN 0
    else s.setFld (PD_DOM i) PD_DOM_WELKIN 0) s
  s.retargetAll.setStart { s.start with step := 2 }

/-- A UCIe module is training or retraining. -/
def State.linkTraining (s : State) (m : Nat) : Bool :=
  let x := s.fld (UC_STATUS m) UC_STATUS_STATE
  x == 1 || x == 4

/-- HOST_READY: the votes are handed over; with no UCIe module in training, PHASE 7, the phase's time, the notice and the BOOT entry. -/
def execHostReady (s : State) : Res :=
  if s.startPhase ≠ 6 ∨ s.start.step = 0 then .next s
  else
    let s := if s.start.step = 1 then s.handOver else s
    if s.linkTraining 0 || s.linkTraining 1 then .next s
    else
      let s := (s.setFld SI_START SI_START_PHASE 7).phaseTime 7
      .next (s.startNotice.logOwn 1 [s.bootState, s.rd ID_LIBRARY])

end Sys2Proof.Machine
end

