-- ==== Sys2Proof/Machine/HostLink.lean ====
section
/-! DEFINITION. The host link: read and write requests, their order and their contexts, CRC replays and retraining
(10_queue_hub_and_host_link.md R240 to R250, 19 R442). -/
namespace Sys2Proof.Machine

/-! ## Requests (R242 to R245) -/

/-- MMIO and what lies above it (01 R19, R20). -/
def isRegSpace (a : Nat) : Bool := decide (0x020000000000 ≤ a)

/-- A context that the link may carry (R244, R245). -/
def hostCtx : Ctx → Bool | .module => true | .kernel _ => true | .user _ => true | _ => false

/-- What the link accepts before host-ready (19 R442): reads of ID_, WK_, SI_START, SI_START_TIME and UC_. -/
def earlyRead (a : Nat) : Bool :=
  match blockOf a with
  | some (.id, _, _) => true
  | some (.wk, _, _) => true
  | some (.uc, _, _) => true
  | _ => decide (SI_START ≤ a) && decide (a < SI_START + 0x28)

/-- Start-up has ended in host-ready (19 R441). -/
def State.hostIsReady (s : State) : Bool := s.startPhase == 7

/-- A request that is refused whatever its register says (R244, R245, R203, R212): its context, the time before host-ready, its form, the
memory it names. -/
def State.requestRefused (s : State) (r : HostReq) : Bool :=
  !hostCtx r.ctx || (!s.hostIsReady && !(r.tag.isSome && earlyRead r.addr)) ||
  (if isRegSpace r.addr then r.len != 8
   else !memExtent r.addr r.len || decide (256 < r.addr % 256 + r.len) || (s.firstFailed r.addr r.len).isSome ||
     (match ctxPart r.ctx with | some p => !s.owns p r.addr r.len | none => false))

/-- The SEQ number a comes before b. -/
def seqBefore (a b : Nat) : Bool := decide (0 < (b + 2 ^ 32 - a % 2 ^ 32) % 2 ^ 32) && decide ((b + 2 ^ 32 - a % 2 ^ 32) % 2 ^ 32 < 2 ^ 31)

/-- The SEQ numbers that have taken effect follow on without a gap. -/
def seqAdvance : Nat → Nat → List Nat → Nat × List Nat
  | 0, n, l => (n, l)
  | fuel + 1, n, l => if l.contains n then seqAdvance fuel ((n + 1) % 2 ^ 32) (l.filter (· != n)) else (n, l)

/-- A request has arrived: its SEQ is known (R243). -/
def State.arrived (s : State) (seq : Nat) : State :=
  if seqBefore seq s.link.seqNext then s
  else
    let (n, l) := seqAdvance (s.link.ahead.length + 1) s.link.seqNext (seq :: s.link.ahead)
    { s with link := { s.link with seqNext := n, ahead := l } }

/-- An earlier request to the same 256-byte block waits (R243). -/
def State.blockWaits (s : State) (r : HostReq) : Bool := s.link.held.any (fun h => h.addr / 256 == r.addr / 256 && seqBefore h.seq r.seq)

/-- A UCIe module carries requests (R249, R250). -/
def State.linkUp (s : State) (um : Nat) : Bool :=
  let x := s.fld (UC_STATUS um) UC_STATUS_STATE
  (x == 2 || x == 3) && s.domOn (82 + um)

/-- Every memory write of lower SEQ has taken effect: every lower SEQ has arrived, on either module, and no such write waits (R243). -/
def State.writesBefore (s : State) (seq : Nat) : Bool :=
  !seqBefore s.link.seqNext seq && !s.link.held.any (fun h => h.tag.isNone && !isRegSpace h.addr && seqBefore h.seq seq)

/-- A request can take effect: an MMIO write once every memory write of lower SEQ has (R243), memory once its domain is ON (09 R209, R216). -/
def State.requestReady (s : State) (r : HostReq) : Bool :=
  s.linkUp r.um && !s.blockWaits r &&
  (if s.requestRefused r then true
   else if isRegSpace r.addr then r.tag.isSome || s.writesBefore r.seq
   else s.memOn r.addr r.len)

/-- The host as a master (09 R222). -/
def hostMaster (ctx : Ctx) : Master := ⟨8, 0xFFFF, 0, ctxPart ctx, some (match ctx with | .user _ => 2 | _ => 1)⟩

/-- What a host request counts with (16 R385). -/
def hostAttr (ctx : Ctx) : Attr := { part := ctxPart ctx, master := some 8, priv := some (match ctx with | .user _ => 2 | _ => 1) }

/-- Read data, or zeros, to the host (R242). -/
def State.answerHost (s : State) (r : HostReq) (b : List Byte) : State :=
  match r.tag with
  | some g => { s with out := s.out ++ [Output.cpl r.um g b] }
  | none => s

/-- A read of memory: an uncorrectable error answers zeros, sets HOST_UE and fires vector 0 (R245, 09 R218). -/
def State.hostRead (s : State) (r : HostReq) : State :=
  let t := s.hbRead r.addr r.len (hostAttr r.ctx)
  match s.firstBad r.addr r.len with
  | some u => ((t.ueMet 2 u (hostMaster r.ctx)).ucErr r.um UC_ERR_HOST_UE).answerHost r (zeros r.len)
  | none => t.answerHost r (s.readBytes r.addr r.len)

/-- A request takes effect. -/
def State.serveRequest (s : State) (r : HostReq) : State :=
  if s.requestRefused r then (s.accessErrorOn r.um r.ctx r.addr (if r.tag.isSome then 1 else 2)).answerHost r (zeros r.len)
  else if isRegSpace r.addr then
    if r.tag.isSome then (s.readEffect r.um r.ctx r.addr).answerHost r (leBytes 8 (s.mmioValue r.ctx r.addr))
    else s.mmioWrite r.ctx r.addr (leNat r.data)
  else if r.tag.isSome then s.hostRead r
  else ((s.hbWrite r.addr r.len (hostAttr r.ctx)).store r.addr r.data (hostMaster r.ctx)).1

/-- A request waits: an access to memory that is not ON is counted (09 R209, R216, 17 R411). -/
def State.holdRequest (s : State) (r : HostReq) : State :=
  let s := { s with link := { s.link with held := s.link.held ++ [r] } }
  if isRegSpace r.addr then s
  else match s.firstOff r.addr r.len with
    | some a => s.holdAccess (0x1000000 + r.seq) a (hostAttr r.ctx)
    | none => s

/-- Requests that waited take effect, in order of arrival, as each becomes ready. -/
def State.linkDrainFuel (s : State) : Nat → State
  | 0 => s
  | n + 1 =>
    match s.link.held.find? (fun r => s.requestReady r) with
    | none => s
    | some r =>
      let s := { s with link := { s.link with held := s.link.held.filter (fun h => h != r) } }
      (s.serveRequest r).linkDrainFuel n
def State.linkDrain (s : State) : State := if s.link.held = [] then s else s.linkDrainFuel s.link.held.length

/-- A request arrives: it takes effect, or waits. -/
def State.arriveRequest (s : State) (r : HostReq) : State :=
  let s := s.arrived r.seq
  if s.requestReady r then (s.serveRequest r).linkDrain else (s.holdRequest r).linkDrain

/-- The UCIe module that carries a request: MMIO travels on module 0, 4 KiB blocks of memory alternate (R241). -/
def linkModule (a : Nat) : Nat := if isRegSpace a then 0 else a / 4096 % 2

/-- The 16-byte header of a host-protocol message (R242): OP, CTX, TAG, LEN8, SEQ and ADDR in their places, reserved bits zero. -/
def hostHeader (op ctx tag len8 seq addr : Nat) : Nat :=
  op % 2 ^ 4 + ctx % 2 ^ 5 * 2 ^ 4 + tag % 2 ^ 10 * 2 ^ 9 + len8 % 2 ^ 5 * 2 ^ 19 + seq % 2 ^ 32 * 2 ^ 32 + addr % 2 ^ 48 * 2 ^ 64

/-- The access context of a number (R244). -/
def ctxOf (n : Nat) : Ctx :=
  if n = 0 then .module else if h : 8 ≤ n ∧ n < 16 then .kernel ⟨n - 8, by omega⟩ else if h : 16 ≤ n ∧ n < 24 then .user ⟨n - 16, by omega⟩
  else .reserved (Fin.ofNat 32 n)

/-- The request that a message on a UCIe module makes (R242): MRD, or MWR with its data; the host sends no other OP. -/
def hostMessage (um : Fin 2) (h : Nat) (data : List Byte) : Option Instr :=
  let ctx := ctxOf (bits h 8 4)
  let seq := BitVec.ofNat 32 (bits h 63 32)
  if bits h 3 0 = 1 then some (.mrd um ctx (Fin.ofNat 1024 (bits h 18 9)) (bits h 111 64) (Fin.ofNat 32 (bits h 23 19)) seq)
  else if bits h 3 0 = 2 ∧ data.length = 8 * (bits h 23 19 + 1) then some (.mwr um ctx (bits h 111 64) data seq)
  else none

/-- A 16-byte header is that of what the module sends to the host (R242): CPL with the read's TAG and length, MSI with its count and address; what the
rule gives no meaning in such a message is free. -/
def Output.headedBy (o : Output) (h : Nat) : Bool :=
  match o with
  | .cpl _ tag data => bits h 3 0 == 3 && bits h 18 9 == tag && bits h 23 19 + 1 == data.length / 8 && bits h 31 24 == 0 && bits h 127 112 == 0
  | .msi _ seq addr _ => bits h 3 0 == 4 && bits h 63 32 == seq % 2 ^ 32 && bits h 111 64 == addr % 2 ^ 48 && bits h 31 24 == 0 && bits h 127 112 == 0
  | _ => false

/-- MRD (R242): a read request arrives on its UCIe module. While the module trains, the host keeps it (R250). -/
def execMrd (um : Nat) (ctx : Ctx) (tag addr len8 : Nat) (seq : BitVec 32) (s : State) : Res :=
  .next (if s.linkUp um ∧ um = linkModule addr then s.arriveRequest ⟨um, ctx, addr, seq.toNat, some tag, 8 * (len8 + 1), []⟩ else s)

/-- MWR (R243): a write request arrives on its UCIe module. -/
def execMwr (um : Nat) (ctx : Ctx) (addr : Nat) (data : List Byte) (seq : BitVec 32) (s : State) : Res :=
  .next (if s.linkUp um ∧ um = linkModule addr then s.arriveRequest ⟨um, ctx, addr, seq.toNat, none, data.length, data⟩ else s)

/-! ## The adapter (R250) -/

/-- UCIE_REPLAY: a flit with a CRC error, and the flits that its replay sends again. -/
def execUcieReplay (um flits : Nat) (s : State) : Res :=
  .next (if s.linkUp um then
      ((s.addFld (UC_REPLAYS um) UC_REPLAYS_CRC_ERRORS 1).addFld (UC_REPLAYS um) UC_REPLAYS_REPLAYS flits).ucErr um UC_ERR_REPLAY
    else s)

/-- A module's retraining ends: it carries requests again, and pending vectors are sent, or it is DOWN. -/
def State.retrained (s : State) (um : Nat) (o : UcieTraining) : State :=
  let s := s.ucTrained um o
  let s := if o == .failed then s else s.ucErr um UC_ERR_RETRAIN
  let s := if o == .failed || um != 0 then s else s.sendPending
  (s.retrainEnded um).linkDrain

/-- UCIE_RETRAIN: a module that exceeds the error limit, or was told to retrain, trains anew. -/
def execUcieRetrain (um : Nat) (o : UcieTraining) (s : State) : Res :=
  let x := s.fld (UC_STATUS um) UC_STATUS_STATE
  .next (if !s.domOn (82 + um) then s
    else if x = 4 then s.retrained um o
    else if x = 2 ∨ x = 3 then (s.ucRetrain um).retrained um o
    else s)

end Sys2Proof.Machine
end

