-- ==== Sys2Proof/Machine/Routines.lean ====
section
/-! DEFINITION. The routines of the training passes (08_anvil_and_training_passes.md R189 to R193): OPT_MOMENTUM,
OPT_ADAPTIVE, OPT_SIGN, GRAD_NORM, STEP_RERUN and RECOMPUTE. -/
namespace Sys2Proof.Machine

/-- An argument block of R189. -/
structure OptArgs where
  count : Nat
  widen : Nat
  flags : Nat
  gnorm : Nat
  descs : List (List Byte)
  deriving DecidableEq, Repr

/-- A block's fields. -/
def optArgs (b : List Byte) : OptArgs :=
  { count := fieldAt b 0 2, widen := fieldAt b 2 2, flags := fieldAt b 4 4, gnorm := fieldAt b 8 8
    descs := (List.range (fieldAt b 0 2)).map (fun i => (b.drop (32 + 128 * i)).take 128) }

/-- GATE, FORCE and AXES. -/
def OptArgs.gate (a : OptArgs) : Bool := bit a.flags 0
def OptArgs.force (a : OptArgs) : Bool := bit a.flags 1
def OptArgs.axes (a : OptArgs) : Nat := bits a.flags 7 4

/-- The block meets R189: its length, its reserved fields and its ranges; WIDEN belongs to STEP_RERUN alone. -/
def OptArgs.ok (a : OptArgs) (rerun : Bool) (len : Nat) (b : List Byte) : Bool :=
  inRange a.count 1 511 && len == 32 + 128 * a.count && a.flags / 256 == 0 && bits a.flags 3 2 == 0 && fieldAt b 16 16 == 0 &&
  aligned a.gnorm 64 && decide (a.gnorm < 2 ^ 48) && (if rerun then inRange a.widen 1 16 else a.widen == 0)

/-- The present, usable unit whose served stacks hold a group's hi, lo, M8 and V8 extents (R189). -/
def State.unitFor (s : State) (d : UpdDesc) : Option Nat :=
  (List.range 8).find? (fun u => s.anvilUsable u && d.stackExtents.all (fun e => (outsideStacks (s.fuses.serves u) e.1 e.2).isNone))

/-- The first descriptor that fails a check: its index and the code (R189). -/
def State.descCheck (s : State) (p : Nat) (kind : Option Nat) (rerun : Bool) : Nat → List (List Byte) → Option (Nat × Nat)
  | _, [] => none
  | i, b :: l =>
    let d := descOf b
    if descOk b = false then some (i, 1)
    else if (match kind with | some k => d.kind != k | none => false) then some (i, 2)
    else if (s.unitFor d).isNone then some (i, 3)
    else if rerun && !s.owns p d.g (4 * d.elems) then some (i, 1)
    else s.descCheck p kind rerun (i + 1) l

/-- A CALL that returns a memory fault: an uncorrectable error met at u by the control core, with the address that it reports. -/
def State.callUe (s : State) (t : Nat) (c : Cmd) (u at_ : Nat) : State :=
  (s.ueMet 2 u (c.master 0 t)).returnCall t c stDataFault at_ at_

/-- The same, reporting the failing sector or line (03 R77). -/
def State.callDataFault (s : State) (t : Nat) (c : Cmd) (u : Nat) : State := s.callUe t c u (errUnit u)

/-- An Anvil word without wait or signal. -/
def anvilWord (u opcode operands : Nat) : Nat := opcode + (8 + u) * 2 ^ 8 + 0xFFFF * 2 ^ 80 + operands * 2 ^ 144

/-- One more Anvil command of a routine: for descriptor number `pos`, as the function spells it, where queue 7 has room. -/
def State.issueAnvil (s : State) (t : Nat) (c : Cmd) (k : Routine) (word : Nat → Nat → Nat) (done : State → State) : State :=
  if k.pos < k.vals.length then
    if 16 ≤ (s.tile t).held 7 then s
    else (s.setRoutine t { k with pos := k.pos + 1 }).issueFor t 7 c k.pos (word k.pos (k.vals.getD k.pos 0))
  else if (s.tile t).awaits k then s
  else done s

/-! ## Optimiser routines (R190) -/

/-- The units of the descriptors, in order. -/
def State.optUnits (s : State) (a : OptArgs) : List Nat := a.descs.map (fun b => (s.unitFor (descOf b)).getD 0)

/-- GNORM_ADDR written into each descriptor of the argument block. -/
def State.putGnorm (s : State) (addr : Nat) (a : OptArgs) : State :=
  (List.range a.count).foldl (fun s i => s.writeBytes (addr + 32 + 128 * i + 0x40) (leBytes 8 a.gnorm)) s

/-- What an optimiser routine does with its block: the checks, with GATE set the record, then its UPDATEs begin. -/
def State.optEnter (s : State) (t r kind : Nat) (c : Cmd) (b : List Byte) : State :=
  let a := optArgs b
  if a.ok false (callLen c.w) b = false then s.returnFault t c 1 0
  else
    match s.descCheck c.part (some kind) false 0 a.descs with
    | some (i, code) => s.returnFault t c code i
    | none =>
      let go := (s.putGnorm (callAddr c.w) a).beginRoutine t r (s.optUnits a)
      if a.gate then
        if s.owns c.part a.gnorm 128 = false then s.returnFault t c 1 0
        else if s.memOn a.gnorm 128 = false then s.holdAccess (waiter t 6) a.gnorm
        else
          match s.firstBad a.gnorm 128 with
          | some u => s.callDataFault t c u
          | none =>
            if s.readNat (a.gnorm + 0x40) 4 ≠ c.step then s.returnFault t c 4 0
            else if s.readNat (a.gnorm + 0x48) 8 != 0 && !a.force then s.returnOk t c 1
            else go
      else go

/-- An optimiser routine: entry, then one UPDATE at a time; it returns APPLIED when all have completed. -/
def State.optRoutine (s : State) (t r kind : Nat) : State :=
  match s.callHead t r, s.running t r with
  | some c, _ => s.enterCall t c (fun s b => s.optEnter t r kind c b)
  | none, some (c, k) => s.routineStep t c k (fun s =>
      s.issueAnvil t c k (fun i u => anvilWord u 1 (callAddr c.w + 32 + 128 * i)) (fun s => s.returnOk t c 0))
  | none, none => s

/-- OPT_MOMENTUM (R190). -/
def execOptMomentum (t : Nat) (s : State) : Res := .next (s.optRoutine t 3 0)
/-- OPT_ADAPTIVE (R190). -/
def execOptAdaptive (t : Nat) (s : State) : Res := .next (s.optRoutine t 4 1)
/-- OPT_SIGN (R190). -/
def execOptSign (t : Nat) (s : State) : Res := .next (s.optRoutine t 5 2)

/-! ## GRAD_NORM (R191) -/

/-- The Halo entries of a partition's area (R194). -/
def State.haloEntries (s : State) (p : Nat) : List Nat :=
  (List.range (s.fld (SI_HALO_GEOM p) SI_HALO_GEOM_SLOTS * (s.fld (SI_HALO_GEOM p) SI_HALO_GEOM_LAYERS + 1))).map
    (fun i => s.fld (SI_HALO_BASE p) SI_HALO_BASE_ADDR + 256 * i)

/-- Those that hold a step. -/
def State.haloOfStep (s : State) (p step : Nat) : List Nat := (s.haloEntries p).filter (fun a => s.readNat a 4 == step)

/-- The first bad unit among a partition's Halo entries. -/
def State.haloBad (s : State) (p : Nat) : Option Nat := (s.haloEntries p).findSome? (fun a => s.firstBad a 256)

/-- The work-area slots of the present units. -/
def State.normSlots (s : State) (gnorm : Nat) : List Nat :=
  ((List.range 8).filter (fun u => s.anvilPresent u)).map (fun u => gnorm + 0x80 + 64 * u)

/-- The end of GRAD_NORM (R191 steps 2 to 5): the slots combined, the Halo totals, the other members' parts where AXES names an
axis, and the record. -/
def State.normFinish (s : State) (t : Nat) (c : Cmd) (gnorm axes : Nat) (others : BitVec 512 × Nat × Nat) : State :=
  match s.badOf ((s.normSlots gnorm).map (fun a => (a, 64))), s.haloBad c.part with
  | some u, _ => s.callDataFault t c u
  | none, some u => s.callDataFault t c u
  | none, none =>
    let own := (s.normSlots gnorm).foldl (fun x a => x.combine (Xsr.ofImage (s.readNat a 64))) ({} : Xsr)
    let es := s.haloOfStep c.part c.step
    let sat := es.foldl (fun n a => n + s.readNat (a + 0x20) 8) 0
    let non := es.foldl (fun n a => n + s.readNat (a + 0x18) 8) 0
    let sq := if axes = 0 then own else own.combine (Xsr.ofImage others.1.toNat)
    let sat := if axes = 0 then sat else sat + others.2.1
    let non := if axes = 0 then non else non + others.2.2
    let rec_ := leBytes 64 sq.image ++ leBytes 4 c.step ++ zeros 4 ++ leBytes 8 sat ++ leBytes 8 non ++ zeros 40
    ((s.writeBytes gnorm rec_).cleanUnits gnorm 128).returnOk t c 0

/-- GRAD_NORM's entry: the checks, empty sums into the slots, then its NORMs begin; it keeps the record's address and AXES
behind the descriptors' units. -/
def State.normEnter (s : State) (t : Nat) (c : Cmd) (b : List Byte) : State :=
  let a := optArgs b
  if a.ok false (callLen c.w) b = false then s.returnFault t c 1 0
  else if s.haloOn c.part = false then s.returnFault t c 5 0
  else
    match s.descCheck c.part none false 0 a.descs with
    | some (i, code) => s.returnFault t c code i
    | none =>
      if s.owns c.part a.gnorm 0x280 = false then s.returnFault t c 1 0
      else
        match s.firstFailed a.gnorm 0x280, s.memOn a.gnorm 0x280 with
        | some u, _ => s.returnCall t c stDataFault u u
        | none, false => s.holdAccess (waiter t 6) a.gnorm
        | none, true =>
          ((s.normSlots a.gnorm).foldl (fun s x => (s.writeBytes x (zeros 64)).cleanUnits x 64) s).beginRoutine t 6 (s.optUnits a)

/-- GRAD_NORM (R191). The operand holds the exact sum and the two totals of the other members that AXES spans. -/
def execGradNorm (t : Nat) (others : BitVec 512 × Nat × Nat) (s : State) : Res :=
  match s.callHead t 6, s.running t 6 with
  | some c, _ => .next (s.enterCall t c (fun s b => s.normEnter t c b))
  | none, some (c, k) =>
    let a := optArgs (s.readBytes (callAddr c.w) 32)
    .next (s.routineStep t c k (fun s =>
      s.issueAnvil t c k (fun i u => anvilWord u 2 (callAddr c.w + 32 + 128 * i + (a.gnorm + 0x80 + 64 * u) * 2 ^ 48 + 2 ^ 96))
        (fun s => s.normFinish t c a.gnorm a.axes others)))
  | none, none => .next s

/-! ## STEP_RERUN (R192) -/

/-- The blocks of a group that hold an INVALID reduced element. -/
def State.invalidBlocks (s : State) (d : UpdDesc) : List Nat :=
  (List.range d.blocks).filter (fun b =>
    (List.range (min 64 (d.elems - 64 * b))).any (fun k => s.readNat (d.g + 4 * (64 * b + k)) 4 == g32Invalid))

/-- A group's exponents widened; the number of blocks. -/
def State.widenGroup (s : State) (d : UpdDesc) (widen : Nat) : State × Nat :=
  let l := s.invalidBlocks d
  (l.foldl (fun s b =>
    let u := signed 16 (s.readNat (d.gexp + 2 * b) 2) + ((widen : Nat) : Int)
    s.writeBytes (d.gexp + 2 * b) (leBytes 2 (unsignedOf 16 (if u > 150 then 150 else u)))) s, l.length)

/-- A Halo entry's counts and sums zeroed, its RUN raised, to at most 255. -/
def State.haloRerun (s : State) (a : Nat) : State :=
  s.writeBytes a (s.readBytes a 8 ++ zeros 0x30 ++ leBytes 1 (min 255 (s.readNat (a + 0x38) 1 + 1)) ++ zeros 199)

/-- The GEXP entries of a group that STEP_RERUN widens. -/
def State.widened (s : State) (d : UpdDesc) : List (Nat × Nat) := (s.invalidBlocks d).map (fun b => (d.gexp + 2 * b, 2))

/-- The first descriptor with an entry to widen outside the owned set (R189). -/
def State.widenDenied (s : State) (p : Nat) (l : List UpdDesc) : Option Nat :=
  ((enumFrom 0 l).find? (fun e => (s.unownedOf p (s.widened e.2)).isSome)).map (·.1)

/-- STEP_RERUN's work after its checks of the descriptors: the gradients are read, the entries to widen judged, then all is done at once. -/
def State.rerunWork (s : State) (t : Nat) (c : Cmd) (a : OptArgs) : State :=
  let descs := a.descs.map descOf
  let grads := descs.map (fun d => (d.g, 4 * d.elems))
  let ext := descs.flatMap (fun d => s.widened d)
  match s.offOf grads, s.badOf grads, s.widenDenied c.part descs, s.offOf ext, s.badOf ext, s.haloBad c.part with
  | some x, _, _, _, _, _ => s.holdAccess (waiter t 6) x
  | none, some u, _, _, _, _ => s.callDataFault t c u
  | none, none, some i, _, _, _ => s.returnFault t c 1 i
  | none, none, none, some x, _, _ => s.holdAccess (waiter t 6) x
  | none, none, none, none, some u, _ => s.callDataFault t c u
  | none, none, none, none, none, some u => s.callDataFault t c u
  | none, none, none, none, none, none =>
    let r := descs.foldl (fun (r : State × Nat) d => let w := r.1.widenGroup d a.widen; (w.1, r.2 + w.2)) (s, 0)
    ((r.1.haloOfStep c.part c.step).foldl (fun s x => s.haloRerun x) r.1).returnOk t c r.2

/-- STEP_RERUN (R192). -/
def execStepRerun (t : Nat) (s : State) : Res :=
  match s.callHead t 7 with
  | none => .next s
  | some c => .next (s.enterCall t c (fun s b =>
      let a := optArgs b
      if a.ok true (callLen c.w) b = false then s.returnFault t c 1 0
      else if s.haloOn c.part = false then s.returnFault t c 5 0
      else
        match s.descCheck c.part none true 0 a.descs with
        | some (i, code) => s.returnFault t c code i
        | none => s.rerunWork t c a))

/-! ## RECOMPUTE (R193) -/

/-- A RECOMPUTE block meets R193. -/
def recomputeOk (len : Nat) (b : List Byte) : Bool :=
  len == 32 && fieldAt b 0x14 12 == 0 && decide (fieldAt b 0 8 < 2 ^ 48) && aligned (fieldAt b 0 8) 32 &&
  inRange (fieldAt b 8 4) 1 1048575 && decide (fieldAt b 12 4 < 2 ^ 20) && decide (fieldAt b 16 4 < 2 ^ 20) &&
  decide (fieldAt b 12 4 ≤ fieldAt b 16 4)

/-- A layer lies in a keep layer of the partition's image (02 R36). -/
def State.inKeep (s : State) (p layer : Nat) : Bool :=
  match (s.part p).active with
  | none => false
  | some img => img.keep.any (fun k => decide (k.1 ≤ layer) && decide (layer ≤ k.2))

/-- The code of a word that RECOMPUTE does not issue: 6 LAYER_RANGE, 7 WORD_DENIED. -/
def State.recompDenied (s : State) (p first last w : Nat) : Option Nat :=
  if !(inRange (wLayer w) first last) || s.inKeep p (wLayer w) then some 6
  else if (wEngine w == 6 && wOpcode w == 2) || decide (8 ≤ wEngine w) then some 7
  else none

/-- The command that a RECOMPUTE word makes. -/
def recompCmd (c : Cmd) (k : Routine) (w : Nat) : Cmd :=
  { c with word := BitVec.ofNat 256 w, rix := some k.pos, rin := k.inst, recomp := true }

/-- The word in hand is done: the next one follows. -/
def State.recompNext (s : State) (t : Nat) : State :=
  match (s.tile t).routine with
  | none => s
  | some k => s.setRoutine t { k with pos := k.pos + 1, phase := 0 }

/-- An in-line word of the segment ends (R69, R77). -/
def State.recompEnd (s : State) (t : Nat) (c : Cmd) (status addr : Nat) (wrote : List (Nat × Nat)) : State :=
  let s := if isStopping status then s.stopQueue t 6 c status addr else s
  (s.complete t ⟨6, c, status, addr, addr, wrote, s.zt⟩).recompNext t

/-- An in-line word of the segment: SYNC, FENCE or STAMP (R69); it starts once, when its wait holds (phase 2). -/
def State.recompInline (s : State) (t : Nat) (k : Routine) (c : Cmd) : State :=
  if k.phase < 2 && !s.waitHolds t c then s
  else
    let s := if k.phase < 2 then ((s.takeWait t c).trace (c.traceRec t 6 1 0)).setRoutine t { k with phase := 2 } else s
    if wOpcode c.w = 0 then s.recompEnd t c stOk 0 []
    else if wOpcode c.w = 1 then (if s.drained t then s.recompEnd t c stOk 0 [] else s)
    else
      let a := stampAddr c.w
      match s.firstUnowned c.part a 8 with
      | some u => s.recompEnd t c stAccessFault u []
      | none =>
        if s.memOn a 8 = false then s.holdAccess (waiter t 6) a
        else if s.inFailed a then s.recompEnd t c stDataFault a []
        else
          match s.store a (leBytes 8 s.zt) (c.master 0 t) with
          | (s, some u) => s.recompEnd t c stDataFault u []
          | (s, none) => s.recompEnd t c stOk 0 [(a, 8)]

/-- A word of the segment issued as stream words are (R55, R63). -/
def State.recompIssue (s : State) (t : Nat) (k : Routine) (c : Cmd) : State :=
  let st := s.entryCheck c.part t c.w
  if st ≠ stOk then (s.refuse t c st).recompNext t
  else if wEngine c.w = 6 then s.recompInline t k c
  else if 16 ≤ (s.tile t).held (wEngine c.w) then s
  else (s.place t (wEngine c.w) c).recompNext t

/-- RECOMPUTE's next step: the word at `pos` is fetched as stream words are (R58), judged and issued; a fault waits for the
commands issued before. vals: the segment's address, WORDS, FIRST_LAYER and LAST_LAYER. -/
def State.recompStep (s : State) (t : Nat) (c : Cmd) (k : Routine) : State :=
  let busy := (s.tile t).awaits k
  if k.vals.getD 1 0 ≤ k.pos then (if busy then s else s.returnOk t c 0)
  else
    let a := k.vals.getD 0 0 + 32 * k.pos
    match s.firstUnowned c.part a 32 with
    | some u => if busy then s else s.returnCall t c stAccessFault u u
    | none =>
      if s.memOn a 32 = false then s.holdAccess (waiter t 6) a
      else
        match s.firstBad a 32 with
        | some u => if busy then s else s.callUe t c u a
        | none =>
          let w := s.readNat a 32
          match s.recompDenied c.part (k.vals.getD 2 0) (k.vals.getD 3 0) w with
          | some code => if busy then s else s.returnFault t c code k.pos
          | none =>
            let s := if k.phase = 0 then (s.lcRead a 32 { priv := some c.priv, part := some c.part, master := some 0 }).setRoutine t { k with phase := 1 } else s
            let k := { k with phase := max 1 k.phase }
            if s.placeFree t 6 then s.recompIssue t k (recompCmd c k w) else s

/-- RECOMPUTE (R193): re-issues a segment's words in order; its commands add nothing to the Halo record. -/
def execRecompute (t : Nat) (s : State) : Res :=
  match s.callHead t 2, s.running t 2 with
  | some c, _ => .next (s.enterCall t c (fun s b =>
      if recomputeOk (callLen c.w) b then s.beginRoutine t 2 [fieldAt b 0 8, fieldAt b 8 4, fieldAt b 12 4, fieldAt b 16 4]
      else s.returnFault t c 1 0))
  | none, some (c, k) => .next (s.routineStep t c k (fun s => s.recompStep t c k))
  | none, none => .next s

end Sys2Proof.Machine
end

