-- ==== Sys2Proof/Machine/Recovery.lean ====
section
/-! DEFINITION. The routines of the failure paths (15_failure_paths.md R369 to R379): PARITY_UPDATE, REBUILD, SNAPSHOT (SAVE, SEAL and
RESTORE) and STEP_REPLAY. -/
namespace Sys2Proof.Machine

/-! ## What the routines share -/

/-- An extent lies in the stacks that one present, usable Anvil unit serves; that unit. -/
def State.unitServing (s : State) (a n : Nat) : Option Nat :=
  (List.range 8).find? (fun u => s.anvilUsable u && (outsideStacks (s.fuses.serves u) a n).isNone)

/-- Nothing that a routine issued or posted is under way. -/
def State.libIdle (s : State) (t : Nat) (k : Routine) : Bool := !(s.tile t).awaits k && k.libOps == 0

/-- The routine goes on to its next action. -/
def State.libNext (s : State) (t : Nat) (k : Routine) : State := s.setRoutine t { k with pos := k.pos + 1 }

/-- A tile-DMA or Anvil command of a routine, as its next action, once its queue has room. -/
def State.libIssue (s : State) (t q : Nat) (c : Cmd) (k : Routine) (word : Nat) : State :=
  if 16 ≤ (s.tile t).held q then s else (s.libNext t k).issueFor t q c k.pos word

/-- A copy between 32-byte sectors. -/
def State.libCopy (s : State) (t : Nat) (c : Cmd) (k : Routine) (src dst n : Nat) : State :=
  s.libIssue t 5 c k (copyWord src dst (n / 32))

/-- DST := DST xor SRC by the unit that serves DST (08 R176). -/
def State.libXor (s : State) (t : Nat) (c : Cmd) (k : Routine) (dst src n : Nat) : State :=
  match s.unitServing dst n with
  | some u => s.libIssue t 7 c k (anvilWord u 3 (dst + src * 2 ^ 48 + n / 32 * 2 ^ 96))
  | none => s.returnFault t c 0x12 0

/-- The bytes of a descriptor of the library's: OP, FLAGS, tag, COUNT, DST, PEER, QUEUE, remote address. -/
def opDesc (op flags tag layerOp dst count peer queue remote : Nat) : List Byte :=
  leBytes 1 op ++ leBytes 1 0xD ++ leBytes 2 flags ++ leBytes 4 tag ++ zeros 8 ++ leBytes 8 dst ++ leBytes 8 count ++ zeros 6 ++ leBytes 2 0xFFFF ++
  zeros 34 ++ leBytes 2 0xFFFF ++ zeros 8 ++ leBytes 4 layerOp ++ leBytes 4 peer ++ leBytes 2 queue ++ zeros 2 ++ leBytes 8 remote ++ zeros 24
def libDesc (op tag layerOp dst count peer remote : Nat) : List Byte := opDesc op 0 tag layerOp dst count peer 0 remote

/-- An operation of a routine takes its place on the partition's ring (R371): once every descriptor posted before it has started, the
ring is in service and has one of its four places free. -/
def State.libPost (s : State) (t : Nat) (c : Cmd) (k : Routine) (a index : Nat) (desc : List Byte) (table : List (List Byte)) : State :=
  let p := c.part
  let d := ceDesc desc
  let ready := s.flag (CE_RING a p) CE_RING_ENABLE && s.pairRuns a p && s.fld (CE_PTR a p) CE_PTR_PROD == s.fld (CE_PTR a p) CE_PTR_CONS &&
    decide (((s.ce a).ops.filter (fun o => o.part == p)).length < 4) &&
    (d.op != 5 || (s.tagPlace a p d.tag).isSome || decide ((s.ce a).places.length < 32))
  if !ready then s
  else
    let x := s.ce a
    let o : CeOp := { no := x.started, axis := a, part := p, desc := desc, slot := 0, epoch := s.currentEpoch p }
    let o := { o with
      lib := some (t, k.inst, index)
      priv := c.priv
      table := table
      last := s.zt }
    let s := s.setRoutine t { k with pos := k.pos + 1, libOps := k.libOps + 1 }
    let s := (s.setCe a { x with started := x.started + 1 }).setOps a (x.ops ++ [o])
    let s := (s.count 4 a 0x00 1 o.attr).trace (o.traceRec 4 0)
    if s.ceFenced a || s.ceFenced (a + 4) then s.putOp { o with fault := some (stUnitFenced, 0) }
    else if d.op = 5 then s.beginPermute o
    else s.advanceP2p { o with ready0 := true }

/-- A write of the library itself; a sector that cannot be written ends the CALL. -/
def State.libStore (s : State) (t : Nat) (c : Cmd) (a : Nat) (b : List Byte) (next : State → State) : State :=
  if !s.memOn a b.length then s.holdAccess (waiter t 6) a
  else
    match s.store a b (c.master 0 t) with
    | (s, some u) => s.returnCall t c stDataFault u u
    | (s, none) => next ((s.hbWrite a b.length { c.attr with master := some 0 }))

/-- Ranges of an argument block: address and length of each, from an offset on. -/
def argRanges (b : List Byte) (n : Nat) : List (Nat × Nat) :=
  (List.range n).map (fun i => (fieldAt b (0x40 + 16 * i) 8, fieldAt b (0x48 + 16 * i) 8))

/-- The pieces of an area that is the concatenation of ranges: address and length of each, for n bytes at an offset. -/
def areaPieces : List (Nat × Nat) → Nat → Nat → List (Nat × Nat)
  | [], _, _ => []
  | (a, l) :: t, off, n =>
    if n = 0 then []
    else if l ≤ off then areaPieces t (off - l) n
    else
      let k := min n (l - off)
      (a + off, k) :: areaPieces t 0 (n - k)

/-- The index of the first range that is not owned. -/
def State.rangeUnowned (s : State) (p : Nat) (l : List (Nat × Nat)) : Option Nat :=
  ((enumFrom 0 l).find? (fun e => !s.owns p e.2.1 e.2.2)).map (·.1)

/-! ## Parity blocks (R369 to R372) -/

/-- A PARITY_UPDATE block. -/
structure ParityArgs where
  k : Nat
  axis : Nat
  step : Nat
  area0 : Nat
  area1 : Nat
  stage : Nat
  chunk : Nat
  rec_ : Nat
  len : Nat
  ranges : List (Nat × Nat)
  deriving DecidableEq, Repr

def parityArgs (b : List Byte) : ParityArgs :=
  { k := fieldAt b 2 1
    axis := fieldAt b 3 1
    step := fieldAt b 4 4
    area0 := fieldAt b 8 8
    area1 := fieldAt b 0x10 8
    stage := fieldAt b 0x18 8
    chunk := fieldAt b 0x20 4
    rec_ := fieldAt b 0x28 8
    len := fieldAt b 0x30 8
    ranges := argRanges b (fieldAt b 0 2) }

/-- S, the length of a stripe and of a parity area. -/
def ParityArgs.stripe (a : ParityArgs) : Nat := a.len / (a.k - 1)

/-- A parity area by its number. -/
def ParityArgs.area (a : ParityArgs) (i : Nat) : Nat := if i = 0 then a.area0 else a.area1

/-- The rank and the group of a module by its coordinate on the axis (R369). -/
def State.parityRank (s : State) (a : ParityArgs) : Nat := coordAt s.coord a.axis % a.k
def State.parityGroup (s : State) (a : ParityArgs) : Nat := coordAt s.coord a.axis / a.k

/-- The member of a group with a rank. -/
def State.memberOf (s : State) (a : ParityArgs) (group rank : Nat) : Nat := s.peerOn a.axis (group * a.k + rank)

/-- The block's own conditions (R369, R371): the index of the range, or of the header, that breaks one. -/
def ParityArgs.bad (a : ParityArgs) (b : List Byte) : Option Nat :=
  let n := fieldAt b 0 2
  let page := fun (x : Nat) => x % 4096 == 0 && decide (x < 2 ^ 48)
  if !(inRange n 1 255 && inRange a.k 2 16 && decide (a.axis ≤ 3) && page a.area0 && page a.area1 && page a.stage &&
      inRange a.chunk 4096 1048576 && a.chunk % 4096 == 0 && fieldAt b 0x24 4 == 0 && a.rec_ % 64 == 0 && decide (a.rec_ < 2 ^ 48) &&
      fieldAt b 0x38 8 == 0 && a.len % ((a.k - 1) * a.chunk) == 0 && decide (0 < a.len)) then some 0
  else
    match (enumFrom 0 a.ranges).find? (fun e => !(page e.2.1 && e.2.2 % 4096 == 0)) with
    | some e => some e.1
    | none => if (a.ranges.map (·.2)).sum = a.len then none else some 0

/-- What a member writes or reads outside its partition: the index of the range, or 0. -/
def State.parityUnowned (s : State) (p : Nat) (a : ParityArgs) : Option Nat :=
  match s.rangeUnowned p a.ranges with
  | some i => some i
  | none =>
    if s.owns p a.area0 a.stripe && s.owns p a.area1 a.stripe && s.owns p a.stage ((a.k - 1) * a.chunk) && s.owns p a.rec_ 64 then none
    else some 0

/-- A rule of R369 holds for the machine: the ring of the axis is a multiple of K. -/
def State.ringFits (s : State) (a : ParityArgs) : Bool := s.ringSize a.axis % a.k == 0

/-! ## PARITY_UPDATE (R371) -/

/-- The send table of a chunk: to each stripe's holder, into its staging slot of that stripe's number. -/
def State.parityTable (s : State) (a : ParityArgs) (i : Nat) : List (List Byte) :=
  let r := s.parityRank a
  let g := s.parityGroup a
  (List.range (a.k - 1)).flatMap (fun st =>
    let to_ := s.memberOf a g ((r + st + 1) % a.k)
    let l := areaPieces a.ranges (st * a.stripe + i * a.chunk) a.chunk
    (l.foldl (fun (x : List (List Byte) × Nat) e =>
      (x.1 ++ [leBytes 4 to_ ++ zeros 4 ++ leBytes 8 e.1 ++ leBytes 8 (a.stage + st * a.chunk + x.2) ++ leBytes 8 e.2], x.2 + e.2)) ([], 0)).1)

/-- DATA_STEP and DIRTY of the record (R372). -/
def State.parityData (s : State) (t : Nat) (c : Cmd) (a : ParityArgs) (next : State → State) : State :=
  let old := s.readBytes a.rec_ 64
  s.libStore t c a.rec_ (leBytes 8 a.step ++ (old.take 32).drop 8 ++ zeros 4 ++ old.drop 0x24) next

/-- PARITY_STEP, AREA, K and RANK of the record. -/
def State.parityDone (s : State) (t : Nat) (c : Cmd) (a : ParityArgs) : State :=
  let old := s.readBytes a.rec_ 64
  s.libStore t c a.rec_ (old.take 8 ++ leBytes 8 a.step ++ leBytes 1 (a.step % 2) ++ leBytes 1 a.k ++ leBytes 1 (s.parityRank a) ++ zeros 13 ++
    old.drop 0x20) (fun s => s.returnOk t c 0)

/-- PARITY_UPDATE's entry: the checks, then it keeps its block. -/
def State.parityEnter (s : State) (t : Nat) (c : Cmd) (b : List Byte) : State :=
  let a := parityArgs b
  if callLen c.w ≠ 64 + 16 * fieldAt b 0 2 then s.returnFault t c 1 0
  else
    match a.bad b, s.parityUnowned c.part a with
    | some i, _ => s.returnFault t c 1 i
    | none, some i => s.returnFault t c 1 i
    | none, none =>
      if !s.ringFits a then s.returnFault t c 1 0
      else if [(a.area0, a.stripe), (a.area1, a.stripe), (a.stage, (a.k - 1) * a.chunk)].any (fun e => (s.unitServing e.1 e.2).isNone) then
        s.returnFault t c 0x12 0
      else s.beginRoutine t 8 [leNat b, callLen c.w]

/-- An operation that failed ends the routine with COMMAND and its STATUS (R379). -/
def State.libFailed (s : State) (t : Nat) (c : Cmd) (k : Routine) (code : Nat) (go : State → State) : State :=
  match k.libFail with
  | some (i, st) => if s.libIdle t k then s.returnCall t c stRoutineFault 0 (routineDetail code i (if code = 8 then st else 0)) else s
  | none => if s.libIdle t k then go s else s

/-- PARITY_UPDATE's next action: each chunk is K + 1 of them, the permute, the record after the last permute, the copy, the XORs. -/
def State.parityStep (s : State) (t : Nat) (c : Cmd) (k : Routine) : State :=
  let a := parityArgs (leBytes (k.vals.getD 1 0) (k.vals.getD 0 0))
  let rounds := a.stripe / a.chunk
  let i := k.pos / (a.k + 1)
  let j := k.pos % (a.k + 1)
  let dst := a.area (a.step % 2) + i * a.chunk
  if rounds ≤ i then s.parityDone t c a
  else if j = 0 then
    s.libPost t c k a.axis 0 (libDesc 5 (Config.libTag a.step i).toNat (wLayerOp c.w) 0 ((a.k - 1) * a.chunk) 0 0) (s.parityTable a i)
  else if j = 1 then (if i + 1 = rounds then s.parityData t c a (fun s => s.libNext t k) else s.libNext t k)
  else if j = 2 then s.libCopy t c k a.stage dst a.chunk
  else s.libXor t c k dst (a.stage + (j - 2) * a.chunk) a.chunk

/-- PARITY_UPDATE (R371). -/
def execParityUpdate (t : Nat) (s : State) : Res :=
  match s.callHead t 8, s.running t 8 with
  | some c, _ => .next (s.enterCall t c (fun s b => s.parityEnter t c b))
  | none, some (c, k) => .next (s.routineStep t c k (fun s => s.libFailed t c k 8 (fun s => s.parityStep t c k)))
  | none, none => .next s

/-! ## REBUILD (R373) -/

/-- A REBUILD block. -/
structure RebuildArgs where
  member : Bool
  lost : Nat
  group : Nat
  step : Nat
  offset : Nat
  target : Nat
  deriving DecidableEq, Repr

def rebuildArgs (b : List Byte) : RebuildArgs :=
  { member := fieldAt b 0 1 == 1
    lost := fieldAt b 1 1
    group := fieldAt b 2 2
    step := fieldAt b 4 4
    offset := fieldAt b 8 8
    target := fieldAt b 0x18 8 }

/-- The members whose records are read: all but the lost one, and the caller's own for PAGE. -/
def RebuildArgs.readers (r : RebuildArgs) (a : ParityArgs) : List Nat :=
  (List.range a.k).filter (fun l => l != r.lost) ++ (if r.member then [] else [r.lost])

/-- The sources of a page at an offset: rank and address, the holder's parity first (R373 step 2). -/
def RebuildArgs.sources (r : RebuildArgs) (a : ParityArgs) (o areas : Nat) : List (Nat × Nat) :=
  let st := o / a.stripe
  let j := (r.lost + st + 1) % a.k
  let at_ := o % a.stripe
  (j, a.area (bits areas j j) + at_) ::
  ((List.range a.k).filter (fun l => l != r.lost && l != j)).map (fun l =>
    (l, ((areaPieces a.ranges ((j + 2 * a.k - l - 1) % a.k * a.stripe + at_) 4096).headD (0, 0)).1))

/-- The pages to rebuild. -/
def RebuildArgs.pages (r : RebuildArgs) (a : ParityArgs) : Nat := if r.member then a.len / 4096 else 1

/-- The block's own conditions. -/
def State.rebuildOk (s : State) (p : Nat) (r : RebuildArgs) (a : ParityArgs) (b : List Byte) : Bool :=
  decide (fieldAt b 0 1 ≤ 1) && decide (r.lost < a.k) && decide (r.group * a.k + a.k ≤ s.ringSize a.axis) && r.offset % 4096 == 0 &&
  (if r.member then r.offset == 0 && r.target % 32 == 0 && decide (r.target < 2 ^ 48) && s.owns p r.target a.len
   else decide (r.offset < a.len) && r.target == 0 && r.lost == s.parityRank a && r.group == s.parityGroup a)

/-- REBUILD's entry: its block and the PARITY_UPDATE block that it names; it keeps both, and the areas' numbers. -/
def State.rebuildEnter (s : State) (t : Nat) (c : Cmd) (b : List Byte) : State :=
  let pa := fieldAt b 0x10 8
  if callLen c.w ≠ 32 ∨ 2 ^ 48 ≤ pa ∨ s.owns c.part pa 64 = false then s.returnFault t c 1 0
  else if !s.memOn pa 64 then s.holdAccess (waiter t 6) pa
  else
    match s.firstBad pa 64 with
    | some u => s.callDataFault t c u
    | none =>
      let n := 64 + 16 * s.readNat pa 2
      if !s.owns c.part pa n then s.returnFault t c 1 0
      else if !s.memOn pa n then s.holdAccess (waiter t 6) pa
      else
        match s.firstBad pa n with
        | some u => s.callDataFault t c u
        | none =>
          let pb := s.readBytes pa n
          let a := parityArgs pb
          let r := rebuildArgs b
          match a.bad pb, s.parityUnowned c.part a with
          | some i, _ => s.returnFault t c 1 i
          | none, some i => s.returnFault t c 1 i
          | none, none =>
            if !s.ringFits a || !s.rebuildOk c.part r a b then s.returnFault t c 1 0
            else if (s.unitServing a.stage ((a.k - 1) * a.chunk)).isNone || (r.member && (s.unitServing r.target a.len).isNone) then
              s.returnFault t c 0x12 0
            else s.beginRoutine t 0xA [leNat b, leNat pb, n, 0]

/-- Data of a member brought to a local address: by READ from another module, by a copy from this one. -/
def State.fetchMember (s : State) (t : Nat) (c : Cmd) (k : Routine) (r : RebuildArgs) (a : ParityArgs) (rank src dst n : Nat) : State :=
  let m := s.memberOf a r.group rank
  if m = s.coord then s.libCopy t c k src dst n
  else s.libPost t c k a.axis rank (libDesc 7 (Config.libTag a.step k.pos).toNat (wLayerOp c.w) dst n m src) []

/-- Step 1's verdict on the records in the staging area: the first stale member, or the areas' numbers by rank. -/
def State.rebuildRecords (s : State) (r : RebuildArgs) (a : ParityArgs) : Nat ⊕ Nat :=
  let l := enumFrom 0 (r.readers a)
  match l.find? (fun e =>
      let x := a.stage + 64 * e.1
      s.readNat (x + 0x20) 4 != 0 || s.readNat x 8 != r.step || s.readNat (x + 8) 8 != r.step) with
  | some e => .inl e.2
  | none => .inr (l.foldl (fun m e => putBits m e.2 e.2 (s.readNat (a.stage + 64 * e.1 + 0x10) 1)) 0)

/-- REBUILD's next action: the records, their check, then for each page its K − 1 sources, K − 2 XORs and the copy to its place. -/
def State.rebuildStep (s : State) (t : Nat) (c : Cmd) (k : Routine) : State :=
  let r := rebuildArgs (leBytes 32 (k.vals.getD 0 0))
  let a := parityArgs (leBytes (k.vals.getD 2 0) (k.vals.getD 1 0))
  let recs := r.readers a
  let n := recs.length
  if k.pos < n then
    let l := recs.getD k.pos 0
    s.fetchMember t c k r a l a.rec_ (a.stage + 64 * k.pos) 64
  else if k.pos = n then
    if !s.memOn a.stage (64 * n) then s.holdAccess (waiter t 6) a.stage
    else
      match s.firstBad a.stage (64 * n), s.rebuildRecords r a with
      | some u, _ => s.callDataFault t c u
      | none, .inl m => s.returnFault t c 0x10 m
      | none, .inr areas => s.setRoutine t { k with pos := k.pos + 1, phase := 1, vals := k.vals.take 3 ++ [areas] }
  else
    let per := 2 * a.k - 2
    let i := (k.pos - n - 1) / per
    let j := (k.pos - n - 1) % per
    let o := r.offset + 4096 * i
    if r.pages a ≤ i then s.returnOk t c 0
    else if j < a.k - 1 then
      let src := (r.sources a o (k.vals.getD 3 0)).getD j (0, 0)
      s.fetchMember t c k r a src.1 src.2 (a.stage + 4096 * j) 4096
    else if j + 1 < per then s.libXor t c k a.stage (a.stage + 4096 * (j + 2 - a.k)) 4096
    else s.libCopy t c k a.stage (if r.member then r.target + o else ((areaPieces a.ranges o 4096).headD (0, 0)).1) 4096

/-- REBUILD (R373): a READ that fails is SECOND_LOSS, with the member's rank. -/
def execRebuild (t : Nat) (s : State) : Res :=
  match s.callHead t 0xA, s.running t 0xA with
  | some c, _ => .next (s.enterCall t c (fun s b => s.rebuildEnter t c b))
  | none, some (c, k) => .next (s.routineStep t c k (fun s => s.libFailed t c k 0x11 (fun s => s.rebuildStep t c k)))
  | none, none => .next s

/-! ## SNAPSHOT (R375 to R377) -/

/-- A SNAPSHOT block. -/
structure SnapArgs where
  op : Nat
  port : Nat
  squeue : Nat
  cqueue : Nat
  object : Nat
  header : Nat
  step : Nat
  pos : Nat
  loss : Nat
  gnorm : Nat
  ranges : List (Nat × Nat)
  deriving DecidableEq, Repr

def snapArgs (b : List Byte) : SnapArgs :=
  { op := fieldAt b 0 1
    port := fieldAt b 1 1
    squeue := fieldAt b 2 2
    cqueue := fieldAt b 4 2
    object := fieldAt b 8 8
    header := fieldAt b 0x10 8
    step := fieldAt b 0x18 8
    pos := fieldAt b 0x20 8
    loss := fieldAt b 0x28 8
    gnorm := fieldAt b 0x30 8
    ranges := argRanges b (fieldAt b 6 2) }

/-- The block's own conditions (R375). -/
def SnapArgs.bad (a : SnapArgs) (b : List Byte) : Option Nat :=
  let at_ := fun (x m : Nat) => x % m == 0 && decide (x < 2 ^ 48)
  if !(decide (a.op ≤ 2) && (a.port == 8 || a.port == 9) && inRange (fieldAt b 6 2) 1 240 && at_ a.header 4096 && fieldAt b 0x38 8 == 0 &&
      (if a.op = 1 then decide (a.loss < 2 ^ 48) && at_ a.gnorm 64 else a.loss == 0 && a.gnorm == 0)) then some 0
  else ((enumFrom 0 a.ranges).find? (fun e => !(at_ e.2.1 32 && e.2.2 % 32 == 0))).map (·.1)

/-- What a SNAPSHOT touches outside its partition: the index of the range, or 0. -/
def State.snapUnowned (s : State) (p d : Nat) (a : SnapArgs) : Option Nat :=
  if !(s.owns p a.header 4096 && (a.op != 1 || (s.owns p a.loss 64 && s.owns p a.gnorm 128)) && s.queueOwner d a.squeue == some p) then some 0
  else s.rangeUnowned p a.ranges

/-- The first 32 bytes of SHAKE256 over the partition's draw key, and the first 8 over a header's start. -/
def State.keyDigest (s : State) (p : Nat) : List Byte := (digestBytes (Config.shake256 (leBytes 16 (s.drawKey p)))).take 32
def bindOf (h : List Byte) : List Byte := (digestBytes (Config.shake256 (h.take 0x28))).take 8

/-- The first 0x18 bytes of a header: what must equal the running values. -/
def State.headerHead (s : State) (p : Nat) : List Byte :=
  let id := match (s.part p).active with | some img => (img.head.imageId, img.head.version) | none => (0, 0)
  leBytes 4 0x50434B4C ++ leBytes 2 1 ++ leBytes 1 (s.fld ID_DEVICE ID_DEVICE_ARCH_GEN) ++ leBytes 1 (s.fld SI_FORCE_PASS SI_FORCE_PASS_MODE) ++
  leBytes 8 id.1 ++ leBytes 4 id.2 ++ leBytes 2 (s.fld ID_LIBRARY ID_LIBRARY_LIB_MAJOR) ++ leBytes 2 (s.fld ID_LIBRARY ID_LIBRARY_LIB_MINOR)

/-- An unsealed checkpoint header (R376). -/
def State.snapHeader (s : State) (p : Nat) (a : SnapArgs) : List Byte :=
  let h := s.headerHead p ++ leBytes 8 a.step ++ leBytes 8 a.pos
  padTo 4096 (h ++ bindOf h ++ leBytes 4 s.coord ++ leBytes 2 a.ranges.length ++ zeros 2 ++ leBytes 8 (a.ranges.map (·.2)).sum ++ zeros 128 ++
    s.keyDigest p ++ zeros 32 ++ a.ranges.flatMap (fun e => leBytes 8 e.1 ++ leBytes 8 e.2))

/-- A sealed header: LOSS, GNORM_SQ and SEALED (R375). -/
def sealHeader (h loss sq : List Byte) : List Byte := h.take 0x36 ++ [1] ++ (h.take 0x40).drop 0x37 ++ loss ++ sq ++ h.drop 0xC0

/-- The first check of R377 that a header fails: its code and index. -/
def State.headerFault (s : State) (p : Nat) (a : SnapArgs) (h : List Byte) : Option (Nat × Nat) :=
  let eq := fun (off n : Nat) (x : List Byte) => (h.drop off).take n == x
  let run := s.headerHead p
  if !(eq 0 8 (run.take 8) && eq 0x10 8 (run.drop 0x10) && eq 0xC0 32 (s.keyDigest p)) then some (0x20, 0)
  else if fieldAt h 0x36 1 ≠ 1 then some (0x22, 0)
  else if !(eq 0x28 8 (bindOf h) && fieldAt h 0x18 8 == a.step && fieldAt h 0x20 8 == a.pos) then some (0x21, 0)
  else if fieldAt h 0x34 2 ≠ a.ranges.length then some (0x20, 0)
  else ((enumFrom 0 a.ranges).find? (fun e => fieldAt h (0x100 + 16 * e.1) 8 != e.2.1 || fieldAt h (0x108 + 16 * e.1) 8 != e.2.2)).map
    (fun e => (0x20, e.1))

/-- The transfers of the ranges: local address, length (at most 2^32 bytes), offset within the object, range index. -/
def SnapArgs.moves (a : SnapArgs) : List (Nat × Nat × Nat × Nat) :=
  ((enumFrom 0 a.ranges).foldl (fun (x : List (Nat × Nat × Nat × Nat) × Nat) e =>
    let n := (e.2.2 + 2 ^ 32 - 1) / 2 ^ 32
    (x.1 ++ (List.range n).map (fun i => (e.2.1 + i * 2 ^ 32, min (2 ^ 32) (e.2.2 - i * 2 ^ 32), x.2 + i * 2 ^ 32, e.1)), x.2 + e.2.2)) ([], 4096)).1

/-- A storage entry of the library (11 R271). -/
def SnapArgs.entry (a : SnapArgs) (read : Bool) (tag addr len off : Nat) : List Byte :=
  leBytes 1 (if read then 1 else 2) ++ leBytes 1 a.port ++ leBytes 2 a.cqueue ++ leBytes 4 tag ++ leBytes 8 addr ++ leBytes 8 len ++
  leBytes 8 a.object ++ leBytes 8 off ++ zeros 24

/-- An entry posted once the STORAGE queue has room; the routine then waits for its completion: phase 1, the completion queue's count
and the entry's slot. -/
def State.snapPost (s : State) (t : Nat) (k : Routine) (a : SnapArgs) (read : Bool) (addr len off : Nat) : State :=
  let d := tileDie t
  let x := s.queue d a.squeue
  if !(x.enabled && x.ty == 4 && x.room 1) then s
  else if !s.memOn (x.slot x.prod) 64 then s.holdAccess (waiter t 6) (x.slot x.prod)
  else
    let s := (s.pushEntry d a.squeue (a.entry read (Config.libTag a.step k.pos).toNat addr len off))
    s.setRoutine t { k with phase := 1, vals := k.vals.take 2 ++ [(s.queue d a.cqueue).prod, x.prod % x.size] }

/-- The STATUS of the completion that the routine waits for, if its queue holds it (11 R273). -/
def State.snapStatus (s : State) (t : Nat) (k : Routine) (a : SnapArgs) : Option Nat :=
  let y := s.queue (tileDie t) a.cqueue
  let from_ := k.vals.getD 2 0
  ((List.range ((y.prod + 2 ^ 32 - from_) % 2 ^ 32)).map (fun i => s.readBytes (y.slot (from_ + i)) 32)).findSome? (fun b =>
    if fieldAt b 0 2 = 0xFFFF ∧ fieldAt b 2 1 = 0xF0 + a.port ∧ fieldAt b 20 4 = k.vals.getD 3 0 then some (fieldAt b 3 1) else none)

/-- The transfers of an operation in order: the header first for SAVE and RESTORE, alone for SEAL. -/
def SnapArgs.plan (a : SnapArgs) : List (Nat × Nat × Nat × Nat) :=
  (a.header, 4096, 0, 0) :: (if a.op = 1 then [] else a.moves)

/-- SEAL's local work: the header with the step's loss and norm (R375). -/
def State.sealWork (s : State) (t : Nat) (c : Cmd) (a : SnapArgs) (go : State → State) : State :=
  let ext := [(a.header, 4096), (a.loss, 64), (a.gnorm, 128)]
  match s.offOf ext, s.badOf ext with
  | some x, _ => s.holdAccess (waiter t 6) x
  | none, some u => s.callDataFault t c u
  | none, none =>
    if s.readNat (a.gnorm + 0x40) 4 ≠ a.step then s.returnFault t c 0x24 0
    else s.libStore t c a.header (sealHeader (s.readBytes a.header 4096) (s.readBytes a.loss 64) (s.readBytes a.gnorm 64)) go

/-- SNAPSHOT's entry. -/
def State.snapEnter (s : State) (t : Nat) (c : Cmd) (b : List Byte) : State :=
  let a := snapArgs b
  if callLen c.w ≠ 64 + 16 * fieldAt b 6 2 then s.returnFault t c 1 0
  else
    match a.bad b, s.snapUnowned c.part (tileDie t) a with
    | some i, _ => s.returnFault t c 1 i
    | none, some i => s.returnFault t c 1 i
    | none, none =>
      let go := fun (s : State) => s.beginRoutine t 9 [leNat b, callLen c.w, 0, 0]
      match a.op with
      | 0 => s.libStore t c a.header (s.snapHeader c.part a) go
      | 1 => s.sealWork t c a go
      | _ => go s

/-- SNAPSHOT's next action: an entry posted, or its completion taken; RESTORE checks the header once it is there. -/
def State.snapStep (s : State) (t : Nat) (c : Cmd) (k : Routine) (a : SnapArgs) : State :=
  if k.phase = 1 then
    match s.snapStatus t k a with
    | none => s
    | some st =>
      if st ≠ stOk then s.returnFault t c 0x23 ((a.plan.getD k.pos (0, 0, 0, 0)).2.2.2)
      else if a.op = 2 ∧ k.pos = 0 then
        (if !s.memOn a.header 4096 then s.holdAccess (waiter t 6) a.header
         else
          match s.firstBad a.header 4096, s.headerFault c.part a (s.readBytes a.header 4096) with
          | some u, _ => s.callDataFault t c u
          | none, some (code, i) => s.returnFault t c code i
          | none, none => s.setRoutine t { k with phase := 0, pos := 1 })
      else s.setRoutine t { k with phase := 0, pos := k.pos + 1 }
  else
    match a.plan[k.pos]? with
    | none => s.returnOk t c 0
    | some m => s.snapPost t k a (a.op == 2) m.1 m.2.1 m.2.2.1

/-- SNAPSHOT with an OP: the row's command is the one whose OP the block holds; an undefined OP ends with any of them. -/
def State.snapshot (s : State) (t op : Nat) : State :=
  match s.callHead t 9, s.running t 9 with
  | some c, _ =>
    let o := (s.byte (callAddr c.w)).toNat
    if o ≠ op ∧ o ≤ 2 ∧ 0 < callLen c.w then s else s.enterCall t c (fun s b => s.snapEnter t c b)
  | none, some (c, k) =>
    let a := snapArgs (leBytes (k.vals.getD 1 0) (k.vals.getD 0 0))
    if a.op = op then s.routineStep t c k (fun s => s.snapStep t c k a) else s
  | none, none => s

/-- SAVE (R375). -/
def execSave (t : Nat) (s : State) : Res := .next (s.snapshot t 0)
/-- SEAL (R375). -/
def execSeal (t : Nat) (s : State) : Res := .next (s.snapshot t 1)
/-- RESTORE (R377). -/
def execRestore (t : Nat) (s : State) : Res := .next (s.snapshot t 2)

/-! ## STEP_REPLAY (R378) -/

/-- STEP_REPLAY (R378): the replayed loss and norm against the header's. -/
def execStepReplay (t : Nat) (s : State) : Res :=
  match s.callHead t 0xB with
  | none => .next s
  | some c => .next (s.enterCall t c (fun s b =>
      let h := fieldAt b 0 8
      let l := fieldAt b 8 8
      let g := fieldAt b 0x10 8
      let ext := [(h, 4096), (l, 64), (g, 128)]
      if callLen c.w ≠ 32 ∨ fieldAt b 0x18 8 ≠ 0 ∨ h % 4096 ≠ 0 ∨ g % 64 ≠ 0 ∨ 2 ^ 48 ≤ h ∨ 2 ^ 48 ≤ l ∨ 2 ^ 48 ≤ g ∨
          (s.unownedOf c.part ext).isSome = true then s.returnFault t c 1 0
      else
        match s.offOf ext, s.badOf ext with
        | some x, _ => s.holdAccess (waiter t 6) x
        | none, some u => s.callDataFault t c u
        | none, none =>
          if s.readNat (g + 0x40) 4 ≠ s.readNat (h + 0x18) 8 then s.returnFault t c 0x24 0
          else if s.readBytes l 64 ≠ s.readBytes (h + 0x40) 64 then s.returnOk t c 1
          else if s.readBytes g 64 ≠ s.readBytes (h + 0x80) 64 then s.returnOk t c 2
          else s.returnOk t c 0))

end Sys2Proof.Machine
end

