-- ==== Sys2Proof/Machine/SelfTest.lean ====
section
/-! DEFINITION. In-service self-test: windows, slices and their ends (15_failure_paths.md R380 to R383). -/
namespace Sys2Proof.Machine

/-- The library's self-test replaced. -/
def State.setTests (s : State) (x : SelfTestSt) : State := { s with tests := x }

/-- The units of a tile in the cursor's order: ME0 to ME3, the vector unit, banks 0 to 15. -/
def unitsPerTile : Nat := 21

/-- A place of the cursor: region, tile and unit. -/
def cursorTile (x : Nat) : Nat := (regionTiles (x / unitsPerTile / 64)).getD (x / unitsPerTile % 64) 0
def cursorUnit (x : Nat) : Nat := min (x % unitsPerTile) 5
def cursorBank (x : Nat) : Nat := if x % unitsPerTile < 5 then 0 else x % unitsPerTile - 5

/-- The length of a slice of a unit in ns. -/
def sliceLen (unit : Nat) : Nat := if unit < 4 then 30000 else if unit = 4 then 25000 else 45000

/-- A window's KIND bits admit a unit. -/
def kindAdmits (kinds unit : Nat) : Bool := bit kinds (if unit < 4 then 0 else if unit = 4 then 1 else 2)

/-- Slices may run at all (R382): PROVISIONED or DEPLOYED, and ENABLE set. -/
def State.slicesAllowed (s : State) : Bool :=
  (s.fuses.lifecycle == 2 || s.fuses.lifecycle == 3) && s.flag SI_TEST_CTRL SI_TEST_CTRL_ENABLE

/-- An engine is idle as 04 R109 states: its queue empty, nothing started and not completed, no entry valid. -/
def State.engineIdle (s : State) (t e : Nat) : Bool :=
  let x := s.tile t
  (x.queue e).isEmpty && (x.flying e).isEmpty && ((x.me e).buf.all (fun b => !b.2.valid))

/-- The 64 KiB of a partition's save area for a die. -/
def State.saveArea (s : State) (p t : Nat) : Nat := s.fld (SI_TEST_SAVE p) SI_TEST_SAVE_ADDR + tileDie t * 0x10000

/-- A unit qualifies (R380): the tile is in service, the engine or vector unit is not fenced (R382; bit 5 of the record names no bank), and it is idle as
its kind asks: for a bank, the control core holds no launch and executes nothing. -/
def State.qualifies (s : State) (p t unit : Nat) : Bool :=
  let x := s.tile t
  let ps := s.part p
  let here := s.tileOwner t == some p && s.tileRuns t && decide (s.fld (SI_STATUS p) SI_STATUS_SLICE ≤ 1 || sget (fun _ => ps.resident) ps.slots t = ps.resident)
  here && !(decide (unit < 5) && bit (s.recordOf t) unit) &&
  (if unit < 4 then s.engineIdle t unit
   else if unit = 4 then (x.queue 4).isEmpty && (x.flying 4).isEmpty
   else (List.range 4).all (fun e => s.engineIdle t e) && (x.queue 4).isEmpty && (x.queue 5).isEmpty && (x.flying 4).isEmpty && (x.flying 5).isEmpty &&
     x.launch.isNone && x.inl.isNone && x.routine.isNone && s.fld (SI_TEST_SAVE p) SI_TEST_SAVE_ADDR != 0 && s.domOn (32 + s.servRegion t) &&
     s.memOn (s.saveArea p t) 0x10000 && (s.firstFailed (s.saveArea p t) 0x10000).isNone)

/-- The master of the library's copies: the control core of the tile (log entry 17). -/
def testMaster (p t : Nat) : Master := ⟨0, t, 0, some p, some 0⟩

/-- Each bad unit of a copy's source is met as a read meets it; what is written in its place is free (R208, R218, log entry 17). -/
def State.copyBad (s : State) (m : Master) (bad : List (Nat × Nat)) : State :=
  bad.foldl (fun s u => (s.ueMet 2 u.1 m).freeRange u.2 (errUnitBytes u.1)) s

/-- An address of a bank of a tile's SRAM: line i, byte j (09 R205). -/
def bankAddr (t bank i j : Nat) : Nat := sramBase t + i * 256 + bank * 16 + j

/-- The lines of a bank moved between a tile's SRAM and a save area, lines in ascending order (09 R205). -/
def State.bankSaved (s : State) (p t bank area : Nat) : State :=
  let b := sramBase t
  let bad := (s.ue.filter (fun u => decide (b ≤ u) && decide (u < b + 0x100000) && (u - b) / 16 % 16 == bank)).map (fun u => (u, area + (u - b) / 256 * 16))
  let cells := (s.mem.filter (fun c => decide (b ≤ c.1) && decide (c.1 < b + 0x100000) && (c.1 - b) / 16 % 16 == bank)).map
    (fun c => (area + (c.1 - b) / 256 * 16 + (c.1 - b) % 16, c.2))
  (({ s with mem := cellsReplace s.mem area 0x10000 cells }).copyBad (testMaster p t) bad).cleanUnits area 0x10000

def State.bankRestored (s : State) (p t bank area : Nat) : State :=
  let b := sramBase t
  let bad := s.ue.filter (fun u => decide (area ≤ u) && decide (u < area + 0x10000))
  let s := (List.range 0x10000).foldl (fun s i => s.setByte (bankAddr t bank (i / 16) (i % 16)) (s.byte (area + i))) s
  let s := bad.foldl (fun s u => ((s.ueMet 2 u (testMaster p t)).freeRange (bankAddr t bank ((u - area) / 16) 0) 16).freeRange (bankAddr t bank ((u - area) / 16 + 1) 0) 16) s
  { s with ue := s.ue.filter (fun u => !(decide (b ≤ u) && decide (u < b + 0x100000) && (u - b) / 16 % 16 == bank)) }

/-- The window of an entry in the present frame: its first and last instants, if the time lies in it. -/
def State.windowNow (s : State) (p w : Nat) : Option (TestWin × Nat × Nat) :=
  match s.flag (SI_STATUS p) SI_STATUS_ACTIVE, (s.part p).active with
  | true, some img =>
    match img.windows[w]? with
    | none => none
    | some x =>
      let len := img.head.frameUs * 1000
      let f := s.zt / len
      let lo := f * len + x.offsetUs * 1000
      let hi := lo + x.lenUs * 1000
      if lo ≤ s.zt ∧ s.zt < hi then some (x, f, hi) else none
  | _, _ => none

/-- A region's tile clock lies between 0.8 and 1.8 GHz (R380). -/
def State.clockFits (s : State) (r : Nat) : Bool := decide (800 ≤ s.regionMHz r) && decide (s.regionMHz r ≤ 1800)

/-- A place of the cursor starts a slice in a window: its region in the mask and free of slices, at a clock of R380, its kind admitted, the
unit qualifying, and time left. -/
def State.sliceFits (s : State) (p : Nat) (w : TestWin) (hi x : Nat) : Bool :=
  let t := cursorTile x
  let u := cursorUnit x
  let r := tileRegion t
  bit w.regionMask r && kindAdmits w.kinds u && decide (s.zt + sliceLen u ≤ hi) && s.clockFits r &&
  !s.tests.slices.any (fun y => tileRegion y.tile == r) && s.qualifies p t u

/-- The places of a partition's regions from its cursor on, once round. -/
def State.cursorPlaces (s : State) (p : Nat) : List Nat :=
  let all := ((List.range 32).filter (fun r => bit (s.part p).regions r)).flatMap (fun r => (List.range (64 * unitsPerTile)).map (fun i => r * (64 * unitsPerTile) + i))
  let c := sget (fun _ => 0) s.tests.cursor p
  all.filter (fun x => decide (c ≤ x)) ++ all.filter (fun x => decide (x < c))

/-- A slice starts on the first unit at or after the cursor that fits; the cursor moves past it (R380, R381). -/
def State.startSlice (s : State) (p : Nat) (w : TestWin) (hi : Nat) : State :=
  match (s.cursorPlaces p).find? (fun x => s.sliceFits p w hi x) with
  | none => s
  | some x =>
    let t := cursorTile x
    let u := cursorUnit x
    let r : SliceRun := ⟨p, t, u, cursorBank x, s.zt + sliceLen u⟩
    let s := if u = 5 then s.bankSaved p t r.bank (s.saveArea p t) else s
    s.setTests { s.tests with cursor := sset (fun _ => 0) s.tests.cursor p (x + 1), slices := s.tests.slices ++ [r] }

/-- The conditions of a window hold (R380): the core voltage's, and the clock's for some region of the window that the partition owns. -/
def State.windowFits (s : State) (p : Nat) (w : TestWin) (voltageOk : Bool) : Bool :=
  voltageOk && (List.range 32).any (fun r => bit w.regionMask r && bit (s.part p).regions r && s.clockFits r)

/-- TEST_WINDOW (R380): a window of the active image opens; outside the conditions of clock and voltage it starts no slice and counts as skipped. -/
def execTestWindow (p : Nat) (w : BitVec 16) (voltageOk : Bool) (s : State) : Res :=
  match s.windowNow p w.toNat with
  | none => .next s
  | some (x, f, hi) =>
    let key := p * 65536 + w.toNat
    if sget (fun _ => 0) s.tests.opened key / 2 = f + 1 ∨ s.slicesAllowed = false ∨ s.stopHolds (some p) = true then .next s
    else
      let s := s.setTests { s.tests with opened := sset (fun _ => 0) s.tests.opened key (2 * (f + 1) + b2n (s.windowFits p x voltageOk)) }
      if s.windowFits p x voltageOk then .next (s.startSlice p x hi)
      else .next (s.addFld (SI_TEST_STATUS p) SI_TEST_STATUS_SKIPPED_COND 1)

/-- SELFTEST_SLICE (R380): a further slice of an open window. -/
def execSelftestSlice (p : Nat) (w : BitVec 16) (s : State) : Res :=
  match s.windowNow p w.toNat with
  | none => .next s
  | some (x, f, hi) =>
    if sget (fun _ => 0) s.tests.opened (p * 65536 + w.toNat) = 2 * (f + 1) + 1 ∧ s.slicesAllowed = true ∧ s.stopHolds (some p) = false then
      .next (s.startSlice p x hi)
    else .next s

/-- The units that a full pass tests: twenty-one a tile of the regions in service. -/
def State.testUnits (s : State) : Nat := popCount 32 s.fuses.regionMask * 64 * unitsPerTile

/-- The fenced engines and vector units of served tiles that the current pass has not tested: no slice runs on them any more (R382, log entry 54). -/
def State.fencedUntested (s : State) : Nat :=
  (s.spares.tiles.map (fun e => match s.servedBy e.1 with
    | some t => ((List.range 5).filter (fun u => bit e.2 u && !s.tests.tested.contains (t * unitsPerTile + u))).length
    | none => 0)).sum

/-- SI_TEST_COVER after a slice (R383): each unit counts once in a pass, and a pass is complete once every present unit is tested. -/
def State.coverSlice (s : State) (x : SliceRun) (failed : Bool) : State :=
  let u := x.tile * unitsPerTile + x.unit + x.bank
  let s := if s.tests.tested.contains u then s
    else (s.setTests { s.tests with tested := u :: s.tests.tested }).addFld SI_TEST_COVER SI_TEST_COVER_TESTED 1
  let s := if failed then s.addFld SI_TEST_COVER SI_TEST_COVER_FAILED 1 else s
  if s.testUnits ≤ s.tests.tested.length + s.fencedUntested then
    (((s.setTests { s.tests with tested := [] }).addFld SI_TEST_COVER SI_TEST_COVER_PASSES 1).setFld SI_TEST_COVER SI_TEST_COVER_TESTED 0).setFld SI_TEST_COVER SI_TEST_COVER_FAILED 0
  else s

/-- SELFTEST_SLICE_END (R381, R382): a region's slice has run its length; the unit is returned, or fenced where it failed. -/
def execSelftestSliceEnd (r : Nat) (failed : Bool) (s : State) : Res :=
  match s.tests.slices.find? (fun x => tileRegion x.tile == r && decide (x.ends ≤ s.zt)) with
  | none => .next s
  | some x =>
    let s := s.setTests { s.tests with slices := s.tests.slices.filter (fun y => tileRegion y.tile != r) }
    let t := x.tile
    let s := if x.unit < 4 then s.setTile t ((s.tile t).setMe x.unit {})
      else if x.unit = 5 then s.bankRestored x.part t x.bank (s.saveArea x.part t)
      else s
    let s := (s.addFld (SI_TEST_STATUS x.part) SI_TEST_STATUS_RUN 1).coverSlice x failed
    if failed then .next ((s.addFld (SI_TEST_STATUS x.part) SI_TEST_STATUS_FAILED 1).fenceTileUnit (s.physOf t) x.unit x.bank 0)
    else .next s

end Sys2Proof.Machine
end

