-- ==== Sys2Proof/Machine/Slices.lean ====
section
/-! DEFINITION. Time-slicing of a partition's clusters over its tiles: SLICE_SWITCH (03_tiles_and_commands.md R81, R83). -/
namespace Sys2Proof.Machine

/-- The tiles of the clusters in a slot. -/
def PartSt.slotTiles (ps : PartSt) (k : Nat) : List Nat :=
  match ps.active with
  | none => []
  | some img => (imageTiles img).filter (fun t => sget (fun _ => 256) ps.slots t == k)

/-- A tile's SRAM goes to its backing copy; the 4 KiB of sync objects and queue state after it have no layout in the spec. -/
def State.saveTile (s : State) (img : Image) (t : Nat) (m : Master) : State :=
  let b := backingBase img (imageTiles img) t
  let s := s.copySound (sramBase t) b 0x100000 m
  let s := ({ s with mem := cellsZero s.mem (sramBase t) 0x100000 }).cleanUnits (sramBase t) 0x100000
  (s.freeRange (b + 0x100000) 4096).cleanUnits (b + 0x100000) 4096

/-- A tile's SRAM comes back from its backing copy. -/
def State.restoreTile (s : State) (img : Image) (t : Nat) (m : Master) : State :=
  s.copySound (backingBase img (imageTiles img) t) (sramBase t) 0x100000 m

/-- The resident slot changes; the control core of each tile reads the memory that is moved (R81). -/
def State.swapSlot (s : State) (p : Nat) (img : Image) (k : Nat) : State :=
  let ps := s.part p
  let s := (ps.slotTiles ps.resident).foldl (fun s t => s.saveTile img t ⟨0, t, 0, some p, some 0⟩) s
  let s := (ps.slotTiles k).foldl (fun s t => s.restoreTile img t ⟨0, t, 0, some p, some 0⟩) s
  s.setPart p { ps with resident := k }

/-- The held launch delivered to the clusters of the resident slot that its queue feeds. -/
def State.deliverSlot (s : State) (p : Nat) (e : Nat × List Byte) : State :=
  let d := e.1 / 16384
  let q := e.1 % 16384
  let l := launchOf s.launchNo (fieldAt e.2 64 1) (e.2.take 64)
  let s := { s with launchNo := s.launchNo + 1 }
  (s.entryClusters p d q).foldl (fun s c => s.deliver p c l) s

/-- SLICE_SWITCH (R81): every tile of the resident slot has finished the launch; the next slot takes it, and after the last slot
the LAUNCH_DONE records are written and slot 0 is resident again. -/
def execSliceSwitch (p : Nat) (s : State) : Res :=
  let ps := s.part p
  match ps.active with
  | none => .next s
  | some img =>
    let area := (imageTiles img).map (fun t => backingBase img (imageTiles img) t)
    if !(s.sliced p && !ps.sliceLaunch.isEmpty && ps.tracks.all (fun k => k.tiles.isEmpty) && !ps.noDeliver && !s.stopHolds (some p)) then .next s
    else
      match area.find? (fun a => !s.memOn a 0x101000) with
      | some a => .next (s.holdAccess (0x20010 + p) a)
      | none =>
        let k := ps.resident + 1
        if k < s.fld (SI_STATUS p) SI_STATUS_SLICE then
          .next (ps.sliceLaunch.foldl (fun s e => s.deliverSlot p e) (s.swapSlot p img k))
        else
          let s := s.swapSlot p img 0
          let s := ps.tracks.foldl (fun s t => s.launchDone t) s
          .next (s.setPart p { s.part p with tracks := [], sliceLaunch := [] })

end Sys2Proof.Machine
end

