-- ==== Sys2Proof/Machine/TokenLoop.lean ====
section
/-! DEFINITION. TOKEN_LOOP, the routine of a serving stage (13_collectives_and_mapping.md R330): the steps of the rule one after
another, each where what it waits for is there. -/
namespace Sys2Proof.Machine

/-- The argument block's fields. -/
structure LoopArgs where
  role : Nat
  inCounter : Nat
  inQueue : Nat
  entryQueue : Nat
  nextQueue : Nat
  launch : Nat
  inAddr : Nat
  outAddr : Nat
  outLen : Nat
  peer : Nat
  maxTokens : Nat
  stop : Nat
  hostQueue : Nat
  doneCounter : Nat
  deriving DecidableEq, Repr

def loopArgs (b : List Byte) : LoopArgs :=
  { role := fieldAt b 0 1
    inCounter := fieldAt b 1 1
    inQueue := fieldAt b 2 2
    entryQueue := fieldAt b 4 2
    nextQueue := fieldAt b 6 2
    launch := fieldAt b 8 8
    inAddr := fieldAt b 0x10 8
    outAddr := fieldAt b 0x18 8
    outLen := fieldAt b 0x20 4
    peer := fieldAt b 0x24 4
    maxTokens := fieldAt b 0x28 4
    stop := fieldAt b 0x2C 4
    hostQueue := fieldAt b 0x30 2
    doneCounter := fieldAt b 0x32 1 }

/-- The stage is the last: LAST or ONLY. -/
def LoopArgs.last (a : LoopArgs) : Bool := a.role == 2 || a.role == 3

/-- The block meets R330: its length, ranges, and reserved bytes. -/
def loopOk (len : Nat) (b : List Byte) : Bool :=
  let a := loopArgs b
  len == 64 && decide (a.role ≤ 3) && decide (a.inCounter < 128) && decide (a.doneCounter < 128) && decide (a.inQueue < 32768) &&
  decide (a.entryQueue < 16384) && decide (a.nextQueue < 32768) && decide (a.launch < 2 ^ 48) && decide (a.inAddr < 2 ^ 48) &&
  decide (a.outAddr < 2 ^ 48) && inRange a.outLen 32 65528 && a.outLen % 32 == 0 && decide (a.peer < 2 ^ 20) &&
  decide (0 < a.maxTokens) && fieldAt b 0x33 13 == 0

/-- Where the routine reads its input queue: the head word, or its own count where the queue has none (10 R226). -/
def State.loopIndex (s : State) (a : LoopArgs) (own : Nat) : Nat :=
  let x := s.queue (bits a.inQueue 14 14) (bits a.inQueue 13 0)
  if x.headAddr = 0 then own else s.readNat x.headAddr 4

/-- The entries that a message of n bytes occupies (10 R234), and its bytes in the ring from an index on. -/
def QueueSt.messageEntries (x : QueueSt) (n : Nat) : Nat := (n + x.entryBytes - 1) / x.entryBytes
def State.ringBytes (s : State) (x : QueueSt) (i n : Nat) : List Byte :=
  ((List.range (x.messageEntries n)).flatMap (fun j => s.readBytes (x.slot (i + j)) x.entryBytes)).take n

/-- The axis whose ring a message of the loop is posted on: the lowest whose ring of the partition is in service, else X (log entry 59). -/
def State.loopAxis (s : State) (p : Nat) : Nat := ((List.range 4).find? (fun a => s.flag (CE_RING a p) CE_RING_ENABLE)).getD 0

/-- A message of the loop is posted as a SEND with the TC0 and FENCE flags (R326, R330), once the ring takes it; the routine goes on from `k`. -/
def State.loopSend (s : State) (t : Nat) (c : Cmd) (k : Routine) (a : LoopArgs) (body : List Byte) : State :=
  s.libPost t c k (s.loopAxis c.part) 0
    (opDesc 6 0x60 (Config.libTag (k.vals.getD 2 0) (k.vals.getD 1 0)).toNat (wLayerOp c.w) 0 body.length a.peer a.nextQueue 0) [body]

/-- The loop begins: it keeps its index, its token count, the token, END, and the block. -/
def State.loopEnter (s : State) (t : Nat) (c : Cmd) (b : List Byte) : State :=
  let a := loopArgs b
  if !loopOk (callLen c.w) b || !s.owns c.part a.launch 64 || !s.owns c.part a.outAddr a.outLen ||
      s.queueOwner (bits a.inQueue 14 14) (bits a.inQueue 13 0) != some c.part || s.queueOwner (tileDie t) a.entryQueue != some c.part ||
      (s.queue (tileDie t) a.entryQueue).ty != 0 || (s.queue (tileDie t) a.entryQueue).role != 0 ||
      (a.last && a.hostQueue != 0xFFFF && s.queueOwner (bits a.hostQueue 14 14) (bits a.hostQueue 13 0) != some c.part) then
    s.returnFault t c 1 0
  else s.beginRoutine t 0xE [(s.queue (bits a.inQueue 14 14) (bits a.inQueue 13 0)).cons, 0, 0, 0, leNat b]

/-- The loop's next phase with what it keeps. -/
def State.loopTo (s : State) (t : Nat) (k : Routine) (phase ix count token fin : Nat) : State :=
  s.setRoutine t { k with phase := phase, vals := [ix, count, token, fin, k.vals.getD 4 0] }

/-- Steps 1 to 3: the input's entries taken, the payload copied, the head word advanced; an END is forwarded and ends the loop. -/
def State.loopInput (s : State) (t : Nat) (c : Cmd) (k : Routine) (a : LoopArgs) (inLen : Nat) : State :=
  let x := s.queue (bits a.inQueue 14 14) (bits a.inQueue 13 0)
  let need := x.messageEntries (8 + inLen)
  if !s.countsTo t a.inCounter need then s
  else
    let i := s.loopIndex a (k.vals.getD 0 0)
    let slots := (List.range need).map (fun j => (x.slot (i + j), x.entryBytes))
    let ext := slots ++ [(a.inAddr, inLen)] ++ (if x.headAddr = 0 then [] else [(x.headAddr, 4)])
    match s.unownedOf c.part ext, s.offOf ext, s.badOf slots with
    | some _, _, _ => s.returnFault t c 1 0
    | none, some u, _ => s.holdAccess (waiter t 6) u
    | none, none, some u => s.callDataFault t c u
    | none, none, none =>
      let m := s.ringBytes x i (8 + inLen)
      let w : Master := (c.master 0 t)
      let s := s.takeCount t a.inCounter need
      let (s, e1) := s.store a.inAddr (m.drop 8) w
      let (s, e2) := if x.headAddr = 0 then (s, none) else s.store x.headAddr (leBytes 4 (i + need)) w
      let count := k.vals.getD 1 0
      match e1, e2 with
      | some u, _ => s.returnCall t c stDataFault u u
      | none, some u => s.returnCall t c stDataFault u u
      | none, none =>
        if fieldAt m 4 1 % 2 = 1 then
          (if a.last then s.returnOk t c count else s.loopTo t k 5 ((i + need) % 2 ^ 32) count (fieldAt m 0 4) 1)
        else s.loopTo t k 1 ((i + need) % 2 ^ 32) count (fieldAt m 0 4) 0

/-- Step 4: the launch template with STEP and MICRO_BATCH goes into the stage's COMMAND queue once it has room. -/
def State.loopLaunch (s : State) (t : Nat) (c : Cmd) (k : Routine) (a : LoopArgs) : State :=
  let d := tileDie t
  let x := s.queue d a.entryQueue
  if !(x.enabled && x.room 1) then s
  else if !s.memOn a.launch 64 then s.holdAccess (waiter t 6) a.launch
  else if !s.memOn (x.slot x.prod) 64 then s.holdAccess (waiter t 6) (x.slot x.prod)
  else
    match s.firstBad a.launch 64 with
    | some u => s.callDataFault t c u
    | none =>
      let b := s.readBytes a.launch 64
      let token := k.vals.getD 2 0
      let b := b.take 0x18 ++ leBytes 4 token ++ leBytes 2 0 ++ b.drop 0x1E
      (s.pushEntry d a.entryQueue b).loopTo t k 2 (k.vals.getD 0 0) (k.vals.getD 1 0) token 0

/-- Step 5: the prefix and the stage's output go to the next stage; LAST sets END with the stop token or the last token, and its
message names the next token. -/
def State.loopOutput (s : State) (t : Nat) (c : Cmd) (k : Routine) (a : LoopArgs) : State :=
  if !s.memOn a.outAddr a.outLen then s.holdAccess (waiter t 6) a.outAddr
  else
    match s.firstBad a.outAddr a.outLen with
    | some u => s.callDataFault t c u
    | none =>
      let out := s.readBytes a.outAddr a.outLen
      let count := k.vals.getD 1 0 + 1
      let token := k.vals.getD 2 0
      let fin := a.last && (fieldAt out 0 4 == a.stop || decide (a.maxTokens ≤ count))
      let k' := { k with
        phase := if a.last && a.hostQueue != 0xFFFF then 4 else 0
        vals := [k.vals.getD 0 0, count, fieldAt out 0 4, b2n fin, k.vals.getD 4 0] }
      s.loopSend t c k' a (leBytes 4 (if a.last then token + 1 else token) ++ leBytes 4 (b2n fin) ++ out)

/-- Step 6: LAST writes the token to HOST_QUEUE once it has room. -/
def State.loopHost (s : State) (t : Nat) (k : Routine) (a : LoopArgs) : State :=
  let d := bits a.hostQueue 14 14
  let q := bits a.hostQueue 13 0
  let x := s.queue d q
  if !(x.enabled && x.room 1) then s
  else if !s.memOn (x.slot x.prod) x.entryBytes then s.holdAccess (waiter t 6) (x.slot x.prod)
  else ((s.pushEntry d q (padTo x.entryBytes (leBytes 4 (k.vals.getD 2 0))))).loopTo t k 0 (k.vals.getD 0 0) (k.vals.getD 1 0) 0 0

/-- TOKEN_LOOP (R330): a SEND that fails ends the routine with COMMAND and its STATUS. The operand is the payload length of the input message, which its sender chose. -/
def execTokenLoop (t : Nat) (inLen : BitVec 16) (s : State) : Res :=
  match s.callHead t 0xE, s.running t 0xE with
  | some c, _ => .next (s.enterCall t c (fun s b => s.loopEnter t c b))
  | none, some (c, k) =>
    let a := loopArgs (leBytes 64 (k.vals.getD 4 0))
    .next (s.routineStep t c k (fun s => s.libFailed t c k 8 (fun s =>
      match k.phase with
      | 0 => s.loopInput t c k a inLen.toNat
      | 1 => s.loopLaunch t c k a
      | 2 =>
        if !s.countsTo t a.doneCounter 1 then s else (s.takeCount t a.doneCounter 1).loopTo t k 3 (k.vals.getD 0 0) (k.vals.getD 1 0) (k.vals.getD 2 0) 0
      | 3 => s.loopOutput t c k a
      | 4 => s.loopHost t k a
      | 5 => s.loopSend t c { k with phase := 6 } a (leBytes 4 (k.vals.getD 2 0) ++ leBytes 4 1)
      | _ => s.returnOk t c (k.vals.getD 1 0))))
  | none, none => .next s

end Sys2Proof.Machine
end

