-- ==== Sys2Proof/Machine/Dispatch.lean ====
section
/-! DEFINITION. One arm per command, each a direct call of its meaning. -/
namespace Sys2Proof.Machine

def exec (i : Instr) (s : State) : Host.Outcome State Fault Refusal :=
  match i with
  | .registerWrite ctx addr value => Sys2Proof.Machine.execRegisterWrite ctx addr value s
  | .readClears ctx addr => Sys2Proof.Machine.execReadClears ctx addr s
  | .znNow ctx => Sys2Proof.Machine.execZnNow ctx s
  | .mrd um ctx tag addr len8 seq => Sys2Proof.Machine.execMrd um ctx tag addr len8 seq s
  | .mwr um ctx addr data seq => Sys2Proof.Machine.execMwr um ctx addr data seq s
  | .maskClear ctx vector => Sys2Proof.Machine.execMaskClear ctx vector s
  | .ucieReplay um flits => Sys2Proof.Machine.execUcieReplay um flits s
  | .ucieRetrain um outcome => Sys2Proof.Machine.execUcieRetrain um outcome s
  | .load ctx p => Sys2Proof.Machine.execLoad ctx p s
  | .loadCheckDone p => Sys2Proof.Machine.execLoadCheckDone p s
  | .arm ctx p => Sys2Proof.Machine.execArm ctx p s
  | .abortImage ctx p => Sys2Proof.Machine.execAbortImage ctx p s
  | .unload ctx p => Sys2Proof.Machine.execUnload ctx p s
  | .activation p => Sys2Proof.Machine.execActivation p s
  | .activationDone p => Sys2Proof.Machine.execActivationDone p s
  | .unloadSwitch p => Sys2Proof.Machine.execUnloadSwitch p s
  | .unloadDone p => Sys2Proof.Machine.execUnloadDone p s
  | .forcePass ctx value => Sys2Proof.Machine.execForcePass ctx value s
  | .tileReset ctx t => Sys2Proof.Machine.execTileReset ctx t s
  | .partitionReset ctx p => Sys2Proof.Machine.execPartitionReset ctx p s
  | .warmReset ctx => Sys2Proof.Machine.execWarmReset ctx s
  | .resetCompletion => Sys2Proof.Machine.execResetCompletion s
  | .moduleReset => Sys2Proof.Machine.execModuleReset s
  | .powerOnReset => Sys2Proof.Machine.execPowerOnReset s
  | .phaseRom readError => Sys2Proof.Machine.execPhaseRom readError s
  | .phaseAlwaysOn clocksOk um0 um1 => Sys2Proof.Machine.execPhaseAlwaysOn clocksOk um0 um1 s
  | .phaseMemory trained => Sys2Proof.Machine.execPhaseMemory trained s
  | .phaseSelftest failures hubOk routerOk => Sys2Proof.Machine.execPhaseSelftest failures hubOk routerOk s
  | .phasePorts => Sys2Proof.Machine.execPhasePorts s
  | .phaseZenith => Sys2Proof.Machine.execPhaseZenith s
  | .hostReady => Sys2Proof.Machine.execHostReady s
  | .launchDelivery d q => Sys2Proof.Machine.execLaunchDelivery d q s
  | .commandFetch t => Sys2Proof.Machine.execCommandFetch t s
  | .commandIssue t => Sys2Proof.Machine.execCommandIssue t s
  | .completion t q => Sys2Proof.Machine.execCompletion t q s
  | .sync t => Sys2Proof.Machine.execSync t s
  | .fence t => Sys2Proof.Machine.execFence t s
  | .stamp t => Sys2Proof.Machine.execStamp t s
  | .noop t => Sys2Proof.Machine.execNoop t s
  | .fillRoutine t => Sys2Proof.Machine.execFillRoutine t s
  | .engineRecover t => Sys2Proof.Machine.execEngineRecover t s
  | .resume ctx t mask => Sys2Proof.Machine.execResume ctx t mask s
  | .flush ctx t mask => Sys2Proof.Machine.execFlush ctx t mask s
  | .remoteSignal src dst => Sys2Proof.Machine.execRemoteSignal src dst s
  | .routeDelivery p route => Sys2Proof.Machine.execRouteDelivery p route s
  | .copy t errors => Sys2Proof.Machine.execCopy t errors s
  | .fill t => Sys2Proof.Machine.execFill t s
  | .split t => Sys2Proof.Machine.execSplit t s
  | .routeSend t => Sys2Proof.Machine.execRouteSend t s
  | .routeRecv t => Sys2Proof.Machine.execRouteRecv t s
  | .wload t e => Sys2Proof.Machine.execWload t e s
  | .feed t e => Sys2Proof.Machine.execFeed t e s
  | .rowLanding t e => Sys2Proof.Machine.execRowLanding t e s
  | .store t e => Sys2Proof.Machine.execStore t e s
  | .drain t e => Sys2Proof.Machine.execDrain t e s
  | .conv t e => Sys2Proof.Machine.execConv t e s
  | .inval t e => Sys2Proof.Machine.execInval t e s
  | .vuAdd t => Sys2Proof.Machine.execVuAdd t s
  | .vuSub t => Sys2Proof.Machine.execVuSub t s
  | .vuMul t => Sys2Proof.Machine.execVuMul t s
  | .vuFma t => Sys2Proof.Machine.execVuFma t s
  | .vuMax t => Sys2Proof.Machine.execVuMax t s
  | .vuMin t => Sys2Proof.Machine.execVuMin t s
  | .vuCmpLt t => Sys2Proof.Machine.execVuCmpLt t s
  | .vuCmpEq t => Sys2Proof.Machine.execVuCmpEq t s
  | .vuSelect t => Sys2Proof.Machine.execVuSelect t s
  | .vuConvert t => Sys2Proof.Machine.execVuConvert t s
  | .vuExp t => Sys2Proof.Machine.execVuExp t s
  | .vuLog t => Sys2Proof.Machine.execVuLog t s
  | .vuRsqrt t => Sys2Proof.Machine.execVuRsqrt t s
  | .vuRcp t => Sys2Proof.Machine.execVuRcp t s
  | .vuTanh t => Sys2Proof.Machine.execVuTanh t s
  | .vuErf t => Sys2Proof.Machine.execVuErf t s
  | .vuRsum t => Sys2Proof.Machine.execVuRsum t s
  | .vuRmax t => Sys2Proof.Machine.execVuRmax t s
  | .vuTopk t => Sys2Proof.Machine.execVuTopk t s
  | .vuToG32 t => Sys2Proof.Machine.execVuToG32 t s
  | .vuFromG32 t => Sys2Proof.Machine.execVuFromG32 t s
  | .xsrAdd t => Sys2Proof.Machine.execXsrAdd t s
  | .xsrLoadadd t => Sys2Proof.Machine.execXsrLoadadd t s
  | .xsrStore t => Sys2Proof.Machine.execXsrStore t s
  | .xsrRound t => Sys2Proof.Machine.execXsrRound t s
  | .xsrClear t => Sys2Proof.Machine.execXsrClear t s
  | .draw t => Sys2Proof.Machine.execDraw t s
  | .anvilForward t => Sys2Proof.Machine.execAnvilForward t s
  | .update u => Sys2Proof.Machine.execUpdate u s
  | .norm u => Sys2Proof.Machine.execNorm u s
  | .xorAcc u => Sys2Proof.Machine.execXorAcc u s
  | .haloSend t => Sys2Proof.Machine.execHaloSend t s
  | .haloMessage u => Sys2Proof.Machine.execHaloMessage u s
  | .recompute t => Sys2Proof.Machine.execRecompute t s
  | .optMomentum t => Sys2Proof.Machine.execOptMomentum t s
  | .optAdaptive t => Sys2Proof.Machine.execOptAdaptive t s
  | .optSign t => Sys2Proof.Machine.execOptSign t s
  | .gradNorm t others => Sys2Proof.Machine.execGradNorm t others s
  | .stepRerun t => Sys2Proof.Machine.execStepRerun t s
  | .parityUpdate t => Sys2Proof.Machine.execParityUpdate t s
  | .rebuild t => Sys2Proof.Machine.execRebuild t s
  | .save t => Sys2Proof.Machine.execSave t s
  | .seal t => Sys2Proof.Machine.execSeal t s
  | .restore t => Sys2Proof.Machine.execRestore t s
  | .stepReplay t => Sys2Proof.Machine.execStepReplay t s
  | .sliceSwitch p => Sys2Proof.Machine.execSliceSwitch p s
  | .tokenLoop t inLen => Sys2Proof.Machine.execTokenLoop t inLen s
  | .testWindow p w voltageOk => Sys2Proof.Machine.execTestWindow p w voltageOk s
  | .selftestSlice p w => Sys2Proof.Machine.execSelftestSlice p w s
  | .selftestSliceEnd r failed => Sys2Proof.Machine.execSelftestSliceEnd r failed s
  | .interfaceTraining n outcome => Sys2Proof.Machine.execInterfaceTraining n outcome s
  | .stackReady n => Sys2Proof.Machine.execStackReady n s
  | .lcWindow n => Sys2Proof.Machine.execLcWindow n s
  | .refresh n temp => Sys2Proof.Machine.execRefresh n temp s
  | .selfRefresh n => Sys2Proof.Machine.execSelfRefresh n s
  | .patrolScrub n error => Sys2Proof.Machine.execPatrolScrub n error s
  | .hbLogBase ctx n value => Sys2Proof.Machine.execHbLogBase ctx n value s
  | .hbLogCtrl ctx n value => Sys2Proof.Machine.execHbLogCtrl ctx n value s
  | .doorbell ctx d value => Sys2Proof.Machine.execDoorbell ctx d value s
  | .enable ctx d value => Sys2Proof.Machine.execEnable ctx d value s
  | .qhWctrlArm ctx d => Sys2Proof.Machine.execQhWctrlArm ctx d s
  | .disarm ctx d => Sys2Proof.Machine.execDisarm ctx d s
  | .qhWctrlReset ctx d => Sys2Proof.Machine.execQhWctrlReset ctx d s
  | .headWordRead d q => Sys2Proof.Machine.execHeadWordRead d q s
  | .hubCycle d => Sys2Proof.Machine.execHubCycle d s
  | .messageDelivery ing c => Sys2Proof.Machine.execMessageDelivery ing c s
  | .detect n signal => Sys2Proof.Machine.execDetect n signal s
  | .equalise n failed values => Sys2Proof.Machine.execEqualise n failed values s
  | .lock n failed => Sys2Proof.Machine.execLock n failed s
  | .discover n flit age => Sys2Proof.Machine.execDiscover n flit age s
  | .trainTimeout n => Sys2Proof.Machine.execTrainTimeout n s
  | .noPartner n => Sys2Proof.Machine.execNoPartner n s
  | .autoRetrain n => Sys2Proof.Machine.execAutoRetrain n s
  | .admitPort ctx n => Sys2Proof.Machine.execAdmitPort ctx n s
  | .recheck ctx n => Sys2Proof.Machine.execRecheck ctx n s
  | .retrain ctx n => Sys2Proof.Machine.execRetrain ctx n s
  | .disable ctx n => Sys2Proof.Machine.execDisable ctx n s
  | .klPlan ctx n value => Sys2Proof.Machine.execKlPlan ctx n value s
  | .codeword n fec errors slots => Sys2Proof.Machine.execCodeword n fec errors slots s
  | .controlFlit n => Sys2Proof.Machine.execControlFlit n s
  | .laneFailed n lane lockLost => Sys2Proof.Machine.execLaneFailed n lane lockLost s
  | .degradeRetrain n failedRx failedTx => Sys2Proof.Machine.execDegradeRetrain n failedRx failedTx s
  | .loss n signalLost lockLost => Sys2Proof.Machine.execLoss n signalLost lockLost s
  | .sleep n => Sys2Proof.Machine.execSleep n s
  | .wakeFlit n => Sys2Proof.Machine.execWakeFlit n s
  | .inserted n medium => Sys2Proof.Machine.execInserted n medium s
  | .removed n => Sys2Proof.Machine.execRemoved n s
  | .contrailSensors n temp vcc bias power => Sys2Proof.Machine.execContrailSensors n temp vcc bias power s
  | .hoursWrite n => Sys2Proof.Machine.execHoursWrite n s
  | .storageEntry k => Sys2Proof.Machine.execStorageEntry k s
  | .readData k => Sys2Proof.Machine.execReadData k s
  | .status k => Sys2Proof.Machine.execStatus k s
  | .storageTimeout k tag => Sys2Proof.Machine.execStorageTimeout k tag s
  | .packetArrival g c => Sys2Proof.Machine.execPacketArrival g c s
  | .packetBoundary n => Sys2Proof.Machine.execPacketBoundary n s
  | .rtCoord ctx value => Sys2Proof.Machine.execRtCoord ctx value s
  | .switch ctx p => Sys2Proof.Machine.execSwitch ctx p s
  | .tSw p => Sys2Proof.Machine.execTSw p s
  | .closesSent p => Sys2Proof.Machine.execClosesSent p s
  | .epochClose => Sys2Proof.Machine.execEpochClose s
  | .forceDone ctx p => Sys2Proof.Machine.execForceDone ctx p s
  | .epochTimeout p => Sys2Proof.Machine.execEpochTimeout p s
  | .prodPoll a p => Sys2Proof.Machine.execProdPoll a p s
  | .reduceScatter a p => Sys2Proof.Machine.execReduceScatter a p s
  | .allGather a p => Sys2Proof.Machine.execAllGather a p s
  | .allReduce a p => Sys2Proof.Machine.execAllReduce a p s
  | .broadcast a p => Sys2Proof.Machine.execBroadcast a p s
  | .permute a p => Sys2Proof.Machine.execPermute a p s
  | .send a p => Sys2Proof.Machine.execSend a p s
  | .read a p => Sys2Proof.Machine.execRead a p s
  | .contribution a p k => Sys2Proof.Machine.execContribution a p k s
  | .deadline a p k => Sys2Proof.Machine.execDeadline a p k s
  | .data e => Sys2Proof.Machine.execData e s
  | .ready e => Sys2Proof.Machine.execReady e s
  | .doneMsg e => Sys2Proof.Machine.execDoneMsg e s
  | .linkBreak e => Sys2Proof.Machine.execLinkBreak e s
  | .decideReq e => Sys2Proof.Machine.execDecideReq e s
  | .decideMsg e => Sys2Proof.Machine.execDecideMsg e s
  | .collectiveAbort e => Sys2Proof.Machine.execCollectiveAbort e s
  | .collectiveTimeout a p k => Sys2Proof.Machine.execCollectiveTimeout a p k s
  | .collectiveComplete a p k => Sys2Proof.Machine.execCollectiveComplete a p k s
  | .request g c => Sys2Proof.Machine.execRequest g c s
  | .reply e => Sys2Proof.Machine.execReply e s
  | .placeExpiry a p tag => Sys2Proof.Machine.execPlaceExpiry a p tag s
  | .clearBreak ctx n => Sys2Proof.Machine.execClearBreak ctx n s
  | .announceSend => Sys2Proof.Machine.execAnnounceSend s
  | .announce => Sys2Proof.Machine.execAnnounce s
  | .parentTimeout => Sys2Proof.Machine.execParentTimeout s
  | .window => Sys2Proof.Machine.execWindow s
  | .timeSyncSend n => Sys2Proof.Machine.execTimeSyncSend n s
  | .timeSync => Sys2Proof.Machine.execTimeSync s
  | .refPpsIn => Sys2Proof.Machine.execRefPpsIn s
  | .refLost => Sys2Proof.Machine.execRefLost s
  | .znNextSec ctx value => Sys2Proof.Machine.execZnNextSec ctx value s
  | .reacquire ctx => Sys2Proof.Machine.execReacquire ctx s
  | .ppsOut => Sys2Proof.Machine.execPpsOut s
  | .todOut => Sys2Proof.Machine.execTodOut s
  | .frameBoundary p => Sys2Proof.Machine.execFrameBoundary p s
  | .stop ctx => Sys2Proof.Machine.execStop ctx s
  | .znResume ctx => Sys2Proof.Machine.execZnResume ctx s
  | .immediate ctx => Sys2Proof.Machine.execImmediate ctx s
  | .stopPacket => Sys2Proof.Machine.execStopPacket s
  | .stopAtT => Sys2Proof.Machine.execStopAtT s
  | .tQuiet => Sys2Proof.Machine.execTQuiet s
  | .resumeAtT2 => Sys2Proof.Machine.execResumeAtT2 s
  | .cfga ctx window n value => Sys2Proof.Machine.execCfga ctx window n value s
  | .snapEnable ctx n value => Sys2Proof.Machine.execSnapEnable ctx n value s
  | .snapshotInstant n => Sys2Proof.Machine.execSnapshotInstant n s
  | .tlSnapRing ctx n value => Sys2Proof.Machine.execTlSnapRing ctx n value s
  | .tlTraceBase ctx d value => Sys2Proof.Machine.execTlTraceBase ctx d value s
  | .watchEnable ctx w value => Sys2Proof.Machine.execWatchEnable ctx w value s
  | .tlDbgBase ctx size value => Sys2Proof.Machine.execTlDbgBase ctx size value s
  | .vote ctx n value => Sys2Proof.Machine.execVote ctx n value s
  | .quiescence n => Sys2Proof.Machine.execQuiescence n s
  | .transition n training => Sys2Proof.Machine.execTransition n training s
  | .enter ctx value => Sys2Proof.Machine.execEnter ctx value s
  | .sample readings => Sys2Proof.Machine.execSample readings s
  | .addressMatch addr i2c => Sys2Proof.Machine.execAddressMatch addr i2c s
  | .wake => Sys2Proof.Machine.execWake s
  | .privateWrite i2c frame => Sys2Proof.Machine.execPrivateWrite i2c frame s
  | .privateRead i2c => Sys2Proof.Machine.execPrivateRead i2c s
  | .getStatus r => Sys2Proof.Machine.execGetStatus r s
  | .bufBegin r => Sys2Proof.Machine.execBufBegin r s
  | .bufWrite r => Sys2Proof.Machine.execBufWrite r s
  | .bufRead r => Sys2Proof.Machine.execBufRead r s
  | .bufRelease r => Sys2Proof.Machine.execBufRelease r s
  | .bufTimeout => Sys2Proof.Machine.execBufTimeout s
  | .fwCommit r failures => Sys2Proof.Machine.execFwCommit r failures s
  | .svnCommit r => Sys2Proof.Machine.execSvnCommit r s
  | .attest r => Sys2Proof.Machine.execAttest r s
  | .getCert r => Sys2Proof.Machine.execGetCert r s
  | .idPubkey r => Sys2Proof.Machine.execIdPubkey r s
  | .recordWrite r flashOk => Sys2Proof.Machine.execRecordWrite r flashOk s
  | .recordRead r => Sys2Proof.Machine.execRecordRead r s
  | .lcChallenge r => Sys2Proof.Machine.execLcChallenge r s
  | .lcTransition r => Sys2Proof.Machine.execLcTransition r s
  | .planSet r flashOk => Sys2Proof.Machine.execPlanSet r flashOk s
  | .timeSet r => Sys2Proof.Machine.execTimeSet r s
  | .linkRetrain r => Sys2Proof.Machine.execLinkRetrain r s
  | .fabricRequest r => Sys2Proof.Machine.execFabricRequest r s
  | .fabricTimeout => Sys2Proof.Machine.execFabricTimeout s
  | .mgmt => Sys2Proof.Machine.execMgmt s
  | .selftestEnable r => Sys2Proof.Machine.execSelftestEnable r s
  | .selftestFull r found => Sys2Proof.Machine.execSelftestFull r found s
  | .fenceClear r flashOk => Sys2Proof.Machine.execFenceClear r flashOk s
  | .logRead r => Sys2Proof.Machine.execLogRead r s
  | .sensorRead r => Sys2Proof.Machine.execSensorRead r s
  | .sensorSample code value => Sys2Proof.Machine.execSensorSample code value s
  | .logMirror flashOk => Sys2Proof.Machine.execLogMirror flashOk s
  | .vinLow => Sys2Proof.Machine.execVinLow s
  | .rideThrough => Sys2Proof.Machine.execRideThrough s
  | .brownOut => Sys2Proof.Machine.execBrownOut s
  | .overvoltage => Sys2Proof.Machine.execOvervoltage s
  | .capDecision => Sys2Proof.Machine.execCapDecision s
  | .fastLimit => Sys2Proof.Machine.execFastLimit s
  | .trip code => Sys2Proof.Machine.execTrip code s
  | .tripRelease readings => Sys2Proof.Machine.execTripRelease readings s
  | .dynamicAddressAssignment addr => Sys2Proof.Machine.execDynamicAddressAssignment addr s

end Sys2Proof.Machine
end

