-- ==== Sys2Proof/Machine/Tick.lean ====
section
/-! DEFINITION. The tick: what one cycle of the 1 GHz timing clock does while no command waits (log entry 2). -/
namespace Sys2Proof.Machine

/-- The Zenith counter adds its increment, 1 ns and the rate in 10^−9 (14 R334), once the timing clock runs (19 R441). -/
def State.zenithTick (s : State) : State :=
  if s.zenith.running then
    let a : Nat := s.zenith.acc + ((1000000000 : Int) + s.zenith.rate).toNat
    { s with zt := (s.zt + a / 1000000000) % 2 ^ 64, zenith := { s.zenith with acc := a % 1000000000 } }
  else s

/-- A tile's engines have something to do in a cycle. -/
def TileSt.busy (x : TileSt) : Bool := x.mes.any (fun m => !m.2.inFlight.isEmpty || !m.2.clears.isEmpty)

/-- The tiles of a region that run a cycle with work in their engines. -/
def State.busyTiles (s : State) (r : Nat) : List Nat :=
  (s.tiles.filter (fun x => tileRegion x.1 == r && x.2.busy && s.tileRuns x.1)).map (·.1)

/-! ## Issue slots and times (16 R387, R388) -/

/-- The control core waits for a command word from memory, or holds no launch. -/
def State.coreStarved (s : State) (t : Nat) : Bool :=
  let x := s.tile t
  x.launch.isNone || (x.fetched.isNone && x.inl.isNone && s.coreRuns t)

/-- The word that the control core has at its head: the command in line, or the word in hand. -/
def State.coreHead (s : State) (t : Nat) : Option Cmd :=
  let x := s.tile t
  match x.inl, x.launch, x.fetched with
  | some c, _, _ => some c
  | none, some l, some w => some (l.cmd ((s.tileOwner t).getD 0) x.wordIx w)
  | _, _, _ => none

/-- A queue's command in flight takes the slot of the present cycle, which its completion counts; so does a word placed or refused in it. -/
def State.slotTaken (s : State) (t q : Nat) : Bool :=
  let x := s.tile t
  !(x.flying q).isEmpty || (q == 6 && x.slotTaken == s.cycle t + 1)

/-- A slot that no command takes is FRONT: the queue empty and the control core starved. -/
def State.slotFront (s : State) (t q : Nat) : Bool :=
  s.coreStarved t && !s.sliceHolds t q && (q == 6 || ((s.tile t).queue q).isEmpty)

/-- What a slot counts with: the command at the queue's head where there is one; else it has no layer. -/
def State.slotAttr (s : State) (t q : Nat) : Attr :=
  match (if q = 6 then s.coreHead t else s.headOf t q) with
  | some c => c.attr
  | none => { part := s.tileOwner t }

/-- One cycle of a tile: CYCLES, and for each queue the FRONT or BACK slot that no command takes (R387). -/
def State.tileSlots (s : State) (t : Nat) : State :=
  (List.range 7).foldl (fun s q => if s.slotTaken t q then s else s.count 0 t (if s.slotFront t q then 0x20 + q else 0x28 + q) 1 (s.slotAttr t q))
    (s.count 0 t 0x00 1 { part := s.tileOwner t })

/-- The tiles of a region that have a counter configured; a tile that its sliced image holds out has no cycles (R384). -/
def State.countingTiles (s : State) (r : Nat) : List Nat :=
  ((s.tally.cfgA.filter (fun c => decide (c.1 < tallyKey 1 0))).map (fun c => c.1 / 16)).eraseDups.filter (fun t =>
    s.servRegion t == r && !s.slicedOut t)

/-- An operation of a ring has data to send to a neighbour whose READY it has not (13 R313). -/
def State.waitsReady (s : State) (side : Nat) (o : CeOp) : Bool :=
  o.d.ringOp && o.fault.isNone && !o.stopped && !o.ready.contains side && !((s.geom o).sends (s.cePlace o) side).isEmpty

/-- One ns of every event that is counted by time and that the state shows (R388); log entry 51 names the others. -/
def State.nsCounts (s : State) : State :=
  if s.tally.cfgA = [] then s
  else
    let s := (List.range 8).foldl (fun s u =>
      match (s.anvil u).input.head? with
      | none => s
      | some e =>
        let s := s.count 3 u 0x02 1 e.2.attr
        let s := if s.waits.any (fun w => w.2 == 0x20000 + u) then s.count 3 u 0x03 1 e.2.attr else s
        if 32 ≤ (s.anvil u).input.length then s.count 3 u 0x04 1 e.2.attr else s) s
    let s := (List.range 8).foldl (fun s n =>
      let k := (s.waits.filter (fun w => w.1 == 64 + n)).length
      if k = 0 then s else (s.count 2 n 0x0B 1 {}).count 2 n 0x0C k {}) s
    (List.range 8).foldl (fun s e =>
      match (s.ce (e % 4)).ops.find? (s.waitsReady (e / 4)) with
      | some o => s.count 4 e 0x06 1 o.attr
      | none => s) s

/-- One cycle of a region's clock (R13, R88): the slots of its tiles, every engine of its tiles, then the count. -/
def State.regionStep (s : State) (r : Nat) : State :=
  let s := if s.tally.cfgA = [] then s else (s.countingTiles r).foldl (fun s t => s.tileSlots t) s
  let s := (s.busyTiles r).foldl (fun s t => s.meCycle t) s
  { s with regionCycle := sset (fun _ => 0) s.regionCycle r (sget (fun _ => 0) s.regionCycle r + 1) }

/-- A number of cycles of a region. -/
def State.regionSteps (s : State) (r : Nat) : Nat → State
  | 0 => s
  | n + 1 => (s.regionStep r).regionSteps r n

/-- A region's clock runs: it is ON (17 R405) and no Overcast stop holds it (14 R354). -/
def State.regionRuns (s : State) (r : Nat) : Bool := s.domOn r && !s.stopHolds (s.regionOwner r)

/-- The cycles of a region in one ns at its frequency point (20 R456), with what is left of a cycle kept for the next (log entry 2). -/
def State.regionTick (s : State) (r : Nat) : State :=
  if s.regionRuns r then
    let p : Nat := sget (fun _ => 0) s.regionCycle (32 + r) + s.regionMHz r
    ({ s with regionCycle := sset (fun _ => 0) s.regionCycle (32 + r) (p % 1000) }).regionSteps r (p / 1000)
  else s

/-- What waits is written and sent as soon as it can be: HBM error records, event records, reports, Tally records, held host requests
(R222, R57, 16 R394, R248). -/
def State.flushAll (s : State) : State :=
  let s := s.hbFlush.evFlush.flushReports.tallyFlush.linkDrain
  ((s.switchRetry.fenceSeen).hubEnd 0).hubEnd 1

/-- One cycle of the timing clock. -/
def State.tick (s : State) : State :=
  let s := (List.range 4).foldl (fun s i => s.snapTake i) s.zenithTick
  let s := { s with start := { s.start with clock := s.start.clock + 1 } }
  ((List.range 32).foldl (fun s r => s.regionTick r) s.nsCounts |> fun s => (List.range 10).foldl (fun s n => s.portTick n) s).flushAll

end Sys2Proof.Machine
end

