-- ==== Sys2Proof/WellFormed.lean ====
section
/-! DEFINITION. Which commands are well-formed: the operands that their types alone do not bound (addresses of 48 bits, the lengths of
lists, what a frame or a flit may hold). -/
namespace Sys2Proof

/-- A device address has 48 bits (09 R201, 10 R242). -/
def addrOk (a : Nat) : Bool := decide (a < 2 ^ 48)

/-- A number that the table of contexts leaves reserved (10 R244, R245). -/
def Ctx.ok_ : Ctx → Bool
  | .reserved n => (decide (1 ≤ n.val) && decide (n.val ≤ 7)) || (decide (24 ≤ n.val) && decide (n.val ≤ 29))
  | .module => true
  | .kernel _ => true
  | .user _ => true
  | .library => true
  | .welkin => true

/-- A training ends after at most three attempts, each failed one with its code; a lane is replaced once in a pseudo-channel (09 R211). -/
def StackTraining.ok_ (o : StackTraining) : Bool :=
  o.failCodes.all (fun c => c.val != 0) && (if o.ok then decide (o.failCodes.length ≤ 2) else o.failCodes.length == 3) &&
  decide ((o.repairs.map (·.1)).Nodup)

/-- A failed tile names at least one unit, and not the mark of bit 7 (15 R365). -/
def SelfTestFailure.ok_ : SelfTestFailure → Bool
  | .tile _ _ _ r => r.toNat % 128 != 0 && decide (r.toNat < 128)
  | .anvil _ => true
  | .ce _ => true

/-- A flit has 64 bytes (11 R255). -/
def Slot.ok_ : Slot → Bool
  | .data _ _ f => f.length == 64
  | .control f => f.length == 64
  | .idle => true
  | .reserved => true

/-- A Contrail module gives a bias current for each of its nine lanes (11 R275). -/
def Medium.ok_ : Medium → Bool
  | .copper => true
  | .contrail _ _ _ _ bias => bias.length == 9 && bias.all (fun b => decide (1 ≤ b) && decide (b < 2 ^ 16))

/-- A request's payload has at most 248 bytes, its CODE among them (10 R248, 18 R422). -/
def WkReq.ok_ : WkReq → Bool
  | .mail _ args => decide (args.length ≤ 246)
  | .waiting _ => true

/-- A command is well-formed. -/
def Instr.wf : Instr → Bool
  | .registerWrite ctx addr _ => ctx.ok_ && addrOk addr
  | .readClears ctx addr => ctx.ok_ && addrOk addr
  | .znNow ctx => ctx.ok_
  | .mrd um ctx _ addr _ _ => ctx.ok_ && addrOk addr && um.val == (if 0x020000000000 ≤ addr then 0 else addr / 4096 % 2)
  | .mwr um ctx addr bytes _ => ctx.ok_ && addrOk addr && um.val == (if 0x020000000000 ≤ addr then 0 else addr / 4096 % 2) && decide (8 ≤ bytes.length) && decide (bytes.length ≤ 256) && bytes.length % 8 == 0
  | .maskClear ctx _ => ctx.ok_
  | .ucieReplay _ flits => decide (1 ≤ flits)
  | .ucieRetrain _ _ => true
  | .load ctx _ => ctx.ok_
  | .loadCheckDone _ => true
  | .arm ctx _ => ctx.ok_
  | .abortImage ctx _ => ctx.ok_
  | .unload ctx _ => ctx.ok_
  | .activation _ => true
  | .activationDone _ => true
  | .unloadSwitch _ => true
  | .unloadDone _ => true
  | .forcePass ctx _ => ctx.ok_
  | .tileReset ctx _ => ctx.ok_
  | .partitionReset ctx _ => ctx.ok_
  | .warmReset ctx => ctx.ok_
  | .resetCompletion => true
  | .moduleReset => true
  | .powerOnReset => true
  | .phaseRom _ => true
  | .phaseAlwaysOn _ _ _ => true
  | .phaseMemory trained => trained.length == 8 && trained.all StackTraining.ok_
  | .phaseSelftest failures _ _ => failures.all SelfTestFailure.ok_
  | .phasePorts => true
  | .phaseZenith => true
  | .hostReady => true
  | .launchDelivery _ _ => true
  | .commandFetch _ => true
  | .commandIssue _ => true
  | .completion _ _ => true
  | .sync _ => true
  | .fence _ => true
  | .stamp _ => true
  | .noop _ => true
  | .fillRoutine _ => true
  | .engineRecover _ => true
  | .resume ctx _ _ => ctx.ok_
  | .flush ctx _ _ => ctx.ok_
  | .remoteSignal src _ => decide (src < 0x20004)
  | .routeDelivery _ _ => true
  | .copy _ errors => errors.all (fun e => addrOk e.1)
  | .fill _ => true
  | .split _ => true
  | .routeSend _ => true
  | .routeRecv _ => true
  | .wload _ _ => true
  | .feed _ _ => true
  | .rowLanding _ _ => true
  | .store _ _ => true
  | .drain _ _ => true
  | .conv _ _ => true
  | .inval _ _ => true
  | .vuAdd _ => true
  | .vuSub _ => true
  | .vuMul _ => true
  | .vuFma _ => true
  | .vuMax _ => true
  | .vuMin _ => true
  | .vuCmpLt _ => true
  | .vuCmpEq _ => true
  | .vuSelect _ => true
  | .vuConvert _ => true
  | .vuExp _ => true
  | .vuLog _ => true
  | .vuRsqrt _ => true
  | .vuRcp _ => true
  | .vuTanh _ => true
  | .vuErf _ => true
  | .vuRsum _ => true
  | .vuRmax _ => true
  | .vuTopk _ => true
  | .vuToG32 _ => true
  | .vuFromG32 _ => true
  | .xsrAdd _ => true
  | .xsrLoadadd _ => true
  | .xsrStore _ => true
  | .xsrRound _ => true
  | .xsrClear _ => true
  | .draw _ => true
  | .anvilForward _ => true
  | .update _ => true
  | .norm _ => true
  | .xorAcc _ => true
  | .haloSend _ => true
  | .haloMessage _ => true
  | .recompute _ => true
  | .optMomentum _ => true
  | .optAdaptive _ => true
  | .optSign _ => true
  | .gradNorm _ _ => true
  | .stepRerun _ => true
  | .parityUpdate _ => true
  | .rebuild _ => true
  | .save _ => true
  | .seal _ => true
  | .restore _ => true
  | .stepReplay _ => true
  | .sliceSwitch _ => true
  | .tokenLoop _ inLen => decide (inLen.toNat ≤ 65528)
  | .testWindow _ _ _ => true
  | .selftestSlice _ _ => true
  | .selftestSliceEnd _ _ => true
  | .interfaceTraining _ outcome => outcome.ok_
  | .stackReady _ => true
  | .lcWindow _ => true
  | .refresh _ _ => true
  | .selfRefresh _ => true
  | .patrolScrub _ _ => true
  | .hbLogBase ctx _ _ => ctx.ok_
  | .hbLogCtrl ctx _ _ => ctx.ok_
  | .doorbell ctx _ _ => ctx.ok_
  | .enable ctx _ _ => ctx.ok_
  | .qhWctrlArm ctx _ => ctx.ok_
  | .disarm ctx _ => ctx.ok_
  | .qhWctrlReset ctx _ => ctx.ok_
  | .headWordRead _ _ => true
  | .hubCycle _ => true
  | .messageDelivery _ _ => true
  | .detect _ _ => true
  | .equalise _ _ values => values.length == 9 && values.all (fun v => decide (v < 2 ^ 28))
  | .lock _ _ => true
  | .discover _ flit _ => flit.isEmpty || flit.length == 64
  | .trainTimeout _ => true
  | .noPartner _ => true
  | .autoRetrain _ => true
  | .admitPort ctx _ => ctx.ok_
  | .recheck ctx _ => ctx.ok_
  | .retrain ctx _ => ctx.ok_
  | .disable ctx _ => ctx.ok_
  | .klPlan ctx _ _ => ctx.ok_
  | .codeword _ fec errors slots => errors.length == 9 && slots.length == (if fec = .uncorrectable then 0 else 10) && slots.all Slot.ok_
  | .controlFlit _ => true
  | .laneFailed _ _ _ => true
  | .degradeRetrain _ _ _ => true
  | .loss _ _ _ => true
  | .sleep _ => true
  | .wakeFlit _ => true
  | .inserted _ medium => medium.ok_
  | .removed _ => true
  | .contrailSensors _ _ _ bias power =>
    bias.length == 9 && power.length == 9 && bias.all (fun v => decide (v < 2 ^ 16)) && power.all (fun v => decide (v.1 < 2 ^ 16 ∧ v.2 < 2 ^ 16))
  | .hoursWrite _ => true
  | .storageEntry _ => true
  | .readData _ => true
  | .status _ => true
  | .storageTimeout _ _ => true
  | .packetArrival _ _ => true
  | .packetBoundary _ => true
  | .rtCoord ctx _ => ctx.ok_
  | .switch ctx _ => ctx.ok_
  | .tSw _ => true
  | .closesSent _ => true
  | .epochClose => true
  | .forceDone ctx _ => ctx.ok_
  | .epochTimeout _ => true
  | .prodPoll _ _ => true
  | .reduceScatter _ _ => true
  | .allGather _ _ => true
  | .allReduce _ _ => true
  | .broadcast _ _ => true
  | .permute _ _ => true
  | .send _ _ => true
  | .read _ _ => true
  | .contribution _ _ _ => true
  | .deadline _ _ _ => true
  | .data _ => true
  | .ready _ => true
  | .doneMsg _ => true
  | .linkBreak _ => true
  | .decideReq _ => true
  | .decideMsg _ => true
  | .collectiveAbort _ => true
  | .collectiveTimeout _ _ _ => true
  | .collectiveComplete _ _ _ => true
  | .request _ _ => true
  | .reply _ => true
  | .placeExpiry _ _ _ => true
  | .clearBreak ctx _ => ctx.ok_
  | .announceSend => true
  | .announce => true
  | .parentTimeout => true
  | .window => true
  | .timeSyncSend _ => true
  | .timeSync => true
  | .refPpsIn => true
  | .refLost => true
  | .znNextSec ctx _ => ctx.ok_
  | .reacquire ctx => ctx.ok_
  | .ppsOut => true
  | .todOut => true
  | .frameBoundary _ => true
  | .stop ctx => ctx.ok_
  | .znResume ctx => ctx.ok_
  | .immediate ctx => ctx.ok_
  | .stopPacket => true
  | .stopAtT => true
  | .tQuiet => true
  | .resumeAtT2 => true
  | .cfga ctx _ _ _ => ctx.ok_
  | .snapEnable ctx _ _ => ctx.ok_
  | .snapshotInstant _ => true
  | .tlSnapRing ctx _ _ => ctx.ok_
  | .tlTraceBase ctx _ _ => ctx.ok_
  | .watchEnable ctx _ _ => ctx.ok_
  | .tlDbgBase ctx _ _ => ctx.ok_
  | .vote ctx _ _ => ctx.ok_
  | .quiescence _ => true
  | .transition _ _ => true
  | .enter ctx _ => ctx.ok_
  | .sample readings => readings.length == 16
  | .addressMatch _ _ => true
  | .wake => true
  | .privateWrite _ _ => true
  | .privateRead _ => true
  | .getStatus r => r.ok_
  | .bufBegin r => r.ok_
  | .bufWrite r => r.ok_
  | .bufRead r => r.ok_
  | .bufRelease r => r.ok_
  | .bufTimeout => true
  | .fwCommit r _ => r.ok_
  | .svnCommit r => r.ok_
  | .attest r => r.ok_
  | .getCert r => r.ok_
  | .idPubkey r => r.ok_
  | .recordWrite r _ => r.ok_
  | .recordRead r => r.ok_
  | .lcChallenge r => r.ok_
  | .lcTransition r => r.ok_
  | .planSet r _ => r.ok_
  | .timeSet r => r.ok_
  | .linkRetrain r => r.ok_
  | .fabricRequest r => r.ok_
  | .fabricTimeout => true
  | .mgmt => true
  | .selftestEnable r => r.ok_
  | .selftestFull r _ => r.ok_
  | .fenceClear r _ => r.ok_
  | .logRead r => r.ok_
  | .sensorRead r => r.ok_
  | .sensorSample _ _ => true
  | .logMirror _ => true
  | .vinLow => true
  | .rideThrough => true
  | .brownOut => true
  | .overvoltage => true
  | .capDecision => true
  | .fastLimit => true
  | .trip _ => true
  | .tripRelease _ => true
  | .dynamicAddressAssignment _ => true

end Sys2Proof
end

