-- ==== Sys2Proof/Safety.lean ====
section
/-! DEFINITION. What counts as a safe state and a safe run, and the words that the statements use. -/
namespace Sys2Proof.Machine

/-- A command answers a next state that has a property. -/
def Gives (i : Instr) (s : State) (P : State → Prop) : Prop := ∃ s', exec i s = .next s' ∧ P s'

/-- A step answers a next state: no command stops the machine. -/
def Goes (s : State) : Prop := ∃ s', step s = .next s'

/-- A range of memory whose bytes lie where their addresses say: none in the SRAM of an absent tile (R3), none redirected by
time-slicing (03 R81). -/
def State.plain (s : State) (a n : Nat) : Prop :=
  ∀ k < n, s.resolve (a + k) = a + k ∧ (isSram (a + k) && !s.tilePresent (sramTile (a + k))) = false

/-- Memory and Zenith time as every run keeps them: memory in its one form (log entry 3), the Zenith counter within its 64 bits (14 R334). -/
def State.Inv (s : State) : Prop := Memory.wf s.mem = true ∧ s.zt < 2 ^ 64

/-- The element-wise commands of the vector unit of a tile, with the opcodes of 07 R156. -/
def elementwiseRows (t : Fin 2048) : List (Instr × Nat) :=
  [(.vuAdd t, 0x01), (.vuSub t, 0x02), (.vuMul t, 0x03), (.vuFma t, 0x04), (.vuMax t, 0x05), (.vuMin t, 0x06), (.vuCmpLt t, 0x07),
   (.vuCmpEq t, 0x08), (.vuSelect t, 0x09), (.vuConvert t, 0x0A), (.vuExp t, 0x10), (.vuLog t, 0x11), (.vuRsqrt t, 0x12),
   (.vuRcp t, 0x13), (.vuTanh t, 0x14), (.vuErf t, 0x15)]

/-- A vector command may run on its extents: each inside the tile's SRAM, which is ON, and the lines it reads sound. -/
def State.vuReady (s : State) (t : Nat) (reads writes : List (Nat × Nat)) : Prop :=
  (∀ e ∈ reads ++ writes, e.1 + e.2 ≤ 0x100000) ∧ s.memOn (sramBase t) 1 = true ∧
  ∀ e ∈ reads, s.firstBad (sramBase t + e.1) e.2 = none

/-- The state from which a routine works once its CALL has started and its argument block has been read (03 R70). -/
def State.argState (s : State) (t : Nat) (c : Cmd) : State :=
  (s.startInline t c).hbRead (callAddr c.w) (callLen c.w) { c.attr with master := some 0 }

/-- The bytes of the argument block. -/
def State.argBytes (s : State) (t : Nat) (c : Cmd) : List Byte := (s.startInline t c).readBytes (callAddr c.w) (callLen c.w)

/-- The argument block of a CALL can be read: it is owned, running and sound. -/
def State.argsReady (s : State) (t : Nat) (c : Cmd) : Prop :=
  (s.startInline t c).firstUnowned c.part (callAddr c.w) (callLen c.w) = none ∧ (s.startInline t c).memOn (callAddr c.w) (callLen c.w) = true ∧
  (s.startInline t c).firstBad (callAddr c.w) (callLen c.w) = none

/-- The state with a request of Welkin at the head of those that wait: its interface, SEQ, CODE and arguments (18 R422, R423). -/
def State.ask (s : State) (i3c : Bool) (seq code : Nat) (args : List Byte) : State :=
  s.setWk { s.welkin with reqs := ⟨i3c, seq, leBytes 2 code ++ zeros 2 ++ args⟩ :: s.welkin.reqs }

/-- Welkin may serve a CODE now (18 R423, R431, R436). -/
def State.mayServe (s : State) (code : Nat) : Prop := s.welkinServes = true ∧ s.codeAllowed code = true

/-- The staging buffer claimed by an interface now (18 R424). -/
def State.claim (s : State) (b : WkBuffer) : State := s.setWk { s.welkin with buffer := some b }

/-- The rows that are requests of Welkin, with their CODEs (18 R423). -/
def requestRows (ok : Bool) (fails : Fin 3) (found : BitVec 32) : List ((WkReq → Instr) × Nat) :=
  [(.getStatus, 0x0001), (.bufBegin, 0x0002), (.bufWrite, 0x0003), (.bufRead, 0x0004), (.bufRelease, 0x0005),
   (fun r => .fwCommit r fails, 0x0010), (.svnCommit, 0x0011), (.attest, 0x0020), (.getCert, 0x0021), (.idPubkey, 0x0022),
   (fun r => .recordWrite r ok, 0x0030), (.recordRead, 0x0031), (.lcChallenge, 0x0040), (.lcTransition, 0x0041), (fun r => .planSet r ok, 0x0050),
   (.timeSet, 0x0051), (.linkRetrain, 0x0052), (.fabricRequest, 0x0053), (.selftestEnable, 0x0060), (fun r => .selftestFull r found, 0x0061),
   (fun r => .fenceClear r ok, 0x0062), (.logRead, 0x0070), (.sensorRead, 0x0071)]

end Sys2Proof.Machine
end

