-- ==== Sys2Proof/Certificates/Slice0/Obligations.lean ====
section
/-! DEFINITION. The statements for the provers. -/

open Sys2Proof Sys2Proof.Machine

/-- A step of a state whose queue begins with a command is that command's effect on the state with the rest of the queue. -/
def Obligations.StepRunsTheFrontCommand : Prop :=
  ∀ (c : Instr) (rest : List Instr) (s : State), s.pending = c :: rest → step s = exec c { s with pending := rest }

/-- A step of a state with an empty queue is a tick (the model's choice, log entry 2); a tick moves the Zenith counter by its increment, and only while the timing clock runs. -/
def Obligations.StepIdlesAsATick : Prop :=
  ∀ s : State, s.pending = [] →
    step s = .next s.tick ∧
    (s.zenith.running = false → s.zenithTick = s) ∧
    (s.zenith.running = true → s.zenithTick.zt < 2 ^ 64 ∧
      (s.zenith.rate = 0 → s.zenith.acc < 1000000000 → s.zenithTick.zt = (s.zt + 1) % 2 ^ 64 ∧ s.zenithTick.zenith.acc = s.zenith.acc))

/-- No state and no command makes the machine stop: every step and every command answers a next state. -/
def Obligations.EveryStepGoesOn : Prop :=
  (∀ s : State, Goes s) ∧ (∀ (c : Instr) (s : State), ∃ s', exec c s = .next s')

/-- The state after reset meets the invariant of every step. -/
def Obligations.ResetHoldsTheInvariant : Prop := State.reset.Inv

/-- Every step, of every command and of the tick, keeps the invariant. -/
def Obligations.StepKeepsTheInvariant : Prop := ∀ s s' : State, s.Inv → step s = .next s' → s'.Inv

/-- exec is a command's effect on everything but the queue, and a tick leaves the queue empty. -/
def Obligations.CommandsLeaveTheQueueAlone : Prop :=
  (∀ (c : Instr) (s s' : State), exec c s = .next s' → s'.pending = s.pending) ∧
  (∀ s s' : State, s.pending = [] → step s = .next s' → s'.pending = [])

/-- After reset the registers hold what their tables give. -/
def Obligations.ResetLeavesTheTabledValues : Prop :=
  (∀ v ∈ [0, 1, 2, 1024, 2047], State.reset.flag (UC_MSI_DATA 0 v) UC_MSI_DATA_MASK = true) ∧
  (∀ n : Fin 10, State.reset.fld (KL_LIMITS n) KL_LIMITS_STORAGE_TIMEOUT = 10000 ∧
    State.reset.fld (KL_LIMITS n) KL_LIMITS_SER_LIMIT = 16384 ∧ State.reset.flag (KL_PLAN n) KL_PLAN_AUTO_RETRAIN = true) ∧
  (∀ n : Fin 8, State.reset.flag (HB_SCRUB n) HB_SCRUB_ENABLE = true ∧ State.reset.fld (HB_SCRUB n) HB_SCRUB_PERIOD_H = 24 ∧
    State.reset.fld (HB_ARB n) HB_ARB_W_HIGH = 8 ∧ State.reset.fld (HB_ARB n) HB_ARB_W_NORMAL = 4 ∧
    State.reset.fld (HB_ARB n) HB_ARB_W_LOW = 1 ∧ State.reset.fld (HB_CE_THRESH n) HB_CE_THRESH_THRESH = 256) ∧
  State.reset.fld WK_PCAP WK_PCAP_CAP_W = 1900 ∧ State.reset.fld WK_PCAP WK_PCAP_F_REQ_MHZ = 1600 ∧
  State.reset.fld ZN_STOP_LEAD ZN_STOP_LEAD_LEAD_US = 100 ∧
  (∀ p : Fin 8, State.reset.fld (RT_CLOSE_EXPECT p) RT_CLOSE_EXPECT_SIG_TILE = 0xFFFF ∧
    State.reset.fld (SI_STATUS p) SI_STATUS_SLICE = 1 ∧ State.reset.flag (SI_STATUS p) SI_STATUS_ACTIVE = false)

/-- A launch is delivered to its clusters, its words are fetched from its stream, and each is placed into the queue of its engine or held in line. -/
def Obligations.LaunchesReachTheirClusters : Prop :=
  (∀ (d : Fin 2) (q : Fin 16384) (s : State) (p : Nat), s.deliverable d q = some p →
    s.memOn ((s.queue d q).slot (s.queue d q).cons) 64 = true → s.firstBad ((s.queue d q).slot (s.queue d q).cons) 64 = none →
    Gives (.launchDelivery d q) s (fun s' =>
      (s'.queue d q).cons = ((s.queue d q).cons + 1) % 2 ^ 32 ∧ (s'.queue d q).prod = (s.queue d q).prod ∧
      s'.launchNo = s.launchNo + 1 ∧ s'.mem = s.mem ∧
      ∀ c ∈ s.entryClusters p d q, ∀ t ∈ clusterTiles c, s.launchNo ∈ (s'.tile t).launches)) ∧
  (∀ (t : Fin 2048) (s : State) (l : Launch) (p : Nat), (s.tile t).launch = some l → s.tileOwner t = some p → s.coreRuns t = true →
    (s.tile t).inl = none → (s.tile t).fetched = none → l.malformed = false → (s.tile t).wordIx < l.words →
    s.firstUnowned p (s.fetchAddr t p l) 32 = none → s.memOn (s.fetchAddr t p l) 32 = true → s.firstBad (s.fetchAddr t p l) 32 = none →
    Gives (.commandFetch t) s (fun s' =>
      (s'.tile t).fetched = some (BitVec.ofNat 256 (s.readNat (s.fetchAddr t p l) 32)) ∧ s'.mem = s.mem ∧
      (∀ u : Nat, u ≠ t.val → s'.tile u = s.tile u) ∧
      s'.regs = (s.lcRead (s.fetchAddr t p l) 32 { priv := some l.priv, part := some p, master := some 0 }).regs)) ∧
  (∀ (t : Fin 2048) (s : State) (l : Launch) (w : CmdWord) (p : Nat), (s.tile t).launch = some l → (s.tile t).fetched = some w →
    s.tileOwner t = some p → s.coreRuns t = true → (s.tile t).inl = none → (s.tile t).wordAt ≠ s.cycle t + 1 →
    s.entryCheck p t w.toNat = stOk → wEngine w.toNat ≠ 6 → (s.tile t).held (engineQueue (wEngine w.toNat)) < 16 →
    Gives (.commandIssue t) s (fun s' =>
      (s'.tile t).queue (engineQueue (wEngine w.toNat)) =
        (s.tile t).queue (engineQueue (wEngine w.toNat)) ++ [l.cmd p (s.tile t).wordIx w] ∧ (s'.tile t).fetched = none)) ∧
  (∀ (t : Fin 2048) (s : State) (l : Launch) (w : CmdWord) (p : Nat), (s.tile t).launch = some l → (s.tile t).fetched = some w →
    s.tileOwner t = some p → s.coreRuns t = true → (s.tile t).inl = none → (s.tile t).wordAt ≠ s.cycle t + 1 →
    s.entryCheck p t w.toNat = stOk → wEngine w.toNat = 6 →
    Gives (.commandIssue t) s (fun s' => (s'.tile t).inl = some (l.cmd p (s.tile t).wordIx w) ∧ (s'.tile t).fetched = none ∧
      (s'.tile t).queues = (s.tile t).queues))

/-- A refused command takes no queue entry; its completion record is offered by queue 6 whatever NOTIFY says. -/
def Obligations.RefusedWordsAreCounted : Prop :=
  ∀ (t : Fin 2048) (s : State) (l : Launch) (w : CmdWord) (p : Nat), (s.tile t).launch = some l → (s.tile t).fetched = some w →
    s.tileOwner t = some p → s.coreRuns t = true → (s.tile t).inl = none → (s.tile t).wordAt ≠ s.cycle t + 1 → s.entryCheck p t w.toNat ≠ stOk →
    Gives (.commandIssue t) s (fun s' =>
      (s'.tile t).queues = (s.tile t).queues ∧ (s'.tile t).inl = none ∧ (s'.tile t).fetched = none ∧
      s'.heldRecs (tileDie t) (sourceIx t 6) = s.heldRecs (tileDie t) (sourceIx t 6) ++
        [⟨l.cq, p, recordBytes t 6 (s.entryCheck p t w.toNat) (wLayerOp w.toNat) s.zt l.seq (s.tile t).wordIx 0, l.priv⟩])

/-- COMPLETION takes the oldest ended command of a queue and offers its record, where one is due. -/
def Obligations.CompletionOffersItsRecord : Prop :=
  ∀ (t : Fin 2048) (q : Fin 8) (s : State) (e : Ended), (s.tile t).ended.find? (fun x => x.q == q.val) = some e →
    s.tileRuns t = true → s.placeFree t q = true → s.watchAhead t e = false →
    Gives (.completion t q) s (fun s' =>
      (s'.tile t).ended = (s.tile t).ended.erase e ∧
      s'.heldRecs (tileDie t) (sourceIx t q) = s.heldRecs (tileDie t) (sourceIx t q) ++
        (if e.silent then [] else [⟨e.cmd.cq, e.cmd.part,
          recordBytes t q e.status (wLayerOp e.cmd.w) s.zt e.cmd.seq e.cmd.index e.detail, e.cmd.priv⟩]))

/-- The effect of every signal operation at its destination tile. -/
def Obligations.SignalOperations : Prop :=
  ∀ (s : State) (t : Fin 2048) (obj : Fin 256) (v : Fin 65536),
    let k := obj.val % 128
    s.applyUpdate t obj 0 v = s ∧
    (s.applyUpdate t obj 1 v).syncFlag t k = true ∧
    (s.applyUpdate t obj 2 v).syncFlag t k = false ∧
    (s.applyUpdate t obj 3 v).counter t k = (s.counter t k + v) % 2 ^ 32 ∧
    (s.applyUpdate t obj 4 v).counter t k = (s.counter t k + 2 ^ 32 - v) % 2 ^ 32 ∧
    (s.applyUpdate t obj 5 v).counter t k = v ∧
    (2 ^ 32 ≤ s.counter t k + v.val → (s.applyUpdate t obj 3 v).flag (TC_FAULT t) TC_FAULT_SYNC_WRAP = true) ∧
    (s.counter t k < v.val → (s.applyUpdate t obj 4 v).flag (TC_FAULT t) TC_FAULT_SYNC_WRAP = true) ∧
    (s.counter t k + v.val < 2 ^ 32 → (s.applyUpdate t obj 3 v).rd (TC_FAULT t) = s.rd (TC_FAULT t)) ∧
    (v.val ≤ s.counter t k → (s.applyUpdate t obj 4 v).rd (TC_FAULT t) = s.rd (TC_FAULT t)) ∧
    (∀ op : Fin 8, (s.applyUpdate t obj op v).tiles = s.tiles ∧ (s.applyUpdate t obj op v).mem = s.mem ∧
      (∀ j : Fin 128, j.val ≠ k → (s.applyUpdate t obj op v).counter t j = s.counter t j ∧
        (s.applyUpdate t obj op v).syncFlag t j = s.syncFlag t j))

/-- SYNC, FENCE, STAMP and NOOP end with OK: the whole next state of each, from its own operation on; FILL's beginning, its steps and its return. -/
def Obligations.InlineCommandsComplete : Prop :=
  (∀ (t : Fin 2048) (s : State) (c : Cmd), s.inlineHead t 0 = some c →
    exec (.sync t) s = .next ((s.startInline t c).endInline t c stOk 0 0 []) ∧
    (((s.startInline t c).endInline t c stOk 0 0 []).tile t).inl = none) ∧
  (∀ (t : Fin 2048) (s : State) (c : Cmd), s.inlineHead t 1 = some c → (s.startInline t c).drained t = true →
    exec (.fence t) s = .next ((s.startInline t c).endInline t c stOk 0 0 []) ∧
    (((s.startInline t c).endInline t c stOk 0 0 []).tile t).inl = none) ∧
  (∀ (t : Fin 2048) (s : State) (c : Cmd), s.inlineHead t 3 = some c →
    (s.startInline t c).firstUnowned c.part (stampAddr c.w) 8 = none → (s.startInline t c).memOn (stampAddr c.w) 8 = true →
    (s.startInline t c).inFailed (stampAddr c.w) = false → ((s.startInline t c).store (stampAddr c.w) (leBytes 8 (s.startInline t c).zt)
      (c.master 0 t)).2 = none →
    exec (.stamp t) s = .next ((((s.startInline t c).store (stampAddr c.w) (leBytes 8 (s.startInline t c).zt) (c.master 0 t)).1.hbWrite
      (stampAddr c.w) 8 { c.attr with master := some 0 }).endInline t c stOk 0 0 [(stampAddr c.w, 8)])) ∧
  (∀ (t : Fin 2048) (s : State) (c : Cmd), s.callHead t 0 = some c → s.argsReady t c →
    exec (.noop t) s = .next ((s.argState t c).endInline t c stOk 0 ((s.argState t c).rd ID_LIBRARY % 2 ^ 48) [])) ∧
  (∀ (t : Fin 2048) (s s1 : State) (c : Cmd) (b : List Byte) (n : Nat), s1 = s.argState t c → b = s.argBytes t c → n = fieldAt b 4 4 →
    s.callHead t 1 = some c → s.argsReady t c → 1 ≤ n → n ≤ 4093 → callLen c.w = 16 + 16 * n → fieldAt b 8 8 = 0 →
    ((∀ r ∈ fillRanges b n, fillRangeOk r = true ∧ s1.owns c.part r.1 r.2 = true) → Gives (.fillRoutine t) s (fun s' =>
      ((s'.tile t).routine.map (fun k => (k.number, k.phase, k.pos, k.vals))) =
        some (1, 0, 0, fieldAt b 0 4 :: ((fillRanges b n).map (fun r => [r.1, r.2])).flatten) ∧ s'.mem = s1.mem)) ∧
    (∀ i : Nat, (fillRanges b n).findIdx? (fun r => !(fillRangeOk r && s1.owns c.part r.1 r.2)) = some i →
      exec (.fillRoutine t) s = .next (s1.returnFault t c 1 i))) ∧
  (∀ (t : Fin 2048) (s : State) (c : Cmd) (k : Routine), s.callHead t 1 = none → s.running t 1 = some (c, k) → k.failed = none →
    (k.vals.length ≤ 1 + 2 * k.phase → (s.tile t).awaits k = false → exec (.fillRoutine t) s = .next (s.returnOk t c 0)) ∧
    (1 + 2 * k.phase < k.vals.length → k.pos < k.vals.getD (2 + 2 * k.phase) 0 / 32 → (s.tile t).held 5 < 16 → Gives (.fillRoutine t) s (fun s' =>
      (s'.tile t).held 5 = (s.tile t).held 5 + 1 ∧ s'.mem = s.mem ∧
      ((s'.tile t).routine.map (·.pos)) = some (k.pos + min (k.vals.getD (2 + 2 * k.phase) 0 / 32 - k.pos) 65535))))

/-- RESUME and FLUSH act on the stopped queues that they name and on no other; ENGINE_RECOVER is the same operation. -/
def Obligations.QueueControlReleasesStoppedQueues : Prop :=
  (∀ (ctx : Ctx) (t : Fin 2048) (m : BitVec 8) (s : State), s.queueWriter ctx t = true →
    Gives (.resume ctx t m) s (fun s' => s'.regs = s.regs ∧ s'.mem = s.mem ∧ (s'.tile t).queues = (s.tile t).queues ∧
      (∀ q : Fin 8, (s'.tile t).isStopped q = ((s.tile t).isStopped q && !bit m.toNat q)) ∧
      (∀ u : Nat, u ≠ t.val → s'.tile u = s.tile u))) ∧
  (∀ (ctx : Ctx) (t : Fin 2048) (m : BitVec 8) (s : State), s.queueWriter ctx t = true →
    Gives (.flush ctx t m) s (fun s' => s'.mem = s.mem ∧
      (∀ q : Fin 8, (s'.tile t).isStopped q = ((s.tile t).isStopped q && !bit m.toNat q)) ∧
      (∀ q : Fin 8, (s'.tile t).queue q = if (s.tile t).isStopped q && bit m.toNat q then [] else (s.tile t).queue q) ∧
      (∀ q : Fin 8, ((s.tile t).isStopped q && bit m.toNat q) = true → ∀ c ∈ (s.tile t).queue q,
        (⟨q, c, stFlushed, 0, 0, [], s.zt⟩ : Ended) ∈ (s'.tile t).ended))) ∧
  (∀ (ctx : Ctx) (t : Fin 2048) (m : BitVec 8) (s : State), s.queueWriter ctx t = false →
    exec (.resume ctx t m) s = .next (s.accessError ctx (TC_QCTRL t)) ∧ exec (.flush ctx t m) s = .next (s.accessError ctx (TC_QCTRL t))) ∧
  (∀ (t : Fin 2048) (s : State) (c : Cmd), s.callHead t 0x0F = some c → callLen c.w = 8 →
    (s.startInline t c).firstUnowned c.part (callAddr c.w) 8 = none → (s.startInline t c).memOn (callAddr c.w) 8 = true →
    (s.startInline t c).firstBad (callAddr c.w) 8 = none → (s.startInline t c).readNat (callAddr c.w) 8 < 2 ^ 16 →
    ∃ r n, r = (s.startInline t c).hbRead (callAddr c.w) 8 { c.attr with master := some 0 } ∧
      exec (.engineRecover t) s = .next ((r.queueCtrl t ((s.startInline t c).readNat (callAddr c.w) 8 % 256)
        ((s.startInline t c).readNat (callAddr c.w) 8 / 256)).returnOk t c n))

/-- The oldest remote signal of a pair of tiles is applied, and the oldest entry of a route is delivered and counted. -/
def Obligations.SignalsAndRouteEntriesArrive : Prop :=
  (∀ (src : Nat) (dst : Fin 2048) (s : State) (g : Sig), s.sigNet.find? (fun g => g.src == src && g.dst == dst.val) = some g →
    s.tilePresent dst = true → s.domOn (s.servRegion dst) = true → s.stopHolds (s.tileOwner dst) = false →
    Gives (.remoteSignal src dst) s (fun s' => s'.sigNet = s.sigNet.erase g ∧ s'.mem = s.mem ∧
      s'.regs = (s.applyUpdate dst g.obj g.op g.value).regs)) ∧
  (∀ (src : Nat) (dst : Fin 2048) (s : State) (g : Sig), s.sigNet.find? (fun g => g.src == src && g.dst == dst.val) = some g →
    s.tilePresent dst = false → exec (.remoteSignal src dst) s = .next { s with sigNet := s.sigNet.erase g }) ∧
  (∀ (p : Fin 8) (r : BitVec 16) (s : State) (k : Route) (e : List Byte) (rest : List (List Byte)),
    s.findRoute p r.toNat = some k → (s.part p).transitOf r.toNat = e :: rest → s.domOn (s.servRegion k.dst) = true →
    s.stopHolds (s.tileOwner k.dst) = false → k.dstCounter < 128 →
    Gives (.routeDelivery p r) s (fun s' => (s'.part p).transitOf r.toNat = rest ∧
      (s'.part p).streamOf r.toNat = (s.part p).streamOf r.toNat ++ [e] ∧
      s'.counter k.dst k.dstCounter = (s.counter k.dst k.dstCounter + 1) % 2 ^ 32 ∧ s'.mem = s.mem ∧ s'.tiles = s.tiles))

/-- What COPY and FILL store, and that they store nothing else. The state that the bytes are compared with is the one after the command's start. -/
def Obligations.CopyAndFillWriteTheirSectors : Prop :=
  (∀ (t : Fin 2048) (s s1 : State) (c : Cmd), s.dmaHead t 1 = some c →
    s1 = ((s.startHead t 5 c).hbRead (copySrc c.w) (32 * copySectors c.w) (dmaAttr c)).hbWrite (copyDst c.w) (32 * copySectors c.w) (dmaAttr c) →
    s.firstUnowned c.part (copySrc c.w) (32 * copySectors c.w) = none → s.firstUnowned c.part (copyDst c.w) (32 * copySectors c.w) = none →
    s.firstOff (copySrc c.w) (32 * copySectors c.w) = none → s.firstOff (copyDst c.w) (32 * copySectors c.w) = none →
    s1.firstBad (copySrc c.w) (32 * copySectors c.w) = none → s1.firstFailed (copyDst c.w) (32 * copySectors c.w) = none →
    overlap (copySrc c.w) (copyDst c.w) (32 * copySectors c.w) = false →
    s1.plain (copySrc c.w) (32 * copySectors c.w) → s1.plain (copyDst c.w) (32 * copySectors c.w) → 1 ≤ copySectors c.w →
    Gives (.copy t []) s (fun s' =>
      (∀ k < 32 * copySectors c.w, s'.byte (copyDst c.w + k) = s1.byte (copySrc c.w + k)) ∧
      (∀ a, s1.plain a 1 → (a < copyDst c.w ∨ copyDst c.w + 32 * copySectors c.w ≤ a) → s'.byte a = s1.byte a) ∧
      (s'.tile t).ended = (s1.tile t).ended ++ [⟨5, c, stOk, 0, 0, [(copyDst c.w, 32 * copySectors c.w)], s1.zt⟩] ∧ s'.regs = s1.regs)) ∧
  (∀ (t : Fin 2048) (s s1 : State) (c : Cmd), s.dmaHead t 2 = some c →
    s1 = (s.startHead t 5 c).hbWrite (fillDst c.w) (32 * fillSectors c.w) (dmaAttr c) →
    s.firstUnowned c.part (fillDst c.w) (32 * fillSectors c.w) = none → s.firstOff (fillDst c.w) (32 * fillSectors c.w) = none →
    (∀ k < fillSectors c.w, s1.inFailed (fillDst c.w + 32 * k) = false) → s1.firstFailed (fillDst c.w) (32 * fillSectors c.w) = none →
    s1.plain (fillDst c.w) (32 * fillSectors c.w) → 1 ≤ fillSectors c.w →
    Gives (.fill t) s (fun s' =>
      (∀ k < 32 * fillSectors c.w, s'.byte (fillDst c.w + k) = (leBytes 4 (fillPattern c.w)).getD (k % 4) 0) ∧
      (∀ a, s1.plain a 1 → (a < fillDst c.w ∨ fillDst c.w + 32 * fillSectors c.w ≤ a) → s'.byte a = s1.byte a) ∧
      (s'.tile t).ended = (s1.tile t).ended ++ [⟨5, c, stOk, 0, 0, [(fillDst c.w, 32 * fillSectors c.w)], s1.zt⟩] ∧ s'.regs = s1.regs)) ∧
  (∀ (t : Fin 2048) (s : State) (c : Cmd) (u : Nat), s.dmaHead t 1 = some c → s.firstUnowned c.part (copySrc c.w) (32 * copySectors c.w) = some u →
    exec (.copy t []) s = .next ((s.startHead t 5 c).endCmd t 5 c stAccessFault u u)) ∧
  (∀ (t : Fin 2048) (s : State) (c : Cmd) (u : Nat), s.dmaHead t 2 = some c → s.firstUnowned c.part (fillDst c.w) (32 * fillSectors c.w) = some u →
    exec (.fill t) s = .next ((s.startHead t 5 c).endCmd t 5 c stAccessFault u u))

/-- SPLIT, ROUTE_SEND and ROUTE_RECV: their next states, and what one entry's move does. -/
def Obligations.SplitAndRoutesMoveTheirData : Prop :=
  (∀ (t : Fin 2048) (s s1 : State) (c : Cmd) (x : SplitSt) (dst : Nat), s.dmaHead t 3 = some c → x = s.splitOf c.w →
    dst = sramBase t + splitDst c.w → s.firstUnowned c.part x.src x.srcBytes = none → splitDst c.w + x.outBytes ≤ 0x100000 →
    s.firstOff x.src x.srcBytes = none → s.firstOff dst x.outBytes = none →
    s1 = (s.startHead t 5 c).hbRead x.src x.srcBytes (dmaAttr c) → s1.firstBad x.src x.srcBytes = none →
    (dst + x.outBytes ≤ x.src ∨ x.src + x.srcBytes ≤ dst) →
    exec (.split t) s = .next (((s1.writeBytes dst ((x.output s1).map (·.2))).cleanUnits dst x.outBytes).dmaDone t c dst x.outBytes)) ∧
  (∀ (t : Fin 2048) (s s2 : State) (c : Cmd) (r : Route), s.dmaHead t 4 = some c → s.findRoute c.part (routeId c.w) = some r →
    ((s.tile t).moved.isSome = true ∨ s.firstUnowned c.part (routeAddr c.w) (64 * routeCount c.w) = none) →
    s.firstOff (routeAddr c.w) (64 * routeCount c.w) = none →
    State.sendEntries t c r (routeCount c.w - (s.routeStart t c).movedOf t) (s.routeStart t c) = (s2, none) →
    exec (.routeSend t) s = .next (if routeCount c.w ≤ s2.movedOf t then (s2.routeEnd t).dmaDone t c 0 0 else s2)) ∧
  (∀ (t : Fin 2048) (s s2 : State) (c : Cmd) (r : Route), s.dmaHead t 5 = some c → s.findRoute c.part (routeId c.w) = some r →
    ((s.tile t).moved.isSome = true ∨ s.firstUnowned c.part (routeAddr c.w) (64 * routeCount c.w) = none) →
    s.firstOff (routeAddr c.w) (64 * routeCount c.w) = none →
    State.recvEntries t c r (routeCount c.w - (s.routeStart t c).movedOf t) (s.routeStart t c) = (s2, none) →
    exec (.routeRecv t) s = .next (if routeCount c.w ≤ s2.movedOf t then (s2.routeEnd t).dmaDone t c (routeAddr c.w) (64 * routeCount c.w) else s2)) ∧
  (∀ (t : Nat) (s : State) (c : Cmd) (r : Route), (s.part c.part).routeRoom r = true → s.firstBad (routeAddr c.w + 64 * s.movedOf t) 64 = none →
    ((State.sendEntries t c r 1 s).1.part c.part).transitOf r.id =
      (s.part c.part).transitOf r.id ++ [s.readBytes (routeAddr c.w + 64 * s.movedOf t) 64] ∧
    (State.sendEntries t c r 1 s).1.movedOf t = s.movedOf t + 1 ∧ (State.sendEntries t c r 1 s).1.mem = s.mem) ∧
  (∀ (t : Nat) (s : State) (c : Cmd) (r : Route) (e : List Byte) (rest : List (List Byte)), (s.part c.part).streamOf r.id = e :: rest →
    s.firstFailed (routeAddr c.w + 64 * s.movedOf t) 64 = none →
    ((State.recvEntries t c r 1 s).1.part c.part).streamOf r.id = rest ∧ (State.recvEntries t c r 1 s).1.movedOf t = s.movedOf t + 1 ∧
    (State.recvEntries t c r 1 s).1.mem = (s.writeBytes (routeAddr c.w + 64 * s.movedOf t) e).mem)

/-- The start of each matrix-engine command, and what it leaves in its engine. -/
def Obligations.MatrixCommandsStart : Prop :=
  ∀ (t : Fin 2048) (e : Fin 4) (s s0 : State) (c : Cmd) (m : MeSt), s0 = s.settle t → m = s0.me t e →
    (s0.meHead t e 1 = some c → m.loadBusy (s0.cycle t) = false → rowsBeyond (wloadOff c.w) (wloadStride c.w) 16 = none →
      Gives (.wload t e) s (fun s' => (s'.me t e).wload = some ⟨c, m.started + 1, s0.cycle t, []⟩ ∧
        (∀ k < 16, (s'.me t e).loadBusy (s0.cycle t + k) = true) ∧
        (s'.me t e).lastStart = some (s0.cycle t) ∧ (s'.tile t).queue e = ((s0.tile t).queue e).drop 1)) ∧
    (s0.meHead t e 2 = some c → m.feedBusy (s0.cycle t) = false → m.feeds.length < 8 →
      (feedOutMode c.w = 2 → (s0.me t (e + 1)).tokens.length < 15) → feedBeyond c.w (if feedCtx c.w then m.ctx1 else m.ctx0) = none →
      Gives (.feed t e) s (fun s' =>
        (s'.me t e).feeds = m.feeds ++ [⟨c, m.started + 1, s0.cycle t, if feedCtx c.w then m.ctx1 else m.ctx0, [], [], 0, 0, 0⟩] ∧
        (∀ k < feedRows c.w, (s'.me t e).feedBusy (s0.cycle t + k) = true) ∧ (s'.tile t).queue e = ((s0.tile t).queue e).drop 1 ∧
        (s'.me t (e + 1)).tokens = (s0.me t (e + 1)).tokens ++ (if feedOutMode c.w = 2 then [s0.cycle t] else []))) ∧
    (s0.meHead t e 3 = some c → m.store = none → rowsBeyond (storeDst c.w) (storeStride c.w) (storeCount c.w) = none →
      Gives (.store t e) s (fun s' => (s'.me t e).store = some ⟨c, m.started + 1, s0.cycle t, 0, 0, []⟩ ∧
        (s'.tile t).queue e = ((s0.tile t).queue e).drop 1)) ∧
    (s0.meHead t e 4 = some c → m.runs = [] →
      Gives (.drain t e) s (fun s' => (s'.me t e).drain = none ∧ (s'.tile t).ended = (s0.tile t).ended ++ [⟨e, c, stOk, 0, 0, [], s.zt⟩] ∧
        (s'.tile t).queue e = ((s0.tile t).queue e).drop 1)) ∧
    (s0.meHead t e 4 = some c → (m.runs.any (fun r => decide (r.1 ≤ m.started))) = true →
      Gives (.drain t e) s (fun s' => (s'.me t e).drain = some ⟨c, m.started + 1, s0.cycle t, []⟩ ∧ (s'.tile t).ended = (s0.tile t).ended)) ∧
    (s0.meHead t e 5 = some c → m.loadBusy (s0.cycle t) = false → convDescOff c.w + 64 ≤ sramBytes →
      Gives (.conv t e) s (fun s' => (s'.me t e).conv = some ⟨c, m.started + 1, s0.cycle t, []⟩ ∧ (∀ k < 4, (s'.me t e).loadBusy (s0.cycle t + k) = true) ∧
        (s'.me t e).ctx0 = m.ctx0 ∧ (s'.me t e).ctx1 = m.ctx1)) ∧
    (s0.meHead t e 6 = some c → invalCount c.w ≤ 32 →
      Gives (.inval t e) s (fun s' =>
        (∀ k < invalCount c.w, ((s'.me t e).entry ((invalEntry c.w + k) % 32)).valid = false) ∧
        (∀ i < 32, (∀ k < invalCount c.w, (invalEntry c.w + k) % 32 ≠ i) → (s'.me t e).entry i = m.entry i) ∧
        (s'.tile t).ended = (s0.tile t).ended ++ [⟨e, c, stOk, 0, 0, [], s.zt⟩]))

/-- A landing row sets its entry, its valid tag and its format tag; a landing into a valid entry is an overrun. -/
def Obligations.RowsLandInTheirEntries : Prop :=
  ∀ (t : Fin 2048) (e : Fin 4) (s : State) (f : FeedRun) (acts psum : List Nat) (l : List (List Nat × List Nat)),
    s.dueFeed t e = some f → f.rows = (acts, psum) :: l →
    (((s.me t (landEngine e f.cmd.w)).entry (landEntry f.cmd.w f.landed)).valid = false →
      (if feedOutMode f.cmd.w = 0 then s.firstBad (rowTableAt t f f.landed) f.ctx.rowEntry else none) = none →
      Gives (.rowLanding t e) s (fun s' => (s'.me t (landEngine e f.cmd.w)).entry (landEntry f.cmd.w f.landed) =
        { valid := true, fmt := if feedOutMode f.cmd.w = 0 then f.ctx.outFmt else 16, vals := s.rowValues t f acts psum } ∧ s'.mem = s.mem)) ∧
    (((s.me t (landEngine e f.cmd.w)).entry (landEntry f.cmd.w f.landed)).valid = true →
      exec (.rowLanding t e) s = .next (s.landOverrun t e f))

/-- An element-wise command finishes with its results, or ends with ACCESS_FAULT where an extent leaves the tile's SRAM. -/
def Obligations.ElementwiseVectorCommandsComplete : Prop :=
  ∀ (t : Fin 2048) (s : State) (c : Cmd) (i : Instr) (op : Nat), (i, op) ∈ elementwiseRows t → s.vuHead t op = some c →
    (s.vuReady t (vuReads c.w) [(vuD c.w, vuCount c.w * codeBytes (vuOut c.w))] →
      exec i s = .next ((s.startHead t 4 c).vuFinish t c ((s.startHead t 4 c).vuResults t c.w) [] none)) ∧
    ((vuReads c.w ++ [(vuD c.w, vuCount c.w * codeBytes (vuOut c.w))]).any (fun e => decide (0x100000 < e.1 + e.2)) = true →
      exec i s = .next ((s.startHead t 4 c).endCmd t 4 c stAccessFault (sramBase t + 0x100000) (sramBase t + 0x100000)))

/-- Results are stored element by element, and nothing else is. -/
def Obligations.VectorResultsAreStored : Prop :=
  ∀ (s : State) (t : Fin 2048) (c : Cmd) (off size : Nat) (l : List (Nat × Nat)) (x : Option Xsr), 1 ≤ size → l ≠ [] →
    off + size * l.length ≤ 0x100000 → s.plain (sramBase t + off) (size * l.length) → s.partlyBad (sramBase t + off) (size * l.length) = [] →
    (∀ k < l.length, (s.vuFinish t c (vuRun off size l) [] x).readNat (sramBase t + off + size * k) size = (l.getD k (0, 0)).1 % 256 ^ size) ∧
    (∀ a, s.plain a 1 → (a < sramBase t + off ∨ sramBase t + off + size * l.length ≤ a) →
      (s.vuFinish t c (vuRun off size l) [] x).byte a = s.byte a) ∧
    ((s.vuFinish t c (vuRun off size l) [] x).tile t).ended =
      (s.tile t).ended ++ [⟨4, c, stOk, 0, 0, [(sramBase t + off, size * l.length)], s.zt⟩] ∧
    ((s.vuFinish t c (vuRun off size l) [] x).tile t).xsr = (s.tile t).xsr ∧ (s.vuFinish t c (vuRun off size l) [] x).regs = s.regs

/-- The whole next state of each of the other vector commands, from the start on. -/
def Obligations.OtherVectorCommandsComplete : Prop :=
  ∀ (t : Fin 2048) (s s1 : State) (c : Cmd), s1 = s.startHead t 4 c →
    (s.vuHead t 0x20 = some c → s.vuReady t (vuReads c.w) [(vuD c.w, codeBytes (vuOut c.w))] → s1.fastMarked c = false →
      exec (.vuRsum t) s = .next (s1.vuFinish t c (vuRun (vuD c.w) (codeBytes (vuOut c.w))
        [laneOut (vuOut c.w) (vuRtz c.w) ((s1.vuAll t c.w).foldl Xsr.addVal {}).val]) [] (some ((s1.vuAll t c.w).foldl Xsr.addVal {})))) ∧
    (s.vuHead t 0x20 = some c → s.vuReady t (vuReads c.w) [(vuD c.w, codeBytes (vuOut c.w))] → s1.fastMarked c = true →
      exec (.vuRsum t) s = .next (s1.vuFinish t c (vuRun (vuD c.w) (codeBytes (vuOut c.w))
        [laneOut (vuOut c.w) (vuRtz c.w) (fastSum ((s1.vuAll t c.w).length + 1) (s1.vuAll t c.w) none)]) [] none)) ∧
    (s.vuHead t 0x21 = some c → s.vuReady t (vuReads c.w) [(vuD c.w, codeBytes (vuOut c.w))] →
      exec (.vuRmax t) s = .next (s1.vuFinish t c (vuRun (vuD c.w) (codeBytes (vuOut c.w))
        [laneOut (vuOut c.w) (vuRtz c.w) ((s1.vuAll t c.w).tail.foldl (fun m x => if x.above m then x else m) ((s1.vuAll t c.w).headD .nan))]) [] none)) ∧
    (s.vuHead t 0x22 = some c →
      s.vuReady t [(vuA c.w, vuCount c.w * codeBytes (vuIn c.w))] [(vuD c.w, topK c.w * codeBytes (vuOut c.w)), (vuC c.w, 4 * topK c.w)] →
      exec (.vuTopk t) s = .next (s1.vuFinish t c
        (vuRun (vuD c.w) (codeBytes (vuOut c.w)) ((topSel (topK c.w) (enumFrom 0 (s1.vuAll t c.w))).map (fun x => laneOut (vuOut c.w) (vuRtz c.w) x.2)))
        (vuRun (vuC c.w) 4 ((topSel (topK c.w) (enumFrom 0 (s1.vuAll t c.w))).map (fun x => (x.1, 0)))) none)) ∧
    (s.vuHead t 0x28 = some c → s.vuReady t (g32Reads c.w) [(vuD c.w, 4 * vuCount c.w)] →
      exec (.vuToG32 t) s = .next (s1.vuFinish t c (vuRun (vuD c.w) 4 ((List.range (vuCount c.w)).map (fun i =>
        ((g32Convert (s1.g32Exp t c.w i) (vuGuard c.w) (s1.vuElem t (vuIn c.w) (vuA c.w) false i)).1,
          if (g32Convert (s1.g32Exp t c.w i) (vuGuard c.w) (s1.vuElem t (vuIn c.w) (vuA c.w) false i)).2 = 0 then 0
          else (g32Convert (s1.g32Exp t c.w i) (vuGuard c.w) (s1.vuElem t (vuIn c.w) (vuA c.w) false i)).2 + 1)))) [] none)) ∧
    (s.vuHead t 0x29 = some c → s.vuReady t (g32Reads c.w) [(vuD c.w, vuCount c.w * codeBytes (vuOut c.w))] →
      exec (.vuFromG32 t) s = .next (s1.vuFinish t c (vuRun (vuD c.w) (codeBytes (vuOut c.w)) ((List.range (vuCount c.w)).map (fun i =>
        laneOut (vuOut c.w) (vuRtz c.w) (g32Val (s1.g32Exp t c.w i) (s1.readNat (sramBase t + vuA c.w + 4 * i) 4))))) [] none)) ∧
    (s.vuHead t 0x30 = some c → s.vuReady t [(vuA c.w, vuCount c.w * codeBytes (vuIn c.w))] [] →
      exec (.xsrAdd t) s = .next (s1.vuFinish t c [] [] (some ((s1.vuAll t c.w).foldl Xsr.addVal (if vuClearFirst c.w then {} else (s1.tile t).xsr))))) ∧
    (s.vuHead t 0x31 = some c → s.vuReady t [(vuA c.w, 64 * vuCount c.w)] [] →
      exec (.xsrLoadadd t) s = .next (s1.vuFinish t c [] [] (some (((List.range (vuCount c.w)).map (fun i =>
        Xsr.ofImage (s1.readNat (sramBase t + vuA c.w + 64 * i) 64))).foldl Xsr.combine (if vuClearFirst c.w then {} else (s1.tile t).xsr))))) ∧
    (s.vuHead t 0x32 = some c → s.vuReady t [] [(vuD c.w, 64)] →
      exec (.xsrStore t) s = .next (s1.vuFinish t c [⟨vuD c.w, 64, (s1.tile t).xsr.image, 0⟩] [] none)) ∧
    (s.vuHead t 0x33 = some c → s.vuReady t [] [(vuD c.w, codeBytes (vuOut c.w))] →
      exec (.xsrRound t) s = .next (s1.vuFinish t c
        (vuRun (vuD c.w) (codeBytes (vuOut c.w)) [laneOut (vuOut c.w) (vuRtz c.w) (s1.tile t).xsr.val]) [] none)) ∧
    (s.vuHead t 0x34 = some c → s.memOn (sramBase t) 1 = true → exec (.xsrClear t) s = .next (s1.vuFinish t c [] [] (some {}))) ∧
    (s.vuHead t 0x38 = some c → s.vuReady t [] [(drawD c.w, 4 * drawCount c.w)] → drawKind c.w = 0 →
      exec (.draw t) s = .next (s1.vuFinish t c (vuRun (drawD c.w) 4 ((List.range (drawCount c.w)).map (fun i =>
        (draw32 (s1.drawKey c.part) (drawCounter c.step (wLayer c.w) c.mb ((drawBase c.w + i) % 2 ^ 48) (drawStreamOf c.w)), 0)))) [] none))

/-- S adds modulo 2^320, side bits are ORed, counts add modulo 2^48: in any order and any split. -/
def Obligations.ExactSumsCombineInAnyOrder : Prop :=
  (∀ x y : Xsr, (x.combine y).s = (y.combine x).s ∧ (x.combine y).count = (y.combine x).count ∧
    (x.combine y).pinf = (y.combine x).pinf ∧ (x.combine y).ninf = (y.combine x).ninf ∧ (x.combine y).nan = (y.combine x).nan) ∧
  (∀ x y z : Xsr, ((x.combine y).combine z).s = (x.combine (y.combine z)).s ∧ ((x.combine y).combine z).count = (x.combine (y.combine z)).count ∧
    ((x.combine y).combine z).pinf = (x.combine (y.combine z)).pinf ∧ ((x.combine y).combine z).ninf = (x.combine (y.combine z)).ninf) ∧
  (∀ l m : List Val, ((l ++ m).foldl Xsr.addVal {}).s = ((l.foldl Xsr.addVal {}).combine (m.foldl Xsr.addVal {})).s ∧
    ((l ++ m).foldl Xsr.addVal {}).count = ((l.foldl Xsr.addVal {}).combine (m.foldl Xsr.addVal {})).count)

/-- The order of lane values, and what MAX, MIN, CMP_LT and CMP_EQ make of it. -/
def Obligations.OrderOfLaneValues : Prop :=
  (∀ v : Val, v.rank < 3 → Val.above .nan v = true ∧ Val.above v .nan = false) ∧
  (∀ (x : Rat) (z : Bool), Val.above (.inf false) (.fin x z) = true ∧ Val.above (.fin x z) (.inf true) = true) ∧
  (∀ p q : Bool, Val.above (.fin 0 p) (.fin 0 q) = false) ∧
  (∀ a b c : Val, a.above b = false → b.above a = false → laneOp 5 false a b c = a ∧ laneOp 6 false a b c = a) ∧
  (∀ a b c : Val, a.above b = true → laneOp 5 false a b c = a ∧ laneOp 6 false a b c = b) ∧
  (∀ a c : Val, laneOp 7 false a .nan c = .fin 0 false ∧ laneOp 7 false .nan a c = .fin 0 false ∧
    laneOp 8 false a .nan c = .fin 0 false ∧ laneOp 8 false .nan a c = .fin 0 false) ∧
  (∀ a b c : Val, a.rank < 3 → b.rank < 3 →
    (laneOp 7 false a b c = .fin 1 false ∧ laneOp 7 false b a c = .fin 0 false ∧ laneOp 8 false a b c = .fin 0 false) ∨
    (laneOp 7 false a b c = .fin 0 false ∧ laneOp 7 false b a c = .fin 1 false ∧ laneOp 8 false a b c = .fin 0 false) ∨
    (laneOp 7 false a b c = .fin 0 false ∧ laneOp 7 false b a c = .fin 0 false ∧ laneOp 8 false a b c = .fin 1 false))

/-- Forwarding keeps queue 7's accounts; UPDATE, NORM and XOR_ACC take their command from the unit's input and do their work. -/
def Obligations.AnvilCommandsRun : Prop :=
  (∀ (t : Fin 2048) (s : State) (c : Cmd), s.headOf t 7 = some c → s.queueRuns t 7 = true → s.waitHolds t c = true →
    s.anvilUsable (wEngine c.w - 8) = true → s.domOn (84 + (wEngine c.w - 8)) = true → (s.anvil (wEngine c.w - 8)).input.length < 32 →
    Gives (.anvilForward t) s (fun s' => (s'.tile t).queue 7 = ((s.tile t).queue 7).drop 1 ∧
      (s'.tile t).outstanding = (s.tile t).outstanding ++ [{ c with fwd := s.forwards }] ∧ s'.forwards = s.forwards + 1 ∧
      (s'.anvil (wEngine c.w - 8)).input = (s.anvil (wEngine c.w - 8)).input ++ [(t.val, { c with fwd := s.forwards })])) ∧
  (∀ (u : Fin 8) (s : State) (t : Nat) (c : Cmd) (d : UpdDesc), s.anvilHead u 1 = some (t, c) → (∀ e, (s.anvil u).under = some e → e.1 ≠ c.fwd) →
    s.firstUnowned c.part (avDesc c.w) 128 = none → s.memOn (avDesc c.w) 128 = true → s.firstBad (avDesc c.w) 128 = none →
    descOk (s.readBytes (avDesc c.w) 128) = true → d = descOf (s.readBytes (avDesc c.w) 128) → s.unownedOf c.part d.extents = none →
    d.stackExtents.findSome? (fun e => outsideStacks (s.fuses.serves u) e.1 e.2) = none → s.offOf d.extents = none →
    s.haloOff c.part c.step d.layer = none → exec (.update u) s = .next ((s.anvilTake u (t, c)).updateWork u t c d)) ∧
  (∀ (u : Fin 8) (s : State) (t : Nat) (c : Cmd) (d : UpdDesc), s.anvilHead u 2 = some (t, c) → (∀ e, (s.anvil u).under = some e → e.1 ≠ c.fwd) →
    s.firstUnowned c.part (avDesc c.w) 128 = none → s.memOn (avDesc c.w) 128 = true → s.firstBad (avDesc c.w) 128 = none →
    descOk (s.readBytes (avDesc c.w) 128) = true → d = descOf (s.readBytes (avDesc c.w) 128) →
    s.unownedOf c.part (d.gradExtents ++ [(normDst c.w, 64)]) = none → s.offOf (d.gradExtents ++ [(normDst c.w, 64)]) = none →
    exec (.norm u) s = .next ((s.anvilTake u (t, c)).normWork u t c d)) ∧
  (∀ (u : Fin 8) (s : State) (t : Nat) (c : Cmd), s.anvilHead u 3 = some (t, c) → (∀ e, (s.anvil u).under = some e → e.1 ≠ c.fwd) →
    s.unownedOf c.part [(xorSrc c.w, 32 * xorSectors c.w), (xorDst c.w, 32 * xorSectors c.w)] = none →
    outsideStacks (s.fuses.serves u) (xorDst c.w) (32 * xorSectors c.w) = none →
    s.offOf [(xorSrc c.w, 32 * xorSectors c.w), (xorDst c.w, 32 * xorSectors c.w)] = none →
    s.badOf [(xorDst c.w, 32 * xorSectors c.w), (xorSrc c.w, 32 * xorSectors c.w)] = none →
    s.plain (xorDst c.w) (32 * xorSectors c.w) →
    Gives (.xorAcc u) s (fun s' =>
      (∀ k < 32 * xorSectors c.w, s'.byte (xorDst c.w + k) = s.byte (xorDst c.w + k) ^^^ s.byte (xorSrc c.w + k)) ∧
      (∀ a, s.plain a 1 → (a < xorDst c.w ∨ xorDst c.w + 32 * xorSectors c.w ≤ a) → s'.byte a = s.byte a) ∧
      (∀ x ∈ (s'.anvil u).input, x.2.fwd ≠ c.fwd) ∧ s'.regs = s.regs))

/-- n_c = 0: only NEXT_EXP is written, and it is a copy of GEXP. -/
def Obligations.UpdateWithoutContributors : Prop :=
  ∀ (u : Fin 8) (s : State) (t : Nat) (c : Cmd) (d : UpdDesc), s.badOf ((d.count, 4) :: (if d.clip then [(d.gnorm, 64)] else [])) = none →
    s.readNat d.count 4 = 0 →
    (d.next = 0 → (s.updateWork u t c d).mem = s.mem ∧ (s.updateWork u t c d).regs = s.regs ∧
      s.updateWork u t c d = s.anvilReport t c stOk 0 []) ∧
    (d.next ≠ 0 → aligned d.gexp 32 = true → aligned d.next 32 = true →
      (d.gexp + 2 * d.blocks ≤ d.next ∨ d.next + 2 * d.blocks ≤ d.gexp ∨ d.next = d.gexp) → s.firstBad d.gexp (2 * d.blocks) = none → s.firstFailed d.next (2 * d.blocks) = none → s.partlyBad d.next (2 * d.blocks) = [] →
      s.plain d.next (2 * d.blocks) → (∀ k < 2 * d.blocks, s.inFailed (d.next + k) = false) →
      (∀ k < 2 * d.blocks, (s.updateWork u t c d).byte (d.next + k) = s.byte (d.gexp + k)) ∧
      (∀ a, s.plain a 1 → (a < d.next ∨ d.next + 2 * d.blocks ≤ a) → (s.updateWork u t c d).byte a = s.byte a) ∧
      (s.updateWork u t c d).regs = s.regs)

/-- A count goes from the tile to the unit of its entry's stack, and from the unit into the entry. -/
def Obligations.HaloCountsReachTheirUnits : Prop :=
  (∀ (t : Fin 2048) (s : State) (m : HaloMsg) (x : TileSt) (u : Nat), s.tileRuns t = true → (s.tile t).haloNext = some (m, x) →
    (s.setTile t x).haloUnit (((s.setTile t x).haloEntry m.part m.step m.layer).1 / stackBytes) = some u →
    Gives (.haloSend t) s (fun s' => s'.tile t = x ∧ s'.haloAt u = s.haloAt u ++ [m] ∧ s'.mem = s.mem ∧ s'.regs = s.regs)) ∧
  (∀ (u : Fin 8) (s : State) (m : HaloMsg), (s.haloAt u).find? (fun m => !s.stopHolds (some m.part)) = some m → s.anvilUsable u = true →
    s.domOn (84 + u) = true → s.haloOn m.part = true → s.memOn (s.haloEntry m.part m.step m.layer).1 256 = true →
    exec (.haloMessage u) s = .next (((s.setHaloAt u ((s.haloAt u).erase m)).haloApply u m.part m.step m.layer m.add).haloSettled m.tile))

/-- Entry, progress and return of the six routines of chapter 08. -/
def Obligations.TrainingRoutinesRun : Prop :=
  ∀ (t : Fin 2048) (s s1 : State) (c : Cmd) (b : List Byte) (others : BitVec 512 × Nat × Nat), s1 = s.argState t c → b = s.argBytes t c →
    (∀ (i : Instr) (r kind : Nat), (i, r, kind) ∈ [(Instr.optMomentum t, 3, 0), (.optAdaptive t, 4, 1), (.optSign t, 5, 2)] →
      (s.callHead t r = some c → s.argsReady t c → (optArgs b).ok false (callLen c.w) b = true →
        s1.descCheck c.part (some kind) false 0 (optArgs b).descs = none →
        ((optArgs b).gate = false ∨
          s1.owns c.part (optArgs b).gnorm 128 = true ∧ s1.memOn (optArgs b).gnorm 128 = true ∧ s1.firstBad (optArgs b).gnorm 128 = none ∧
          s1.readNat ((optArgs b).gnorm + 0x40) 4 = c.step ∧
          (s1.readNat ((optArgs b).gnorm + 0x48) 8 = 0 ∨ (optArgs b).force = true)) →
        Gives i s (fun s' => ((s'.tile t).routine.map (fun k => (k.number, k.pos, k.vals))) = some (r, 0, s1.optUnits (optArgs b)) ∧
          s'.mem = (s1.putGnorm (callAddr c.w) (optArgs b)).mem)) ∧
      (s.callHead t r = some c → s.argsReady t c → (optArgs b).ok false (callLen c.w) b = true →
        s1.descCheck c.part (some kind) false 0 (optArgs b).descs = none → (optArgs b).gate = true → (optArgs b).force = false →
        s1.owns c.part (optArgs b).gnorm 128 = true → s1.memOn (optArgs b).gnorm 128 = true → s1.firstBad (optArgs b).gnorm 128 = none →
        s1.readNat ((optArgs b).gnorm + 0x40) 4 = c.step → s1.readNat ((optArgs b).gnorm + 0x48) 8 ≠ 0 →
        exec i s = .next (s1.returnOk t c 1)) ∧
      (∀ k : Routine, s.callHead t r = none → s.running t r = some (c, k) → k.failed = none → k.pos < k.vals.length → (s.tile t).held 7 < 16 →
        Gives i s (fun s' => (s'.tile t).queue 7 = (s.tile t).queue 7 ++ [{ c with
            word := BitVec.ofNat 256 (putBits (putBits (anvilWord (k.vals.getD k.pos 0) 1 (callAddr c.w + 32 + 128 * k.pos)) 131 112 (wLayer c.w)) 143 132 (wOp c.w))
            rix := some k.pos
            rin := k.inst }] ∧
          s'.mem = s.mem ∧ s'.regs = s.regs)) ∧
      (∀ k : Routine, s.callHead t r = none → s.running t r = some (c, k) → k.failed = none → k.vals.length ≤ k.pos → (s.tile t).awaits k = false →
        exec i s = .next (s.returnOk t c 0))) ∧
    (s.callHead t 6 = some c → s.argsReady t c → (optArgs b).ok false (callLen c.w) b = true → s1.haloOn c.part = true →
      s1.descCheck c.part none false 0 (optArgs b).descs = none → s1.owns c.part (optArgs b).gnorm 0x280 = true →
      s1.firstFailed (optArgs b).gnorm 0x280 = none → s1.memOn (optArgs b).gnorm 0x280 = true →
      Gives (.gradNorm t others) s (fun s' => ((s'.tile t).routine.map (fun k => (k.number, k.pos))) = some (6, 0) ∧ s'.regs = s1.regs)) ∧
    (∀ k : Routine, s.callHead t 6 = none → s.running t 6 = some (c, k) → k.failed = none → k.vals.length ≤ k.pos → (s.tile t).awaits k = false →
      exec (.gradNorm t others) s = .next (s.normFinish t c (optArgs (s.readBytes (callAddr c.w) 32)).gnorm
        (optArgs (s.readBytes (callAddr c.w) 32)).axes others)) ∧
    (s.callHead t 7 = some c → s.argsReady t c → (optArgs b).ok true (callLen c.w) b = true → s1.haloOn c.part = true →
      s1.descCheck c.part none true 0 (optArgs b).descs = none →
      exec (.stepRerun t) s = .next (s1.rerunWork t c (optArgs b))) ∧
    (s.callHead t 2 = some c → s.argsReady t c → recomputeOk (callLen c.w) b = true →
      Gives (.recompute t) s (fun s' => ((s'.tile t).routine.map (fun k => (k.number, k.pos))) = some (2, 0) ∧ s'.mem = s1.mem)) ∧
    (∀ (k : Routine) (a w : Nat), s.callHead t 2 = none → s.running t 2 = some (c, k) → k.failed = none → k.pos < k.vals.getD 1 0 →
      a = k.vals.getD 0 0 + 32 * k.pos → s.firstUnowned c.part a 32 = none → s.memOn a 32 = true → s.firstBad a 32 = none →
      w = s.readNat a 32 → s.recompDenied c.part (k.vals.getD 2 0) (k.vals.getD 3 0) w = none → 1 ≤ k.phase → s.placeFree t 6 = true →
      s.entryCheck c.part t (recompCmd c k w).w = stOk → wEngine (recompCmd c k w).w ≠ 6 → (s.tile t).held (wEngine (recompCmd c k w).w) < 16 →
      exec (.recompute t) s = .next ((s.place t (wEngine (recompCmd c k w).w) (recompCmd c k w)).recompNext t)) ∧
    (∀ k : Routine, s.callHead t 2 = none → s.running t 2 = some (c, k) → k.failed = none → k.vals.getD 1 0 ≤ k.pos → (s.tile t).awaits k = false →
      exec (.recompute t) s = .next (s.returnOk t c 0))

/-- The record of R191 for one module, in the state from which the CALL returns (its trace record and signal follow). -/
def Obligations.NormCombinesItsSlots : Prop :=
  ∀ (s : State) (t : Fin 2048) (c : Cmd) (g : Nat) (others : BitVec 512 × Nat × Nat),
    s.badOf ((s.normSlots g).map (fun a => (a, 64))) = none → s.haloBad c.part = none → s.plain g 128 →
    ∃ s2 : State, s.normFinish t c g 0 others = s2.returnOk t c 0 ∧ s2.regs = s.regs ∧
      s2.readBytes g 64 = leBytes 64 ((s.normSlots g).foldl (fun x a => x.combine (Xsr.ofImage (s.readNat a 64))) ({} : Xsr)).image ∧
      s2.readNat (g + 0x40) 4 = c.step % 2 ^ 32 ∧
      (∀ a, s.plain a 1 → (a < g ∨ g + 128 ≤ a) → s2.byte a = s.byte a)

/-- Entry and end of the routines of chapter 15. -/
def Obligations.RecoveryRoutinesRun : Prop :=
  ∀ (t : Fin 2048) (s s1 : State) (c : Cmd) (b : List Byte), s1 = s.argState t c → b = s.argBytes t c →
    (s.callHead t 8 = some c → s.argsReady t c → callLen c.w = 64 + 16 * fieldAt b 0 2 → (parityArgs b).bad b = none →
      s1.parityUnowned c.part (parityArgs b) = none → s1.ringFits (parityArgs b) = true →
      ((∀ e ∈ [((parityArgs b).area0, (parityArgs b).stripe), ((parityArgs b).area1, (parityArgs b).stripe),
          ((parityArgs b).stage, ((parityArgs b).k - 1) * (parityArgs b).chunk)], (s1.unitServing e.1 e.2).isSome = true) →
        Gives (.parityUpdate t) s (fun s' => ((s'.tile t).routine.map (fun k => (k.number, k.pos))) = some (8, 0) ∧ s'.mem = s1.mem)) ∧
      (s1.unitServing (parityArgs b).stage (((parityArgs b).k - 1) * (parityArgs b).chunk) = none →
        exec (.parityUpdate t) s = .next (s1.returnFault t c 0x12 0))) ∧
    (∀ (k : Routine) (a : ParityArgs), s.callHead t 8 = none → s.running t 8 = some (c, k) → k.failed = none → k.libFail = none → s.libIdle t k = true →
      a = parityArgs (leBytes (k.vals.getD 1 0) (k.vals.getD 0 0)) → a.stripe / a.chunk ≤ k.pos / (a.k + 1) →
      exec (.parityUpdate t) s = .next (s.parityDone t c a)) ∧
    (∀ (pa n : Nat) (pb : List Byte), s.callHead t 0xA = some c → s.argsReady t c → callLen c.w = 32 → pa = fieldAt b 0x10 8 → pa < 2 ^ 48 →
      n = 64 + 16 * s1.readNat pa 2 → pb = s1.readBytes pa n → s1.owns c.part pa 64 = true → s1.memOn pa 64 = true → s1.firstBad pa 64 = none →
      s1.owns c.part pa n = true → s1.memOn pa n = true → s1.firstBad pa n = none → (parityArgs pb).bad pb = none →
      s1.parityUnowned c.part (parityArgs pb) = none → s1.ringFits (parityArgs pb) = true →
      s1.rebuildOk c.part (rebuildArgs b) (parityArgs pb) b = true →
      (s1.unitServing (parityArgs pb).stage (((parityArgs pb).k - 1) * (parityArgs pb).chunk)).isSome = true →
      ((rebuildArgs b).member = true → (s1.unitServing (rebuildArgs b).target (parityArgs pb).len).isSome = true) →
      Gives (.rebuild t) s (fun s' => ((s'.tile t).routine.map (fun k => (k.number, k.pos))) = some (0xA, 0) ∧ s'.mem = s1.mem)) ∧
    (∀ (k : Routine) (r : RebuildArgs) (a : ParityArgs), s.callHead t 0xA = none → s.running t 0xA = some (c, k) → k.failed = none → k.libFail = none →
      s.libIdle t k = true → r = rebuildArgs (leBytes 32 (k.vals.getD 0 0)) → a = parityArgs (leBytes (k.vals.getD 2 0) (k.vals.getD 1 0)) →
      (r.readers a).length < k.pos → r.pages a ≤ (k.pos - (r.readers a).length - 1) / (2 * a.k - 2) →
      exec (.rebuild t) s = .next (s.returnOk t c 0)) ∧
    (∀ (i : Instr) (op : Nat), (i, op) ∈ [(Instr.save t, 0), (.seal t, 1), (.restore t, 2)] →
      (s.callHead t 9 = some c → s.argsReady t c → 0 < callLen c.w → (s.byte (callAddr c.w)).toNat = op → (snapArgs b).op = op →
        callLen c.w = 64 + 16 * fieldAt b 6 2 → (snapArgs b).bad b = none → s1.snapUnowned c.part (tileDie t) (snapArgs b) = none →
        (op = 0 → s1.memOn (snapArgs b).header (s1.snapHeader c.part (snapArgs b)).length = true ∧
          (s1.store (snapArgs b).header (s1.snapHeader c.part (snapArgs b)) (c.master 0 t)).2 = none) →
        (op = 1 → s1.offOf [((snapArgs b).header, 4096), ((snapArgs b).loss, 64), ((snapArgs b).gnorm, 128)] = none ∧
          s1.badOf [((snapArgs b).header, 4096), ((snapArgs b).loss, 64), ((snapArgs b).gnorm, 128)] = none ∧
          s1.readNat ((snapArgs b).gnorm + 0x40) 4 = (snapArgs b).step ∧
          s1.memOn (snapArgs b).header (sealHeader (s1.readBytes (snapArgs b).header 4096) (s1.readBytes (snapArgs b).loss 64)
            (s1.readBytes (snapArgs b).gnorm 64)).length = true ∧
          (s1.store (snapArgs b).header (sealHeader (s1.readBytes (snapArgs b).header 4096) (s1.readBytes (snapArgs b).loss 64)
            (s1.readBytes (snapArgs b).gnorm 64)) (c.master 0 t)).2 = none) →
        Gives i s (fun s' => ((s'.tile t).routine.map (fun k => (k.number, k.pos))) = some (9, 0))) ∧
      (∀ (k : Routine) (a : SnapArgs), s.callHead t 9 = none → s.running t 9 = some (c, k) → k.failed = none →
        a = snapArgs (leBytes (k.vals.getD 1 0) (k.vals.getD 0 0)) → a.op = op → k.phase = 0 → a.plan.length ≤ k.pos →
        exec i s = .next (s.returnOk t c 0)) ∧
      (∀ (k : Routine) (a : SnapArgs) (m : Nat × Nat × Nat × Nat), s.callHead t 9 = none → s.running t 9 = some (c, k) → k.failed = none →
        a = snapArgs (leBytes (k.vals.getD 1 0) (k.vals.getD 0 0)) → a.op = op → k.phase = 0 → a.plan[k.pos]? = some m →
        exec i s = .next (s.snapPost t k a (a.op == 2) m.1 m.2.1 m.2.2.1))) ∧
    (∀ h l g : Nat, s.callHead t 0xB = some c → s.argsReady t c → h = fieldAt b 0 8 → l = fieldAt b 8 8 → g = fieldAt b 0x10 8 →
      callLen c.w = 32 → fieldAt b 0x18 8 = 0 → h % 4096 = 0 → g % 64 = 0 → h < 2 ^ 48 → l < 2 ^ 48 → g < 2 ^ 48 →
      s1.unownedOf c.part [(h, 4096), (l, 64), (g, 128)] = none → s1.offOf [(h, 4096), (l, 64), (g, 128)] = none →
      s1.badOf [(h, 4096), (l, 64), (g, 128)] = none → s1.readNat (g + 0x40) 4 = s1.readNat (h + 0x18) 8 →
      exec (.stepReplay t) s = .next (s1.returnOk t c (if s1.readBytes l 64 ≠ s1.readBytes (h + 0x40) 64 then 1
        else if s1.readBytes g 64 ≠ s1.readBytes (h + 0x80) 64 then 2 else 0)))

/-- A window opens, a slice starts, and a slice that has run its length ends. -/
def Obligations.SelfTestSlicesRunAndEnd : Prop :=
  (∀ (p : Fin 8) (w : BitVec 16) (v : Bool) (s : State) (x : TestWin) (f hi : Nat), s.windowNow p w.toNat = some (x, f, hi) → s.slicesAllowed = true →
    s.stopHolds (some p) = false → sget (fun _ => 0) s.tests.opened (p * 65536 + w.toNat) / 2 ≠ f + 1 →
    Gives (.testWindow p w v) s (fun s' =>
      sget (fun _ => 0) s'.tests.opened (p * 65536 + w.toNat) = 2 * (f + 1) + b2n (s.windowFits p x v) ∧
      (s.windowFits p x v = false → s'.mem = s.mem ∧ s'.tests.slices = s.tests.slices ∧
        s'.fld (SI_TEST_STATUS p) SI_TEST_STATUS_SKIPPED_COND = (s.fld (SI_TEST_STATUS p) SI_TEST_STATUS_SKIPPED_COND + 1) % 2 ^ 16))) ∧
  (∀ (p : Fin 8) (w : BitVec 16) (s : State) (x : TestWin) (f hi : Nat), s.windowNow p w.toNat = some (x, f, hi) → s.slicesAllowed = true →
    s.stopHolds (some p) = false → sget (fun _ => 0) s.tests.opened (p * 65536 + w.toNat) = 2 * (f + 1) + 1 →
    exec (.selftestSlice p w) s = .next (s.startSlice p x hi)) ∧
  (∀ (p : Fin 8) (w : TestWin) (hi x : Nat) (s : State), (s.cursorPlaces p).find? (fun x => s.sliceFits p w hi x) = some x → cursorUnit x ≠ 5 →
    (s.startSlice p w hi).tests.slices = s.tests.slices ++ [⟨p, cursorTile x, cursorUnit x, cursorBank x, s.zt + sliceLen (cursorUnit x)⟩] ∧
    sget (fun _ => 0) (s.startSlice p w hi).tests.cursor p = x + 1 ∧ (s.startSlice p w hi).mem = s.mem ∧ (s.startSlice p w hi).regs = s.regs) ∧
  (∀ (r : Fin 32) (failed : Bool) (s : State) (x : SliceRun), s.tests.slices.find? (fun x => tileRegion x.tile == r && decide (x.ends ≤ s.zt)) = some x →
    Gives (.selftestSliceEnd r failed) s (fun s' => s'.tests.slices = s.tests.slices.filter (fun y => tileRegion y.tile != r) ∧
      (failed = false → x.part < 8 → s'.fld (SI_TEST_STATUS x.part) SI_TEST_STATUS_RUN = (s.fld (SI_TEST_STATUS x.part) SI_TEST_STATUS_RUN + 1) % 2 ^ 32)))

/-- What the rows of the HBM controllers do in the states in which they are due. -/
def Obligations.StacksTrainFillAndScrub : Prop :=
  ∀ (n : Fin 8) (s : State),
    (∀ o : StackTraining, s.fld (HB_STATUS n) HB_STATUS_STATE = 1 → o.ok = true → o.repairs.length ≤ 32 → o.failCodes.length ≤ 2 →
      Gives (.interfaceTraining n o) s (fun s' => s'.fld (HB_STATUS n) HB_STATUS_STATE = 2 ∧
        s'.fld (HB_STATUS n) HB_STATUS_REPAIRED = o.repairs.length ∧ s'.fld (HB_STATUS n) HB_STATUS_ATTEMPTS = o.failCodes.length + 1)) ∧
    (∀ o : StackTraining, s.fld (HB_STATUS n) HB_STATUS_STATE = 1 → o.ok = false →
      Gives (.interfaceTraining n o) s (fun s' => s'.stackFailed n = true)) ∧
    (s.fld (HB_STATUS n) HB_STATUS_STATE = 2 → Gives (.stackReady n) s (fun s' => s'.fld (HB_STATUS n) HB_STATUS_STATE = 3 ∧
      (∀ a, n * stackBytes ≤ a → a < (n + 1) * stackBytes → sget (fun _ => 0) s'.mem a = 0 ∧ a ∉ s'.ue) ∧
      (∀ a, a < n * stackBytes ∨ (n + 1) * stackBytes ≤ a → sget (fun _ => 0) s'.mem a = sget (fun _ => 0) s.mem a))) ∧
    Gives (.lcWindow n) s (fun s' => s'.lcServed n = (if sget (fun _ => 0) s.lcWin n = s.zt / 1000 then sget (fun _ => 0) s.lcCount n else 0) ∧
      sget (fun _ => 0) s'.lcWin n = s.zt / 1000 ∧ s'.regs = s.regs ∧ s'.mem = s.mem) ∧
    (∀ (m : Nat) (x : Attr), (s.lcUse n m x).lcServed n = s.lcServed n + m ∧
      (s.lcUse n m x).fld (HB_LC n) HB_LC_DEMOTED =
        (s.fld (HB_LC n) HB_LC_DEMOTED + ((s.lcServed n + m - lcShare) - (s.lcServed n - lcShare))) % 2 ^ 32 ∧
      (lcShare < s.lcServed n + m → 0 < m → (s.lcUse n m x).flag (HB_ERR n) HB_ERR_LC_DEMOTE = true)) ∧
    (∀ temp : BitVec 16, s.fld (HB_STATUS n) HB_STATUS_STATE = 3 → Gives (.refresh n temp) s (fun s' =>
      s'.flag (HB_STATUS n) HB_STATUS_REFRESH_X2 = (if 21760 ≤ temp.toInt then true else if temp.toInt < 20480 then false
        else s.flag (HB_STATUS n) HB_STATUS_REFRESH_X2) ∧ s'.mem = s.mem)) ∧
    (s.fld (HB_STATUS n) HB_STATUS_STATE = 3 → s.domState (64 + n) = 5 →
      Gives (.selfRefresh n) s (fun s' => s'.fld (HB_STATUS n) HB_STATUS_STATE = 4 ∧ s'.mem = s.mem)) ∧
    (s.flag (HB_SCRUB n) HB_SCRUB_ENABLE = true → s.fld (HB_STATUS n) HB_STATUS_STATE = 3 → s.domOn (64 + n) = true →
      s.ue.contains (n * stackBytes + s.fld (HB_SCRUB n) HB_SCRUB_POSITION * 32) = false →
      Gives (.patrolScrub n none) s (fun s' => s'.fld (HB_SCRUB n) HB_SCRUB_POSITION = (s.fld (HB_SCRUB n) HB_SCRUB_POSITION + 1) % stackSectors ∧
        s'.mem = s.mem ∧ s'.ue = s.ue)) ∧
    (∀ (ctx : Ctx) (v : Word), ctxGlobal ctx = true → bits v.toNat HB_LOG_BASE_ADDR.hi HB_LOG_BASE_ADDR.lo ≠ s.fld (HB_LOG_BASE n) HB_LOG_BASE_ADDR →
      Gives (.hbLogBase ctx n v) s (fun s' => s'.fld (HB_LOG_BASE n) HB_LOG_BASE_ADDR = bits v.toNat HB_LOG_BASE_ADDR.hi HB_LOG_BASE_ADDR.lo ∧
        s'.fld (HB_LOG_CTRL n) HB_LOG_CTRL_HEAD = 0 ∧ s'.fld (HB_LOG_CTRL n) HB_LOG_CTRL_TAIL = 0)) ∧
    (∀ (ctx : Ctx) (v : Word), ctxGlobal ctx = true → Gives (.hbLogCtrl ctx n v) s (fun s' =>
      s'.fld (HB_LOG_CTRL n) HB_LOG_CTRL_SIZE_LOG2 = bits v.toNat HB_LOG_CTRL_SIZE_LOG2.hi HB_LOG_CTRL_SIZE_LOG2.lo ∧
      s'.fld (HB_LOG_CTRL n) HB_LOG_CTRL_TAIL =
        (if bits v.toNat HB_LOG_CTRL_SIZE_LOG2.hi HB_LOG_CTRL_SIZE_LOG2.lo = s.fld (HB_LOG_CTRL n) HB_LOG_CTRL_SIZE_LOG2
         then bits v.toNat HB_LOG_CTRL_TAIL.hi HB_LOG_CTRL_TAIL.lo else 0)))

/-- DOORBELL: the accepted ones move PROD or CONS to INDEX; a refused one is counted. -/
def Obligations.DoorbellsMoveTheirCounts : Prop :=
  ∀ (ctx : Ctx) (d : Fin 2) (v : Word) (s : State) (q i : Nat) (x : QueueSt), q = bits v.toNat 13 0 → i = bits v.toNat 63 32 → x = s.queue d q →
    (∀ n, ctx ≠ .reserved n) → x.prod < 2 ^ 32 → x.cons < 2 ^ 32 →
    (s.mayRing ctx d q = true → x.enabled = true → bit v.toNat 15 = false → x.indexOk i = true →
      (x.role = 1 → Gives (.doorbell ctx d v) s (fun s' => (s'.queue d q).prod = i ∧ (s'.queue d q).cons = x.cons ∧ s'.mem = s.mem)) ∧
      (x.role = 2 → Gives (.doorbell ctx d v) s (fun s' => (s'.queue d q).cons = i ∧ (s'.queue d q).prod = x.prod ∧ s'.mem = s.mem))) ∧
    ((s.mayRing ctx d q && x.enabled && (x.role == 1 || x.role == 2) && (bit v.toNat 15 || x.indexOk i)) = false →
      Gives (.doorbell ctx d v) s (fun s' => s'.flag (QH_ERR d) QH_ERR_DOORBELL_BAD = true ∧ (s'.queue d q).cons = x.cons ∧
        ((s.window d (scopeWin (ctxPart ctx))).2 % 16384 ≠ q → s'.queue d q = x)))

/-- The commands on the queue that a window selects. -/
def Obligations.QueuesAreEnabledArmedAndReset : Prop :=
  ∀ (ctx : Ctx) (d : Fin 2) (s : State) (w q : Nat) (x : QueueSt), ctxWin ctx = some w → q = s.wsel d w → x = s.queue d q → s.actsOn ctx d q = true →
    (∀ v : Word, x.enabled = false → bit v.toNat 63 = true →
      (s.enableOk (s.queueOwner d q) { x with desc0 := putBits v.toNat 50 48 0 } = true →
        Gives (.enable ctx d v) s (fun s' => (s'.queue d q).desc0 = putBits v.toNat 50 48 0 ∧ (s'.queue d q).enabled = true ∧
          (s'.queue d q).cfgRefused = false)) ∧
      (s.enableOk (s.queueOwner d q) { x with desc0 := putBits v.toNat 50 48 0 } = false →
        Gives (.enable ctx d v) s (fun s' => (s'.queue d q).enabled = false ∧ (s'.queue d q).cfgRefused = true ∧
          s'.flag (QH_ERR d) QH_ERR_CFG_REFUSED = true))) ∧
    Gives (.qhWctrlArm ctx d) s (fun s' => (s'.queue d q).armed = true ∧ (s'.queue d q).fired = false ∧
      (s'.queue d q).prod = x.prod ∧ (s'.queue d q).cons = x.cons) ∧
    Gives (.disarm ctx d) s (fun s' => (s'.queue d q).armed = false ∧ (s'.queue d q).prod = x.prod ∧ (s'.queue d q).cons = x.cons) ∧
    (x.enabled = false → Gives (.qhWctrlReset ctx d) s (fun s' => (s'.queue d q).prod = 0 ∧ (s'.queue d q).cons = 0 ∧ (s'.queue d q).desc0 = x.desc0)) ∧
    (x.enabled = true → Gives (.qhWctrlReset ctx d) s (fun s' => (s'.queue d q).prod = x.prod ∧ (s'.queue d q).cons = x.cons)) ∧
    (∀ u : Ctx, ctxWin u = none → exec (.qhWctrlArm u d) s = .next (s.accessError u (QH_WCTRL d)) ∧
      exec (.disarm u d) s = .next (s.accessError u (QH_WCTRL d)) ∧ exec (.qhWctrlReset u d) s = .next (s.accessError u (QH_WCTRL d)))

/-- One record's collection, and the head word's effect. -/
def Obligations.RecordsAndHeadWordsReachTheirQueues : Prop :=
  (∀ (d : Fin 2) (s : State) (ix : Nat) (r : CompRec) (rest : List CompRec), s.domOn (100 + d) = true → (s.hub d).wbuf = [] → (s.hub d).late = [] →
    (s.hub d).held = [(ix, r :: rest)] → s.fld (QH_STATUS d) QH_STATUS_PASS_POS ≤ ix → s.recFate d r 0 = .write →
    s.memOn ((s.queue d r.cq).slot (s.queue d r.cq).prod) 32 = true →
    Gives (.hubCycle d) s (fun s' => s'.heldRecs d ix = rest ∧ (s'.hub d).wbuf = [] ∧
      (s'.queue d r.cq).prod = ((s.queue d r.cq).prod + 1) % 2 ^ 32 ∧ (s'.queue d r.cq).cons = (s.queue d r.cq).cons ∧
      s'.mem = (s.writeBytes ((s.queue d r.cq).slot (s.queue d r.cq).prod) r.bytes).mem ∧
      s'.fld (QH_ACCEPTED d) QH_ACCEPTED_COUNT = (s.fld (QH_ACCEPTED d) QH_ACCEPTED_COUNT + 1) % 2 ^ 64)) ∧
  (∀ (d : Fin 2) (q : Fin 16384) (s : State), s.domOn (100 + d) = true → (s.hub d).wbuf = [] → (s.hub d).late = [] → (s.hub d).held = [] →
    (s.queue d q).noticeHolds = true →
    Gives (.hubCycle d) s (fun s' => (s'.queue d q).armed = false ∧ (s'.queue d q).fired = true ∧ (s'.queue d q).prod = (s.queue d q).prod ∧
      (s'.queue d q).cons = (s.queue d q).cons ∧ s'.mem = s.mem)) ∧
  (∀ (d : Fin 2) (q : Fin 16384) (s : State) (x : QueueSt) (v : Nat), x = s.queue d q → v = s.readNat x.headAddr 4 → s.domOn (100 + d) = true →
    x.enabled = true → x.tileConsumed = true → x.headAddr ≠ 0 → s.producerFull d q = true → s.memOn x.headAddr 4 = true → s.firstBad x.headAddr 4 = none →
    ((v + 2 ^ 32 - x.cons) % 2 ^ 32 ≤ x.occupancy →
      Gives (.headWordRead d q) s (fun s' => (s'.queue d q).cons = v ∧ (s'.queue d q).prod = x.prod ∧ s'.mem = s.mem)) ∧
    (x.occupancy < (v + 2 ^ 32 - x.cons) % 2 ^ 32 →
      Gives (.headWordRead d q) s (fun s' => (s'.queue d q).cons = x.cons ∧ s'.flag (QH_ERR d) QH_ERR_HEAD_BAD = true)))

/-- The queue's remote signal: its sending with PROD's advance, after the entries are written, and its effect where it is applied. -/
def Obligations.AdvancingProdSignalsItsTile : Prop :=
  ∀ (s : State) (d : Fin 2) (q : Fin 16384) (k : Nat) (x : QueueSt), x = s.queue d q →
    ((s.advanceProd d q k).queue d q).prod = (x.prod + k) % 2 ^ 32 ∧ (s.advanceProd d q k).mem = s.mem ∧
    (x.sigTile = 0xFFFF → (s.advanceProd d q k).sigNet = s.sigNet) ∧
    (x.sigTile ≠ 0xFFFF → (s.advanceProd d q k).sigNet = s.sigNet ++ [⟨0x10000 + d, x.sigTile, 128 + x.sigCounter, 3, k⟩] ∧
      ∀ u : State, (u.applyUpdate x.sigTile (128 + x.sigCounter) 3 k).counter x.sigTile (x.sigCounter % 128) =
        (u.counter x.sigTile (x.sigCounter % 128) + k) % 2 ^ 32)

/-- The two ways in which a vector fires. -/
def Obligations.VectorsFire : Prop :=
  ∀ (s : State) (v : Fin 2048),
    (v.val ∉ s.msiFired → s.flag (UC_MSI_DATA 0 v) UC_MSI_DATA_MASK = false → (s.fld (UC_STATUS 0) UC_STATUS_STATE = 2 ∨ s.fld (UC_STATUS 0) UC_STATUS_STATE = 3) →
      (s.fireVector v).out = s.out ++ [.msi v (s.rd (UC_MSI_SENT 0)) (s.fld (UC_MSI_ADDR 0 v) UC_MSI_ADDR_ADDR * 4) (s.fld (UC_MSI_DATA 0 v) UC_MSI_DATA_DATA)] ∧
      (s.fireVector v).flag (UC_MSI_DATA 0 v) UC_MSI_DATA_PENDING = s.flag (UC_MSI_DATA 0 v) UC_MSI_DATA_PENDING ∧ (s.fireVector v).mem = s.mem) ∧
    (v.val ∉ s.msiFired → (s.flag (UC_MSI_DATA 0 v) UC_MSI_DATA_MASK = true ∨ (s.fld (UC_STATUS 0) UC_STATUS_STATE ≠ 2 ∧ s.fld (UC_STATUS 0) UC_STATUS_STATE ≠ 3)) →
      (s.fireVector v).out = s.out ∧ (s.fireVector v).flag (UC_MSI_DATA 0 v) UC_MSI_DATA_PENDING = true ∧ (s.fireVector v).mem = s.mem) ∧
    (∀ ctx : Ctx, ctxGlobal ctx = true → s.flag (UC_MSI_DATA 0 v) UC_MSI_DATA_PENDING = true → s.linkActive = true →
      Gives (.maskClear ctx v) s (fun s' => s'.flag (UC_MSI_DATA 0 v) UC_MSI_DATA_MASK = false ∧ s'.flag (UC_MSI_DATA 0 v) UC_MSI_DATA_PENDING = false ∧
        s'.out = s.out ++ [.msi v (s.rd (UC_MSI_SENT 0)) (s.fld (UC_MSI_ADDR 0 v) UC_MSI_ADDR_ADDR * 4) (s.fld (UC_MSI_DATA 0 v) UC_MSI_DATA_DATA)])) ∧
    (∀ u : State, (v.val ∈ u.msiFired → u.fireVector v = u) ∧ v.val ∈ (u.fireVector v).msiFired) ∧
    (∀ ctx : Ctx, ctxGlobal ctx = false → exec (.maskClear ctx v) s = .next (s.accessError ctx (UC_MSI_DATA 0 v)))

/-- Each row of the training of a port, in the state in which it is due. -/
def Obligations.PortsTrain : Prop :=
  ∀ (n : Fin 10) (s : State),
    (∀ g : BitVec 9, s.klState n = 1 → s.lanesOn n = true → s.laserOff n = false → 4 ≤ popCount 9 g.toNat →
      Gives (.detect n g) s (fun s' => s'.klState n = 2 ∧ s'.fld (KL_STATUS n) KL_STATUS_CAUSE = 0)) ∧
    (∀ (f : BitVec 9) (l : List Nat), s.klState n = 2 →
      Gives (.equalise n f l) s (fun s' => s'.klState n = 3 ∧ s'.fld (KL_LANES n) KL_LANES_FAILED_RX = f.toNat)) ∧
    (∀ f : BitVec 9, s.klState n = 3 → widthOf (s.failedRx n) ≠ 0 → widthOf (popCount 9 f.toNat) ≠ 0 →
      Gives (.lock n f) s (fun s' => s'.klState n = 4 ∧ s'.fld (KL_STATUS n) KL_STATUS_WIDTH_RX = widthOf (s.failedRx n) ∧
        s'.fld (KL_STATUS n) KL_STATUS_WIDTH_TX = widthOf (popCount 9 f.toNat) ∧ (s'.port n).heard = none ∧ (s'.port n).exchanges = 0)) ∧
    (∀ f : BitVec 9, s.klState n = 3 → (widthOf (s.failedRx n) = 0 ∨ widthOf (popCount 9 f.toNat) = 0) →
      Gives (.lock n f) s (fun s' => s'.klState n = 7 ∧ s'.fld (KL_STATUS n) KL_STATUS_CAUSE = 3)) ∧
    (∀ (flit : List Byte) (age : Nat) (x : PortSt), s.klState n = 4 → x = (s.port n).exchange (s.zt - age) flit →
      (∀ (z at_ : Nat) (c : List Byte), x.heard = some (z, at_, c) → 64 ≤ x.exchanges → (x.back = none ∨ x.content ≠ some c) →
        Gives (.discover n flit age) s (fun s' => s'.klState n = (if s.discoverCheck n c = 2 then 8 else 5) ∧
          s'.fld (KL_STATUS n) KL_STATUS_CHECK = s.discoverCheck n c ∧ s'.fld (KL_DELAY n) KL_DELAY_ROUND_TRIP_PS = x.roundTrip)) ∧
      (∀ (z at_ : Nat) (c : List Byte) (st : Fin 16), x.heard = some (z, at_, c) → 64 ≤ x.exchanges → x.back = some st.val → x.content = some c →
        Gives (.discover n flit age) s (fun s' => s'.klState n = st ∧ s'.fld (KL_STATUS n) KL_STATUS_CHECK = s.fld (KL_STATUS n) KL_STATUS_CHECK)) ∧
      ((x.heard = none ∨ x.exchanges < 64) → exec (.discover n flit age) s = .next (s.setPort n x))) ∧
    (∀ (flit : List Byte) (age : Nat), s.klState n ≠ 4 → exec (.discover n flit age) s = .next s) ∧
    (∀ e ∈ [(2, 25000000), (3, 1000000), (4, 500000)], s.klState n = e.1 → (s.port n).since + e.2 < s.zt →
      Gives (.trainTimeout n) s (fun s' => s'.klState n = 7 ∧ s'.fld (KL_STATUS n) KL_STATUS_CAUSE = 2 ∧ s'.flag (KL_ERR n) KL_ERR_TRAIN_FAIL = true)) ∧
    (s.klState n = 1 → s.fld (KL_PLAN n) KL_PLAN_EXPECT ≠ 0 → (s.port n).since + 500000000 < s.zt →
      Gives (.noPartner n) s (fun s' => s'.klState n = 7 ∧ s'.fld (KL_STATUS n) KL_STATUS_CAUSE = 1)) ∧
    (s.klState n = 7 → s.flag (KL_PLAN n) KL_PLAN_AUTO_RETRAIN = true → s.lanesOn n = true → s.laserOff n = false → (s.port n).since + 100000000 ≤ s.zt →
      Gives (.autoRetrain n) s (fun s' => s'.klState n = 1 ∧ s'.fld (KL_LANES n) KL_LANES_FAILED_RX = 0 ∧ s'.fld (KL_LANES n) KL_LANES_FAILED_TX = 0))

/-- The register bits that control a port. -/
def Obligations.PortsObeyTheirControls : Prop :=
  ∀ (ctx : Ctx) (n : Fin 10) (s : State),
    (klWriter ctx = true →
      (s.klState n = 5 → s.fld (KL_STATUS n) KL_STATUS_CHECK = 1 → Gives (.admitPort ctx n) s (fun s' => s'.klState n = 6)) ∧
      ((s.klState n ≠ 5 ∨ s.fld (KL_STATUS n) KL_STATUS_CHECK ≠ 1) →
        Gives (.admitPort ctx n) s (fun s' => s'.klState n = s.klState n ∧ s'.flag (KL_ERR n) KL_ERR_ADMIT_IGNORED = true ∧ s'.mem = s.mem)) ∧
      (s.klState n = 5 → Gives (.recheck ctx n) s (fun s' => s'.klState n = 4 ∧ (s'.port n).recheck = true)) ∧
      (s.lanesOn n = true → s.laserOff n = false → (s.port n).handling = false →
        Gives (.retrain ctx n) s (fun s' => s'.klState n = 1 ∧ s'.fld (KL_STATUS n) KL_STATUS_CAUSE = 0 ∧
          s'.fld (KL_LANES n) KL_LANES_FAILED_RX = 0 ∧ s'.fld (KL_LANES n) KL_LANES_FAILED_TX = 0)) ∧
      Gives (.disable ctx n) s (fun s' => s'.klState n = 0 ∧ s'.fld (KL_STATUS n) KL_STATUS_CAUSE = 6 ∧ (s'.port n).replay = []) ∧
      (∀ v : Word, Gives (.klPlan ctx n v) s (fun s' => s'.fld (KL_PLAN n) KL_PLAN_EXPECT = bits v.toNat 1 0 ∧
        s'.fld (KL_PLAN n) KL_PLAN_PEER_COORD = bits v.toNat 31 12 ∧ s'.fld (KL_PLAN n) KL_PLAN_PART_MASK = bits v.toNat 39 32 ∧
        s'.fld (KL_PLAN n) KL_PLAN_PEER_PORT = bits v.toNat 43 40 ∧ s'.fld (KL_PLAN n) KL_PLAN_AUTO_RETRAIN = bits v.toNat 47 47))) ∧
    (klWriter ctx = false → exec (.admitPort ctx n) s = .next (s.accessError ctx (KL_CTRL n)) ∧ exec (.recheck ctx n) s = .next (s.accessError ctx (KL_CTRL n)) ∧
      exec (.retrain ctx n) s = .next (s.accessError ctx (KL_CTRL n)) ∧ exec (.disable ctx n) s = .next (s.accessError ctx (KL_CTRL n)) ∧
      (∀ v : Word, exec (.klPlan ctx n v) s = .next (s.accessError ctx (KL_PLAN n))))

/-- Each row of a live link in the state in which it is due. -/
def Obligations.LinksCarryAndLose : Prop :=
  ∀ (n : Fin 10) (s : State),
    (3 ≤ s.klState n → s.klState n ≤ 6 →
      (∀ (er : List Nat) (l : List Slot), er.length ≤ 9 → Gives (.codeword n .uncorrectable er l) s (fun s' => (s'.port n).skipping = true ∧ (s'.port n).nakDue = true ∧
        s'.fld (KL_FEC n) KL_FEC_UNCORRECTABLE = (s.fld (KL_FEC n) KL_FEC_UNCORRECTABLE + 1) % 2 ^ 32 ∧ s'.mem = s.mem)) ∧
      (∀ (er : List Nat) (q : BitVec 16) (ch : Fin 10) (f : List Byte), er.length ≤ 9 → s.carries n = true → q.toNat = (s.port n).rxSeq →
        Gives (.codeword n .clean er [.data q ch f]) s (fun s' => (s'.port n).rxSeq = (q.toNat + 1) % 65536 ∧ (s'.port n).uncorr = 0 ∧ s'.mem = s.mem)) ∧
      (∀ (q : BitVec 16) (ch : Fin 10) (f : List Byte), q.toNat ≠ (s.port n).rxSeq →
        Gives (.codeword n .clean [] [.data q ch f]) s (fun s' => s'.port n = { s.port n with uncorr := 0 } ∧ s'.router = s.router ∧ s'.mem = s.mem ∧ s'.regs = s.regs))) ∧
    (∀ (zt : Nat) (b : List Byte) (rest : List (Nat × List Byte)), (s.port n).ctrlIn = (zt, b) :: rest → (fieldAt b 0 1 = 0 ∨ fieldAt b 0 1 = 2) →
      Gives (.controlFlit n) s (fun s' => (s'.port n).ctrlIn = rest ∧ s'.mem = s.mem ∧
        ((fieldAt b 2 2 + 65536 - (s.port n).ackSeq) % 65536 ≤ ((s.port n).txSeq + 65536 - (s.port n).ackSeq) % 65536 → (s'.port n).ackSeq = fieldAt b 2 2))) ∧
    (∀ (at_ : Nat) (b : List Byte) (rest : List (Nat × List Byte)), (s.port n).ctrlIn = (at_, b) :: rest → fieldAt b 0 1 = 1 → s.klState n = 4 →
      Gives (.controlFlit n) s (fun s' => s'.port n = ({ s.port n with ctrlIn := rest } : PortSt).discoverIn at_ b ∧ s'.mem = s.mem ∧ s'.regs = s.regs)) ∧
    (∀ lane : Fin 9, (s.klState n = 5 ∨ s.klState n = 6) → s.fld (KL_LANES n) KL_LANES_FAILED_RX = 0 →
      Gives (.laneFailed n lane true) s (fun s' => s'.fld (KL_LANES n) KL_LANES_FAILED_RX = 2 ^ lane.val ∧ s'.klState n = s.klState n ∧
        s'.fld (KL_STATUS n) KL_STATUS_WIDTH_RX = 8 ∧ s'.flag (KL_STATUS n) KL_STATUS_SPARE_RX = true ∧ (s'.port n).spareReq = some lane.val)) ∧
    ((s.klState n = 5 ∨ s.klState n = 6) → ((s.port n).degRx = true ∨ (s.port n).degTx = true) → (s.port n).retrainAfter = false →
      widthOf (s.failedRx n) ≠ 0 → widthOf (s.failedTx n) ≠ 0 →
      Gives (.degradeRetrain n 0 0) s (fun s' => s'.klState n = 4 ∧ (s'.port n).back = some (s.klState n) ∧ (s'.port n).degRx = false ∧ (s'.port n).degTx = false)) ∧
    (∀ a b : Bool, s.linkAlive n = true → (a = true ∨ b = true ∨ (s.port n).lastCtrl + 1000 < s.zt ∨ 16 ≤ (s.port n).uncorr) →
      exec (.loss n a b) s = .next (s.portLost n)) ∧
    (s.portLost n).klState n = 7 ∧
    (s.sendsSleep n = true → (s.port n).sleepSent = true → (s.port n).sleepRcvd = true →
      Gives (.sleep n) s (fun s' => s'.klState n = 9 ∧ (s'.port n).back = some (s.klState n))) ∧
    (∀ (zt : Nat) (b : List Byte) (rest : List (Nat × List Byte)), s.klState n = 9 → (s.port n).ctrlIn = (zt, b) :: rest → fieldAt b 0 1 = 3 →
      s.domState (72 + n) = 3 → (∀ st ∈ (s.port n).back, st < 16) →
      Gives (.wakeFlit n) s (fun s' => s'.klState n = (s.port n).back.getD 5 ∧ (s'.port n).ctrlIn = (s.port n).ctrlIn))

/-- Insertion, removal, sensors and the hour count. -/
def Obligations.MediaComeAndGo : Prop :=
  ∀ (n : Fin 10) (s : State),
    (s.fld (KL_STATUS n) KL_STATUS_MEDIUM = 0 →
      Gives (.inserted n .copper) s (fun s' => s'.fld (KL_STATUS n) KL_STATUS_MEDIUM = 1 ∧ (s'.port n).copper = true) ∧
      (∀ (sn : BitVec 64) (body sg : List Byte) (h : BitVec 32) (bias : List Nat),
        Gives (.inserted n (.contrail sn body sg h bias)) s (fun s' => s'.fld (KL_STATUS n) KL_STATUS_MEDIUM = 2 ∧
          ((s'.port n).contrail.map (·.serial)) = some sn.toNat ∧
          (s.record 0x0006 0 = none → s'.klState n = 7 ∧ s'.fld (KL_STATUS n) KL_STATUS_CAUSE = 5)))) ∧
    Gives (.removed n) s (fun s' => s'.fld (KL_STATUS n) KL_STATUS_MEDIUM = 0 ∧ (s'.port n).contrail = none ∧ (s'.port n).copper = false ∧
      (s.linkAlive n = true → s'.klState n = 7)) ∧
    (∀ (c : ContrailSt) (t v : BitVec 16) (bias : List Nat) (power : List (Nat × Nat)), (s.port n).contrail = some c →
      Gives (.contrailSensors n t v bias power) s (fun s' => s'.fld (KL_CONTRAIL_SENS n) KL_CONTRAIL_SENS_CASE_TEMP = t.toNat ∧
        s'.fld (KL_CONTRAIL_SENS n) KL_CONTRAIL_SENS_VCC_MV = v.toNat ∧ ((s'.port n).contrail.map (·.serial)) = some c.serial)) ∧
    (∀ c : ContrailSt, (s.port n).contrail = some c → c.ok = true → c.writtenAt + 600000000000 ≤ s.zt →
      Gives (.hoursWrite n) s (fun s' => s'.loggedHours c.serial = c.hours / 2 ^ 32 ∧ ((s'.port n).contrail.map (fun k => (k.writtenAt, k.stored))) = some (s.zt, c.hours / 2 ^ 32) ∧ s'.mem = s.mem))

/-- PACKET_ARRIVAL and PACKET_BOUNDARY. -/
def Obligations.PacketsAreRouted : Prop :=
  (∀ (i : Fin 11) (c : Fin 10) (s : State) (k : Packet) (rest : List Packet), s.firstFree (s.rxAt i c) = some (k, rest) →
    ¬ (k.kind = 4 ∧ (i.val = 8 ∨ i.val = 9)) →
    (s.quarantined i k = true → exec (.packetArrival i c) s = .next ((s.leaveRx i c k rest).klDiscard i k)) ∧
    (s.ingressBar i k = false → s.flag RT_COORD RT_COORD_VALID = false → exec (.packetArrival i c) s = .next ((s.leaveRx i c k rest).routeDiscard dNoRoute i k)) ∧
    (s.ingressBar i k = false → s.flag RT_COORD RT_COORD_VALID = true →
      (s.headerBad k = true → exec (.packetArrival i c) s = .next ((s.leaveRx i c k rest).routeDiscard dBadHeader i k)) ∧
      (s.headerBad k = false → (k.kind = 6 ∨ k.kind = 7 ∨ (s.hop k i c = .here ∧ s.localFate k = .take)) →
        Gives (.packetArrival i c) s (fun s' => s'.inboxOf k.kind = s.inboxOf k.kind ++ [(i.val, k)] ∧ s'.rxAt i c = rest ∧ s'.mem = s.mem ∧ s'.regs = s.regs)) ∧
      (∀ cause : Nat, s.headerBad k = false → k.kind ≠ 6 → k.kind ≠ 7 →
        (s.hop k i c = .discard cause ∨ (s.hop k i c = .here ∧ s.localFate k = .discard cause)) →
        exec (.packetArrival i c) s = .next ((s.leaveRx i c k rest).routeDiscard cause i k)) ∧
      (∀ (n : Nat) (dl : Bool), s.headerBad k = false → k.kind ≠ 6 → k.kind ≠ 7 → s.hop k i c = .out n dl →
        Gives (.packetArrival i c) s (fun s' => s'.egAt n (chanOf k.cls dl) = s.egAt n (chanOf k.cls dl) ++ [⟨k, i, c, i.val != n ^^^ 1, 0, false⟩] ∧
          s'.rxAt i c = rest ∧ s'.mem = s.mem ∧ s'.regs = s.regs)))) ∧
  (∀ (n c : Fin 10) (s : State) (g : EgPkt), s.klState n = 6 → s.domOn (72 + n) = true → (s.port n).degTx = false → (s.port n).replayFrom = none →
    s.egAt n c = [g] → (∀ x : Fin 10, x ≠ c → s.egAt n x = []) → s.egressBar n g = none → s.packetHeld g.pkt = false → g.judged = 1 →
    g.need n ≤ (s.port n).credits c → g.pkt.flits + ((s.port n).txSeq + 65536 - (s.port n).ackSeq) % 65536 ≤ 8192 →
    Gives (.packetBoundary n) s (fun s' => s'.egAt n c = [] ∧ (s'.port n).txSeq = ((s.port n).txSeq + g.pkt.flits) % 65536 ∧
      (s'.port n).replay = (s.port n).replay ++ [((s.port n).txSeq, c.val, g.pkt)] ∧ s'.out.length = s.out.length + g.pkt.flits ∧ s'.mem = s.mem))

/-- MESSAGE_DELIVERY. -/
def Obligations.MessagesAreDelivered : Prop :=
  ∀ (i : Fin 11) (c : Fin 10) (s : State) (k : Packet) (rest : List Packet) (d q : Nat) (x : QueueSt) (es : List (List Byte)),
    s.firstFree (s.rxAt i c) = some (k, rest) → d = bits k.data 14 14 → q = bits k.data 13 0 → x = s.queue d q → es = messageEntries x.entryBytes k.body →
    (k.kind = 0 ∨ k.kind = 5 ∨ k.kind = 0xB) → k.isModule = false → k.dst = s.coord → s.flag RT_COORD RT_COORD_VALID = true → s.headerBad k = false →
    s.ingressBar i k = false → s.queueValid k = true → x.enabled = true →
    (s.roomFor d q es.length = true → s.domOn (100 + d) = true → (∀ e ∈ enumFrom 0 es, s.memOn (x.slot (x.prod + e.1)) x.entryBytes = true) →
      Gives (.messageDelivery i c) s (fun s' => (s'.queue d q).prod = (x.prod + es.length) % 2 ^ 32 ∧ (s'.queue d q).cons = x.cons ∧ s'.rxAt i c = rest ∧
        s'.mem = ((enumFrom 0 es).foldl (fun s e => s.writeBytes (x.slot (x.prod + e.1)) e.2) s).mem)) ∧
    (s.roomFor d q es.length = false → exec (.messageDelivery i c) s = .next s)

/-- RT_COORD. -/
def Obligations.CoordinatesAreWelkins : Prop :=
  ∀ (v : Word) (s : State),
    ((∀ a : Fin 4, 1 ≤ bits v.toNat (25 + 6 * a.val) (20 + 6 * a.val) ∧ bits v.toNat (25 + 6 * a.val) (20 + 6 * a.val) ≤ 32 ∧
        coordAt v.toNat a < bits v.toNat (25 + 6 * a.val) (20 + 6 * a.val)) →
      Gives (.rtCoord .welkin v) s (fun s' => (∀ a : Fin 4, s'.ringSize a = bits v.toNat (25 + 6 * a.val) (20 + 6 * a.val)) ∧ s'.coord = v.toNat % 2 ^ 20 ∧
        s'.flag RT_COORD RT_COORD_VALID = bit v.toNat 63 ∧ s'.flag RT_STATUS RT_STATUS_COORD_VALID = bit v.toNat 63)) ∧
    ((∃ a : Fin 4, bits v.toNat (25 + 6 * a.val) (20 + 6 * a.val) ≤ coordAt v.toNat a ∨ 32 < bits v.toNat (25 + 6 * a.val) (20 + 6 * a.val)) →
      Gives (.rtCoord .welkin v) s (fun s' => s'.rd RT_COORD = s.rd RT_COORD ∧ s'.flag RT_ERR RT_ERR_COORD_BAD = true)) ∧
    (∀ ctx : Ctx, ctx ≠ .welkin → exec (.rtCoord ctx v) s = .next (s.accessError ctx RT_COORD))

/-- The rows of the epoch switch, in the states in which they are due. -/
def Obligations.EpochsSwitch : Prop :=
  ∀ (ctx : Ctx) (p : Fin 8) (s : State) (a n : Nat), a = s.fld (RT_CLOSE_LIST p) RT_CLOSE_LIST_ADDR → n = s.fld (RT_CLOSE_LIST p) RT_CLOSE_LIST_COUNT →
    (groupWriter ctx p = true → s.epochState p = 0 → s.flag (RT_EPOCH_STATE p) (validFld (1 - s.currentEpoch p)) = true → s.zt + 10000 ≤ s.rd (RT_SWITCH_AT p) →
      s.owns p a (4 * n) = true → s.memOn a (4 * n) = true → s.firstBad a (4 * n) = none → (∀ i < n, s.readNat (a + 4 * i) 4 < 2 ^ 26) →
      Gives (.switch ctx p) s (fun s' => s'.epochState p = 1 ∧ s'.fld (RT_EPOCH_STATE p) RT_EPOCH_STATE_CLOSE_SEEN = 0 ∧
        s'.flag (RT_EPOCH_STATE p) RT_EPOCH_STATE_CLOSES_SENT = false ∧ s'.currentEpoch p = s.currentEpoch p ∧ s'.mem = s.mem ∧
        sget (fun _ => []) s'.router.closing p = (List.range n).map (fun i => s.readNat (a + 4 * i) 4))) ∧
    (groupWriter ctx p = true → (s.epochState p ≠ 0 ∨ s.flag (RT_EPOCH_STATE p) (validFld (1 - s.currentEpoch p)) = false ∨
        s.rd (RT_SWITCH_AT p) < s.zt + 10000 ∨ s.owns p a (4 * n) = false) →
      Gives (.switch ctx p) s (fun s' => s'.epochState p = s.epochState p ∧ s'.flag RT_ERR RT_ERR_EPOCH_REFUSED = true ∧ s'.mem = s.mem)) ∧
    (groupWriter ctx p = false → exec (.switch ctx p) s = .next (s.accessError ctx (RT_EPOCH_CTRL p)) ∧
      exec (.forceDone ctx p) s = .next (s.accessError ctx (RT_EPOCH_CTRL p))) ∧
    (s.epochState p = 1 → s.rd (RT_SWITCH_AT p) ≤ s.zt → s.stopHolds (some p.val) = false →
      Gives (.tSw p) s (fun s' => s'.epochState p = 2 ∧ s'.currentEpoch p = 1 - s.currentEpoch p ∧ s'.mem = s.mem)) ∧
    (s.epochState p = 2 → s.flag (RT_EPOCH_STATE p) RT_EPOCH_STATE_CLOSES_SENT = false → s.runsEpoch p (1 - s.currentEpoch p) = false →
      s.stopHolds (some p.val) = false → Gives (.closesSent p) s (fun s' => s'.flag (RT_EPOCH_STATE p) RT_EPOCH_STATE_CLOSES_SENT = true ∧
        (∀ k ∈ s'.router.heldNew, k.part ≠ p) ∧ (s'.epochState p = 0 ↔
          s.fld (RT_CLOSE_EXPECT p) RT_CLOSE_EXPECT_EXPECT ≤ s.fld (RT_EPOCH_STATE p) RT_EPOCH_STATE_CLOSE_SEEN))) ∧
    (∀ (i : Nat) (k : Packet) (rest : List (Nat × Packet)), s.inboxOf 9 = (i, k) :: rest →
      ((s.epochState k.part = 1 ∨ s.epochState k.part = 2) →
        Gives .epochClose s (fun s' => s'.fld (RT_EPOCH_STATE k.part) RT_EPOCH_STATE_CLOSE_SEEN =
          (s.fld (RT_EPOCH_STATE k.part) RT_EPOCH_STATE_CLOSE_SEEN + 1) % 2 ^ 16 ∧ s'.inboxOf 9 = rest)) ∧
      (s.epochState k.part ≠ 1 → s.epochState k.part ≠ 2 → Gives .epochClose s (fun s' => s'.flag RT_ERR RT_ERR_CLOSE_LATE = true ∧ s'.inboxOf 9 = rest ∧
        s'.epochState k.part = s.epochState k.part))) ∧
    (groupWriter ctx p = true → s.epochState p = 2 → s.flag (RT_EPOCH_STATE p) RT_EPOCH_STATE_CLOSES_SENT = true →
      Gives (.forceDone ctx p) s (fun s' => s'.epochState p = 0 ∧ s'.currentEpoch p = s.currentEpoch p ∧
        s'.fld (RT_EPOCH_STATE p) RT_EPOCH_STATE_SWITCHES = (s.fld (RT_EPOCH_STATE p) RT_EPOCH_STATE_SWITCHES + 1) % 2 ^ 32)) ∧
    (s.epochState p = 2 → s.fld (RT_CLOSE_EXPECT p) RT_CLOSE_EXPECT_TIMEOUT_US ≠ 0 →
      s.rd (RT_SWITCH_AT p) + s.fld (RT_CLOSE_EXPECT p) RT_CLOSE_EXPECT_TIMEOUT_US * 1000 + sget (fun _ => 0) s.router.extra p < s.zt →
      p.val ∉ s.router.timedOut → s.stopHolds (some p.val) = false →
      Gives (.epochTimeout p) s (fun s' => s'.flag RT_ERR RT_ERR_CLOSE_TIMEOUT = true ∧ s'.epochState p = 2 ∧ p.val ∈ s'.router.timedOut))

/-- STORAGE_ENTRY, READ_DATA, STATUS and STORAGE_TIMEOUT. -/
def Obligations.StorageRequestsRun : Prop :=
  ∀ (e : Fin 2) (s : State) (n : Nat), n = 8 + e.val →
    (∀ (j d q : Nat) (y : QueueSt) (b : List Byte), (s.port n).reqs.length < 16 → (s.port n).dones = [] → s.storageQueue n = some j → d = j / 16384 →
      q = j % 16384 → y = s.queue d q → b = s.readBytes (y.slot y.cons) 64 → s.memOn (y.slot y.cons) 64 = true → s.firstBad (y.slot y.cons) 64 = none →
      storageEntryOk b = true → seOp b = 1 → s.ownerMemory (s.queueOwner d q) (seAddr b) (seLen b) = true → s.klState n = 6 →
      Gives (.storageEntry e) s (fun s' => ((s'.port n).reqs.map (·.tag)) = (s.port n).reqs.map (·.tag) ++ [(s.port n).nextTag] ∧
        (s'.queue d q).cons = (y.cons + 1) % 2 ^ 32 ∧ (s'.port n).turn = j + 1 ∧ s'.mem = s.mem)) ∧
    (∀ (k : Packet) (rest : List Packet) (r : StorageReq) (a : Nat) (data : List Byte), s.storageIn n = some (k, rest) → fieldAt k.body 0 1 = 2 →
      s.storageReq n k = some r → seOp r.entry = 1 → 32 ≤ k.body.length → seOffset r.entry ≤ fieldAt k.body 0x10 8 → data = k.body.drop 32 →
      (fieldAt k.body 0x10 8 - seOffset r.entry) + data.length ≤ seLen r.entry → a = seAddr r.entry + (fieldAt k.body 0x10 8 - seOffset r.entry) →
      s.memOn a data.length = true → s.firstFailed a data.length = none → (∀ j < data.length, s.inFailed (a + j) = false) → s.partlyBad a data.length = [] →
      s.plain a data.length →
      Gives (.readData e) s (fun s' => (∀ j < data.length, s'.byte (a + j) = data.getD j 0) ∧
        (∀ u, s.plain u 1 → (u < a ∨ a + data.length ≤ u) → s'.byte u = s.byte u) ∧ s'.regs = s.regs)) ∧
    (∀ (k : Packet) (rest : List Packet) (r : StorageReq), s.storageIn n = some (k, rest) → fieldAt k.body 0 1 = 5 → s.storageReq n k = some r →
      (fieldAt k.body 1 1 ≠ 0 → exec (.status e) s = .next ((s.leaveRx n 4 k rest).storageEnd n r 2 (fieldAt k.body 1 1))) ∧
      (fieldAt k.body 1 1 = 0 → r.moved = seLen r.entry → r.ue = false → exec (.status e) s = .next ((s.leaveRx n 4 k rest).storageEnd n r 0 0))) ∧
    (∀ (tag : BitVec 32) (r : StorageReq), (s.port n).reqs.find? (fun r => r.tag == tag.toNat) = some r → s.fld (KL_LIMITS n) KL_LIMITS_STORAGE_TIMEOUT ≠ 0 →
      r.last + s.fld (KL_LIMITS n) KL_LIMITS_STORAGE_TIMEOUT * 1000 < s.zt → s.stopHolds r.owner = false →
      exec (.storageTimeout e tag) s = .next (s.storageEnd n r 4 0)) ∧
    (∀ (r : StorageReq) (cause node : Nat), ∀ x ∈ ((s.storageEnd n r cause node).port n).reqs, x.tag ≠ r.tag)

/-- PROD_POLL, and the start of REDUCE_SCATTER, ALL_GATHER, ALL_REDUCE, BROADCAST, PERMUTE, SEND and READ. -/
def Obligations.CollectivesStart : Prop :=
  ∀ (a : Fin 4) (p : Fin 8) (s : State),
    (∀ w v : Nat, w = s.fld (CE_PROD_ADDR a p) CE_PROD_ADDR_ADDR → v = s.readNat w 4 → s.flag (CE_RING a p) CE_RING_ENABLE = true → s.pairRuns a p = true →
      s.fld (CE_PTR a p) CE_PTR_PROD = s.fld (CE_PTR a p) CE_PTR_CONS → sget (fun _ => 0) (s.ce a).pollAt p ≤ s.zt → s.memOn w 4 = true → s.firstBad w 4 = none →
      ((v + 2 ^ 32 - s.fld (CE_PTR a p) CE_PTR_CONS) % 2 ^ 32 ≤ 2 ^ s.fld (CE_RING a p) CE_RING_SIZE_LOG2 →
        Gives (.prodPoll a p) s (fun s' => s'.fld (CE_PTR a p) CE_PTR_PROD = v ∧ s'.fld (CE_PTR a p) CE_PTR_CONS = s.fld (CE_PTR a p) CE_PTR_CONS ∧ s'.mem = s.mem)) ∧
      (2 ^ s.fld (CE_RING a p) CE_RING_SIZE_LOG2 < (v + 2 ^ 32 - s.fld (CE_PTR a p) CE_PTR_CONS) % 2 ^ 32 →
        Gives (.prodPoll a p) s (fun s' => s'.rd (CE_PTR a p) = s.rd (CE_PTR a p) ∧ s'.flag (CE_ERR a) CE_ERR_PROD_BAD = true))) ∧
    (∀ (i : Instr) (op slot addr : Nat) (b : List Byte), (i, op) ∈ [(Instr.reduceScatter a p, 1), (.allGather a p, 2), (.allReduce a p, 3), (.broadcast a p, 4),
        (.permute a p, 5), (.send a p, 6), (.read a p, 7)] →
      s.ceHead a p = some (slot, addr) → s.pairRuns a p = true → ((s.ce a).ops.filter (fun o => o.part == p.val)).length < 4 →
      (∀ o ∈ (s.ce a).ops, o.no < (s.ce a).started ∧ o.axis = a) → s.memOn addr 128 = true → s.firstBad addr 128 = none → b = s.readBytes addr 128 →
      (ceDesc b).op = op → ((ceDesc b).epochWait = true → s.epochPending p = false) → (op = 5 → (s.ce a).places.length < 32 ∨ (s.tagPlace a p (ceDesc b).tag).isSome = true) →
      (op = 5 → s.firstOff (ceDesc b).table (32 * (ceDesc b).tableCount) = none) →
      Gives i s (fun s' => (s'.ce a).started = (s.ce a).started + 1 ∧ s'.fld (CE_PTR a p) CE_PTR_CONS = (s.fld (CE_PTR a p) CE_PTR_CONS + 1) % 2 ^ 32 ∧
        (∃ o ∈ (s'.ce a).ops, o.no = (s.ce a).started ∧ o.part = p ∧ o.desc = b ∧ o.epoch = s.currentEpoch p ∧
          (s.flag TL_TRACE_CTRL TL_TRACE_CTRL_ENABLE = false → ∀ f, (s.ceStartFault a p b) = some f → o.fault = some f)))) ∧
    (s.flag (CE_RING a p) CE_RING_ENABLE = false → s.ceHead a p = none)

/-- The events of a running operation that are not data. -/
def Obligations.CollectivesDecideAndEnd : Prop :=
  (∀ (a : Fin 4) (p : Fin 8) (k : Fin 4) (s : State) (o : CeOp) (w : Nat), s.opAt a p k = some o → o.d.reduces = true → o.contrib = none → o.fault = none →
    s.pairRuns a p = true → w = o.d.contribAddr → w ≠ 0 → s.memOn w 4 = true → s.firstBad w 4 = none →
    (o.readAt ≤ s.zt → (o.d.deadline = 0 ∨ s.zt < o.d.deadline) →
      (s.readNat w 4 ≠ 0 → exec (.contribution a p k) s = .next ((s.hbRead w 4 o.hb).initOp { o with contrib := some true })) ∧
      (s.readNat w 4 = 0 → exec (.contribution a p k) s = .next ((s.hbRead w 4 o.hb).putOp { o with readAt := s.zt + 40 }))) ∧
    (o.d.deadline ≠ 0 → o.d.deadline ≤ s.zt → exec (.deadline a p k) s = .next ((s.hbRead w 4 o.hb).initOp { o with contrib := some (s.readNat w 4 != 0) }))) ∧
  (∀ (e : Fin 8) (s s1 : State) (k : Packet) (o : CeOp), s1.opOf e k = some o → o.axis = e.val % 4 →
    (s.collective e 2 = some (k, s1) → k.attempt = o.attempt → o.done ||| k.mask ≠ o.done →
      Gives (.doneMsg e) s (fun s' => ∀ x ∈ (s'.ce (e.val % 4)).ops, x.no = o.no → x.done = o.done ||| k.mask)) ∧
    (s.collective e 5 = some (k, s1) → o.fault = none → k.attempt = o.attempt → ∀ l, s1.decisionLine o = some (l, 0) →
      exec (.decideMsg e) s = .next (s1.applyDecision { o with last := s1.zt } (if k.flagBit then 1 else if k.restart then 2 else 3))) ∧
    (s.collective e 6 = some (k, s1) → o.fault = none → o.told = false →
      Gives (.collectiveAbort e) s (fun s' => ∀ x ∈ (s'.ce (e.val % 4)).ops, x.no = o.no → x.fault = some (stDataFault, 6))) ∧
    (s.collective e 4 = some (k, s1) → o.stopped = true → s1.opNo (e.val % 4) o.no = some o → ∀ l n, s1.decisionLine o = some (l, n) → n + 1 < l.length →
      exec (.decideReq e) s = .next ((s1.lineCtl o l (n + 1) 0 4
        (b2n (k.flagBit && s1.finishedBit { o with stopped := false }) * 2 ^ 123)).putOp { o with last := s1.zt }))) ∧
  (∀ (e : Fin 8) (s s1 : State) (k : Packet), s.collective e 3 = some (k, s1) →
    exec (.linkBreak e) s = .next (((if (s1.brokenLinks (e.val % 4)).contains (k.offset % 32) then s1
      else (s1.recordBreak (e.val % 4) (k.offset % 32)).openPast (e.val % 4) (some k.part)).sendBreak (e.val % 4) k.part (engineWay e) (k.offset % 32)).stopOps
      (e.val % 4) (some k.part)) ∧ ((s1.brokenLinks (e.val % 4)).length < 2 → k.offset % 32 ∈ (s1.recordBreak (e.val % 4) (k.offset % 32)).brokenLinks (e.val % 4))) ∧
  (∀ (a : Fin 4) (p : Fin 8) (k : Fin 4) (s : State) (o : CeOp), s.opAt a p k = some o → o.axis = a → s.pairRuns a p = true →
    (s.fld (CE_LIMIT a p) CE_LIMIT_TIMEOUT_US ≠ 0 → o.d.op ≠ 6 → o.ready0 = true → o.fault = none → s.opDone o = false →
      o.last + 1000 * s.fld (CE_LIMIT a p) CE_LIMIT_TIMEOUT_US < s.zt →
      Gives (.collectiveTimeout a p k) s (fun s' => ∀ x ∈ (s'.ce a).ops, x.no = o.no → x.fault = some (stDataFault, 4))) ∧
    (∀ t : State, s.opDone o = true → s.finishOp o = some t → (∀ e ∈ [(o.d.resultAddr, 64), (o.d.statsAddr, 192)], e.1 = 0 ∨ s.firstOff e.1 e.2 = none) →
      Gives (.collectiveComplete a p k) s (fun s' => s' = t ∧ ∀ x ∈ (s'.ce a).ops, x.no ≠ o.no))) ∧
  (∀ (a : Fin 4) (p : Fin 8) (tag : BitVec 32) (s : State) (x : PermPlace), s.tagPlace a p tag.toNat = some x → s.pairRuns a p = true →
    ((s.ce a).ops.any (fun o => o.part == p.val && o.d.op == 5 && o.d.tag == x.tag)) = false → s.fld (CE_LIMIT a p) CE_LIMIT_TIMEOUT_US ≠ 0 →
    x.first + 1000 * s.fld (CE_LIMIT a p) CE_LIMIT_TIMEOUT_US < s.zt →
    Gives (.placeExpiry a p tag) s (fun s' => s'.tagPlace a p tag.toNat = none ∧ s'.mem = s.mem)) ∧
  (∀ (ctx : Ctx) (n : Fin 8) (s : State), (klWriter ctx = true → Gives (.clearBreak ctx n) s (fun s' => s'.brokenLinks (n.val % 4) = [] ∧ s'.mem = s.mem)) ∧
    (klWriter ctx = false → exec (.clearBreak ctx n) s = .next (s.accessError ctx (CE_CTRL n))))

/-- DATA, READY, REQUEST and REPLY. -/
def Obligations.CollectiveDataAreApplied : Prop :=
  (∀ (e : Fin 8) (s s1 : State) (k : Packet) (o : CeOp) (addr n : Nat), s.collective e 0 = some (k, s1) → s1.opOf e k = some o → n = k.body.length → addr = o.d.dst + k.offset →
    (o.stopped = false → o.ready0 = true → o.fault = none → k.attempt = o.attempt → k.mode = o.mode →
      (((s1.geom o).arrivals (s1.cePlace o) (engineWay e)).any (fun x => x.phase == k.phase && x.off == k.offset && x.len == n)) = true →
      o.has (engineWay e) k.phase k.offset n = false → s1.memOn addr n = true → (k.phase = 0 → s1.firstBad addr n = none) → s1.firstFailed addr n = none →
      s1.partlyBad addr n = [] → s1.plain addr n → (∀ j < n, s1.inFailed (addr + j) = false) → (if k.phase = 0 then combineBytes o.d.fmt (s1.readBytes addr n) k.body else k.body).length = n →
      ∃ (s2 : State) (o2 : CeOp), exec (.data e) s = .next (s2.advanceRing o2) ∧ o2.no = o.no ∧ o2.fault = none ∧ o2.has (engineWay e) k.phase k.offset n = true ∧
        s2.readBytes addr n = (if k.phase = 0 then combineBytes o.d.fmt (s1.readBytes addr n) k.body else k.body) ∧
        (∀ u, s1.plain u 1 → (u < addr ∨ addr + n ≤ u) → s2.byte u = s1.byte u)) ∧
    (o.has (engineWay e) k.phase k.offset n = true → Gives (.data e) s (fun s' => s'.flag (CE_ERR e) CE_ERR_STALE = true ∧ s'.mem = s.mem))) ∧
  (∀ (e : Fin 8) (s s1 : State) (k : Packet), s.collective e 1 = some (k, s1) →
    (s1.opOf e k = none → (sget (fun _ => []) (s1.ce (e.val % 4)).readys (k.part * 2 + engineSide e)).length < 8 →
      Gives (.ready e) s (fun s' => sget (fun _ => []) (s'.ce (e.val % 4)).readys (k.part * 2 + engineSide e) =
        sget (fun _ => []) (s1.ce (e.val % 4)).readys (k.part * 2 + engineSide e) ++ [(k.opTag, k.attempt, k.mode)] ∧ s'.mem = s.mem ∧ s'.regs = s.regs)) ∧
    (∀ o : CeOp, s1.opOf e k = some o → o.ready0 = true → o.fault = none → k.attempt = o.attempt → k.mode = o.mode →
      exec (.ready e) s = .next (s1.advanceRing { o with ready := engineSide e :: o.ready, last := s1.zt }))) ∧
  (∀ (i : Fin 11) (c : Fin 10) (s : State) (k : Packet) (rest : List Packet) (addr n : Nat), s.firstFree (s.rxAt i c) = some (k, rest) → k.kind = 2 → k.isModule = false →
    k.dst = s.coord → s.flag RT_COORD RT_COORD_VALID = true → s.headerBad k = false → s.ingressBar i k = false → addr = bits k.data 47 0 → n = bits k.data 57 48 →
    s.replyCredits ⟨mkHdr k.src s.coord k.part 3 k.epoch false false 3 n k.layerOp (bits k.data 76 61 + bits k.data 60 58 * 2 ^ 16), zeros n⟩ = true →
    (s.owns k.part addr n = true → s.memOn addr n = true → s.firstBad addr n = none →
      exec (.request i c) s = .next (((((s.leaveRx i c k rest).addFld (CE_REPLY 0) CE_REPLY_REQUESTS 1).count 4 0 0x09 1 k.attr).hbRead addr n
        { part := some k.part, master := some 7, cls := some 2 }).injectPacket
        ⟨mkHdr k.src s.coord k.part 3 k.epoch false false 3 n k.layerOp (bits k.data 76 61 + bits k.data 60 58 * 2 ^ 16), s.readBytes addr n⟩)) ∧
    (s.owns k.part addr n = false →
      exec (.request i c) s = .next (((((s.leaveRx i c k rest).addFld (CE_REPLY 0) CE_REPLY_REQUESTS 1).count 4 0 0x09 1 k.attr).addFld (CE_REPLY 0)
        CE_REPLY_FAULTS 1).injectPacket ⟨mkHdr k.src s.coord k.part 3 k.epoch false false 3 0 k.layerOp
          (bits k.data 76 61 + bits k.data 60 58 * 2 ^ 16 + 2 ^ 19), []⟩))) ∧
  (∀ (e : Fin 8) (s : State) (x : Nat × Packet) (o : CeOp) (r : Nat × Nat × Nat), ((s.inboxOf 3).find? (fun x => x.2.engine == e.val)) = some x →
    s.pairRuns (e.val % 4) x.2.part = true → ((s.ce (e.val % 4)).ops.find? (fun o => o.part == x.2.part && o.reqs.any (fun r => r.1 == bits x.2.data 15 0))) = some o →
    o.reqs.find? (fun r => r.1 == bits x.2.data 15 0) = some r → bits x.2.data 21 19 = 0 → s.memOn (o.d.dst + r.2.1) x.2.body.length = true →
    s.firstFailed (o.d.dst + r.2.1) x.2.body.length = none → s.partlyBad (o.d.dst + r.2.1) x.2.body.length = [] → s.plain (o.d.dst + r.2.1) x.2.body.length →
    (∀ j < x.2.body.length, s.inFailed (o.d.dst + r.2.1 + j) = false) →
    ∃ s2 : State, exec (.reply e) s = .next (s2.advanceP2p { o with reqs := o.reqs.filter (fun q => q.1 != bits x.2.data 15 0), last := s.zt }) ∧
      s2.readBytes (o.d.dst + r.2.1) x.2.body.length = x.2.body ∧ s2.inboxOf 3 = (s.inboxOf 3).erase x ∧
      (∀ u, s.plain u 1 → (u < o.d.dst + r.2.1 ∨ o.d.dst + r.2.1 + x.2.body.length ≤ u) → s2.byte u = s.byte u))

/-- The rows of Zenith that keep its time. -/
def Obligations.ZenithElectsAndDisciplines : Prop :=
  ∀ s : State,
    (sget (fun _ => 0) s.zenith.annSent 0 ≤ s.zt → s.bestCand.isSome = true → s.flag RT_COORD RT_COORD_VALID = true →
      Gives .announceSend s (fun s' => sget (fun _ => 0) s'.zenith.annSent 0 = s.zt + 125000 ∧
        (∀ n ∈ s.zenithPorts, (s'.egAt n 0).length = (s.egAt n 0).length + 1))) ∧
    (∀ (n : Nat) (k : Packet) (s1 : State), s.timeIn 0 = some (n, k, s1) → s.zenithPort n = true →
      Gives .announce s (fun s' => sget (fun _ => none) s'.zenith.anns n =
        some ⟨bits k.data 5 4, bits k.data 13 6, bits k.data 21 14, bits k.data 85 22, bits k.data 88 86, s.zt⟩ ∧ s'.inboxOf 6 = s1.inboxOf 6)) ∧
    (∀ p : Nat, s.znParent = some p → s.liveAnns = [] → s.flag ZN_ELECT ZN_ELECT_ELIGIBLE = false → s.znState = 2 →
      Gives .parentTimeout s (fun s' => s'.znState = 3 ∧ s'.znParent = none ∧ s'.flag ZN_STATUS ZN_STATUS_ROOT = false ∧
        s'.flag ZN_ERR ZN_ERR_PARENT_LOST = true ∧ s'.flag ZN_ERR ZN_ERR_LOCK_LOST = true)) ∧
    (s.zenith.lastWin < s.zt / 1000 → Gives .window s (fun s' => s'.zenith.lastWin = s.zt / 1000 ∧
      (s.znParent = none → s'.zt = s.zt ∧ (s.znState = 3 → s'.zenith.rate = s.zenith.avg)))) ∧
    (∀ n : Fin 8, s.zenithPort n = true → sget (fun _ => 0) s.zenith.syncSent n ≤ s.zt → 1000 ≤ s.zt → s.flag RT_COORD RT_COORD_VALID = true →
      Gives (.timeSyncSend n) s (fun s' => sget (fun _ => 0) s'.zenith.syncSent n = s.zt + 16000 ∧ (s'.egAt n 0).length = (s.egAt n 0).length + 1)) ∧
    (∀ (n : Nat) (k : Packet) (s1 : State) (x : ZnWindow), s.timeIn 1 = some (n, k, s1) → s.zenithPort n = true → s.znParent = some n → bit k.data 116 = true →
      ((sget (fun _ => []) s.zenith.windows n).filter (fun x => decide (x.start + 1000 ≤ s.zt) && decide (s.zt / 1000 ≤ x.start / 1000 + 16))).find? (fun x => x.start == bits k.data 67 4) = some x →
      Gives .timeSync s (fun s' => (sget (fun _ => none) s'.zenith.pairs n).map (fun q => (q.parent, q.asym)) =
        some (signed 32 (bits k.data 99 68), signed 16 (s.fld (ZN_CAL_ASYM n) ZN_CAL_ASYM_EFFECTIVE) - signed 16 (bits k.data 115 100)))) ∧
    (∀ sec : Nat, s.flag ZN_STATUS ZN_STATUS_ROOT = true → s.flag ZN_REF_CFG ZN_REF_CFG_PPS_EN = true → s.zenith.nextSec = some sec →
      Gives .refPpsIn s (fun s' => s'.zenith.nextSec = none ∧ s'.zenith.edgeSec = some sec ∧ s'.flag ZN_STATUS ZN_STATUS_TOD_VALID = true)) ∧
    (s.flag ZN_STATUS ZN_STATUS_ROOT = true → s.flag ZN_REF_CFG ZN_REF_CFG_PPS_EN = true → s.zenith.lastEdge ≠ 0 → s.zenith.lastEdge + 2000000000 < s.zt →
      Gives .refLost s (fun s' => s'.flag ZN_ERR ZN_ERR_REF_LOST = true ∧ s'.zenith.lastEdge = 0 ∧ (s.fld ZN_STATUS ZN_STATUS_QUALITY = 2 →
        s'.fld ZN_STATUS ZN_STATUS_QUALITY = 1))) ∧
    (∀ (ctx : Ctx) (v : Word), (znWriter ctx = true → Gives (.znNextSec ctx v) s (fun s' => s'.zenith.nextSec = some v.toNat ∧ s'.regs = s.regs)) ∧
      (znWriter ctx = false → exec (.znNextSec ctx v) s = .next (s.accessError ctx ZN_NEXT_SEC) ∧ exec (.reacquire ctx) s = .next (s.accessError ctx ZN_CTRL)) ∧
      (znWriter ctx = true → (∀ p : Fin 8, s.flag (SI_STATUS p) SI_STATUS_ACTIVE = false ∧ s.stage p ≠ 3 ∧ s.stage p ≠ 4) →
        Gives (.reacquire ctx) s (fun s' => s'.znState = 1 ∧ s'.zenith.stepped = false ∧ s'.zt = s.zt)) ∧
      (znWriter ctx = true → (∃ p : Fin 8, s.flag (SI_STATUS p) SI_STATUS_ACTIVE = true) →
        Gives (.reacquire ctx) s (fun s' => s'.znState = s.znState ∧ s'.flag ZN_ERR ZN_ERR_STEP_REFUSED = true)))

/-- PPS_OUT, TOD_OUT and FRAME_BOUNDARY. -/
def Obligations.TimeOutputsAndFrames : Prop :=
  ∀ s : State,
    (s.zenith.ppsAt < s.ppsSecond → s.flag ZN_OUT_CFG ZN_OUT_CFG_PPS_EN = true → (s.shownState = 2 ∨ s.shownState = 3 ∨ s.shownState = 4) →
      Gives .ppsOut s (fun s' => s'.out = s.out ++ [.pps (s.ppsSecond * 10 ^ 9)] ∧ s'.zenith.todFor = some s.ppsSecond ∧ s'.zenith.ppsAt = s.ppsSecond)) ∧
    (s.zenith.ppsAt < s.ppsSecond → s.flag ZN_OUT_CFG ZN_OUT_CFG_PPS_EN = false → Gives .ppsOut s (fun s' => s'.out = s.out ∧ s'.zenith.ppsAt = s.ppsSecond)) ∧
    (s.fld ZN_CAL_PPS_OUT ZN_CAL_PPS_OUT_EFFECTIVE = 0 → s.zenith.acc < 10 ^ 9 → s.ppsSecond = s.zt / 10 ^ 9) ∧
    (∀ sec : Nat, s.zenith.todFor = some sec → sec * 10 ^ 9 + 10000000 ≤ s.zt →
      Gives .todOut s (fun s' => s'.zenith.todFor = none ∧ s'.out.length = s.out.length + (if s.flag ZN_OUT_CFG ZN_OUT_CFG_TOD_EN then 1 else 0) ∧ s'.regs = s.regs)) ∧
    (∀ (p : Fin 8) (img : Image) (j : Fin 4), s.flag (SI_STATUS p) SI_STATUS_ACTIVE = true → (s.part p).active = some img →
      sget (fun _ => 0) s.zenith.frameAt p * (img.head.frameUs * 1000) ≤ s.zt → (∀ k : Fin 4, k ≠ j → s.flag (ZN_FRAME_SIG p k) ZN_FRAME_SIG_ENABLE = false) →
      s.flag (ZN_FRAME_SIG p j) ZN_FRAME_SIG_ENABLE = true → ∀ t, t = s.fld (ZN_FRAME_SIG p j) ZN_FRAME_SIG_TILE →
      (s.stopHolds (some p.val) = false → t < 2048 → s.tileOwner t = some p.val → s.physUsable (s.physOf t) = true →
        Gives (.frameBoundary p) s (fun s' => sget (fun _ => 0) s'.zenith.frameAt p = sget (fun _ => 0) s.zenith.frameAt p + 1 ∧
          s'.sigNet = s.sigNet ++ [⟨0x10020, t, 128 + s.fld (ZN_FRAME_SIG p j) ZN_FRAME_SIG_COUNTER, 3, 1⟩] ∧
          s'.fld (ZN_FRAME_COUNT p) ZN_FRAME_COUNT_FRAMES = (s.fld (ZN_FRAME_COUNT p) ZN_FRAME_COUNT_FRAMES + 1) % 2 ^ 32 ∧ s'.mem = s.mem)) ∧
      (s.stopHolds (some p.val) = true → Gives (.frameBoundary p) s (fun s' => sget (fun _ => 0) s'.zenith.frameAt p = sget (fun _ => 0) s.zenith.frameAt p + 1 ∧
        s'.sigNet = s.sigNet ∧ s'.fld (ZN_FRAME_COUNT p) ZN_FRAME_COUNT_MISSED = (s.fld (ZN_FRAME_COUNT p) ZN_FRAME_COUNT_MISSED + 1) % 2 ^ 16)))

/-- The rows of the Overcast stop. -/
def Obligations.OvercastStops : Prop :=
  ∀ s : State,
    (∀ ctx : Ctx, znWriter ctx = true →
      (s.leadShort = false → s.zt < s.rd ZN_STOP_T → Gives (.stop ctx) s (fun s' => s.ownOrder 0 false (s.rd ZN_STOP_T) ∈ s'.zenith.orders ∧
        s'.zenith.nextId = (s.zenith.nextId + 1) % 2 ^ 32 ∧ s'.fld ZN_STOP_STATE ZN_STOP_STATE_STOPPED = s.fld ZN_STOP_STATE ZN_STOP_STATE_STOPPED)) ∧
      (s.leadShort = false → s.resumable (s.ownOrder 1 false 0) = true → Gives (.znResume ctx) s (fun s' => s.ownOrder 1 false (s.rd ZN_STOP_T) ∈ s'.zenith.orders)) ∧
      (s.leadShort = true → Gives (.stop ctx) s (fun s' => s'.zenith = s.zenith ∧ s'.flag ZN_ERR ZN_ERR_STOP_REFUSED = true) ∧
        Gives (.znResume ctx) s (fun s' => s'.zenith = s.zenith ∧ s'.flag ZN_ERR ZN_ERR_STOP_REFUSED = true)) ∧
      (s.resumable (s.ownOrder 1 false 0) = false → Gives (.znResume ctx) s (fun s' => s'.zenith = s.zenith ∧ s'.flag ZN_ERR ZN_ERR_STOP_REFUSED = true))) ∧
    Gives (.immediate .welkin) s (fun s' => s'.fld ZN_STOP_STATE ZN_STOP_STATE_STOPPED =
      s.fld ZN_STOP_STATE ZN_STOP_STATE_STOPPED ||| (s.ownOrder 0 true s.zt).holds ∧ s'.flag ZN_ERR ZN_ERR_STOP_LATE = true ∧
      (∀ p : Fin 8, (s.flag ZN_STOP_SCOPE ZN_STOP_SCOPE_ALL = true ∨ bit (s.fld ZN_STOP_SCOPE ZN_STOP_SCOPE_SCOPE) p = true) → s'.stopHolds (some p.val) = true)) ∧
    (∀ ctx : Ctx, (ctx ≠ .welkin → exec (.immediate ctx) s = .next (s.accessError ctx ZN_STOP_CMD)) ∧
      (znWriter ctx = false → exec (.stop ctx) s = .next (s.accessError ctx ZN_STOP_CMD) ∧ exec (.znResume ctx) s = .next (s.accessError ctx ZN_STOP_CMD))) ∧
    (∀ (n : Nat) (k : Packet) (rest : List (Nat × Packet)), s.inboxOf 7 = (n, k) :: rest →
      (s.zenithPort n = true → (stopOrderOf k).id ∉ s.zenith.seen →
        exec .stopPacket s = .next (((s.setInbox 7 rest).actOnStop (stopOrderOf k)).flood (stopOrderOf k) n)) ∧
      ((stopOrderOf k).id ∈ s.zenith.seen → exec .stopPacket s = .next (s.setInbox 7 rest))) ∧
    (∀ o : StopOrder, s.zenith.orders.find? (fun o => o.action == 0 && o.stoppedAt.isNone && decide (o.t ≤ s.zt)) = some o → o.kind = 0 → o.scope < 256 →
      Gives .stopAtT s (fun s' => s'.fld ZN_STOP_STATE ZN_STOP_STATE_STOPPED = s.fld ZN_STOP_STATE ZN_STOP_STATE_STOPPED ||| o.holds ∧
        (o.all = true → s'.flag ZN_STOP_STATE ZN_STOP_STATE_ALL = true) ∧ { o with stoppedAt := some o.t, smear := 0 } ∈ s'.zenith.orders ∧ s'.mem = s.mem)) ∧
    (∀ (o : StopOrder) (a : Nat), s.zenith.orders.find? (fun o => o.action == 0 && o.stoppedAt.isSome && !o.written) = some o →
      a = s.fld ZN_STOP_REC_ADDR ZN_STOP_REC_ADDR_ADDR / 64 * 64 → (a = 0 ∨ memExtent a 64 = false ∨ s.memOn a 64 = true) →
      Gives .tQuiet s (fun s' => (∀ x ∈ s'.zenith.orders, x.id = o.id → x.action = 0 → x.written = true) ∧ s'.zenith.orders.length = s.zenith.orders.length)) ∧
    (∀ o : StopOrder, s.zenith.orders.find? (fun o => o.action == 1 && decide (o.t ≤ s.zt)) = some o →
      (∀ p : Fin 8, s.stage p ≠ 3 ∧ s.epochState p ≠ 1) → (∀ a : Fin 4, (s.ce a).ops = []) →
      Gives .resumeAtT2 s (fun s' => s'.fld ZN_STOP_STATE ZN_STOP_STATE_STOPPED = s.fld ZN_STOP_STATE ZN_STOP_STATE_STOPPED &&&
          ((resumeOrders o s.zenith.orders).filter (fun x => x.action == 0 && x.stoppedAt.isSome)).foldl (fun m x => m ||| x.holds) 0 ∧
        (o.all = true → s'.flag ZN_STOP_STATE ZN_STOP_STATE_ALL = false) ∧ o ∉ s'.zenith.orders ∧ s'.mem = s.mem))

/-- The rows of the Tally unit. -/
def Obligations.TallyIsConfiguredAndWrites : Prop :=
  ∀ (ctx : Ctx) (s : State) (v : Word),
    (∀ (n : Fin 16) (k i : Nat), k = selKind (s.rd TL_SEL) → i = selInst (s.rd TL_SEL) → ctxGlobal ctx = true → s.hasCounter k i n = true →
      (cfgAOk k v.toNat = true → Gives (.cfga ctx none n v) s (fun s' => s'.counterA k i n = v.toNat ∧ s'.cfgGen k i = (s.cfgGen k i + 1) % 2 ^ 32 ∧ s'.mem = s.mem)) ∧
      (cfgAOk k v.toNat = false → Gives (.cfga ctx none n v) s (fun s' => s'.counterA k i n = s.counterA k i n ∧ s'.cfgGen k i = s.cfgGen k i ∧
        s'.flag TL_ERR TL_ERR_CFG_REFUSED = true))) ∧
    (∀ (n : Fin 16) (p q : Fin 8), (q ≠ p ∨ s.ownsSelected p = false) →
      exec (.cfga (.kernel q) (some p) n v) s = .next (s.accessError (.kernel q) (TL_PCFGA p n))) ∧
    (∀ i : Fin 4, ctxGlobal ctx = true → bit v.toNat 63 = false →
      Gives (.snapEnable ctx i v) s (fun s' => s'.flag (TL_SNAP_CTRL i) TL_SNAP_CTRL_ENABLE = false ∧ s'.fld (TL_SNAP_CTRL i) TL_SNAP_CTRL_PERIOD_NS = bits v.toNat 39 0 ∧
        s'.fld (TL_SNAP_CTRL i) TL_SNAP_CTRL_LIST_FIRST = bits v.toNat 61 56 ∧ s'.fld (TL_SNAP_CTRL i) TL_SNAP_CTRL_LIST_COUNT = bits v.toNat 54 48)) ∧
    (∀ (i : Fin 4) (t head a : Nat), s.snapAt i = some t → t ≤ s.zt → s.tally.waiting = [] → head = s.fld (TL_SNAP_PTR i) TL_SNAP_PTR_HEAD →
      a = s.fld (TL_SNAP_RING i) TL_SNAP_RING_BASE + head % s.snapSlots i * s.snapSlot i →
      ((head + 2 ^ 32 - s.fld (TL_SNAP_PTR i) TL_SNAP_PTR_TAIL) % 2 ^ 32 = s.snapSlots i →
        Gives (.snapshotInstant i) s (fun s' => s'.snapNo i = s.snapNo i + 1 ∧ s'.rd (TL_SNAP_PTR i) = s.rd (TL_SNAP_PTR i) ∧
          s'.fld (TL_SNAP_STAT i) TL_SNAP_STAT_DROPPED = (s.fld (TL_SNAP_STAT i) TL_SNAP_STAT_DROPPED + 1) % 2 ^ 32 ∧ s'.mem = s.mem)) ∧
      ((head + 2 ^ 32 - s.fld (TL_SNAP_PTR i) TL_SNAP_PTR_TAIL) % 2 ^ 32 ≠ s.snapSlots i → s.memOn a (s.snapBytes i t).length = true →
        Gives (.snapshotInstant i) s (fun s' => s'.snapNo i = s.snapNo i + 1 ∧ s'.fld (TL_SNAP_PTR i) TL_SNAP_PTR_HEAD = (head + 1) % 2 ^ 32 ∧
          s'.fld (TL_SNAP_PTR i) TL_SNAP_PTR_TAIL = s.fld (TL_SNAP_PTR i) TL_SNAP_PTR_TAIL ∧ s'.tally.waiting = []))) ∧
    (ctxGlobal ctx = true →
      (∀ i : Fin 4, Gives (.tlSnapRing ctx i v) s (fun s' => s'.rd (TL_SNAP_PTR i) = 0 ∧ s'.fld (TL_SNAP_RING i) TL_SNAP_RING_BASE = bits v.toNat 47 0 ∧ s'.mem = s.mem)) ∧
      (∀ d : Fin 2, bits v.toNat 52 48 ≠ s.fld (TL_TRACE_BASE d) TL_TRACE_BASE_SIZE_LOG2 →
        Gives (.tlTraceBase ctx d v) s (fun s' => s'.fld (TL_TRACE_PTR d) TL_TRACE_PTR_HEAD = 0 ∧ s'.fld (TL_TRACE_PTR d) TL_TRACE_PTR_TAIL = 0 ∧
          s'.fld (TL_TRACE_BASE d) TL_TRACE_BASE_SIZE_LOG2 = bits v.toNat 52 48 ∧ s'.fld (TL_TRACE_BASE d) TL_TRACE_BASE_ADDR = bits v.toNat 47 0)) ∧
      Gives (.tlDbgBase ctx false v) s (fun s' => s'.fld TL_DBG_BASE TL_DBG_BASE_ADDR = bits v.toNat 47 0 ∧ s'.rd TL_DBG_PTR = 0) ∧
      Gives (.tlDbgBase ctx true v) s (fun s' => s'.fld TL_DBG_SIZE TL_DBG_SIZE_SIZE_LOG2 = bits v.toNat 4 0 ∧ s'.rd TL_DBG_PTR = 0) ∧
      (∀ w : Fin 8, s.flag (TL_WATCH_CTRL w) TL_WATCH_CTRL_ENABLE = false → bit v.toNat 63 = false →
        Gives (.watchEnable ctx w v) s (fun s' => s'.flag (TL_WATCH_CTRL w) TL_WATCH_CTRL_ENABLE = false ∧ s'.fld (TL_WATCH_CTRL w) TL_WATCH_CTRL_HANDLE = bits v.toNat 31 0 ∧
          s'.fld (TL_WATCH_CTRL w) TL_WATCH_CTRL_PARTITION = bits v.toNat 58 56)))

/-- VOTE, QUIESCENCE and TRANSITION of the power domains. -/
def Obligations.DomainsFollowTheirVotes : Prop :=
  ∀ (i : Fin 102) (s : State),
    (∀ (ctx : Ctx) (v : Word) (f : Fld), voteField ctx = some f → s.domPresent i = true →
      (bits v.toNat f.hi f.lo ≠ 3 → Gives (.vote ctx i v) s (fun s' => s'.fld (PD_DOM i) f = bits v.toNat f.hi f.lo ∧
        s'.domTarget i = [s'.fld (PD_DOM i) PD_DOM_HOST, s'.fld (PD_DOM i) PD_DOM_LIB, s'.fld (PD_DOM i) PD_DOM_WELKIN, s'.fld (PD_DOM i) PD_DOM_IMAGE,
          s'.fld (PD_DOM i) PD_DOM_DEP, s'.fld (PD_DOM i) PD_DOM_FLOOR].foldl max 0)) ∧
      (bits v.toNat f.hi f.lo = 3 → exec (.vote ctx i v) s = .next (s.pdErr PD_ERR_VOTE_BAD) ∧ (s.pdErr PD_ERR_VOTE_BAD).mem = s.mem ∧
        ∀ k : Fin 102, (s.pdErr PD_ERR_VOTE_BAD).rd (PD_DOM k) = s.rd (PD_DOM k))) ∧
    (∀ (ctx : Ctx) (v : Word), voteField ctx = none → exec (.vote ctx i v) s = .next (s.accessError ctx (PD_DOM i))) ∧
    (s.domOn i = true → s.domTarget i < 2 →
      (s.quiescent i (s.domTarget i) = true → Gives (.quiescence i) s (fun s' => s'.domState i = (if s.domTarget i = 0 then 4 else 5) ∧
        (∀ k, k ≠ i → s'.domState k = s.domState k) ∧ s'.mem = s.mem ∧ s'.tiles = s.tiles)) ∧
      (s.quiescent i (s.domTarget i) = false → exec (.quiescence i) s = .next s)) ∧
    (∀ o : UcieTraining,
      (s.domState i = 4 → Gives (.transition i o) s (fun s' => (s'.domState i = 1 ∨ s'.domState i = 6) ∧
        s'.fld (PD_DOM i) PD_DOM_TRANSITIONS = (s.fld (PD_DOM i) PD_DOM_TRANSITIONS + 1) % 2 ^ 16)) ∧
      (s.domState i = 5 → ¬(64 ≤ i.val ∧ i.val < 72 ∧ s.fld (HB_STATUS (i - 64)) HB_STATUS_STATE = 3) →
        Gives (.transition i o) s (fun s' => (s'.domState i = 2 ∨ s'.domState i = 4 ∨ s'.domState i = 6) ∧
          s'.fld (PD_DOM i) PD_DOM_TRANSITIONS = (s.fld (PD_DOM i) PD_DOM_TRANSITIONS + 1) % 2 ^ 16)) ∧
      (s.domState i = 6 → (32 ≤ i.val ∧ i.val < 64) ∨ 92 ≤ i.val → Gives (.transition i o) s (fun s' => s'.domState i = 3 ∧
        s'.fld (PD_DOM i) PD_DOM_TRANSITIONS = (s.fld (PD_DOM i) PD_DOM_TRANSITIONS + 1) % 2 ^ 16)) ∧
      (s.domState i = 6 → i.val < 32 → s.domOn (32 + i) = false → exec (.transition i o) s = .next s) ∧
      (s.domState i = 5 → 64 ≤ i.val → i.val < 72 → s.fld (HB_STATUS (i - 64)) HB_STATUS_STATE = 3 → exec (.transition i o) s = .next s) ∧
      (s.domState i < 4 → exec (.transition i o) s = .next s))

/-- Drizzle mode's rows, and those of the I3C port. -/
def Obligations.DrizzleSleepsSamplesAndWakes : Prop :=
  ∀ s : State,
    (∀ (ctx : Ctx) (v : Word) (s1 : State), ctxGlobal ctx = true → bit v.toNat 63 = true → s.drizzling = false →
      s1 = ((s.setFld PD_DZ_CTRL PD_DZ_CTRL_WAKE_ON_ALERT (bits v.toNat 62 62)).setFld PD_DZ_CTRL PD_DZ_CTRL_RESUME_MASK (bits v.toNat 55 48)).setFld
        PD_DZ_CTRL PD_DZ_CTRL_INTERVAL_MS (bits v.toNat 13 0) →
      (s1.drizzleAllowed = true → Gives (.enter ctx v) s (fun s' => s'.drizzling = true ∧ s'.bootState = 4 ∧
        s'.power.sampleAt = (s.zt / (bits v.toNat 13 0 * 1000000) + 1) * (bits v.toNat 13 0 * 1000000) ∧ (∀ k, s'.domState k = s.domState k))) ∧
      (s1.drizzleAllowed = false → Gives (.enter ctx v) s (fun s' => s'.drizzling = false ∧ s'.flag PD_ERR PD_ERR_DZ_REFUSED = true ∧
        s'.bootState = s.bootState ∧ s'.mem = s.mem))) ∧
    (∀ readings : List (BitVec 32), s.drizzling = true → s.power.sampleAt ≤ s.zt → (∀ n < 16, s.flag (PD_DZ_THR n) PD_DZ_THR_ENABLE = false) →
      s.welkin.reqs = [] → s.welkin.mgmt = [] →
      (s.power.wake = 0 → Gives (.sample readings) s (fun s' => s'.drizzling = true ∧ s'.power.sampleAt = s.nextSample ∧ s'.mem = s.mem ∧
        s'.fld PD_DZ_STATUS PD_DZ_STATUS_SAMPLES = (s.fld PD_DZ_STATUS PD_DZ_STATUS_SAMPLES + 1) % 2 ^ 32)) ∧
      (s.power.wake ≠ 0 → Gives (.sample readings) s (fun s' => s'.drizzling = false ∧ s'.bootState = 3 ∧ s'.power.wake = 0 ∧
        s'.fld PD_STATUS PD_STATUS_WAKE_CAUSE = s.power.wake % 16 ∧
        s'.fld PD_DZ_STATUS PD_DZ_STATUS_SAMPLES = (s.fld PD_DZ_STATUS PD_DZ_STATUS_SAMPLES + 1) % 2 ^ 32 ∧
        s'.fld PD_DZ_STATUS PD_DZ_STATUS_EXITS = (s.fld PD_DZ_STATUS PD_DZ_STATUS_EXITS + 1) % 2 ^ 16 ∧
        (∀ k < 102, s.domPresent k = true → bit (s.fld PD_DZ_CTRL PD_DZ_CTRL_RESUME_MASK) (domKind k) = true →
          s'.fld (PD_DOM k) PD_DOM_WELKIN = 2)))) ∧
    (∀ addr : BitVec 7, s.drizzling = true → addr.toNat = s.fld WK_I3C WK_I3C_STATIC_ADDR →
      Gives (.addressMatch addr false) s (fun s' => s'.drizzling = false ∧ s'.bootState = 3 ∧
        s'.fld PD_STATUS PD_STATUS_WAKE_CAUSE = putBits s.power.wake 0 0 1 % 16)) ∧
    (∀ (k : Nat × Packet) (rest : List (Nat × Packet)), s.inboxOf 8 = k :: rest →
      (s.drizzling = true → Gives .wake s (fun s' => s'.drizzling = false ∧ s'.bootState = 3 ∧
        s'.fld PD_STATUS PD_STATUS_WAKE_CAUSE = putBits s.power.wake 2 2 1 % 16)) ∧
      (s.drizzling = false → s.power.wokeAt ≠ some s.zt → exec .wake s = .next (s.setInbox 8 rest))) ∧
    (∀ (i2c : Bool) (frame : List Byte),
      (s.portAcks i2c = false → exec (.privateWrite i2c frame) s = .next s ∧ exec (.privateRead i2c) s = .next s) ∧
      (s.portAcks i2c = true →
        (frameOk frame = true → codes.contains (fieldAt frame 8 2) = true → s.outstanding true = false →
          Gives (.privateWrite i2c frame) s (fun s' => s'.welkin.reqs = s.welkin.reqs ++ [⟨true, fieldAt frame 2 2, frame.drop 8⟩] ∧
            s'.fld WK_STATUS WK_STATUS_I3C_MODE = (if i2c then 2 else 1))) ∧
        (frameOk frame = true → codes.contains (fieldAt frame 8 2) = false →
          exec (.privateWrite i2c frame) s = .next ((s.portMode i2c).answer true (fieldAt frame 2 2) (fieldAt frame 8 2) 1 [])) ∧
        (frameOk frame = false →
          exec (.privateWrite i2c frame) s = .next ((s.portMode i2c).answer true (fieldAt frame 2 2) (fieldAt frame 8 2) 2 [])) ∧
        (∀ (b : List Byte) (rest : List (List Byte)), s.welkin.answers = b :: rest →
          Gives (.privateRead i2c) s (fun s' => s'.welkin.answers = rest ∧ s'.out = s.out ++ [.frame false b] ∧ s'.mem = s.mem)))) ∧
    (∀ addr : BitVec 7, s.bootState ≠ 4 → Gives (.dynamicAddressAssignment addr) s (fun s' => s'.fld WK_I3C WK_I3C_DYN_ADDR = addr.toNat ∧
      s'.flag WK_I3C WK_I3C_DYN_VALID = true ∧ s'.fld WK_STATUS WK_STATUS_I3C_MODE = 1 ∧ s'.mem = s.mem))

/-- The common discipline of the request rows, the staging buffer, and the requests that only answer. -/
def Obligations.RequestsAreTakenInTurn : Prop :=
  ∀ (s : State) (i3c : Bool) (seq : Nat),
    (∀ (ok : Bool) (fails : Fin 3) (found : BitVec 32), ∀ x ∈ requestRows ok fails found, ∀ args : List Byte,
      (s.welkinServes = true → s.codeAllowed x.2 = false → exec (x.1 (.waiting i3c)) (s.ask i3c seq x.2 args) = .next (s.answer i3c seq x.2 3 [])) ∧
      (s.mayServe x.2 → 244 < args.length → exec (x.1 (.waiting i3c)) (s.ask i3c seq x.2 args) = .next (s.answer i3c seq x.2 2 [])) ∧
      (s.welkinServes = false → exec (x.1 (.waiting i3c)) (s.ask i3c seq x.2 args) = .next (s.ask i3c seq x.2 args)) ∧
      (∀ n : BitVec 16, (s.welkin.reqs = [] → s.outstanding false = false →
          exec (x.1 (.mail n args)) s = exec (x.1 (.waiting false)) (s.ask false n.toNat x.2 args)) ∧
        (s.outstanding false = true → exec (x.1 (.mail n args)) s = .next (s.respond false n.toNat [])))) ∧
    (∀ n : Nat, s.mayServe 2 → 1 ≤ n → n ≤ 6291456 →
      (s.bufferBusy i3c = false → exec (.bufBegin (.waiting i3c)) (s.ask i3c seq 2 (leBytes 4 n)) =
        .next ((s.claim { i3c := i3c, len := n, last := s.start.clock }).answer i3c seq 2 0 [])) ∧
      (s.bufferBusy i3c = true → exec (.bufBegin (.waiting i3c)) (s.ask i3c seq 2 (leBytes 4 n)) = .next (s.answer i3c seq 2 4 []))) ∧
    (∀ (b : WkBuffer) (off : Nat), s.welkin.buffer = some b → b.i3c = i3c → off < 2 ^ 32 →
      (∀ d : List Byte, s.mayServe 3 → d.length ≤ 236 → off + d.length ≤ b.len →
        exec (.bufWrite (.waiting i3c)) (s.ask i3c seq 3 (leBytes 4 off ++ leBytes 4 d.length ++ d)) =
          .next ((s.claim { b with last := s.start.clock, bytes := bufferPut b.bytes off d }).answer i3c seq 3 0 []) ∧
        ({ b with bytes := bufferPut b.bytes off d }).read off d.length = d ∧
        (∀ a, a < off ∨ off + d.length ≤ a → ({ b with bytes := bufferPut b.bytes off d }).read a 1 = b.read a 1)) ∧
      (∀ n : Nat, s.mayServe 4 → n ≤ 240 → off + n ≤ b.len → exec (.bufRead (.waiting i3c)) (s.ask i3c seq 4 (leBytes 4 off ++ leBytes 4 n)) =
        .next ((s.claim { b with last := s.start.clock }).answer i3c seq 4 0 (b.read off n))) ∧
      (s.mayServe 5 → exec (.bufRelease (.waiting i3c)) (s.ask i3c seq 5 []) = .next (s.releaseBuffer.answer i3c seq 5 0 [])) ∧
      (b.last + 60000000000 ≤ s.start.clock → exec .bufTimeout s = .next s.releaseBuffer) ∧
      (s.start.clock < b.last + 60000000000 → exec .bufTimeout s = .next s)) ∧
    (∀ args : List Byte, args.length ≤ 244 → ∀ x ∈ [(Instr.bufWrite, 3), (Instr.bufRead, 4), (Instr.bufRelease, 5)], s.mayServe x.2 →
      (s.welkin.buffer = none → exec (x.1 (.waiting i3c)) (s.ask i3c seq x.2 args) = .next (s.answer i3c seq x.2 3 [])) ∧
      (s.bufferBusy i3c = true → exec (x.1 (.waiting i3c)) (s.ask i3c seq x.2 args) = .next (s.answer i3c seq x.2 4 []))) ∧
    (s.mayServe 1 → exec (.getStatus (.waiting i3c)) (s.ask i3c seq 1 []) =
      .next (s.answer i3c seq 1 0 (leBytes 8 s.wkStatus ++ leBytes 8 (s.rd ID_LIBRARY) ++ leBytes 8 (s.rd WK_ERR)))) ∧
    (∀ (first : Nat) (n : Nat), s.mayServe 0x70 → first < 2 ^ 32 → 1 ≤ n → n ≤ 7 →
      exec (.logRead (.waiting i3c)) (s.ask i3c seq 0x70 (leBytes 4 first ++ leBytes 1 n)) =
        .next (s.answer i3c seq 0x70 0 (leBytes 4 (s.logFrom first n).length ++ (s.logFrom first n).flatten))) ∧
    (∀ c : Nat, s.mayServe 0x71 → c < 2 ^ 16 → s.sensorExists c = true → exec (.sensorRead (.waiting i3c)) (s.ask i3c seq 0x71 (leBytes 2 c)) =
      .next (s.answer i3c seq 0x71 0 (leBytes 4 (s.sensor c).1 ++ leBytes 8 (s.sensor c).2))) ∧
    (∀ m : Nat, s.mayServe 0x11 → m = max s.fuses.minSvn (s.fld WK_STATUS WK_STATUS_FW_SVN) →
      exec (.svnCommit (.waiting i3c)) (s.ask i3c seq 0x11 []) =
        .next (({ s with fuses := { s.fuses with minSvn := m } } : State).answer i3c seq 0x11 0 (leBytes 1 m))) ∧
    (s.bufferBusy i3c = false →
      (∀ nonce : List Byte, s.mayServe 0x20 → nonce.length = 32 →
        (∀ x : List Byte, s.fuses.seed = some x → Gives (.attest (.waiting i3c)) (s.ask i3c seq 0x20 nonce) (fun s' =>
          s'.welkin.draws = s.welkin.draws + 1 ∧ s'.fuses = s.fuses ∧ s'.welkin.buffer = some ⟨i3c, 4096,
            bufferPut [] 0 (padTo 4096 (s.reportBody nonce ++ padTo 3309 (Config.mldsaSign x (s.reportBody nonce) s.welkin.draws))), s.start.clock⟩)) ∧
        (s.fuses.seed = none → ∃ r : Nat, 1 ≤ r ∧ r ≤ 9 ∧ exec (.attest (.waiting i3c)) (s.ask i3c seq 0x20 nonce) =
          .next (({ s with free := s.free + 1 } : State).answer i3c seq 0x20 r []))) ∧
      (∀ c : List Byte, s.mayServe 0x21 → s.record 5 0 = some c → exec (.getCert (.waiting i3c)) (s.ask i3c seq 0x21 []) =
        .next ((s.fillBuffer i3c c).answer i3c seq 0x21 0 (leBytes 4 c.length))) ∧
      (s.mayServe 0x22 →
        (∀ x : List Byte, s.fuses.seed = some x → exec (.idPubkey (.waiting i3c)) (s.ask i3c seq 0x22 []) =
          .next ((s.fillBuffer i3c (padTo 1952 (Config.mldsaPublic x))).answer i3c seq 0x22 0 [])) ∧
        (s.fuses.seed = none → s.fuses.lifecycle = 1 → Gives (.idPubkey (.waiting i3c)) (s.ask i3c seq 0x22 []) (fun s' =>
          ∃ x : List Byte, x.length = 32 ∧ s'.fuses = { s.fuses with seed := some x }))) ∧
      (∀ (ty ix : Nat) (b : List Byte), s.mayServe 0x31 → ty < 2 ^ 16 → ix < 2 ^ 16 → s.storedRecord ty ix = some b →
        exec (.recordRead (.waiting i3c)) (s.ask i3c seq 0x31 (leBytes 2 ty ++ leBytes 2 ix)) =
          .next ((s.fillBuffer i3c b).answer i3c seq 0x31 0 (leBytes 4 b.length))))

/-- The requests with an effect beyond their answer, and the rows of Welkin's own clock. -/
def Obligations.RequestsChangeTheModule : Prop :=
  ∀ (s : State) (i3c : Bool) (seq : Nat),
    (∀ (b : WkBuffer) (img : List Byte) (fails : Fin 3), s.mayServe 0x10 → s.welkin.buffer = some b → b.i3c = i3c → img = b.read 0 b.len →
      (s.fwVerdict img = 0 → fails < 2 → Gives (.fwCommit (.waiting i3c) fails) (s.ask i3c seq 0x10 []) (fun s' =>
        s'.welkin.fw = img.take (fwTotal img) ∧ s'.welkin.buffer = none ∧ s'.mem = s.mem ∧ (s.bootState = 2 → s'.bootState = 0 ∧ s'.fld SI_START SI_START_PHASE = 1))) ∧
      (s.fwVerdict img ≠ 0 → Gives (.fwCommit (.waiting i3c) fails) (s.ask i3c seq 0x10 []) (fun s' =>
        s'.welkin.fw = s.welkin.fw ∧ s'.welkin.buffer = none ∧ s'.bootState = s.bootState))) ∧
    (∀ (b : WkBuffer) (r : List Byte), s.mayServe 0x30 → s.welkin.buffer = some b → b.i3c = i3c → r = b.read 0 b.len → recSigner (recTy r) ≠ some 2 →
      recordFormOk r = true → s.recordAllowed (recTy r) = true →
      (s.recordMine r = true → s.recordVerifies r = true → recordBodyOk r = true →
        Gives (.recordWrite (.waiting i3c) true) (s.ask i3c seq 0x30 []) (fun s' => s'.welkin.records = s.welkin.records ++ [r] ∧ s'.welkin.buffer = none)) ∧
      (∀ ok : Bool, s.recordMine r = false ∨ s.recordVerifies r = false → exec (.recordWrite (.waiting i3c) ok) (s.ask i3c seq 0x30 []) =
        .next ((s.claim { b with last := s.start.clock }).answer i3c seq 0x30 5 []))) ∧
    (s.mayServe 0x40 → Gives (.lcChallenge (.waiting i3c)) (s.ask i3c seq 0x40 []) (fun s' => s'.welkin.draws = s.welkin.draws + 1 ∧
      ∃ c : List Byte, c.length = 32 ∧ s'.welkin.challenge = some (c, s.start.clock))) ∧
    (∀ (t at_ : Nat) (c : List Byte), s.mayServe 0x41 → c.length = 32 → s.fuses.lcTarget = none → lcRow s.fuses.lifecycle t = true → s.lcReady t = true →
      s.welkin.challenge = some (c, at_) → s.start.clock < at_ + 60000000000 → (t = 4 → s.rmaSigned c = true) →
      Gives (.lcTransition (.waiting i3c)) (s.ask i3c seq 0x41 (leBytes 1 t ++ zeros 3 ++ c)) (fun s' =>
        s'.fuses = { s.fuses with lcTarget := some t } ∧ s'.welkin.challenge = none ∧ s'.welkin.buffer = none)) ∧
    (∀ b : List Byte, s.mayServe 0x50 → planOk b = true →
      Gives (.planSet (.waiting i3c) true) (s.ask i3c seq 0x50 b) (fun s' => s'.welkin.plan = some b ∧ s'.welkin.planFlash = some b) ∧
      exec (.planSet (.waiting i3c) false) (s.ask i3c seq 0x50 b) = .next ((s.wkErr WK_ERR_FLASH).answer i3c seq 0x50 7 [])) ∧
    (∀ b : List Byte, s.mayServe 0x51 → b.length = 8 →
      exec (.timeSet (.waiting i3c)) (s.ask i3c seq 0x51 b) = .next ((s.nextSecond (leNat b)).answer i3c seq 0x51 0 [])) ∧
    (∀ m : Nat, s.mayServe 0x52 → s.welkin.retrain = none →
      (m = 0 → exec (.linkRetrain (.waiting i3c)) (s.ask i3c seq 0x52 (leBytes 1 m)) = .next (s.answer i3c seq 0x52 0 [])) ∧
      (1 ≤ m → m ≤ 3 → Gives (.linkRetrain (.waiting i3c)) (s.ask i3c seq 0x52 (leBytes 1 m)) (fun s' =>
        s'.welkin.retrain = some { i3c := i3c, seq := seq, mask := m } ∧ (∀ k < 2, bit m k = true → s'.fld (UC_STATUS k) UC_STATUS_STATE = 4)))) ∧
    (∀ b : List Byte, s.mayServe 0x53 → 8 ≤ b.length → b.length ≤ 244 → fieldAt b 0 4 < 2 ^ 20 → s.welkin.fabric = none →
      Gives (.fabricRequest (.waiting i3c)) (s.ask i3c seq 0x53 b) (fun s' =>
        s'.welkin.fabric = some { i3c := i3c, seq := seq, tag := s.welkin.nextTag, at_ := s.zt } ∧ s'.welkin.nextTag = (s.welkin.nextTag + 1) % 65536)) ∧
    (∀ w : WkWait, s.welkin.fabric = some w →
      (w.at_ + 10000000 < s.zt → exec .fabricTimeout s = .next ((s.setWk { s.welkin with fabric := none }).answer w.i3c w.seq 0x53 9 [])) ∧
      (s.zt ≤ w.at_ + 10000000 → exec .fabricTimeout s = .next s)) ∧
    (∀ (n : Nat) (k : Packet) (rest : List (Nat × Packet)), s.inboxOf 0xA = (n, k) :: rest →
      (k.data % 16 = 0 → 8 ≤ s.welkin.mgmt.length → exec .mgmt s = .next (s.setInbox 0xA rest)) ∧
      (k.data % 16 = 0 → s.welkin.mgmt.length < 8 → s.welkinServes = false →
        Gives .mgmt s (fun s' => s'.welkin.mgmt = s.welkin.mgmt ++ [(k.src, bits k.data 19 4, k.body)] ∧ s'.inboxOf 0xA = rest)) ∧
      (∀ w : WkWait, k.data % 16 = 1 → s.welkinServes = true → s.welkin.fabric = some w → w.tag = bits k.data 19 4 →
        Gives .mgmt s (fun s' => s'.welkin.fabric = none ∧ s'.inboxOf 0xA = rest))) ∧
    (∀ v : Nat, s.mayServe 0x60 → v < 2 → Gives (.selftestEnable (.waiting i3c)) (s.ask i3c seq 0x60 (leBytes 1 v)) (fun s' =>
      s'.fld SI_TEST_CTRL SI_TEST_CTRL_ENABLE = v ∧ s'.mem = s.mem)) ∧
    (∀ (kind first n : Nat) (found : BitVec 32), s.mayServe 0x61 → kind ≤ 7 → first + n ≤ 2048 →
      exec (.selftestFull (.waiting i3c) found) (s.ask i3c seq 0x61 (leBytes 1 kind ++ leBytes 2 first ++ leBytes 2 n)) =
        .next (s.answer i3c seq 0x61 0 (leBytes 4 found.toNat))) ∧
    (∀ d r c mask : Nat, s.mayServe 0x62 → d < 2 → r < 32 → c < 33 → mask < 256 →
      Gives (.fenceClear (.waiting i3c) true) (s.ask i3c seq 0x62 (leBytes 1 d ++ leBytes 1 r ++ leBytes 1 c ++ leBytes 1 mask)) (fun s' =>
        s'.tileRecord (physNo d r c) = s.tileRecord (physNo d r c) &&& (255 - mask) ∧
        sget (fun _ => 0) s'.welkin.marks.tiles (physNo d r c) = sget (fun _ => 0) s.welkin.marks.tiles (physNo d r c) &&& (255 - mask) ∧
        (∀ n, n ≠ physNo d r c → s'.tileRecord n = s.tileRecord n)) ∧
      exec (.fenceClear (.waiting i3c) false) (s.ask i3c seq 0x62 (leBytes 1 d ++ leBytes 1 r ++ leBytes 1 c ++ leBytes 1 mask)) =
        .next ((s.wkErr WK_ERR_FLASH).answer i3c seq 0x62 7 [])) ∧
    (s.welkin.mirroredAt + 10000000000 ≤ s.start.clock →
      Gives (.logMirror true) s (fun s' => s'.welkin.mirroredAt = s.start.clock ∧ (∀ e ∈ s'.welkin.log, e.1 = true) ∧
        s'.welkin.log.map (·.2) = s.welkin.log.map (·.2)) ∧
      exec (.logMirror false) s = .next (s.wkErr WK_ERR_FLASH)) ∧
    (s.start.clock < s.welkin.mirroredAt + 10000000000 → (∀ e ∈ s.welkin.log, e.1 = true ∨ entrySev e.2 < 2) →
      ∀ ok : Bool, exec (.logMirror ok) s = .next s)

/-- The rows of chapter 20 with those of the sensors. -/
def Obligations.PowerAndTemperatureAreKept : Prop :=
  ∀ s : State,
    (∀ (code : BitVec 16) (value : BitVec 32) (c : Nat), c = code.toNat →
      (s.bootState = 3 → s.sensorExists c = true → s.sensorOn c = true → s.sensorDue c = true →
        Gives (.sensorSample code value) s (fun s' => s'.sensor c = (s.calibrated c value.toNat, s.zt) ∧ (∀ k, k ≠ c → s'.sensor k = s.sensor k) ∧
          s'.mem = s.mem ∧
          (c < 32 → 95 * 256 ≤ signed 32 (s.calibrated c value.toNat) →
            sget (fun _ => 1800) s'.pwr.thermal c = max 800 (min (sget (fun _ => 1800) s.pwr.thermal c) s.pwr.req - 50)) ∧
          (c / 4096 = 4 → s'.pwr.readings = (s.calibrated c value.toNat :: s.pwr.readings).take 100))) ∧
      (s.bootState ≠ 3 ∨ s.sensorExists c = false ∨ s.sensorOn c = false ∨ s.sensorDue c = false → exec (.sensorSample code value) s = .next s)) ∧
    (s.bootState = 3 → s.pwr.decidedAt + 1000000 ≤ s.start.clock →
      (s.pwr.meanOver (s.fld WK_PCAP WK_PCAP_CAP_W) = true → Gives .capDecision s (fun s' => s'.pwr.decidedAt = s.start.clock ∧
        s'.pwr.cap = max 800 ((if s.pwr.capped then min s.pwr.cap (s.fld WK_PCAP WK_PCAP_F_REQ_MHZ) else s.fld WK_PCAP WK_PCAP_F_REQ_MHZ) - 50) ∧
        s'.mem = s.mem)) ∧
      (s.pwr.meanOver (s.fld WK_PCAP WK_PCAP_CAP_W) = false → s.pwr.raisedAt + 10000000 ≤ s.start.clock →
        s.pwr.readings.sum * 100 < 97 * s.fld WK_PCAP WK_PCAP_CAP_W * s.pwr.readings.length → Gives .capDecision s (fun s' =>
          s'.pwr.cap = min (s.fld WK_PCAP WK_PCAP_F_REQ_MHZ)
            ((if s.pwr.capped then min s.pwr.cap (s.fld WK_PCAP WK_PCAP_F_REQ_MHZ) else s.fld WK_PCAP WK_PCAP_F_REQ_MHZ) + 50) ∧
          s'.pwr.raisedAt = s.start.clock)) ∧
      (s.pwr.meanOver (s.fld WK_PCAP WK_PCAP_CAP_W) = false → s.start.clock < s.pwr.raisedAt + 10000000 → Gives .capDecision s (fun s' =>
        s'.pwr.cap = (if s.pwr.capped then min s.pwr.cap (s.fld WK_PCAP WK_PCAP_F_REQ_MHZ) else s.fld WK_PCAP WK_PCAP_F_REQ_MHZ) ∧
        s'.pwr.raisedAt = s.pwr.raisedAt))) ∧
    (s.start.clock < s.pwr.decidedAt + 1000000 → exec .capDecision s = .next s) ∧
    (2 ≤ s.pwr.fast → Gives .fastLimit s (fun s' => s'.pwr.cap = max 800 (min s.pwr.req s.pwr.cap - 200) ∧ s'.pwr.fast = 0 ∧
      s'.flag WK_PWR_ERR WK_PWR_ERR_FAST_LIMIT = true ∧ s'.mem = s.mem)) ∧
    (s.pwr.fast < 2 → exec .fastLimit s = .next s) ∧
    (s.flag WK_PWR_STATUS WK_PWR_STATUS_VIN_LOW = false → Gives .vinLow s (fun s' => s'.flag WK_PWR_STATUS WK_PWR_STATUS_VIN_LOW = true ∧
      s'.flag WK_PWR_ERR WK_PWR_ERR_VIN_LOW = true ∧ s'.pwr.lowSince = s.start.clock ∧ s'.mem = s.mem)) ∧
    (s.flag WK_PWR_STATUS WK_PWR_STATUS_VIN_LOW = true → exec .vinLow s = .next s) ∧
    (∀ i ∈ [Instr.rideThrough, .brownOut, .overvoltage],
      (i = .rideThrough → s.flag WK_PWR_STATUS WK_PWR_STATUS_VIN_LOW = true ∧ s.pwr.lowSince + 10000000 < s.start.clock) →
      Gives i s (fun s' => s'.mem = [] ∧ s'.tiles = [] ∧ s'.parts = [] ∧ s'.fld SI_START SI_START_PHASE = 0 ∧ s'.welkin.fw = s.welkin.fw ∧
        s'.pending = s.pending ∧ s'.start.clock = s.start.clock)) ∧
    (s.flag WK_PWR_STATUS WK_PWR_STATUS_VIN_LOW = false ∨ s.start.clock ≤ s.pwr.lowSince + 10000000 → exec .rideThrough s = .next s) ∧
    (∀ code : BitVec 16,
      (tripSensor code.toNat = true → Gives (.trip code) s (fun s' => code.toNat ∈ s'.pwr.tripped ∧ (∀ c ∈ s.pwr.tripped, c ∈ s'.pwr.tripped) ∧
        s'.flag WK_PWR_ERR WK_PWR_ERR_TRIP = true ∧ s'.mem = [] ∧ s'.bootState = 0 ∧ s'.zt = s.zt ∧
        (∀ readError : Bool, exec (.phaseRom readError) s' = .next s'))) ∧
      (tripSensor code.toNat = false → exec (.trip code) s = .next s)) ∧
    (∀ readings : List (BitVec 32), s.pwr.tripped ≠ [] → readings.length = s.pwr.tripped.length →
      ((∀ e ∈ s.pwr.tripped.zip readings, e.2.toInt ≤ tripLimit e.1 - 5120) → Gives (.tripRelease readings) s (fun s' => s'.pwr.tripped = [] ∧
        s'.start.releasedAt = s.start.clock ∧ s'.mem = s.mem ∧ s'.regs = s.regs)) ∧
      ((∃ e ∈ s.pwr.tripped.zip readings, tripLimit e.1 - 5120 < e.2.toInt) → exec (.tripRelease readings) s = .next s))

/-- The rows of the host link and of register access. -/
def Obligations.HostAccessesTakeEffectInOrder : Prop :=
  ∀ (ctx : Ctx) (s : State),
    (∀ (a : Nat) (v : Word), a % 8 ≠ 0 ∨ blockOf a = none → exec (.registerWrite ctx a v) s = .next (s.accessError ctx a)) ∧
    (∀ (a u o : Nat) (v : Word) (r : RegRow), a % 8 = 0 → blockOf a = some (.av, u, o) → s.anvilPresent u = true → rowOf a = some r →
      (ctxGlobal ctx = true → Gives (.registerWrite ctx a v) s (fun s' => s'.mem = s.mem ∧ (∀ b, b ≠ a → s'.rd b = s.rd b) ∧
        ∀ f ∈ r.fields, s'.fld a f.1 = (match f.2 with
          | .rw => bits v.toNat f.1.hi f.1.lo
          | .w1c => s.fld a f.1 - (s.fld a f.1 &&& bits v.toNat f.1.hi f.1.lo)
          | .w1s => s.fld a f.1 ||| bits v.toNat f.1.hi f.1.lo
          | .rwl => bits v.toNat f.1.hi f.1.lo
          | _ => s.fld a f.1))) ∧
      (ctxGlobal ctx = false → exec (.registerWrite ctx a v) s = .next (s.accessError ctx a))) ∧
    (∀ a : Nat, s.readRefused ctx a = false → a ≠ ZN_NOW → Gives (.readClears ctx a) s (fun s' =>
      s'.out = s.out ++ [.read ctx a (s.mmioValue ctx a)] ∧ s'.mem = s.mem ∧ (∀ b, b ≠ a → s'.rd b = s.rd b) ∧
      (∀ r : RegRow, rowOf a = some r → r.hasAcc .rc = false → s'.rd a = s.rd a))) ∧
    (s.readRefused ctx ZN_NOW = false → s.zt < 2 ^ 64 → s.zenith.acc < 1000000000 → Gives (.znNow ctx) s (fun s' =>
      s'.out = s.out ++ [.read ctx ZN_NOW s.zt] ∧ s'.fld ZN_FRAC ZN_FRAC_FRAC = s.zenith.acc * 256 / 1000000000 ∧ s'.mem = s.mem)) ∧
    (∀ (um : Fin 2) (tag : Fin 1024) (len8 : Fin 32) (addr : Nat) (data : List Byte) (seq : BitVec 32),
      (s.linkUp um = false → exec (.mrd um ctx tag addr len8 seq) s = .next s ∧ exec (.mwr um ctx addr data seq) s = .next s) ∧
      (um.val ≠ linkModule addr → exec (.mrd um ctx tag addr len8 seq) s = .next s ∧ exec (.mwr um ctx addr data seq) s = .next s) ∧
      (∀ r : HostReq, r = ⟨um, ctx, addr, seq.toNat, some tag, 8 * (len8 + 1), []⟩ → s.linkUp um = true → um.val = linkModule addr → s.link.held = [] →
        (s.requestReady r = true →
          (s.requestRefused r = true → Gives (.mrd um ctx tag addr len8 seq) s (fun s' =>
            (∃ l : List Output, s'.out = l ++ [.cpl um tag (zeros (8 * (len8 + 1)))]) ∧
            s'.fld (UC_ACCESS um) UC_ACCESS_COUNT = (s.fld (UC_ACCESS um) UC_ACCESS_COUNT + 1) % 2 ^ 32)) ∧
          (s.requestRefused r = false → isRegSpace addr = true → Gives (.mrd um ctx tag addr len8 seq) s (fun s' =>
            s'.out = (s.readEffect um ctx addr).out ++ [.cpl um tag (leBytes 8 (s.mmioValue ctx addr))] ∧ s'.regs = (s.readEffect um ctx addr).regs)) ∧
          (s.requestRefused r = false → isRegSpace addr = false → s.firstBad addr (8 * (len8 + 1)) = none → Gives (.mrd um ctx tag addr len8 seq) s (fun s' =>
            s'.out = (s.hbRead addr (8 * (len8 + 1)) (hostAttr ctx)).out ++ [.cpl um tag (s.readBytes addr (8 * (len8 + 1)))] ∧
            s'.mem = (s.hbRead addr (8 * (len8 + 1)) (hostAttr ctx)).mem ∧
            (seq.toNat = s.link.seqNext → s.link.ahead = [] → s'.link.seqNext = (seq.toNat + 1) % 2 ^ 32)))) ∧
        (s.requestReady r = false → Gives (.mrd um ctx tag addr len8 seq) s (fun s' => s'.link.held = [r]))) ∧
      (∀ (r : HostReq) (s1 : State), r = ⟨um, ctx, addr, seq.toNat, none, data.length, data⟩ → s.linkUp um = true → um.val = linkModule addr → s.link.held = [] →
        s1 = s.hbWrite addr data.length (hostAttr ctx) →
        (s.requestReady r = true → s.requestRefused r = false → isRegSpace addr = false → s1.partlyBad addr data.length = [] →
          s1.firstFailed addr data.length = none → s1.plain addr data.length → Gives (.mwr um ctx addr data seq) s (fun s' =>
            (∀ k < data.length, s'.byte (addr + k) = data.getD k 0) ∧
            (∀ a, s1.plain a 1 → (a < addr ∨ addr + data.length ≤ a) → s'.byte a = s1.byte a) ∧
            (seq.toNat = s.link.seqNext → s.link.ahead = [] → s'.link.seqNext = (seq.toNat + 1) % 2 ^ 32))) ∧
        ((s.arrived seq.toNat).requestReady r = true → s.requestRefused r = false → isRegSpace addr = true → ∃ u : State,
          exec (.registerWrite ctx addr (BitVec.ofNat 64 (leNat data))) (s.arrived seq.toNat) = .next u ∧
          exec (.mwr um ctx addr data seq) s = .next u.linkDrain) ∧
        ((s.arrived seq.toNat).requestReady r = false → isRegSpace addr = true → Gives (.mwr um ctx addr data seq) s (fun s' => s'.link.held = [r] ∧ s'.mem = s.mem ∧
          s'.regs = s.regs ∧ s'.out = s.out)))) ∧
    (∀ (um : Fin 2) (flits : Nat),
      (s.linkUp um = true → Gives (.ucieReplay um flits) s (fun s' =>
        s'.fld (UC_REPLAYS um) UC_REPLAYS_CRC_ERRORS = (s.fld (UC_REPLAYS um) UC_REPLAYS_CRC_ERRORS + 1) % 2 ^ 32 ∧
        s'.fld (UC_REPLAYS um) UC_REPLAYS_REPLAYS = (s.fld (UC_REPLAYS um) UC_REPLAYS_REPLAYS + flits) % 2 ^ 32 ∧
        s'.flag (UC_ERR um) UC_ERR_REPLAY = true ∧ s'.mem = s.mem)) ∧
      (s.linkUp um = false → exec (.ucieReplay um flits) s = .next s)) ∧
    (∀ um : Fin 2, s.domOn (82 + um) = true → s.link.held = [] →
      (s.fld (UC_STATUS um) UC_STATUS_STATE = 2 ∨ s.fld (UC_STATUS um) UC_STATUS_STATE = 3 ∨ s.fld (UC_STATUS um) UC_STATUS_STATE = 4) →
      (∀ (x64 : Bool) (rate : Fin 3) (n : Fin 256), Gives (.ucieRetrain um (.trained x64 rate n)) s (fun s' =>
        s'.fld (UC_STATUS um) UC_STATUS_STATE = (if x64 && rate.val == 0 then 2 else 3) ∧
        s'.fld (UC_STATUS um) UC_STATUS_WIDTH = (if x64 then 64 else 32) ∧ s'.fld (UC_STATUS um) UC_STATUS_RATE = 32 - 8 * rate.val ∧
        s'.flag (UC_ERR um) UC_ERR_RETRAIN = true)) ∧
      Gives (.ucieRetrain um .failed) s (fun s' => s'.fld (UC_STATUS um) UC_STATUS_STATE = 0 ∧ s'.flag (UC_ERR um) UC_ERR_LINK_DOWN = true))

/-- The rows of the loader, with SLICE_SWITCH, FORCE_PASS and TOKEN_LOOP. -/
def Obligations.ImagesAreLoadedArmedAndSwitched : Prop :=
  ∀ (p : Fin 8) (s : State),
    (∀ ctx : Ctx, siWriter ctx p = false → ∀ i ∈ [Instr.load ctx p, .arm ctx p, .abortImage ctx p, .unload ctx p],
      exec i s = .next (s.accessError ctx (SI_CTRL p))) ∧
    (∀ ctx : Ctx, siWriter ctx p = true →
      (s.stage p = 0 → s.fuses.lifecycle ≠ 0 → s.fuses.lifecycle ≠ 5 → Gives (.load ctx p) s (fun s' => s'.stage p = 1 ∧
        (s'.part p).loadAt = (s.fld (SI_SRC p) SI_SRC_ADDR, s.fld (SI_LEN p) SI_LEN_LEN) ∧ (s'.part p).active = (s.part p).active ∧ s'.mem = s.mem)) ∧
      (s.stage p ≠ 0 ∨ s.fuses.lifecycle = 0 ∨ s.fuses.lifecycle = 5 → exec (.load ctx p) s = .next (s.refuseImage p (Refuse.head rcState))) ∧
      (∀ (img : Image) (t : Nat), s.stage p = 2 → (s.part p).staged = some img → s.fld (RT_EPOCH_STATE p) RT_EPOCH_STATE_STATE = 0 →
        s.fld ZN_STATUS ZN_STATUS_STATE ≠ 1 → s.armConflict p img = none →
        s.actTime p img.head.frameUs ((s.part p).active.map (·.head.frameUs)) = some t → t < 2 ^ 64 → 0 < img.head.frameUs →
        (∀ old : Image, (s.part p).active = some old → 0 < old.head.frameUs) →
        Gives (.arm ctx p) s (fun s' => s'.stage p = 3 ∧ s'.rd (SI_ACT_TIME p) = t ∧ (s'.part p).staged = some img ∧ (s'.part p).unloading = false ∧
          t % (img.head.frameUs * 1000) = 0 ∧ s.zt + 10000 ≤ t ∧ s.rd (SI_ACT_NOT_BEFORE p) ≤ t ∧ s'.mem = s.mem)) ∧
      (∀ (img : Image) (r : Refuse), s.stage p = 2 → (s.part p).staged = some img → s.fld (RT_EPOCH_STATE p) RT_EPOCH_STATE_STATE = 0 →
        s.fld ZN_STATUS ZN_STATUS_STATE ≠ 1 → s.armConflict p img = some r → exec (.arm ctx p) s = .next (s.refuseImage p r)) ∧
      (s.stage p ≠ 2 → exec (.arm ctx p) s = .next (s.refuseImage p (Refuse.head rcState))) ∧
      (s.stage p = 2 ∨ (s.stage p = 3 ∧ s.zt < s.rd (SI_ACT_TIME p)) → Gives (.abortImage ctx p) s (fun s' => s'.stage p = 0 ∧ (s'.part p).staged = none ∧
        (∀ i < 8, s'.rd (SI_MEAS_STAGED p i) = 0) ∧ s'.fld (SI_EVENTS p) evAborts = (s.fld (SI_EVENTS p) evAborts + 1) % 2 ^ 16 ∧ s'.mem = s.mem)) ∧
      (s.stage p ≠ 2 → (s.stage p ≠ 3 ∨ s.rd (SI_ACT_TIME p) ≤ s.zt) → exec (.abortImage ctx p) s = .next (s.refuseImage p (Refuse.head rcState))) ∧
      (∀ (img : Image) (t : Nat), s.stage p = 0 → s.isActive p = true → (s.part p).active = some img → s.actTime p img.head.frameUs none = some t → t < 2 ^ 64 →
        Gives (.unload ctx p) s (fun s' => s'.stage p = 3 ∧ s'.rd (SI_ACT_TIME p) = t ∧ (s'.part p).unloading = true ∧ s'.mem = s.mem)) ∧
      (s.stage p ≠ 0 ∨ s.isActive p = false → exec (.unload ctx p) s = .next (s.refuseImage p (Refuse.head rcState)))) ∧
    (∀ (src len : Nat) (s1 : State), s.stage p = 1 → (s.part p).loadAt = (src, len) → s1 = s.hbRead src len { part := some p.val } →
      s.loaderReads (s.part p).loadCtx src len = true → src % 8 = 0 → len ≤ 0x10000000 → s.memOn src len = true → s.firstBad src len = none →
      (∀ img : Image, s1.judge p src len = .ok img → Gives (.loadCheckDone p) s (fun s' => s'.stage p = 2 ∧ (s'.part p).staged = some img ∧
        (∀ i < 8, s'.rd (SI_MEAS_STAGED p i) = img.measurement.toNat / 2 ^ (64 * i) % 2 ^ 64) ∧ s'.mem = s1.mem)) ∧
      (∀ r : Refuse, s1.judge p src len = .error r → exec (.loadCheckDone p) s = .next (s1.loadRefused p r))) ∧
    (s.stage p = 1 → s.loaderReads (s.part p).loadCtx (s.part p).loadAt.1 (s.part p).loadAt.2 = false →
      exec (.loadCheckDone p) s = .next (s.loadRefused p (Refuse.head rcSourceAccess))) ∧
    (∀ img : Image, s.stage p = 3 → (s.part p).unloading = false → s.stopHolds (some p.val) = false → (s.part p).staged = some img →
      (∀ f, s.formMap p img = .ok f → s.physConflict p img = none → s.areaHaloBad p img = false → s.rd (SI_ACT_TIME p) ≤ s.zt →
        Gives (.activation p) s (fun s' => s'.stage p = 4 ∧ (s'.part p).noDeliver = true ∧ (s'.part p).sliceLaunch = [] ∧
          (s'.part p).tracks = (s.part p).tracks.filter (fun k => !s.trackAbandoned (s.part p) k) ∧ (s'.part p).newMap = f.map)) ∧
      (∀ r : Refuse, s.formMap p img = .error r → s.rd (SI_ACT_TIME p) ≤ s.zt → exec (.activation p) s = .next ((s.setStage p 2).refuseImage p r).settleRecords) ∧
      (s.zt < s.rd (SI_ACT_TIME p) → exec (.activation p) s = .next s)) ∧
    (s.stage p = 3 → (s.part p).unloading = true → s.stopHolds (some p.val) = false →
      (s.rd (SI_ACT_TIME p) ≤ s.zt → Gives (.unloadSwitch p) s (fun s' => s'.stage p = 4 ∧ (s'.part p).noDeliver = true ∧
        (s'.part p).tracks = (s.part p).tracks.filter (fun k => !s.trackAbandoned (s.part p) k))) ∧
      (s.zt < s.rd (SI_ACT_TIME p) → exec (.unloadSwitch p) s = .next s)) ∧
    (∀ img : Image, s.stage p = 4 → s.switchQuiet p = true →
      ((s.part p).unloading = false → (s.part p).staged = some img → Gives (.activationDone p) s (fun s' => s'.stage p = 0 ∧ s'.isActive p = true ∧
        (s'.part p).active = some (img.withPass (s.fld SI_FORCE_PASS SI_FORCE_PASS_MODE)) ∧ (s'.part p).staged = none ∧ (s'.part p).locked = true ∧
        s'.fld (SI_EVENTS p) evActivations = (s.fld (SI_EVENTS p) evActivations + 1) % 2 ^ 16)) ∧
      ((s.part p).unloading = true → (s.part p).active = some img → Gives (.unloadDone p) s (fun s' => s'.stage p = 0 ∧ s'.isActive p = false ∧
        (s'.part p).active = none ∧ s'.fld (SI_EVENTS p) evUnloads = (s.fld (SI_EVENTS p) evUnloads + 1) % 2 ^ 16))) ∧
    (∀ (ctx : Ctx) (v : Word),
      (ctx = .welkin ∨ ctx = .library → s.imageInForce = false → Gives (.forcePass ctx v) s (fun s' =>
        s'.fld SI_FORCE_PASS SI_FORCE_PASS_MODE = bits v.toNat 1 0 ∧ s'.mem = s.mem ∧ s'.parts = s.parts)) ∧
      (ctx = .welkin ∨ ctx = .library → s.imageInForce = true → Gives (.forcePass ctx v) s (fun s' =>
        s'.fld SI_FORCE_PASS SI_FORCE_PASS_MODE = s.fld SI_FORCE_PASS SI_FORCE_PASS_MODE ∧
        s'.fld SI_FORCE_PASS SI_FORCE_PASS_REFUSED = (s.fld SI_FORCE_PASS SI_FORCE_PASS_REFUSED + 1) % 2 ^ 32)) ∧
      (ctx ≠ .welkin → ctx ≠ .library → exec (.forcePass ctx v) s = .next (s.accessError ctx SI_FORCE_PASS))) ∧
    (∀ img : Image, (s.part p).active = some img → s.sliced p = true → (s.part p).sliceLaunch ≠ [] → (∀ k ∈ (s.part p).tracks, k.tiles = []) →
      (s.part p).noDeliver = false → s.stopHolds (some p.val) = false → (∀ t ∈ imageTiles img, s.memOn (backingBase img (imageTiles img) t) 0x101000 = true) →
      ((s.part p).resident + 1 < s.fld (SI_STATUS p) SI_STATUS_SLICE →
        Gives (.sliceSwitch p) s (fun s' => (s'.part p).resident = (s.part p).resident + 1 ∧ (s'.part p).sliceLaunch = (s.part p).sliceLaunch)) ∧
      (s.fld (SI_STATUS p) SI_STATUS_SLICE ≤ (s.part p).resident + 1 →
        Gives (.sliceSwitch p) s (fun s' => (s'.part p).resident = 0 ∧ (s'.part p).sliceLaunch = [] ∧ (s'.part p).tracks = []))) ∧
    (∀ (t : Fin 2048) (c : Cmd) (n : BitVec 16),
      (∀ (b : List Byte) (s1 : State) (a : LoopArgs), s1 = s.argState t c → b = s.argBytes t c → a = loopArgs b → s.callHead t 0xE = some c → s.argsReady t c →
        loopOk (callLen c.w) b = true → s1.owns c.part a.launch 64 = true → s1.owns c.part a.outAddr a.outLen = true →
        s1.queueOwner (bits a.inQueue 14 14) (bits a.inQueue 13 0) = some c.part → s1.queueOwner (tileDie t) a.entryQueue = some c.part →
        (s1.queue (tileDie t) a.entryQueue).ty = 0 → (s1.queue (tileDie t) a.entryQueue).role = 0 →
        (a.last = true → a.hostQueue ≠ 0xFFFF → s1.queueOwner (bits a.hostQueue 14 14) (bits a.hostQueue 13 0) = some c.part) →
        Gives (.tokenLoop t n) s (fun s' => ((s'.tile t).routine.map (fun k => (k.number, k.phase))) = some (14, 0) ∧ s'.mem = s1.mem)) ∧
      (∀ (k : Routine) (a : LoopArgs), s.callHead t 0xE = none → s.running t 0xE = some (c, k) → k.failed = none → k.phase = 2 → k.libFail = none → s.libIdle t k = true →
        a = loopArgs (leBytes 64 (k.vals.getD 4 0)) →
        (s.countsTo t a.doneCounter 1 = false → exec (.tokenLoop t n) s = .next s) ∧
        (s.syncLogs t = [] → 0 < s.counter t a.doneCounter → a.doneCounter < 128 → Gives (.tokenLoop t n) s (fun s' => s'.counter t a.doneCounter = s.counter t a.doneCounter - 1 ∧
          ((s'.tile t).routine.map (·.phase)) = some 3 ∧ s'.mem = s.mem))))

/-- The rows of chapter 19. -/
def Obligations.ResetsAndStartUpRun : Prop :=
  ∀ s : State,
    (∀ (ctx : Ctx) (t : Fin 2048) (p : Fin 8),
      (s.flag SI_RESET_STATUS SI_RESET_STATUS_BUSY = false →
        (ctxGlobal ctx = true → s.tilePresent t = true → Gives (.tileReset ctx t) s (fun s' => s'.flag SI_RESET_STATUS SI_RESET_STATUS_BUSY = true ∧
          s'.start.resetting = some (1, t.val) ∧ (s'.tile t).launch = none ∧ (s'.tile t).inl = none ∧ (s'.tile t).routine = none)) ∧
        (ctxGlobal ctx = true → Gives (.partitionReset ctx p) s (fun s' => s'.flag SI_RESET_STATUS SI_RESET_STATUS_BUSY = true ∧
          s'.start.resetting = some (2, p.val) ∧ (s'.part p).active = none ∧ (s'.part p).staged = none ∧ (∀ k ∈ (s'.part p).tracks, k.tiles ≠ []) ∧
          s'.stage p = 0 ∧ s'.isActive p = false)) ∧
        (ctxGlobal ctx = true → Gives (.warmReset ctx) s (fun s' => s'.flag SI_RESET_STATUS SI_RESET_STATUS_BUSY = true ∧ s'.start.resetting = some (3, 0) ∧
          s'.tiles = [] ∧ s'.queues = [] ∧ s'.anvils = [] ∧ s'.fld SI_FORCE_PASS SI_FORCE_PASS_MODE = 0 ∧
          (∀ q : Fin 8, s'.part q = {} ∧ s'.stage q = 0) ∧ s'.zt = s.zt ∧ s'.fuses = s.fuses))) ∧
      (s.flag SI_RESET_STATUS SI_RESET_STATUS_BUSY = true → ctxGlobal ctx = true → ∀ i ∈ [Instr.tileReset ctx t, .partitionReset ctx p, .warmReset ctx],
        exec i s = .next s.resetRefused) ∧
      (∀ u : Fin 8, exec (.warmReset (.kernel u)) s = .next (s.accessError (.kernel u) SI_RESET) ∧
        exec (.tileReset (.user u) t) s = .next (s.accessError (.user u) SI_RESET) ∧
        (u ≠ p → exec (.partitionReset (.kernel u) p) s = .next (s.accessError (.kernel u) SI_RESET)))) ∧
    (∀ r : Nat × Nat, s.start.resetting = some r → 1 ≤ r.1 → r.1 ≤ 3 → s.zt < 2 ^ 64 → Gives .resetCompletion s (fun s' =>
      s'.flag SI_RESET_STATUS SI_RESET_STATUS_BUSY = false ∧ s'.start.resetting = none ∧ s'.rd SI_RESET_ZT = s.zt ∧
      s'.fld SI_RESET_STATUS SI_RESET_STATUS_LAST_LEVEL = r.1 ∧
      s'.fld SI_RESET_STATUS (resetCount r.1) = (s.fld SI_RESET_STATUS (resetCount r.1) + 1) % 2 ^ ((resetCount r.1).hi + 1 - (resetCount r.1).lo))) ∧
    (s.start.resetting = none → exec .resetCompletion s = .next s) ∧
    Gives .moduleReset s (fun s' => s'.mem = [] ∧ s'.tiles = [] ∧ s'.parts = [] ∧ s'.queues = [] ∧ s'.zt = s.zt ∧ s'.welkin.fw = s.welkin.fw ∧
      s'.fld SI_START SI_START_PHASE = 0 ∧ s'.bootState = 0 ∧ s'.znState = 1 ∧ s'.rd WK_PCAP = s.rd WK_PCAP ∧ s'.pending = s.pending) ∧
    Gives .powerOnReset s (fun s' => s'.mem = [] ∧ s'.tiles = [] ∧ s'.parts = [] ∧ s'.regs = [] ∧ s'.welkin.fw = s.welkin.fw ∧
      s'.fuses.serial = s.fuses.serial ∧ s'.pending = s.pending) ∧
    (s.startPhase ≤ 1 → s.pwr.tripped = [] → s.welkin.log ≠ [] →
      (s.fwVerdict s.welkin.fw = 0 → Gives (.phaseRom false) s (fun s' => s'.startPhase = 2 ∧ s'.bootState = 3 ∧
        s'.rd ID_LIBRARY = fwVersion s.welkin.fw % 2 ^ 64 ∧ s'.fld WK_STATUS WK_STATUS_FW_SVN = fwSvn s.welkin.fw ∧ s'.mem = s.mem)) ∧
      (s.fwVerdict s.welkin.fw ≠ 0 → Gives (.phaseRom false) s (fun s' => s'.startPhase = 9 ∧ s'.bootState = 2 ∧
        s'.fld WK_ERR WK_ERR_ROM_CAUSE = s.fwVerdict s.welkin.fw ∧ s'.mem = s.mem)) ∧
      Gives (.phaseRom true) s (fun s' => s'.startPhase = 9 ∧ s'.bootState = 2 ∧ s'.fld WK_ERR WK_ERR_ROM_CAUSE = 5)) ∧
    (2 ≤ s.startPhase → ∀ e : Bool, exec (.phaseRom e) s = .next s) ∧
    (∀ um0 um1 : UcieTraining,
      (s.startPhase = 2 → Gives (.phaseAlwaysOn true um0 um1) s (fun s' => s'.startPhase = 3 ∧ s'.zenith.running = true) ∧
        Gives (.phaseAlwaysOn false um0 um1) s (fun s' => s'.startPhase = 8 ∧ s'.fld SI_START SI_START_HALT_PHASE = 2 ∧
          s'.fld SI_START SI_START_HALT_CAUSE = 4 ∧ (∀ i < 102, s.domPresent i = true → s'.domState i = 1))) ∧
      (∀ c : Bool, s.startPhase ≠ 2 → exec (.phaseAlwaysOn c um0 um1) s = .next s)) ∧
    (∀ l : List StackTraining, (s.startPhase = 3 → Gives (.phaseMemory l) s (fun s' => s'.startPhase = 4)) ∧
      (s.startPhase ≠ 3 → exec (.phaseMemory l) s = .next s)) ∧
    (∀ l : List SelfTestFailure,
      (s.startPhase = 4 → Gives (.phaseSelftest l true true) s (fun s' => s'.startPhase = 5) ∧
        (∀ r : Bool, Gives (.phaseSelftest l false r) s (fun s' => s'.startPhase = 8 ∧ s'.fld SI_START SI_START_HALT_CAUSE = 1)) ∧
        Gives (.phaseSelftest l true false) s (fun s' => s'.startPhase = 8 ∧ s'.fld SI_START SI_START_HALT_CAUSE = 2)) ∧
      (∀ h r : Bool, s.startPhase ≠ 4 → exec (.phaseSelftest l h r) s = .next s)) ∧
    (s.startPhase = 5 → s.start.step = 1 →
      (s.portsSettled = true ∨ s.start.phaseAt + 530000000 ≤ s.start.clock → Gives .phasePorts s (fun s' => s'.startPhase = 6 ∧ s'.start.step = 0 ∧
        s'.flag SI_START SI_START_PORT_UNSETTLED = (s.flag SI_START SI_START_PORT_UNSETTLED ||
          (List.range 10).any (fun n => s.portPlanned n && s.klState n != 5)) ∧ s'.mem = s.mem)) ∧
      (s.portsSettled = false → s.start.clock < s.start.phaseAt + 530000000 → exec .phasePorts s = .next s)) ∧
    (s.startPhase = 5 → s.start.step = 0 → s.welkin.plan = none → Gives .phasePorts s (fun s' => s'.flag SI_START SI_START_NO_PLAN = true)) ∧
    (s.startPhase = 6 → s.start.step = 0 →
      (s.flag ZN_STATUS ZN_STATUS_ROOT = true ∨ s.znState = 2 → Gives .phaseZenith s (fun s' => s'.start.step = 1 ∧ s'.start.phaseAt = s.start.clock ∧
        s'.flag SI_START SI_START_ZENITH_UNLOCKED = s.flag SI_START SI_START_ZENITH_UNLOCKED ∧ s'.mem = s.mem)) ∧
      (s.flag ZN_STATUS ZN_STATUS_ROOT = false → s.znState ≠ 2 →
        (s.start.phaseAt + 2000000000 ≤ s.start.clock → Gives .phaseZenith s (fun s' => s'.start.step = 1 ∧
          s'.flag SI_START SI_START_ZENITH_UNLOCKED = true)) ∧
        (s.start.clock < s.start.phaseAt + 2000000000 → exec .phaseZenith s = .next s))) ∧
    (s.startPhase = 6 → s.start.step = 2 → s.linkTraining 0 = false → s.linkTraining 1 = false → Gives .hostReady s (fun s' => s'.startPhase = 7 ∧
      s'.mem = s.mem ∧ s'.tiles = s.tiles)) ∧
    (s.startPhase = 6 → s.start.step = 2 → s.linkTraining 0 = true → exec .hostReady s = .next s) ∧
    (s.startPhase ≠ 6 → exec .hostReady s = .next s)
end

