-- ==== Sys2Proof/Laws/Bits.lean ====
section
/-! SUPPORT. Reading a bit field after it was written. -/
namespace Sys2Proof.Machine

/-- The field written reads as the value written, at its width. -/
theorem bits_putBits_same (x hi lo v : Nat) (h : lo ≤ hi) : bits (putBits x hi lo v) hi lo = v % 2 ^ (hi + 1 - lo) := by
  unfold bits putBits
  have e : 2 ^ (hi + 1) = 2 ^ lo * 2 ^ (hi + 1 - lo) := by rw [← Nat.pow_add]; congr 1; omega
  have p : 0 < 2 ^ lo := Nat.two_pow_pos lo
  have q : 0 < 2 ^ (hi + 1 - lo) := Nat.two_pow_pos _
  have r : (x % 2 ^ lo + v % 2 ^ (hi + 1 - lo) * 2 ^ lo + x / 2 ^ (hi + 1) * 2 ^ (hi + 1)) / 2 ^ lo
      = v % 2 ^ (hi + 1 - lo) + x / 2 ^ (hi + 1) * 2 ^ (hi + 1 - lo) := by
    rw [e]
    have : x % 2 ^ lo + v % 2 ^ (hi + 1 - lo) * 2 ^ lo + x / (2 ^ lo * 2 ^ (hi + 1 - lo)) * (2 ^ lo * 2 ^ (hi + 1 - lo))
        = x % 2 ^ lo + (v % 2 ^ (hi + 1 - lo) + x / (2 ^ lo * 2 ^ (hi + 1 - lo)) * 2 ^ (hi + 1 - lo)) * 2 ^ lo := by ring
    rw [this, Nat.add_mul_div_right _ _ p, Nat.div_eq_of_lt (Nat.mod_lt _ p)]
    simp
  rw [r, Nat.add_mul_mod_self_right, Nat.mod_mod]

/-- Bit i of a sum of a low part and a multiple. -/
theorem testBit_putBits (x hi lo v i : Nat) (h : lo ≤ hi) :
    (putBits x hi lo v).testBit i = if lo ≤ i ∧ i ≤ hi then v.testBit (i - lo) else x.testBit i := by
  have e : putBits x hi lo v = 2 ^ (hi + 1) * (x / 2 ^ (hi + 1)) + (2 ^ lo * (v % 2 ^ (hi + 1 - lo)) + x % 2 ^ lo) := by
    unfold putBits; ring
  have b1 : x % 2 ^ lo < 2 ^ lo := Nat.mod_lt _ (Nat.two_pow_pos _)
  have b2 : 2 ^ lo * (v % 2 ^ (hi + 1 - lo)) + x % 2 ^ lo < 2 ^ (hi + 1) := by
    have e2 : 2 ^ (hi + 1) = 2 ^ lo * 2 ^ (hi + 1 - lo) := by rw [← Nat.pow_add]; congr 1; omega
    have : v % 2 ^ (hi + 1 - lo) + 1 ≤ 2 ^ (hi + 1 - lo) := Nat.mod_lt _ (Nat.two_pow_pos _)
    calc 2 ^ lo * (v % 2 ^ (hi + 1 - lo)) + x % 2 ^ lo < 2 ^ lo * (v % 2 ^ (hi + 1 - lo)) + 2 ^ lo := by omega
      _ = 2 ^ lo * (v % 2 ^ (hi + 1 - lo) + 1) := by ring
      _ ≤ 2 ^ lo * 2 ^ (hi + 1 - lo) := Nat.mul_le_mul_left _ this
      _ = 2 ^ (hi + 1) := e2.symm
  rw [e, Nat.testBit_two_pow_mul_add _ b2]
  split
  · rename_i hi'
    rw [Nat.testBit_two_pow_mul_add _ b1]
    split
    · rw [if_neg (by omega)]; simp [Nat.testBit_mod_two_pow]; intro; omega
    · rw [if_pos (by omega)]; simp [Nat.testBit_mod_two_pow]; intro; omega
  · rename_i hi'
    rw [if_neg (by omega), Nat.testBit_div_two_pow]
    congr 1; omega

theorem testBit_bits (x hi lo i : Nat) : (bits x hi lo).testBit i = (decide (i < hi + 1 - lo) && x.testBit (i + lo)) := by
  unfold bits; rw [Nat.testBit_mod_two_pow, Nat.testBit_div_two_pow]

/-- A field that does not overlap the one written reads as before. -/
theorem bits_putBits_ne (x hi lo v hi' lo' : Nat) (h : lo ≤ hi) (hd : hi' < lo ∨ hi < lo') :
    bits (putBits x hi lo v) hi' lo' = bits x hi' lo' := by
  apply Nat.eq_of_testBit_eq
  intro i
  rw [testBit_bits, testBit_bits, testBit_putBits _ _ _ _ _ h]
  by_cases c : i < hi' + 1 - lo'
  · rw [if_neg (by omega)]
  · simp [c]

theorem putBits_lt (x hi lo v : Nat) (h : lo ≤ hi) (h64 : hi < 64) (hx : x < 2 ^ 64) : putBits x hi lo v < 2 ^ 64 := by
  apply Nat.lt_pow_two_of_testBit
  intro i hi'
  rw [testBit_putBits _ _ _ _ _ h, if_neg (by omega)]
  exact Nat.testBit_lt_two_pow (Nat.lt_of_lt_of_le hx (Nat.pow_le_pow_right (by omega) hi'))

theorem bits_lt (x hi lo : Nat) : bits x hi lo < 2 ^ (hi + 1 - lo) := Nat.mod_lt _ (Nat.two_pow_pos _)

end Sys2Proof.Machine
end

