-- ==== Sys2Proof/Laws/Sparse.lean ====
section
/-! SUPPORT. What the operations of a sparse map do: reading after setting, and the canonical form kept. -/
namespace Sys2Proof.Machine

variable {α : Type}

@[simp] theorem sget_nil (d : Nat → α) (n : Nat) : sget d [] n = d n := rfl

theorem sget_sinsert_same (d : Nat → α) (l : Sparse α) (n : Nat) (x : α) : sget d (sinsert l n x) n = x := by
  induction l with
  | nil => simp [sinsert, sget]
  | cons e t ih =>
    obtain ⟨k, v⟩ := e
    simp only [sinsert]
    split
    · simp [sget]
    · split
      · simp [sget]
      · simp [sget, *]

theorem sget_sinsert_ne (d : Nat → α) (l : Sparse α) {n m : Nat} (x : α) (h : m ≠ n) :
    sget d (sinsert l n x) m = sget d l m := by
  induction l with
  | nil => simp [sinsert, sget, h.symm]
  | cons e t ih =>
    obtain ⟨k, v⟩ := e
    simp only [sinsert]
    split
    · simp [sget, h.symm]
    · split
      · rename_i hk; subst hk; simp [sget, h.symm]
      · simp [sget, ih]

theorem sget_serase_same (d : Nat → α) (l : Sparse α) (n : Nat) : sget d (serase l n) n = d n := by
  induction l with
  | nil => rfl
  | cons e t ih =>
    obtain ⟨k, v⟩ := e
    simp only [serase]
    split
    · exact ih
    · simp [sget, *]

theorem sget_serase_ne (d : Nat → α) (l : Sparse α) {n m : Nat} (h : m ≠ n) : sget d (serase l n) m = sget d l m := by
  induction l with
  | nil => rfl
  | cons e t ih =>
    obtain ⟨k, v⟩ := e
    simp only [serase]
    split
    · rename_i hk; subst hk; simp [sget, ih, h.symm]
    · simp [sget, ih]

/-- What a number reads after it was set. -/
@[simp] theorem sget_sset_same [DecidableEq α] (d : Nat → α) (l : Sparse α) (n : Nat) (x : α) : sget d (sset d l n x) n = x := by
  unfold sset
  split
  · rename_i h; rw [sget_serase_same, h]
  · exact sget_sinsert_same d l n x

/-- Every other number reads as before. -/
theorem sget_sset_ne [DecidableEq α] (d : Nat → α) (l : Sparse α) {n m : Nat} (x : α) (h : m ≠ n) :
    sget d (sset d l n x) m = sget d l m := by
  unfold sset
  split
  · exact sget_serase_ne d l h
  · exact sget_sinsert_ne d l x h

/-- Both at once. -/
theorem sget_sset [DecidableEq α] (d : Nat → α) (l : Sparse α) (n m : Nat) (x : α) :
    sget d (sset d l n x) m = if m = n then x else sget d l m := by
  by_cases h : m = n
  · subst h; simp
  · simp [h, sget_sset_ne d l x h]

variable [DecidableEq α]

theorem swfFrom_mono (d : Nat → α) {l : Sparse α} {b c : Nat} (h : swfFrom d b l = true) (hc : c ≤ b) : swfFrom d c l = true := by
  cases l with
  | nil => rfl
  | cons e t =>
    simp only [swfFrom, Bool.and_eq_true, decide_eq_true_eq] at h ⊢
    exact ⟨⟨Nat.le_trans hc h.1.1, h.1.2⟩, h.2⟩

theorem swfFrom_serase (d : Nat → α) {l : Sparse α} {b : Nat} (h : swfFrom d b l = true) (n : Nat) :
    swfFrom d b (serase l n) = true := by
  induction l generalizing b with
  | nil => rfl
  | cons e t ih =>
    obtain ⟨k, v⟩ := e
    simp [swfFrom] at h
    simp only [serase]
    split
    · exact swfFrom_mono d (ih h.2) (by omega)
    · simp [swfFrom, h.1, ih h.2]

theorem swfFrom_sinsert (d : Nat → α) {l : Sparse α} {b n : Nat} {x : α} (h : swfFrom d b l = true) (hb : b ≤ n) (hx : x ≠ d n) :
    swfFrom d b (sinsert l n x) = true := by
  induction l generalizing b with
  | nil => simp [sinsert, swfFrom, hb, hx]
  | cons e t ih =>
    obtain ⟨k, v⟩ := e
    simp [swfFrom] at h
    simp only [sinsert]
    split
    · simp [swfFrom, hb, hx, h]; omega
    · split
      · rename_i hk; subst hk; simp [swfFrom, hb, hx, h.2]
      · simp [swfFrom, h.1, ih h.2 (by omega)]

/-- Setting a number keeps the canonical form. -/
theorem swf_sset (d : Nat → α) {l : Sparse α} (h : swf d l = true) (n : Nat) (x : α) : swf d (sset d l n x) = true := by
  unfold sset
  split
  · exact swfFrom_serase d h n
  · rename_i hx; exact swfFrom_sinsert d h (Nat.zero_le _) hx

theorem swfFrom_filter (d : Nat → α) {l : Sparse α} {b : Nat} (h : swfFrom d b l = true) (f : Nat × α → Bool) :
    swfFrom d b (l.filter f) = true := by
  induction l generalizing b with
  | nil => rfl
  | cons e t ih =>
    simp [swfFrom] at h
    rw [List.filter_cons]
    split
    · simp [swfFrom, h.1, ih h.2]
    · exact swfFrom_mono d (ih h.2) (by omega)

/-- Leaving entries out keeps the canonical form. -/
theorem swf_filter (d : Nat → α) {l : Sparse α} (h : swf d l = true) (f : Nat × α → Bool) : swf d (l.filter f) = true :=
  swfFrom_filter d h f

end Sys2Proof.Machine
end

