-- ==== Sys2Proof/Laws/Flags.lean ====
section
/-! SUPPORT. What the register operations do: each says it once, for the register written and for every other. -/
namespace Sys2Proof.Machine

/-- A field inside a 64-bit register. -/
def Fld.ok (f : Fld) : Prop := f.lo ≤ f.hi ∧ f.hi < 64

theorem rd_lt (s : State) (a : Nat) : s.rd a < 2 ^ 64 := (sget regReset s.regs a).isLt

@[simp] theorem rd_wr_same (s : State) (a v : Nat) : (s.wr a v).rd a = v % 2 ^ 64 := by
  simp [State.rd, State.wr]

theorem rd_wr_ne (s : State) {a b : Nat} (v : Nat) (h : b ≠ a) : (s.wr a v).rd b = s.rd b := by
  simp [State.rd, State.wr, sget_sset_ne _ _ _ h]

theorem rd_setFld_ne (s : State) {a b : Nat} (f : Fld) (v : Nat) (h : b ≠ a) : (s.setFld a f v).rd b = s.rd b := rd_wr_ne s _ h

theorem rd_setFld_same (s : State) (a : Nat) (f : Fld) (v : Nat) (h : f.ok) :
    (s.setFld a f v).rd a = putBits (s.rd a) f.hi f.lo v := by
  unfold State.setFld; rw [rd_wr_same, Nat.mod_eq_of_lt (putBits_lt _ _ _ _ h.1 h.2 (rd_lt s a))]

/-- The field written. -/
theorem fld_setFld_same (s : State) (a : Nat) (f : Fld) (v : Nat) (h : f.ok) :
    (s.setFld a f v).fld a f = v % 2 ^ (f.hi + 1 - f.lo) := by
  unfold State.fld; rw [rd_setFld_same s a f v h, bits_putBits_same _ _ _ _ h.1]

/-- Another field of the same register. -/
theorem fld_setFld_other (s : State) (a : Nat) (f g : Fld) (v : Nat) (h : f.ok) (hd : g.hi < f.lo ∨ f.hi < g.lo) :
    (s.setFld a f v).fld a g = s.fld a g := by
  unfold State.fld; rw [rd_setFld_same s a f v h, bits_putBits_ne _ _ _ _ _ _ h.1 hd]

/-- A field of another register. -/
theorem fld_setFld_ne (s : State) {a b : Nat} (f g : Fld) (v : Nat) (h : b ≠ a) : (s.setFld a f v).fld b g = s.fld b g := by
  unfold State.fld; rw [rd_setFld_ne s f v h]

theorem fld_wr_ne (s : State) {a b : Nat} (g : Fld) (v : Nat) (h : b ≠ a) : (s.wr a v).fld b g = s.fld b g := by
  unfold State.fld; rw [rd_wr_ne s v h]

theorem fld_wr_same (s : State) (a : Nat) (g : Fld) (v : Nat) : (s.wr a v).fld a g = bits (v % 2 ^ 64) g.hi g.lo := by
  unfold State.fld; rw [rd_wr_same]

/-- A sticky bit set reads as set, and its event count is one more (R9). -/
theorem sticky_set (s : State) (e ev : Nat) (f : Fld) (h : f.ok) (hne : e ≠ ev) : (s.sticky e f ev).fld e f = 1 := by
  unfold State.sticky State.addFld
  rw [fld_setFld_ne _ _ _ _ hne, fld_setFld_same _ _ _ _ h]
  exact Nat.one_mod_two_pow_eq_one.mpr (by have := h.1; omega)

theorem sticky_count (s : State) (e ev : Nat) (f : Fld) (hne : ev ≠ e) :
    (s.sticky e f ev).fld ev ⟨31, 0⟩ = (s.fld ev ⟨31, 0⟩ + 1) % 2 ^ 32 := by
  unfold State.sticky State.addFld
  rw [fld_setFld_same _ _ _ _ (by simp [Fld.ok]), fld_setFld_ne _ _ _ _ hne]
  rfl

/-- Every register but the two is unchanged. -/
theorem rd_sticky_ne (s : State) {e ev b : Nat} (f : Fld) (h1 : b ≠ e) (h2 : b ≠ ev) : (s.sticky e f ev).rd b = s.rd b := by
  unfold State.sticky State.addFld
  rw [rd_setFld_ne _ _ _ h2, rd_setFld_ne _ _ _ h1]

end Sys2Proof.Machine
end

