-- ==== Sys2Proof/Laws/State.lean ====
section
/-! SUPPORT. One lemma per field per update of the state: an update changes its own field alone. -/
namespace Sys2Proof.Machine

@[simp] theorem wr_pending (s : State) (a v : Nat) : (s.wr a v).pending = s.pending := rfl
@[simp] theorem wr_free (s : State) (a v : Nat) : (s.wr a v).free = s.free := rfl
@[simp] theorem wr_zt (s : State) (a v : Nat) : (s.wr a v).zt = s.zt := rfl
@[simp] theorem wr_mem (s : State) (a v : Nat) : (s.wr a v).mem = s.mem := rfl
@[simp] theorem wr_ue (s : State) (a v : Nat) : (s.wr a v).ue = s.ue := rfl
@[simp] theorem wr_fuses (s : State) (a v : Nat) : (s.wr a v).fuses = s.fuses := rfl
@[simp] theorem wr_spares (s : State) (a v : Nat) : (s.wr a v).spares = s.spares := rfl
@[simp] theorem wr_parts (s : State) (a v : Nat) : (s.wr a v).parts = s.parts := rfl
@[simp] theorem wr_tiles (s : State) (a v : Nat) : (s.wr a v).tiles = s.tiles := rfl
@[simp] theorem wr_queues (s : State) (a v : Nat) : (s.wr a v).queues = s.queues := rfl
@[simp] theorem wr_hubs (s : State) (a v : Nat) : (s.wr a v).hubs = s.hubs := rfl
@[simp] theorem wr_win (s : State) (a v : Nat) : (s.wr a v).win = s.win := rfl
@[simp] theorem wr_hubStart (s : State) (a v : Nat) : (s.wr a v).hubStart = s.hubStart := rfl
@[simp] theorem wr_msiFired (s : State) (a v : Nat) : (s.wr a v).msiFired = s.msiFired := rfl
@[simp] theorem wr_link (s : State) (a v : Nat) : (s.wr a v).link = s.link := rfl
@[simp] theorem wr_sigNet (s : State) (a v : Nat) : (s.wr a v).sigNet = s.sigNet := rfl
@[simp] theorem wr_sync (s : State) (a v : Nat) : (s.wr a v).sync = s.sync := rfl
@[simp] theorem wr_launchNo (s : State) (a v : Nat) : (s.wr a v).launchNo = s.launchNo := rfl
@[simp] theorem wr_regionCycle (s : State) (a v : Nat) : (s.wr a v).regionCycle = s.regionCycle := rfl
@[simp] theorem wr_hbSeq (s : State) (a v : Nat) : (s.wr a v).hbSeq = s.hbSeq := rfl
@[simp] theorem wr_tally (s : State) (a v : Nat) : (s.wr a v).tally = s.tally := rfl
@[simp] theorem wr_haloNet (s : State) (a v : Nat) : (s.wr a v).haloNet = s.haloNet := rfl
@[simp] theorem wr_anvils (s : State) (a v : Nat) : (s.wr a v).anvils = s.anvils := rfl
@[simp] theorem wr_forwards (s : State) (a v : Nat) : (s.wr a v).forwards = s.forwards := rfl
@[simp] theorem wr_power (s : State) (a v : Nat) : (s.wr a v).power = s.power := rfl
@[simp] theorem wr_welkin (s : State) (a v : Nat) : (s.wr a v).welkin = s.welkin := rfl
@[simp] theorem wr_router (s : State) (a v : Nat) : (s.wr a v).router = s.router := rfl
@[simp] theorem wr_ports (s : State) (a v : Nat) : (s.wr a v).ports = s.ports := rfl
@[simp] theorem wr_ces (s : State) (a v : Nat) : (s.wr a v).ces = s.ces := rfl
@[simp] theorem wr_zenith (s : State) (a v : Nat) : (s.wr a v).zenith = s.zenith := rfl
@[simp] theorem wr_tests (s : State) (a v : Nat) : (s.wr a v).tests = s.tests := rfl
@[simp] theorem wr_pwr (s : State) (a v : Nat) : (s.wr a v).pwr = s.pwr := rfl
@[simp] theorem wr_start (s : State) (a v : Nat) : (s.wr a v).start = s.start := rfl
@[simp] theorem wr_sensors (s : State) (a v : Nat) : (s.wr a v).sensors = s.sensors := rfl
@[simp] theorem wr_waits (s : State) (a v : Nat) : (s.wr a v).waits = s.waits := rfl
@[simp] theorem wr_pch (s : State) (a v : Nat) : (s.wr a v).pch = s.pch := rfl
@[simp] theorem wr_lcCount (s : State) (a v : Nat) : (s.wr a v).lcCount = s.lcCount := rfl
@[simp] theorem wr_lcWin (s : State) (a v : Nat) : (s.wr a v).lcWin = s.lcWin := rfl
@[simp] theorem wr_hbPend (s : State) (a v : Nat) : (s.wr a v).hbPend = s.hbPend := rfl
@[simp] theorem wr_evPend (s : State) (a v : Nat) : (s.wr a v).evPend = s.evPend := rfl
@[simp] theorem wr_out (s : State) (a v : Nat) : (s.wr a v).out = s.out := rfl

@[simp] theorem setTile_pending (s : State) (t : Nat) (x : TileSt) : (s.setTile t x).pending = s.pending := rfl
@[simp] theorem setTile_free (s : State) (t : Nat) (x : TileSt) : (s.setTile t x).free = s.free := rfl
@[simp] theorem setTile_zt (s : State) (t : Nat) (x : TileSt) : (s.setTile t x).zt = s.zt := rfl
@[simp] theorem setTile_regs (s : State) (t : Nat) (x : TileSt) : (s.setTile t x).regs = s.regs := rfl
@[simp] theorem setTile_mem (s : State) (t : Nat) (x : TileSt) : (s.setTile t x).mem = s.mem := rfl
@[simp] theorem setTile_ue (s : State) (t : Nat) (x : TileSt) : (s.setTile t x).ue = s.ue := rfl
@[simp] theorem setTile_fuses (s : State) (t : Nat) (x : TileSt) : (s.setTile t x).fuses = s.fuses := rfl
@[simp] theorem setTile_spares (s : State) (t : Nat) (x : TileSt) : (s.setTile t x).spares = s.spares := rfl
@[simp] theorem setTile_parts (s : State) (t : Nat) (x : TileSt) : (s.setTile t x).parts = s.parts := rfl
@[simp] theorem setTile_queues (s : State) (t : Nat) (x : TileSt) : (s.setTile t x).queues = s.queues := rfl
@[simp] theorem setTile_hubs (s : State) (t : Nat) (x : TileSt) : (s.setTile t x).hubs = s.hubs := rfl
@[simp] theorem setTile_win (s : State) (t : Nat) (x : TileSt) : (s.setTile t x).win = s.win := rfl
@[simp] theorem setTile_hubStart (s : State) (t : Nat) (x : TileSt) : (s.setTile t x).hubStart = s.hubStart := rfl
@[simp] theorem setTile_msiFired (s : State) (t : Nat) (x : TileSt) : (s.setTile t x).msiFired = s.msiFired := rfl
@[simp] theorem setTile_link (s : State) (t : Nat) (x : TileSt) : (s.setTile t x).link = s.link := rfl
@[simp] theorem setTile_sigNet (s : State) (t : Nat) (x : TileSt) : (s.setTile t x).sigNet = s.sigNet := rfl
@[simp] theorem setTile_sync (s : State) (t : Nat) (x : TileSt) : (s.setTile t x).sync = s.sync := rfl
@[simp] theorem setTile_launchNo (s : State) (t : Nat) (x : TileSt) : (s.setTile t x).launchNo = s.launchNo := rfl
@[simp] theorem setTile_regionCycle (s : State) (t : Nat) (x : TileSt) : (s.setTile t x).regionCycle = s.regionCycle := rfl
@[simp] theorem setTile_hbSeq (s : State) (t : Nat) (x : TileSt) : (s.setTile t x).hbSeq = s.hbSeq := rfl
@[simp] theorem setTile_tally (s : State) (t : Nat) (x : TileSt) : (s.setTile t x).tally = s.tally := rfl
@[simp] theorem setTile_haloNet (s : State) (t : Nat) (x : TileSt) : (s.setTile t x).haloNet = s.haloNet := rfl
@[simp] theorem setTile_anvils (s : State) (t : Nat) (x : TileSt) : (s.setTile t x).anvils = s.anvils := rfl
@[simp] theorem setTile_forwards (s : State) (t : Nat) (x : TileSt) : (s.setTile t x).forwards = s.forwards := rfl
@[simp] theorem setTile_power (s : State) (t : Nat) (x : TileSt) : (s.setTile t x).power = s.power := rfl
@[simp] theorem setTile_welkin (s : State) (t : Nat) (x : TileSt) : (s.setTile t x).welkin = s.welkin := rfl
@[simp] theorem setTile_router (s : State) (t : Nat) (x : TileSt) : (s.setTile t x).router = s.router := rfl
@[simp] theorem setTile_ports (s : State) (t : Nat) (x : TileSt) : (s.setTile t x).ports = s.ports := rfl
@[simp] theorem setTile_ces (s : State) (t : Nat) (x : TileSt) : (s.setTile t x).ces = s.ces := rfl
@[simp] theorem setTile_zenith (s : State) (t : Nat) (x : TileSt) : (s.setTile t x).zenith = s.zenith := rfl
@[simp] theorem setTile_tests (s : State) (t : Nat) (x : TileSt) : (s.setTile t x).tests = s.tests := rfl
@[simp] theorem setTile_pwr (s : State) (t : Nat) (x : TileSt) : (s.setTile t x).pwr = s.pwr := rfl
@[simp] theorem setTile_start (s : State) (t : Nat) (x : TileSt) : (s.setTile t x).start = s.start := rfl
@[simp] theorem setTile_sensors (s : State) (t : Nat) (x : TileSt) : (s.setTile t x).sensors = s.sensors := rfl
@[simp] theorem setTile_waits (s : State) (t : Nat) (x : TileSt) : (s.setTile t x).waits = s.waits := rfl
@[simp] theorem setTile_pch (s : State) (t : Nat) (x : TileSt) : (s.setTile t x).pch = s.pch := rfl
@[simp] theorem setTile_lcCount (s : State) (t : Nat) (x : TileSt) : (s.setTile t x).lcCount = s.lcCount := rfl
@[simp] theorem setTile_lcWin (s : State) (t : Nat) (x : TileSt) : (s.setTile t x).lcWin = s.lcWin := rfl
@[simp] theorem setTile_hbPend (s : State) (t : Nat) (x : TileSt) : (s.setTile t x).hbPend = s.hbPend := rfl
@[simp] theorem setTile_evPend (s : State) (t : Nat) (x : TileSt) : (s.setTile t x).evPend = s.evPend := rfl
@[simp] theorem setTile_out (s : State) (t : Nat) (x : TileSt) : (s.setTile t x).out = s.out := rfl

@[simp] theorem setPart_pending (s : State) (p : Nat) (x : PartSt) : (s.setPart p x).pending = s.pending := rfl
@[simp] theorem setPart_free (s : State) (p : Nat) (x : PartSt) : (s.setPart p x).free = s.free := rfl
@[simp] theorem setPart_zt (s : State) (p : Nat) (x : PartSt) : (s.setPart p x).zt = s.zt := rfl
@[simp] theorem setPart_regs (s : State) (p : Nat) (x : PartSt) : (s.setPart p x).regs = s.regs := rfl
@[simp] theorem setPart_mem (s : State) (p : Nat) (x : PartSt) : (s.setPart p x).mem = s.mem := rfl
@[simp] theorem setPart_ue (s : State) (p : Nat) (x : PartSt) : (s.setPart p x).ue = s.ue := rfl
@[simp] theorem setPart_fuses (s : State) (p : Nat) (x : PartSt) : (s.setPart p x).fuses = s.fuses := rfl
@[simp] theorem setPart_spares (s : State) (p : Nat) (x : PartSt) : (s.setPart p x).spares = s.spares := rfl
@[simp] theorem setPart_tiles (s : State) (p : Nat) (x : PartSt) : (s.setPart p x).tiles = s.tiles := rfl
@[simp] theorem setPart_queues (s : State) (p : Nat) (x : PartSt) : (s.setPart p x).queues = s.queues := rfl
@[simp] theorem setPart_hubs (s : State) (p : Nat) (x : PartSt) : (s.setPart p x).hubs = s.hubs := rfl
@[simp] theorem setPart_win (s : State) (p : Nat) (x : PartSt) : (s.setPart p x).win = s.win := rfl
@[simp] theorem setPart_hubStart (s : State) (p : Nat) (x : PartSt) : (s.setPart p x).hubStart = s.hubStart := rfl
@[simp] theorem setPart_msiFired (s : State) (p : Nat) (x : PartSt) : (s.setPart p x).msiFired = s.msiFired := rfl
@[simp] theorem setPart_link (s : State) (p : Nat) (x : PartSt) : (s.setPart p x).link = s.link := rfl
@[simp] theorem setPart_sigNet (s : State) (p : Nat) (x : PartSt) : (s.setPart p x).sigNet = s.sigNet := rfl
@[simp] theorem setPart_sync (s : State) (p : Nat) (x : PartSt) : (s.setPart p x).sync = s.sync := rfl
@[simp] theorem setPart_launchNo (s : State) (p : Nat) (x : PartSt) : (s.setPart p x).launchNo = s.launchNo := rfl
@[simp] theorem setPart_regionCycle (s : State) (p : Nat) (x : PartSt) : (s.setPart p x).regionCycle = s.regionCycle := rfl
@[simp] theorem setPart_hbSeq (s : State) (p : Nat) (x : PartSt) : (s.setPart p x).hbSeq = s.hbSeq := rfl
@[simp] theorem setPart_tally (s : State) (p : Nat) (x : PartSt) : (s.setPart p x).tally = s.tally := rfl
@[simp] theorem setPart_haloNet (s : State) (p : Nat) (x : PartSt) : (s.setPart p x).haloNet = s.haloNet := rfl
@[simp] theorem setPart_anvils (s : State) (p : Nat) (x : PartSt) : (s.setPart p x).anvils = s.anvils := rfl
@[simp] theorem setPart_forwards (s : State) (p : Nat) (x : PartSt) : (s.setPart p x).forwards = s.forwards := rfl
@[simp] theorem setPart_power (s : State) (p : Nat) (x : PartSt) : (s.setPart p x).power = s.power := rfl
@[simp] theorem setPart_welkin (s : State) (p : Nat) (x : PartSt) : (s.setPart p x).welkin = s.welkin := rfl
@[simp] theorem setPart_router (s : State) (p : Nat) (x : PartSt) : (s.setPart p x).router = s.router := rfl
@[simp] theorem setPart_ports (s : State) (p : Nat) (x : PartSt) : (s.setPart p x).ports = s.ports := rfl
@[simp] theorem setPart_ces (s : State) (p : Nat) (x : PartSt) : (s.setPart p x).ces = s.ces := rfl
@[simp] theorem setPart_zenith (s : State) (p : Nat) (x : PartSt) : (s.setPart p x).zenith = s.zenith := rfl
@[simp] theorem setPart_tests (s : State) (p : Nat) (x : PartSt) : (s.setPart p x).tests = s.tests := rfl
@[simp] theorem setPart_pwr (s : State) (p : Nat) (x : PartSt) : (s.setPart p x).pwr = s.pwr := rfl
@[simp] theorem setPart_start (s : State) (p : Nat) (x : PartSt) : (s.setPart p x).start = s.start := rfl
@[simp] theorem setPart_sensors (s : State) (p : Nat) (x : PartSt) : (s.setPart p x).sensors = s.sensors := rfl
@[simp] theorem setPart_waits (s : State) (p : Nat) (x : PartSt) : (s.setPart p x).waits = s.waits := rfl
@[simp] theorem setPart_pch (s : State) (p : Nat) (x : PartSt) : (s.setPart p x).pch = s.pch := rfl
@[simp] theorem setPart_lcCount (s : State) (p : Nat) (x : PartSt) : (s.setPart p x).lcCount = s.lcCount := rfl
@[simp] theorem setPart_lcWin (s : State) (p : Nat) (x : PartSt) : (s.setPart p x).lcWin = s.lcWin := rfl
@[simp] theorem setPart_hbPend (s : State) (p : Nat) (x : PartSt) : (s.setPart p x).hbPend = s.hbPend := rfl
@[simp] theorem setPart_evPend (s : State) (p : Nat) (x : PartSt) : (s.setPart p x).evPend = s.evPend := rfl
@[simp] theorem setPart_out (s : State) (p : Nat) (x : PartSt) : (s.setPart p x).out = s.out := rfl

@[simp] theorem setQueue_pending (s : State) (d q : Nat) (x : QueueSt) : (s.setQueue d q x).pending = s.pending := rfl
@[simp] theorem setQueue_free (s : State) (d q : Nat) (x : QueueSt) : (s.setQueue d q x).free = s.free := rfl
@[simp] theorem setQueue_zt (s : State) (d q : Nat) (x : QueueSt) : (s.setQueue d q x).zt = s.zt := rfl
@[simp] theorem setQueue_regs (s : State) (d q : Nat) (x : QueueSt) : (s.setQueue d q x).regs = s.regs := rfl
@[simp] theorem setQueue_mem (s : State) (d q : Nat) (x : QueueSt) : (s.setQueue d q x).mem = s.mem := rfl
@[simp] theorem setQueue_ue (s : State) (d q : Nat) (x : QueueSt) : (s.setQueue d q x).ue = s.ue := rfl
@[simp] theorem setQueue_fuses (s : State) (d q : Nat) (x : QueueSt) : (s.setQueue d q x).fuses = s.fuses := rfl
@[simp] theorem setQueue_spares (s : State) (d q : Nat) (x : QueueSt) : (s.setQueue d q x).spares = s.spares := rfl
@[simp] theorem setQueue_parts (s : State) (d q : Nat) (x : QueueSt) : (s.setQueue d q x).parts = s.parts := rfl
@[simp] theorem setQueue_tiles (s : State) (d q : Nat) (x : QueueSt) : (s.setQueue d q x).tiles = s.tiles := rfl
@[simp] theorem setQueue_hubs (s : State) (d q : Nat) (x : QueueSt) : (s.setQueue d q x).hubs = s.hubs := rfl
@[simp] theorem setQueue_win (s : State) (d q : Nat) (x : QueueSt) : (s.setQueue d q x).win = s.win := rfl
@[simp] theorem setQueue_hubStart (s : State) (d q : Nat) (x : QueueSt) : (s.setQueue d q x).hubStart = s.hubStart := rfl
@[simp] theorem setQueue_msiFired (s : State) (d q : Nat) (x : QueueSt) : (s.setQueue d q x).msiFired = s.msiFired := rfl
@[simp] theorem setQueue_link (s : State) (d q : Nat) (x : QueueSt) : (s.setQueue d q x).link = s.link := rfl
@[simp] theorem setQueue_sigNet (s : State) (d q : Nat) (x : QueueSt) : (s.setQueue d q x).sigNet = s.sigNet := rfl
@[simp] theorem setQueue_sync (s : State) (d q : Nat) (x : QueueSt) : (s.setQueue d q x).sync = s.sync := rfl
@[simp] theorem setQueue_launchNo (s : State) (d q : Nat) (x : QueueSt) : (s.setQueue d q x).launchNo = s.launchNo := rfl
@[simp] theorem setQueue_regionCycle (s : State) (d q : Nat) (x : QueueSt) : (s.setQueue d q x).regionCycle = s.regionCycle := rfl
@[simp] theorem setQueue_hbSeq (s : State) (d q : Nat) (x : QueueSt) : (s.setQueue d q x).hbSeq = s.hbSeq := rfl
@[simp] theorem setQueue_tally (s : State) (d q : Nat) (x : QueueSt) : (s.setQueue d q x).tally = s.tally := rfl
@[simp] theorem setQueue_haloNet (s : State) (d q : Nat) (x : QueueSt) : (s.setQueue d q x).haloNet = s.haloNet := rfl
@[simp] theorem setQueue_anvils (s : State) (d q : Nat) (x : QueueSt) : (s.setQueue d q x).anvils = s.anvils := rfl
@[simp] theorem setQueue_forwards (s : State) (d q : Nat) (x : QueueSt) : (s.setQueue d q x).forwards = s.forwards := rfl
@[simp] theorem setQueue_power (s : State) (d q : Nat) (x : QueueSt) : (s.setQueue d q x).power = s.power := rfl
@[simp] theorem setQueue_welkin (s : State) (d q : Nat) (x : QueueSt) : (s.setQueue d q x).welkin = s.welkin := rfl
@[simp] theorem setQueue_router (s : State) (d q : Nat) (x : QueueSt) : (s.setQueue d q x).router = s.router := rfl
@[simp] theorem setQueue_ports (s : State) (d q : Nat) (x : QueueSt) : (s.setQueue d q x).ports = s.ports := rfl
@[simp] theorem setQueue_ces (s : State) (d q : Nat) (x : QueueSt) : (s.setQueue d q x).ces = s.ces := rfl
@[simp] theorem setQueue_zenith (s : State) (d q : Nat) (x : QueueSt) : (s.setQueue d q x).zenith = s.zenith := rfl
@[simp] theorem setQueue_tests (s : State) (d q : Nat) (x : QueueSt) : (s.setQueue d q x).tests = s.tests := rfl
@[simp] theorem setQueue_pwr (s : State) (d q : Nat) (x : QueueSt) : (s.setQueue d q x).pwr = s.pwr := rfl
@[simp] theorem setQueue_start (s : State) (d q : Nat) (x : QueueSt) : (s.setQueue d q x).start = s.start := rfl
@[simp] theorem setQueue_sensors (s : State) (d q : Nat) (x : QueueSt) : (s.setQueue d q x).sensors = s.sensors := rfl
@[simp] theorem setQueue_waits (s : State) (d q : Nat) (x : QueueSt) : (s.setQueue d q x).waits = s.waits := rfl
@[simp] theorem setQueue_pch (s : State) (d q : Nat) (x : QueueSt) : (s.setQueue d q x).pch = s.pch := rfl
@[simp] theorem setQueue_lcCount (s : State) (d q : Nat) (x : QueueSt) : (s.setQueue d q x).lcCount = s.lcCount := rfl
@[simp] theorem setQueue_lcWin (s : State) (d q : Nat) (x : QueueSt) : (s.setQueue d q x).lcWin = s.lcWin := rfl
@[simp] theorem setQueue_hbPend (s : State) (d q : Nat) (x : QueueSt) : (s.setQueue d q x).hbPend = s.hbPend := rfl
@[simp] theorem setQueue_evPend (s : State) (d q : Nat) (x : QueueSt) : (s.setQueue d q x).evPend = s.evPend := rfl
@[simp] theorem setQueue_out (s : State) (d q : Nat) (x : QueueSt) : (s.setQueue d q x).out = s.out := rfl

@[simp] theorem setHub_pending (s : State) (d : Nat) (x : HubSt) : (s.setHub d x).pending = s.pending := rfl
@[simp] theorem setHub_free (s : State) (d : Nat) (x : HubSt) : (s.setHub d x).free = s.free := rfl
@[simp] theorem setHub_zt (s : State) (d : Nat) (x : HubSt) : (s.setHub d x).zt = s.zt := rfl
@[simp] theorem setHub_regs (s : State) (d : Nat) (x : HubSt) : (s.setHub d x).regs = s.regs := rfl
@[simp] theorem setHub_mem (s : State) (d : Nat) (x : HubSt) : (s.setHub d x).mem = s.mem := rfl
@[simp] theorem setHub_ue (s : State) (d : Nat) (x : HubSt) : (s.setHub d x).ue = s.ue := rfl
@[simp] theorem setHub_fuses (s : State) (d : Nat) (x : HubSt) : (s.setHub d x).fuses = s.fuses := rfl
@[simp] theorem setHub_spares (s : State) (d : Nat) (x : HubSt) : (s.setHub d x).spares = s.spares := rfl
@[simp] theorem setHub_parts (s : State) (d : Nat) (x : HubSt) : (s.setHub d x).parts = s.parts := rfl
@[simp] theorem setHub_tiles (s : State) (d : Nat) (x : HubSt) : (s.setHub d x).tiles = s.tiles := rfl
@[simp] theorem setHub_queues (s : State) (d : Nat) (x : HubSt) : (s.setHub d x).queues = s.queues := rfl
@[simp] theorem setHub_win (s : State) (d : Nat) (x : HubSt) : (s.setHub d x).win = s.win := rfl
@[simp] theorem setHub_hubStart (s : State) (d : Nat) (x : HubSt) : (s.setHub d x).hubStart = s.hubStart := rfl
@[simp] theorem setHub_msiFired (s : State) (d : Nat) (x : HubSt) : (s.setHub d x).msiFired = s.msiFired := rfl
@[simp] theorem setHub_link (s : State) (d : Nat) (x : HubSt) : (s.setHub d x).link = s.link := rfl
@[simp] theorem setHub_sigNet (s : State) (d : Nat) (x : HubSt) : (s.setHub d x).sigNet = s.sigNet := rfl
@[simp] theorem setHub_sync (s : State) (d : Nat) (x : HubSt) : (s.setHub d x).sync = s.sync := rfl
@[simp] theorem setHub_launchNo (s : State) (d : Nat) (x : HubSt) : (s.setHub d x).launchNo = s.launchNo := rfl
@[simp] theorem setHub_regionCycle (s : State) (d : Nat) (x : HubSt) : (s.setHub d x).regionCycle = s.regionCycle := rfl
@[simp] theorem setHub_hbSeq (s : State) (d : Nat) (x : HubSt) : (s.setHub d x).hbSeq = s.hbSeq := rfl
@[simp] theorem setHub_tally (s : State) (d : Nat) (x : HubSt) : (s.setHub d x).tally = s.tally := rfl
@[simp] theorem setHub_haloNet (s : State) (d : Nat) (x : HubSt) : (s.setHub d x).haloNet = s.haloNet := rfl
@[simp] theorem setHub_anvils (s : State) (d : Nat) (x : HubSt) : (s.setHub d x).anvils = s.anvils := rfl
@[simp] theorem setHub_forwards (s : State) (d : Nat) (x : HubSt) : (s.setHub d x).forwards = s.forwards := rfl
@[simp] theorem setHub_power (s : State) (d : Nat) (x : HubSt) : (s.setHub d x).power = s.power := rfl
@[simp] theorem setHub_welkin (s : State) (d : Nat) (x : HubSt) : (s.setHub d x).welkin = s.welkin := rfl
@[simp] theorem setHub_router (s : State) (d : Nat) (x : HubSt) : (s.setHub d x).router = s.router := rfl
@[simp] theorem setHub_ports (s : State) (d : Nat) (x : HubSt) : (s.setHub d x).ports = s.ports := rfl
@[simp] theorem setHub_ces (s : State) (d : Nat) (x : HubSt) : (s.setHub d x).ces = s.ces := rfl
@[simp] theorem setHub_zenith (s : State) (d : Nat) (x : HubSt) : (s.setHub d x).zenith = s.zenith := rfl
@[simp] theorem setHub_tests (s : State) (d : Nat) (x : HubSt) : (s.setHub d x).tests = s.tests := rfl
@[simp] theorem setHub_pwr (s : State) (d : Nat) (x : HubSt) : (s.setHub d x).pwr = s.pwr := rfl
@[simp] theorem setHub_start (s : State) (d : Nat) (x : HubSt) : (s.setHub d x).start = s.start := rfl
@[simp] theorem setHub_sensors (s : State) (d : Nat) (x : HubSt) : (s.setHub d x).sensors = s.sensors := rfl
@[simp] theorem setHub_waits (s : State) (d : Nat) (x : HubSt) : (s.setHub d x).waits = s.waits := rfl
@[simp] theorem setHub_pch (s : State) (d : Nat) (x : HubSt) : (s.setHub d x).pch = s.pch := rfl
@[simp] theorem setHub_lcCount (s : State) (d : Nat) (x : HubSt) : (s.setHub d x).lcCount = s.lcCount := rfl
@[simp] theorem setHub_lcWin (s : State) (d : Nat) (x : HubSt) : (s.setHub d x).lcWin = s.lcWin := rfl
@[simp] theorem setHub_hbPend (s : State) (d : Nat) (x : HubSt) : (s.setHub d x).hbPend = s.hbPend := rfl
@[simp] theorem setHub_evPend (s : State) (d : Nat) (x : HubSt) : (s.setHub d x).evPend = s.evPend := rfl
@[simp] theorem setHub_out (s : State) (d : Nat) (x : HubSt) : (s.setHub d x).out = s.out := rfl

@[simp] theorem setWindow_pending (s : State) (d w : Nat) (x : Nat × Nat) : (s.setWindow d w x).pending = s.pending := rfl
@[simp] theorem setWindow_free (s : State) (d w : Nat) (x : Nat × Nat) : (s.setWindow d w x).free = s.free := rfl
@[simp] theorem setWindow_zt (s : State) (d w : Nat) (x : Nat × Nat) : (s.setWindow d w x).zt = s.zt := rfl
@[simp] theorem setWindow_regs (s : State) (d w : Nat) (x : Nat × Nat) : (s.setWindow d w x).regs = s.regs := rfl
@[simp] theorem setWindow_mem (s : State) (d w : Nat) (x : Nat × Nat) : (s.setWindow d w x).mem = s.mem := rfl
@[simp] theorem setWindow_ue (s : State) (d w : Nat) (x : Nat × Nat) : (s.setWindow d w x).ue = s.ue := rfl
@[simp] theorem setWindow_fuses (s : State) (d w : Nat) (x : Nat × Nat) : (s.setWindow d w x).fuses = s.fuses := rfl
@[simp] theorem setWindow_spares (s : State) (d w : Nat) (x : Nat × Nat) : (s.setWindow d w x).spares = s.spares := rfl
@[simp] theorem setWindow_parts (s : State) (d w : Nat) (x : Nat × Nat) : (s.setWindow d w x).parts = s.parts := rfl
@[simp] theorem setWindow_tiles (s : State) (d w : Nat) (x : Nat × Nat) : (s.setWindow d w x).tiles = s.tiles := rfl
@[simp] theorem setWindow_queues (s : State) (d w : Nat) (x : Nat × Nat) : (s.setWindow d w x).queues = s.queues := rfl
@[simp] theorem setWindow_hubs (s : State) (d w : Nat) (x : Nat × Nat) : (s.setWindow d w x).hubs = s.hubs := rfl
@[simp] theorem setWindow_link (s : State) (d w : Nat) (x : Nat × Nat) : (s.setWindow d w x).link = s.link := rfl
@[simp] theorem setWindow_sigNet (s : State) (d w : Nat) (x : Nat × Nat) : (s.setWindow d w x).sigNet = s.sigNet := rfl
@[simp] theorem setWindow_sync (s : State) (d w : Nat) (x : Nat × Nat) : (s.setWindow d w x).sync = s.sync := rfl
@[simp] theorem setWindow_launchNo (s : State) (d w : Nat) (x : Nat × Nat) : (s.setWindow d w x).launchNo = s.launchNo := rfl
@[simp] theorem setWindow_regionCycle (s : State) (d w : Nat) (x : Nat × Nat) : (s.setWindow d w x).regionCycle = s.regionCycle := rfl
@[simp] theorem setWindow_hbSeq (s : State) (d w : Nat) (x : Nat × Nat) : (s.setWindow d w x).hbSeq = s.hbSeq := rfl
@[simp] theorem setWindow_tally (s : State) (d w : Nat) (x : Nat × Nat) : (s.setWindow d w x).tally = s.tally := rfl
@[simp] theorem setWindow_haloNet (s : State) (d w : Nat) (x : Nat × Nat) : (s.setWindow d w x).haloNet = s.haloNet := rfl
@[simp] theorem setWindow_anvils (s : State) (d w : Nat) (x : Nat × Nat) : (s.setWindow d w x).anvils = s.anvils := rfl
@[simp] theorem setWindow_forwards (s : State) (d w : Nat) (x : Nat × Nat) : (s.setWindow d w x).forwards = s.forwards := rfl
@[simp] theorem setWindow_power (s : State) (d w : Nat) (x : Nat × Nat) : (s.setWindow d w x).power = s.power := rfl
@[simp] theorem setWindow_welkin (s : State) (d w : Nat) (x : Nat × Nat) : (s.setWindow d w x).welkin = s.welkin := rfl
@[simp] theorem setWindow_router (s : State) (d w : Nat) (x : Nat × Nat) : (s.setWindow d w x).router = s.router := rfl
@[simp] theorem setWindow_ports (s : State) (d w : Nat) (x : Nat × Nat) : (s.setWindow d w x).ports = s.ports := rfl
@[simp] theorem setWindow_ces (s : State) (d w : Nat) (x : Nat × Nat) : (s.setWindow d w x).ces = s.ces := rfl
@[simp] theorem setWindow_zenith (s : State) (d w : Nat) (x : Nat × Nat) : (s.setWindow d w x).zenith = s.zenith := rfl
@[simp] theorem setWindow_tests (s : State) (d w : Nat) (x : Nat × Nat) : (s.setWindow d w x).tests = s.tests := rfl
@[simp] theorem setWindow_pwr (s : State) (d w : Nat) (x : Nat × Nat) : (s.setWindow d w x).pwr = s.pwr := rfl
@[simp] theorem setWindow_start (s : State) (d w : Nat) (x : Nat × Nat) : (s.setWindow d w x).start = s.start := rfl
@[simp] theorem setWindow_sensors (s : State) (d w : Nat) (x : Nat × Nat) : (s.setWindow d w x).sensors = s.sensors := rfl
@[simp] theorem setWindow_waits (s : State) (d w : Nat) (x : Nat × Nat) : (s.setWindow d w x).waits = s.waits := rfl
@[simp] theorem setWindow_pch (s : State) (d w : Nat) (x : Nat × Nat) : (s.setWindow d w x).pch = s.pch := rfl
@[simp] theorem setWindow_lcCount (s : State) (d w : Nat) (x : Nat × Nat) : (s.setWindow d w x).lcCount = s.lcCount := rfl
@[simp] theorem setWindow_lcWin (s : State) (d w : Nat) (x : Nat × Nat) : (s.setWindow d w x).lcWin = s.lcWin := rfl
@[simp] theorem setWindow_hbPend (s : State) (d w : Nat) (x : Nat × Nat) : (s.setWindow d w x).hbPend = s.hbPend := rfl
@[simp] theorem setWindow_evPend (s : State) (d w : Nat) (x : Nat × Nat) : (s.setWindow d w x).evPend = s.evPend := rfl
@[simp] theorem setWindow_out (s : State) (d w : Nat) (x : Nat × Nat) : (s.setWindow d w x).out = s.out := rfl

@[simp] theorem sendSig_pending (s : State) (g : Sig) : (s.sendSig g).pending = s.pending := rfl
@[simp] theorem sendSig_free (s : State) (g : Sig) : (s.sendSig g).free = s.free := rfl
@[simp] theorem sendSig_zt (s : State) (g : Sig) : (s.sendSig g).zt = s.zt := rfl
@[simp] theorem sendSig_regs (s : State) (g : Sig) : (s.sendSig g).regs = s.regs := rfl
@[simp] theorem sendSig_mem (s : State) (g : Sig) : (s.sendSig g).mem = s.mem := rfl
@[simp] theorem sendSig_ue (s : State) (g : Sig) : (s.sendSig g).ue = s.ue := rfl
@[simp] theorem sendSig_fuses (s : State) (g : Sig) : (s.sendSig g).fuses = s.fuses := rfl
@[simp] theorem sendSig_spares (s : State) (g : Sig) : (s.sendSig g).spares = s.spares := rfl
@[simp] theorem sendSig_parts (s : State) (g : Sig) : (s.sendSig g).parts = s.parts := rfl
@[simp] theorem sendSig_tiles (s : State) (g : Sig) : (s.sendSig g).tiles = s.tiles := rfl
@[simp] theorem sendSig_queues (s : State) (g : Sig) : (s.sendSig g).queues = s.queues := rfl
@[simp] theorem sendSig_hubs (s : State) (g : Sig) : (s.sendSig g).hubs = s.hubs := rfl
@[simp] theorem sendSig_win (s : State) (g : Sig) : (s.sendSig g).win = s.win := rfl
@[simp] theorem sendSig_hubStart (s : State) (g : Sig) : (s.sendSig g).hubStart = s.hubStart := rfl
@[simp] theorem sendSig_msiFired (s : State) (g : Sig) : (s.sendSig g).msiFired = s.msiFired := rfl
@[simp] theorem sendSig_link (s : State) (g : Sig) : (s.sendSig g).link = s.link := rfl
@[simp] theorem sendSig_launchNo (s : State) (g : Sig) : (s.sendSig g).launchNo = s.launchNo := rfl
@[simp] theorem sendSig_regionCycle (s : State) (g : Sig) : (s.sendSig g).regionCycle = s.regionCycle := rfl
@[simp] theorem sendSig_hbSeq (s : State) (g : Sig) : (s.sendSig g).hbSeq = s.hbSeq := rfl
@[simp] theorem sendSig_tally (s : State) (g : Sig) : (s.sendSig g).tally = s.tally := rfl
@[simp] theorem sendSig_haloNet (s : State) (g : Sig) : (s.sendSig g).haloNet = s.haloNet := rfl
@[simp] theorem sendSig_anvils (s : State) (g : Sig) : (s.sendSig g).anvils = s.anvils := rfl
@[simp] theorem sendSig_forwards (s : State) (g : Sig) : (s.sendSig g).forwards = s.forwards := rfl
@[simp] theorem sendSig_power (s : State) (g : Sig) : (s.sendSig g).power = s.power := rfl
@[simp] theorem sendSig_welkin (s : State) (g : Sig) : (s.sendSig g).welkin = s.welkin := rfl
@[simp] theorem sendSig_router (s : State) (g : Sig) : (s.sendSig g).router = s.router := rfl
@[simp] theorem sendSig_ports (s : State) (g : Sig) : (s.sendSig g).ports = s.ports := rfl
@[simp] theorem sendSig_ces (s : State) (g : Sig) : (s.sendSig g).ces = s.ces := rfl
@[simp] theorem sendSig_zenith (s : State) (g : Sig) : (s.sendSig g).zenith = s.zenith := rfl
@[simp] theorem sendSig_tests (s : State) (g : Sig) : (s.sendSig g).tests = s.tests := rfl
@[simp] theorem sendSig_pwr (s : State) (g : Sig) : (s.sendSig g).pwr = s.pwr := rfl
@[simp] theorem sendSig_start (s : State) (g : Sig) : (s.sendSig g).start = s.start := rfl
@[simp] theorem sendSig_sensors (s : State) (g : Sig) : (s.sendSig g).sensors = s.sensors := rfl
@[simp] theorem sendSig_waits (s : State) (g : Sig) : (s.sendSig g).waits = s.waits := rfl
@[simp] theorem sendSig_pch (s : State) (g : Sig) : (s.sendSig g).pch = s.pch := rfl
@[simp] theorem sendSig_lcCount (s : State) (g : Sig) : (s.sendSig g).lcCount = s.lcCount := rfl
@[simp] theorem sendSig_lcWin (s : State) (g : Sig) : (s.sendSig g).lcWin = s.lcWin := rfl
@[simp] theorem sendSig_hbPend (s : State) (g : Sig) : (s.sendSig g).hbPend = s.hbPend := rfl
@[simp] theorem sendSig_evPend (s : State) (g : Sig) : (s.sendSig g).evPend = s.evPend := rfl
@[simp] theorem sendSig_out (s : State) (g : Sig) : (s.sendSig g).out = s.out := rfl

@[simp] theorem cleanUnits_pending (s : State) (a n : Nat) : (s.cleanUnits a n).pending = s.pending := rfl
@[simp] theorem cleanUnits_free (s : State) (a n : Nat) : (s.cleanUnits a n).free = s.free := rfl
@[simp] theorem cleanUnits_zt (s : State) (a n : Nat) : (s.cleanUnits a n).zt = s.zt := rfl
@[simp] theorem cleanUnits_regs (s : State) (a n : Nat) : (s.cleanUnits a n).regs = s.regs := rfl
@[simp] theorem cleanUnits_mem (s : State) (a n : Nat) : (s.cleanUnits a n).mem = s.mem := rfl
@[simp] theorem cleanUnits_fuses (s : State) (a n : Nat) : (s.cleanUnits a n).fuses = s.fuses := rfl
@[simp] theorem cleanUnits_spares (s : State) (a n : Nat) : (s.cleanUnits a n).spares = s.spares := rfl
@[simp] theorem cleanUnits_parts (s : State) (a n : Nat) : (s.cleanUnits a n).parts = s.parts := rfl
@[simp] theorem cleanUnits_tiles (s : State) (a n : Nat) : (s.cleanUnits a n).tiles = s.tiles := rfl
@[simp] theorem cleanUnits_queues (s : State) (a n : Nat) : (s.cleanUnits a n).queues = s.queues := rfl
@[simp] theorem cleanUnits_hubs (s : State) (a n : Nat) : (s.cleanUnits a n).hubs = s.hubs := rfl
@[simp] theorem cleanUnits_win (s : State) (a n : Nat) : (s.cleanUnits a n).win = s.win := rfl
@[simp] theorem cleanUnits_hubStart (s : State) (a n : Nat) : (s.cleanUnits a n).hubStart = s.hubStart := rfl
@[simp] theorem cleanUnits_msiFired (s : State) (a n : Nat) : (s.cleanUnits a n).msiFired = s.msiFired := rfl
@[simp] theorem cleanUnits_link (s : State) (a n : Nat) : (s.cleanUnits a n).link = s.link := rfl
@[simp] theorem cleanUnits_sigNet (s : State) (a n : Nat) : (s.cleanUnits a n).sigNet = s.sigNet := rfl
@[simp] theorem cleanUnits_sync (s : State) (a n : Nat) : (s.cleanUnits a n).sync = s.sync := rfl
@[simp] theorem cleanUnits_launchNo (s : State) (a n : Nat) : (s.cleanUnits a n).launchNo = s.launchNo := rfl
@[simp] theorem cleanUnits_regionCycle (s : State) (a n : Nat) : (s.cleanUnits a n).regionCycle = s.regionCycle := rfl
@[simp] theorem cleanUnits_hbSeq (s : State) (a n : Nat) : (s.cleanUnits a n).hbSeq = s.hbSeq := rfl
@[simp] theorem cleanUnits_tally (s : State) (a n : Nat) : (s.cleanUnits a n).tally = s.tally := rfl
@[simp] theorem cleanUnits_haloNet (s : State) (a n : Nat) : (s.cleanUnits a n).haloNet = s.haloNet := rfl
@[simp] theorem cleanUnits_anvils (s : State) (a n : Nat) : (s.cleanUnits a n).anvils = s.anvils := rfl
@[simp] theorem cleanUnits_forwards (s : State) (a n : Nat) : (s.cleanUnits a n).forwards = s.forwards := rfl
@[simp] theorem cleanUnits_power (s : State) (a n : Nat) : (s.cleanUnits a n).power = s.power := rfl
@[simp] theorem cleanUnits_welkin (s : State) (a n : Nat) : (s.cleanUnits a n).welkin = s.welkin := rfl
@[simp] theorem cleanUnits_router (s : State) (a n : Nat) : (s.cleanUnits a n).router = s.router := rfl
@[simp] theorem cleanUnits_ports (s : State) (a n : Nat) : (s.cleanUnits a n).ports = s.ports := rfl
@[simp] theorem cleanUnits_ces (s : State) (a n : Nat) : (s.cleanUnits a n).ces = s.ces := rfl
@[simp] theorem cleanUnits_zenith (s : State) (a n : Nat) : (s.cleanUnits a n).zenith = s.zenith := rfl
@[simp] theorem cleanUnits_tests (s : State) (a n : Nat) : (s.cleanUnits a n).tests = s.tests := rfl
@[simp] theorem cleanUnits_pwr (s : State) (a n : Nat) : (s.cleanUnits a n).pwr = s.pwr := rfl
@[simp] theorem cleanUnits_start (s : State) (a n : Nat) : (s.cleanUnits a n).start = s.start := rfl
@[simp] theorem cleanUnits_sensors (s : State) (a n : Nat) : (s.cleanUnits a n).sensors = s.sensors := rfl
@[simp] theorem cleanUnits_waits (s : State) (a n : Nat) : (s.cleanUnits a n).waits = s.waits := rfl
@[simp] theorem cleanUnits_pch (s : State) (a n : Nat) : (s.cleanUnits a n).pch = s.pch := rfl
@[simp] theorem cleanUnits_lcCount (s : State) (a n : Nat) : (s.cleanUnits a n).lcCount = s.lcCount := rfl
@[simp] theorem cleanUnits_lcWin (s : State) (a n : Nat) : (s.cleanUnits a n).lcWin = s.lcWin := rfl
@[simp] theorem cleanUnits_hbPend (s : State) (a n : Nat) : (s.cleanUnits a n).hbPend = s.hbPend := rfl
@[simp] theorem cleanUnits_evPend (s : State) (a n : Nat) : (s.cleanUnits a n).evPend = s.evPend := rfl
@[simp] theorem cleanUnits_out (s : State) (a n : Nat) : (s.cleanUnits a n).out = s.out := rfl

@[simp] theorem moveRange_pending (s : State) (a b n : Nat) : (s.moveRange a b n).pending = s.pending := rfl
@[simp] theorem moveRange_free (s : State) (a b n : Nat) : (s.moveRange a b n).free = s.free := rfl
@[simp] theorem moveRange_zt (s : State) (a b n : Nat) : (s.moveRange a b n).zt = s.zt := rfl
@[simp] theorem moveRange_regs (s : State) (a b n : Nat) : (s.moveRange a b n).regs = s.regs := rfl
@[simp] theorem moveRange_ue (s : State) (a b n : Nat) : (s.moveRange a b n).ue = s.ue := rfl
@[simp] theorem moveRange_fuses (s : State) (a b n : Nat) : (s.moveRange a b n).fuses = s.fuses := rfl
@[simp] theorem moveRange_spares (s : State) (a b n : Nat) : (s.moveRange a b n).spares = s.spares := rfl
@[simp] theorem moveRange_parts (s : State) (a b n : Nat) : (s.moveRange a b n).parts = s.parts := rfl
@[simp] theorem moveRange_tiles (s : State) (a b n : Nat) : (s.moveRange a b n).tiles = s.tiles := rfl
@[simp] theorem moveRange_queues (s : State) (a b n : Nat) : (s.moveRange a b n).queues = s.queues := rfl
@[simp] theorem moveRange_hubs (s : State) (a b n : Nat) : (s.moveRange a b n).hubs = s.hubs := rfl
@[simp] theorem moveRange_win (s : State) (a b n : Nat) : (s.moveRange a b n).win = s.win := rfl
@[simp] theorem moveRange_hubStart (s : State) (a b n : Nat) : (s.moveRange a b n).hubStart = s.hubStart := rfl
@[simp] theorem moveRange_msiFired (s : State) (a b n : Nat) : (s.moveRange a b n).msiFired = s.msiFired := rfl
@[simp] theorem moveRange_link (s : State) (a b n : Nat) : (s.moveRange a b n).link = s.link := rfl
@[simp] theorem moveRange_sigNet (s : State) (a b n : Nat) : (s.moveRange a b n).sigNet = s.sigNet := rfl
@[simp] theorem moveRange_sync (s : State) (a b n : Nat) : (s.moveRange a b n).sync = s.sync := rfl
@[simp] theorem moveRange_launchNo (s : State) (a b n : Nat) : (s.moveRange a b n).launchNo = s.launchNo := rfl
@[simp] theorem moveRange_regionCycle (s : State) (a b n : Nat) : (s.moveRange a b n).regionCycle = s.regionCycle := rfl
@[simp] theorem moveRange_hbSeq (s : State) (a b n : Nat) : (s.moveRange a b n).hbSeq = s.hbSeq := rfl
@[simp] theorem moveRange_tally (s : State) (a b n : Nat) : (s.moveRange a b n).tally = s.tally := rfl
@[simp] theorem moveRange_haloNet (s : State) (a b n : Nat) : (s.moveRange a b n).haloNet = s.haloNet := rfl
@[simp] theorem moveRange_anvils (s : State) (a b n : Nat) : (s.moveRange a b n).anvils = s.anvils := rfl
@[simp] theorem moveRange_forwards (s : State) (a b n : Nat) : (s.moveRange a b n).forwards = s.forwards := rfl
@[simp] theorem moveRange_power (s : State) (a b n : Nat) : (s.moveRange a b n).power = s.power := rfl
@[simp] theorem moveRange_welkin (s : State) (a b n : Nat) : (s.moveRange a b n).welkin = s.welkin := rfl
@[simp] theorem moveRange_router (s : State) (a b n : Nat) : (s.moveRange a b n).router = s.router := rfl
@[simp] theorem moveRange_ports (s : State) (a b n : Nat) : (s.moveRange a b n).ports = s.ports := rfl
@[simp] theorem moveRange_ces (s : State) (a b n : Nat) : (s.moveRange a b n).ces = s.ces := rfl
@[simp] theorem moveRange_zenith (s : State) (a b n : Nat) : (s.moveRange a b n).zenith = s.zenith := rfl
@[simp] theorem moveRange_tests (s : State) (a b n : Nat) : (s.moveRange a b n).tests = s.tests := rfl
@[simp] theorem moveRange_pwr (s : State) (a b n : Nat) : (s.moveRange a b n).pwr = s.pwr := rfl
@[simp] theorem moveRange_start (s : State) (a b n : Nat) : (s.moveRange a b n).start = s.start := rfl
@[simp] theorem moveRange_sensors (s : State) (a b n : Nat) : (s.moveRange a b n).sensors = s.sensors := rfl
@[simp] theorem moveRange_waits (s : State) (a b n : Nat) : (s.moveRange a b n).waits = s.waits := rfl
@[simp] theorem moveRange_pch (s : State) (a b n : Nat) : (s.moveRange a b n).pch = s.pch := rfl
@[simp] theorem moveRange_lcCount (s : State) (a b n : Nat) : (s.moveRange a b n).lcCount = s.lcCount := rfl
@[simp] theorem moveRange_lcWin (s : State) (a b n : Nat) : (s.moveRange a b n).lcWin = s.lcWin := rfl
@[simp] theorem moveRange_hbPend (s : State) (a b n : Nat) : (s.moveRange a b n).hbPend = s.hbPend := rfl
@[simp] theorem moveRange_evPend (s : State) (a b n : Nat) : (s.moveRange a b n).evPend = s.evPend := rfl
@[simp] theorem moveRange_out (s : State) (a b n : Nat) : (s.moveRange a b n).out = s.out := rfl

end Sys2Proof.Machine
end

