-- ==== Sys2Proof/Laws/Memory.lean ====
section
/-! SUPPORT. What the memory operations do: a read after a write, what a write leaves alone, and the canonical form kept. -/
namespace Sys2Proof.Machine

/-! ## One byte -/

theorem setByte_mem_wf (s : State) (a : Nat) (b : Byte) (h : Memory.wf s.mem = true) : Memory.wf (s.setByte a b).mem = true := by
  unfold State.setByte
  split
  · exact h
  · exact swf_sset _ h _ _

theorem setByte_other (s : State) (a : Nat) (b : Byte) : ∃ m, s.setByte a b = { s with mem := m } := by
  unfold State.setByte
  split
  · exact ⟨s.mem, rfl⟩
  · exact ⟨_, rfl⟩

@[simp] theorem setByte_regs (s : State) (a : Nat) (b : Byte) : (s.setByte a b).regs = s.regs := by
  obtain ⟨m, h⟩ := setByte_other s a b; rw [h]
@[simp] theorem setByte_fuses (s : State) (a : Nat) (b : Byte) : (s.setByte a b).fuses = s.fuses := by
  obtain ⟨m, h⟩ := setByte_other s a b; rw [h]
@[simp] theorem setByte_parts (s : State) (a : Nat) (b : Byte) : (s.setByte a b).parts = s.parts := by
  obtain ⟨m, h⟩ := setByte_other s a b; rw [h]
@[simp] theorem setByte_pending (s : State) (a : Nat) (b : Byte) : (s.setByte a b).pending = s.pending := by
  obtain ⟨m, h⟩ := setByte_other s a b; rw [h]
@[simp] theorem setByte_zt (s : State) (a : Nat) (b : Byte) : (s.setByte a b).zt = s.zt := by
  obtain ⟨m, h⟩ := setByte_other s a b; rw [h]

@[simp] theorem resolve_setByte (s : State) (a c : Nat) (b : Byte) : (s.setByte a b).resolve c = s.resolve c := by
  obtain ⟨m, h⟩ := setByte_other s a b; rw [h]; rfl

theorem tilePresent_setByte (s : State) (a t : Nat) (b : Byte) : (s.setByte a b).tilePresent t = s.tilePresent t := by
  obtain ⟨m, h⟩ := setByte_other s a b; rw [h]; rfl

/-- The byte written reads back, but in the SRAM of an absent tile (R3). -/
theorem byte_setByte_same (s : State) (a : Nat) (b : Byte) (h : (isSram a && !s.tilePresent (sramTile a)) = false) :
    (s.setByte a b).byte a = b := by
  have e : s.setByte a b = { s with mem := sset memDefault s.mem (s.resolve a) b } := by unfold State.setByte; rw [h]; rfl
  have hp : (s.setByte a b).tilePresent (sramTile a) = s.tilePresent (sramTile a) := tilePresent_setByte s a _ b
  unfold State.byte
  rw [hp, h, resolve_setByte, e]
  simp

/-- A byte kept elsewhere reads as before. -/
theorem byte_setByte_ne (s : State) (a c : Nat) (b : Byte) (h : s.resolve c ≠ s.resolve a) : (s.setByte a b).byte c = s.byte c := by
  have hp : (s.setByte a b).tilePresent (sramTile c) = s.tilePresent (sramTile c) := tilePresent_setByte s a _ b
  unfold State.byte
  rw [hp, resolve_setByte]
  by_cases ha : (isSram a && !s.tilePresent (sramTile a)) = true
  · have e : s.setByte a b = s := by unfold State.setByte; rw [if_pos ha]
    rw [e]
  · have e : s.setByte a b = { s with mem := sset memDefault s.mem (s.resolve a) b } := by unfold State.setByte; rw [if_neg ha]
    rw [e, sget_sset_ne _ _ _ h]

/-! ## Byte strings and the composed operations -/

theorem writeBytes_other (s : State) (a : Nat) (l : List Byte) : ∃ m, s.writeBytes a l = { s with mem := m } := by
  induction l generalizing s a with
  | nil => exact ⟨s.mem, rfl⟩
  | cons b t ih =>
    obtain ⟨m, h⟩ := setByte_other s a b
    obtain ⟨m', h'⟩ := ih (s.setByte a b) (a + 1)
    exact ⟨m', by simp only [State.writeBytes]; rw [h', h]⟩

theorem writeBytes_mem_wf (s : State) (a : Nat) (l : List Byte) (h : Memory.wf s.mem = true) :
    Memory.wf (s.writeBytes a l).mem = true := by
  induction l generalizing s a with
  | nil => exact h
  | cons b t ih => exact ih _ _ (setByte_mem_wf s a b h)

theorem writeExcept_other (s : State) (a : Nat) (k : List Nat) (l : List Byte) : ∃ m, s.writeExcept a k l = { s with mem := m } := by
  induction l generalizing s a with
  | nil => exact ⟨s.mem, rfl⟩
  | cons b t ih =>
    simp only [State.writeExcept]
    split
    · exact ih s (a + 1)
    · obtain ⟨m, h⟩ := setByte_other s a b
      obtain ⟨m', h'⟩ := ih (s.setByte a b) (a + 1)
      exact ⟨m', by rw [h', h]⟩

theorem writeExcept_mem_wf (s : State) (a : Nat) (k : List Nat) (l : List Byte) (h : Memory.wf s.mem = true) :
    Memory.wf (s.writeExcept a k l).mem = true := by
  induction l generalizing s a with
  | nil => exact h
  | cons b t ih =>
    simp only [State.writeExcept]
    split
    · exact ih _ _ h
    · exact ih _ _ (setByte_mem_wf s a b h)

/-- Bytes written to memory that keeps every address in its own place read as before outside the range. -/
theorem writeBytes_byte_ne (s : State) (a c : Nat) (l : List Byte) (h : ∀ k < l.length, s.resolve c ≠ s.resolve (a + k)) :
    (s.writeBytes a l).byte c = s.byte c := by
  induction l generalizing s a with
  | nil => rfl
  | cons b t ih =>
    simp only [State.writeBytes]
    rw [ih]
    · exact byte_setByte_ne s a c b (by simpa using h 0 (by simp))
    · intro k hk
      rw [resolve_setByte, resolve_setByte]
      have := h (k + 1) (by simp; omega)
      rwa [show a + 1 + k = a + (k + 1) by omega]

/-! ## Ranges moved -/

theorem swfFrom_append (d : Nat → Byte) {l m : List Host.Cell} {b c : Nat} (hl : swfFrom d b l = true) (hc : b ≤ c)
    (hlt : ∀ e ∈ l, e.1 < c) (hm : swfFrom d c m = true) : swfFrom d b (l ++ m) = true := by
  induction l generalizing b with
  | nil => exact swfFrom_mono d hm hc
  | cons e t ih =>
    simp only [List.cons_append, swfFrom, Bool.and_eq_true, decide_eq_true_eq] at hl ⊢
    exact ⟨hl.1, ih hl.2 (hlt e (by simp)) (fun x hx => hlt x (by simp [hx]))⟩

theorem swfFrom_of_le (d : Nat → Byte) {l : List Host.Cell} {b c : Nat} (h : swfFrom d b l = true) (hc : ∀ e ∈ l, c ≤ e.1) :
    swfFrom d c l = true := by
  cases l with
  | nil => rfl
  | cons e t =>
    simp only [swfFrom, Bool.and_eq_true, decide_eq_true_eq] at h ⊢
    exact ⟨⟨hc e (by simp), h.1.2⟩, h.2⟩

theorem swfFrom_shift {l : List Host.Cell} {b src dst : Nat} (h : swfFrom memDefault b l = true) (hs : src ≤ b) :
    swfFrom memDefault (b - src + dst) (l.map (fun c => (c.1 - src + dst, c.2))) = true := by
  induction l generalizing b with
  | nil => rfl
  | cons e t ih =>
    simp only [swfFrom, List.map_cons, Bool.and_eq_true, decide_eq_true_eq] at h ⊢
    refine ⟨⟨by omega, h.1.2⟩, ?_⟩
    have := ih h.2 (by omega)
    rwa [show e.1 + 1 - src + dst = e.1 - src + dst + 1 by omega] at this

/-- Memory with a range replaced keeps the canonical form, where the new cells lie in the range in their own. -/
theorem cellsReplace_wf {m new : List Host.Cell} {a n : Nat} (h : Memory.wf m = true) (hn : swfFrom memDefault a new = true)
    (hin : ∀ e ∈ new, e.1 < a + n) : Memory.wf (cellsReplace m a n new) = true := by
  unfold cellsReplace Memory.wf swf
  have h1 : swfFrom memDefault 0 (m.filter (fun c => decide (c.1 < a))) = true := swfFrom_filter _ h _
  have h2 : swfFrom memDefault (a + n) (m.filter (fun c => decide (a + n ≤ c.1))) = true :=
    swfFrom_of_le _ (swfFrom_filter _ h _) (fun e he => by simpa using (List.mem_filter.mp he).2)
  rw [List.append_assoc]
  refine swfFrom_append _ h1 (Nat.zero_le a) (fun e he => by simpa using (List.mem_filter.mp he).2) ?_
  exact swfFrom_append _ hn (Nat.le_add_right a n) hin h2

theorem cellsMoved_wf {m : List Host.Cell} (src n dst : Nat) (h : Memory.wf m = true) :
    swfFrom memDefault dst (cellsMoved m src n dst) = true := by
  unfold cellsMoved
  have h1 : swfFrom memDefault src (m.filter (fun c => decide (src ≤ c.1) && decide (c.1 < src + n))) = true :=
    swfFrom_of_le _ (swfFrom_filter _ h _) (fun e he => by
      have := (List.mem_filter.mp he).2
      simp only [Bool.and_eq_true, decide_eq_true_eq] at this; exact this.1)
  have := swfFrom_shift (dst := dst) h1 (Nat.le_refl src)
  rwa [Nat.sub_self, Nat.zero_add] at this

theorem cellsMoved_lt {m : List Host.Cell} (src n dst : Nat) : ∀ e ∈ cellsMoved m src n dst, e.1 < dst + n := by
  intro e he
  unfold cellsMoved at he
  obtain ⟨c, hc, rfl⟩ := List.mem_map.mp he
  have := (List.mem_filter.mp hc).2
  simp only [Bool.and_eq_true, decide_eq_true_eq] at this
  show c.1 - src + dst < dst + n
  omega

theorem moveRange_mem_wf (s : State) (src dst n : Nat) (h : Memory.wf s.mem = true) : Memory.wf (s.moveRange src dst n).mem = true :=
  cellsReplace_wf h (cellsMoved_wf src n dst h) (cellsMoved_lt src n dst)

theorem cellsZero_wf {m : List Host.Cell} (a n : Nat) (h : Memory.wf m = true) : Memory.wf (cellsZero m a n) = true :=
  cellsReplace_wf h rfl (by simp)

end Sys2Proof.Machine
end

