-- ==== Sys2Proof/Tests/Slice0.lean ====
section
/-! SUPPORT. The model's own tests: ill-formed commands are refused by the well-formedness check, words and values written out from the spec,
and for every statement with hypotheses a state and operands that meet them (a boundary value of each clause). -/
namespace Sys2Proof.Machine

/-- A test state with bytes placed in memory. -/
def State.withBytes (s : State) (a : Nat) (b : List Byte) : State := s.writeBytes a b
/-- A test state with tile 0 placed. -/
def State.tl (s : State) (x : TileSt) : State := s.setTile 0 x

end Sys2Proof.Machine
namespace Sys2Proof.Tests
set_option Elab.async false
open Sys2Proof Sys2Proof.Machine

/-! ## Well-formedness: an ill-formed command for each check -/

theorem test_wf_context : ([Instr.znNow (.reserved 30), .znNow (.reserved 0), .maskClear (.reserved 8) 0, .load (.reserved 31) 0,
    .doorbell (.reserved 23) 0 0, .stop (.reserved 30)].map Instr.wf) = List.replicate 6 false := by decide +kernel
theorem test_wf_address : ([Instr.registerWrite .module (2 ^ 48) 0, .readClears .module (2 ^ 48), .mrd 0 .module 0 (2 ^ 48) 0 0,
    .copy 0 [(2 ^ 48, .corrected)]].map Instr.wf) = List.replicate 4 false := by decide +kernel
theorem test_wf_lengths : ([Instr.mwr 0 .module 0 [] 0, .mwr 0 .module 0 (zeros 12) 0, .mwr 0 .module 0 (zeros 264) 0, .ucieReplay 0 0,
    .sample [], .tokenLoop 0 65529, .remoteSignal 0x20004 0, .getStatus (.mail 0 (zeros 247))].map Instr.wf) = List.replicate 8 false := by decide +kernel
theorem test_wf_training : ([Instr.phaseMemory [], .interfaceTraining 0 ⟨[0], true, [], []⟩, .interfaceTraining 0 ⟨[1, 1, 1], true, [], []⟩,
    .interfaceTraining 0 ⟨[1], false, [], []⟩, .interfaceTraining 0 ⟨[], true, [(3, 1), (3, 2)], []⟩,
    .phaseSelftest [.tile 0 0 0 0] true true, .phaseSelftest [.tile 0 0 0 0x84] true true].map Instr.wf) = List.replicate 7 false := by decide +kernel
theorem test_wf_ports : ([Instr.equalise 0 0 [], .codeword 0 .uncorrectable (List.replicate 9 0) [.idle],
    .codeword 0 .clean (List.replicate 9 0) [], .codeword 0 .clean [] (List.replicate 10 .idle),
    .codeword 0 .clean (List.replicate 9 0) (List.replicate 10 (.control [])), .inserted 0 (.contrail 1 [] [] 0 []),
    .inserted 0 (.contrail 1 [] [] 0 (List.replicate 9 0)), .contrailSensors 0 0 0 [] [], .contrailSensors 0 0 0 (List.replicate 9 0) (List.replicate 9 (0, 2 ^ 16)), .discover 0 [0] 0].map Instr.wf) = List.replicate 10 false := by decide +kernel

/-! ## A running module: every domain ON, one image active in partition 0 (tiles of region 0, 1 GiB of HBM, queues 0 to 15 of die 0) -/

def head0 : Header := ⟨false, false, 0, 0, 100, 0, 0, 1, 7, 1, 1, 0⟩
def img0 : Image :=
  { head := head0, dir := [], regionMask := 1, wrapOwned := 0, queues := [(0, 16), (0, 0)], hbm := [(0, 1)]
    clusters := [⟨0, 0, 0, 0, 1, 1, 1⟩], tileMap := [], routes := [⟨5, 0, 1, 0xFFFF, 16, 1, 9⟩], keep := [], numerics := [], windows := []
    shares := [], routing := [], placements := [], regValues := [], measurement := 0 }
def run0 : State :=
  { fuses := { lifecycle := 3 }
    parts := [(0, { active := some img0, regions := 1, locked := true })]
    regs := [(SI_START, 7), (WK_STATUS, 3), (SI_STATUS 0, 0x108)] ++ (List.range 8).map (fun n => (HB_STATUS n, 7)) ++
      (List.range 102).map (fun i => (PD_DOM i, BitVec.ofNat 64 (3 * 2 ^ 40 + 2 * 2 ^ 34 + 2))) }


theorem test_run0 : run0.tileRuns 0 = true ∧ run0.coreRuns 0 = true ∧ run0.tileOwner 0 = some 0 ∧ run0.tilePresent 0 = true ∧
  run0.owns 0 0x1000 4096 = true ∧ run0.memOn 0x1000 4096 = true ∧ run0.hostIsReady = true ∧ run0.welkinServes = true ∧
  run0.queueOwner 0 15 = some 0 ∧ run0.queueOwner 0 16 = none := by decide +kernel


/-- A command word of an engine and opcode with operands, without wait and signal (R60). -/
def wd (e op x : Nat) : CmdWord := BitVec.ofNat 256 (op + e * 2 ^ 8 + 0xFFFF * 2 ^ 80 + x * 2 ^ 144)
def cm (e op x : Nat) : Cmd := { word := wd e op x }
def lau0 : Launch := { id := 0, base := 0x100000, stride := 64, words := 2, seq := 1, cq := 2, doneRecord := false, step := 0, mb := 0, priv := 1 }
/-- Queue 1 of die 0: enabled, COMMAND, 64-byte entries, 4 of them, PRODUCER, at 0x2000; one entry waits. -/
def entryQueue0 : QueueSt := { desc0 := 2 ^ 63 + 2 ^ 59 + 2 * 2 ^ 54 + 1 * 2 ^ 52 + 0x2000, prod := 1 }
def withQueue (s : State) (q : Nat) (x : QueueSt) : State := { s with queues := sset (fun _ => {}) s.queues q x }

/-! ## The worked example of R63: its bytes, its fields, and that it passes the entry check -/

def r63 : Nat := leNat [0x01, 0x05, 0, 0, 0, 0, 0, 0, 0x83, 0x03, 0xFF, 0xFF, 0x01, 0, 0x23, 0x01, 0x50, 0x04, 0, 0, 0, 0x34, 0x12, 0,
  0, 0, 0x50, 0x02, 0, 0x01, 0, 0x08]
theorem test_r63_fields : wOpcode r63 = 1 ∧ wEngine r63 = 5 ∧ wWaitCond r63 = 0 ∧ wSigObj r63 = 128 + 3 ∧ wSigOp r63 = 3 ∧ wSigTile r63 = 0xFFFF ∧
  wSigValue r63 = 1 ∧ wLayer r63 = 0x123 ∧ wOp r63 = 0x45 ∧ copySrc r63 = 0x001234000000 ∧ copyDst r63 = 0x010002500000 ∧ copySectors r63 = 2048 := by
  decide +kernel
theorem test_r63_accepted : run0.entryCheck 0 0 r63 = stOk ∧ run0.entryCheck 0 0 (r63 + 2 ^ 14) = stBadCommand ∧
  run0.entryCheck 0 0 (r63 + 0x700) ≠ stOk := by decide +kernel

/-! ## Witnesses: launches, words, completion, in-line commands -/

theorem witness_LaunchesReachTheirClusters :
    ((withQueue run0 1 entryQueue0).deliverable 0 1 = some 0 ∧ (withQueue run0 1 entryQueue0).memOn 0x2000 64 = true ∧
      (withQueue run0 1 entryQueue0).firstBad 0x2000 64 = none ∧ ((withQueue run0 1 entryQueue0).entryClusters 0 0 1).length = 1) ∧
    (let s : State := run0.tl { launch := some lau0 }; (s.tile 0).launch = some lau0 ∧ s.tileOwner 0 = some 0 ∧ s.coreRuns 0 = true ∧ (s.tile 0).inl = none ∧ (s.tile 0).fetched = none ∧
      lau0.malformed = false ∧ (s.tile 0).wordIx < lau0.words ∧ s.firstUnowned 0 (s.fetchAddr 0 0 lau0) 32 = none ∧
      s.memOn (s.fetchAddr 0 0 lau0) 32 = true ∧ s.firstBad (s.fetchAddr 0 0 lau0) 32 = none) ∧
    (∀ n ∈ [r63, (wd 6 0 0).toNat], let w : CmdWord := BitVec.ofNat 256 n; let s : State := run0.tl { launch := some lau0, fetched := some w }; (s.tile 0).launch = some lau0 ∧ (s.tile 0).fetched = some w ∧ s.tileOwner 0 = some 0 ∧
      s.coreRuns 0 = true ∧ (s.tile 0).inl = none ∧ (s.tile 0).wordAt ≠ s.cycle 0 + 1 ∧ s.entryCheck 0 0 w.toNat = stOk ∧
      (wEngine w.toNat = 6 ↔ n = (wd 6 0 0).toNat) ∧ (s.tile 0).held 5 < 16) := by
  decide +kernel

theorem witness_RefusedWordsAreCounted : let s : State := run0.tl { launch := some lau0, fetched := some (wd 7 0 0) }; (s.tile 0).launch = some lau0 ∧ (s.tile 0).fetched = some (wd 7 0 0) ∧ s.tileOwner 0 = some 0 ∧
    s.coreRuns 0 = true ∧ (s.tile 0).inl = none ∧ (s.tile 0).wordAt ≠ s.cycle 0 + 1 ∧ s.entryCheck 0 0 (wd 7 0 0).toNat ≠ stOk := by
  decide +kernel

theorem witness_CompletionOffersItsRecord : ∀ st ∈ [stOk, stAccessFault], let e : Ended := ⟨7, cm 8 1 0, st, 0, 0, [], 0⟩
    let s : State := run0.tl { ended := [e] }
    (s.tile 0).ended.find? (fun x => x.q == 7) = some e ∧ s.tileRuns 0 = true ∧ s.placeFree 0 7 = true ∧ s.watchAhead 0 e = false ∧ e.silent = decide (st = stOk) := by
  decide +kernel

/-- An argument block at 0x4000 for a CALL of a routine, in line at tile 0. -/
def call (r len : Nat) : Cmd := cm 6 2 (r + 0x4000 * 2 ^ 16 + len * 2 ^ 64)
def calls (r : Nat) (b : List Byte) : State := (run0.withBytes 0x4000 b).tl { inl := some (call r b.length) }
/-- The FILL block of one range. -/
def fill1 (a n : Nat) : List Byte := leBytes 4 0x3F80 ++ leBytes 4 1 ++ zeros 8 ++ leBytes 8 a ++ leBytes 8 n

theorem witness_InlineCommandsComplete :
    (∀ op ∈ [0, 1, 3], (run0.tl { inl := some (cm 6 op 0x5000) }).inlineHead 0 op = some (cm 6 op 0x5000)) ∧
    ((run0.tl { inl := some (cm 6 1 0) }).startInline 0 (cm 6 1 0)).drained 0 = true ∧
    (let s : State := (run0.tl { inl := some (cm 6 3 0x5000) }).startInline 0 (cm 6 3 0x5000)
     s.firstUnowned 0 (stampAddr (cm 6 3 0x5000).w) 8 = none ∧ s.memOn (stampAddr (cm 6 3 0x5000).w) 8 = true ∧
       s.inFailed (stampAddr (cm 6 3 0x5000).w) = false ∧ (s.store (stampAddr (cm 6 3 0x5000).w) (leBytes 8 s.zt) ((cm 6 3 0x5000).master 0 0)).2 = none) ∧
    ((calls 0 []).callHead 0 0 = some (call 0 0) ∧ (calls 0 []).argsReady 0 (call 0 0)) ∧
    (∀ e ∈ [(0x8000, 32), (0x8001, 32)], let s : State := calls 1 (fill1 e.1 e.2); s.callHead 0 1 = some (call 1 32) ∧ s.argsReady 0 (call 1 32) ∧
      fieldAt (s.argBytes 0 (call 1 32)) 4 4 = 1 ∧ callLen (call 1 32).w = 32 ∧ fieldAt (s.argBytes 0 (call 1 32)) 8 8 = 0 ∧
      (fillRanges (s.argBytes 0 (call 1 32)) 1).findIdx? (fun r => !(fillRangeOk r && (s.argState 0 (call 1 32)).owns 0 r.1 r.2)) =
        (if e.1 % 32 = 0 then none else some 0)) ∧
    (∀ ph ∈ [0, 1], let k : Routine := { number := 1, phase := ph, vals := [0x3F80, 0x8000, 64] };
      ((calls 1 []).tl { inl := some (call 1 0), started6 := true, routine := some k }).running 0 1 = some (call 1 0, k) ∧
      ((calls 1 []).tl { inl := some (call 1 0), started6 := true, routine := some k }).callHead 0 1 = none ∧ k.failed = none ∧
      (k.vals.length ≤ 1 + 2 * k.phase ∨ (((calls 1 []).tl { inl := some (call 1 0), started6 := true, routine := some k }).tile 0).awaits k = false ∧
        (((calls 1 []).tl { inl := some (call 1 0), started6 := true, routine := some k }).tile 0).held 5 < 16 ∧ (1 + 2 * k.phase < k.vals.length ∧ k.pos < k.vals.getD (2 + 2 * k.phase) 0 / 32)) ∧ (k.vals.length ≤ 1 + 2 * k.phase ↔ ph = 1)) := by
  unfold State.argsReady
  decide +kernel

theorem witness_QueueControlReleasesStoppedQueues :
    run0.queueWriter .library 0 = true ∧ run0.queueWriter .module 0 = false ∧
    (let s : State := calls 0x0F (leBytes 8 0x8180)
     let c := call 0x0F 8
     s.callHead 0 0x0F = some c ∧ callLen c.w = 8 ∧ (s.startInline 0 c).firstUnowned c.part (callAddr c.w) 8 = none ∧
      (s.startInline 0 c).memOn (callAddr c.w) 8 = true ∧ (s.startInline 0 c).firstBad (callAddr c.w) 8 = none ∧
      (s.startInline 0 c).readNat (callAddr c.w) 8 = 0x8180) := by decide +kernel

/-- A route's entry on its way from tile 0 to tile 1. -/
def routed0 : State := run0.setPart 0 { run0.part 0 with transit := [(5, [zeros 256])] }
theorem witness_SignalsAndRouteEntriesArrive :
    (let s : State := { run0 with sigNet := [⟨9, 1, 255, 3, 1⟩, ⟨9, 40, 0, 1, 0⟩], fuses := { run0.fuses with grade := 1 } }
     s.sigNet.find? (fun g => g.src == 9 && g.dst == 1) = some ⟨9, 1, 255, 3, 1⟩ ∧ s.tilePresent 1 = true ∧ s.domOn (s.servRegion 1) = true ∧
      s.stopHolds (s.tileOwner 1) = false) ∧
    (let s : State := { run0 with sigNet := [⟨9, 2047, 255, 3, 1⟩], fuses := { run0.fuses with grade := 1 } }
     s.sigNet.find? (fun g => g.src == 9 && g.dst == 2047) = some ⟨9, 2047, 255, 3, 1⟩ ∧ s.tilePresent 2047 = false) ∧
    (routed0.findRoute 0 5 = some ⟨5, 0, 1, 0xFFFF, 16, 1, 9⟩ ∧ (routed0.part 0).transitOf 5 = [zeros 256] ∧ routed0.domOn (routed0.servRegion 1) = true ∧
      routed0.stopHolds (routed0.tileOwner 1) = false) := by decide +kernel


/-! ## Witnesses: the tile DMA and the matrix engines -/

def dma (w : Nat) : Cmd := { word := BitVec.ofNat 256 w }
def dmaState (w : Nat) : State := run0.tl { queues := [(5, [dma w])] }
theorem witness_CopyAndFillWriteTheirSectors :
    (let s : State := dmaState (copyWord 0x1000 0x2000 1); let s1 : State := ((s.startHead 0 5 (dma (copyWord 0x1000 0x2000 1))).hbRead 0x1000 32 (dmaAttr (dma (copyWord 0x1000 0x2000 1)))).hbWrite 0x2000 32 (dmaAttr (dma (copyWord 0x1000 0x2000 1)));
      s.dmaHead 0 1 = some (dma (copyWord 0x1000 0x2000 1)) ∧ s.firstUnowned 0 0x1000 32 = none ∧ s.firstUnowned 0 0x2000 32 = none ∧
      s.firstOff 0x1000 32 = none ∧ s.firstOff 0x2000 32 = none ∧ s1.firstBad 0x1000 32 = none ∧ s1.firstFailed 0x2000 32 = none ∧
      overlap 0x1000 0x2000 32 = false ∧ s1.plain 0x1000 32 ∧ s1.plain 0x2000 32) ∧
    (let s : State := dmaState (fillWord 0x2000 1 7); let s1 : State := (s.startHead 0 5 (dma (fillWord 0x2000 1 7))).hbWrite 0x2000 32 (dmaAttr (dma (fillWord 0x2000 1 7)));
      s.dmaHead 0 2 = some (dma (fillWord 0x2000 1 7)) ∧ s.firstUnowned 0 0x2000 32 = none ∧ s.firstOff 0x2000 32 = none ∧
      (∀ k < 1, s1.inFailed (0x2000 + 32 * k) = false) ∧ s1.firstFailed 0x2000 32 = none ∧ s1.plain 0x2000 32) ∧
    ((dmaState (copyWord 0x40000000 0x2000 1)).dmaHead 0 1 = some (dma (copyWord 0x40000000 0x2000 1)) ∧
      (dmaState (copyWord 0x40000000 0x2000 1)).firstUnowned 0 0x40000000 32 = some 0x40000000) ∧
    ((dmaState (fillWord 0x40000000 1 7)).dmaHead 0 2 = some (dma (fillWord 0x40000000 1 7)) ∧
      (dmaState (fillWord 0x40000000 1 7)).firstUnowned 0 0x40000000 32 = some 0x40000000) := by
  unfold State.plain
  decide +kernel

/-- SPLIT of 1 row of 1 block; a route command of route 5. -/
def splitC : Cmd := cm 5 3 (0x1000 + 0x8000 * 2 ^ 48 + 1 * 2 ^ 68 + 1 * 2 ^ 80)
def routeC (op : Nat) : Cmd := cm 5 op (5 + 0x3000 * 2 ^ 16 + 1 * 2 ^ 64)
def movedState (op moved : Nat) : State := routed0.tl { queues := [(5, [routeC op])], moved := some moved }
theorem witness_SplitAndRoutesMoveTheirData :
    (let s : State := run0.tl { queues := [(5, [splitC])] }; let x : SplitSt := s.splitOf splitC.w; let s1 : State := (s.startHead 0 5 splitC).hbRead x.src x.srcBytes (dmaAttr splitC);
      s.dmaHead 0 3 = some splitC ∧ s.firstUnowned 0 x.src x.srcBytes = none ∧ splitDst splitC.w + x.outBytes ≤ 0x100000 ∧
      s.firstOff x.src x.srcBytes = none ∧ s.firstOff (sramBase 0 + splitDst splitC.w) x.outBytes = none ∧ s1.firstBad x.src x.srcBytes = none ∧
      x.src + x.srcBytes ≤ sramBase 0 + splitDst splitC.w) ∧
    (∀ m ∈ [0, 1], let s : State := movedState 4 m; s.dmaHead 0 4 = some (routeC 4) ∧ s.findRoute 0 (routeId (routeC 4).w) = some ⟨5, 0, 1, 0xFFFF, 16, 1, 9⟩ ∧
      (s.tile 0).moved.isSome = true ∧ s.firstOff (routeAddr (routeC 4).w) (64 * routeCount (routeC 4).w) = none ∧
      (State.sendEntries 0 (routeC 4) ⟨5, 0, 1, 0xFFFF, 16, 1, 9⟩ (routeCount (routeC 4).w - (s.routeStart 0 (routeC 4)).movedOf 0) (s.routeStart 0 (routeC 4))).2 = none ∧
      (s.part 0).routeRoom ⟨5, 0, 1, 0xFFFF, 16, 1, 9⟩ = true ∧ s.firstBad (routeAddr (routeC 4).w + 64 * s.movedOf 0) 64 = none) ∧
    (let s : State := ((movedState 5 0).setPart 0 { (movedState 5 0).part 0 with streams := [(5, [zeros 64])] }); s.dmaHead 0 5 = some (routeC 5) ∧
      (s.tile 0).moved.isSome = true ∧ s.firstOff (routeAddr (routeC 5).w) (64 * routeCount (routeC 5).w) = none ∧
      (State.recvEntries 0 (routeC 5) ⟨5, 0, 1, 0xFFFF, 16, 1, 9⟩ (routeCount (routeC 5).w - (s.routeStart 0 (routeC 5)).movedOf 0) (s.routeStart 0 (routeC 5))).2 = none ∧
      (s.part 0).streamOf 5 = [zeros 64] ∧ s.firstFailed (routeAddr (routeC 5).w + 64 * s.movedOf 0) 64 = none) := by
  decide +kernel

def me (op x : Nat) : Cmd := cm 0 op x
def meState (op x : Nat) (m : MeSt) : State := (run0.tl { queues := [(0, [me op x])], mes := [(0, m)] }).settle 0
theorem witness_MatrixCommandsStart :
    (∀ x ∈ [2 ^ 20, 0xFFF00 + 2 ^ 24], (meState 1 x {}).meHead 0 0 1 = some (me 1 x) ∧
      ((meState 1 x {}).me 0 0).loadBusy ((meState 1 x {}).cycle 0) = false ∧
      (rowsBeyond (wloadOff (me 1 x).w) (wloadStride (me 1 x).w) 16 = none ↔ x = 2 ^ 20)) ∧
    (∀ x ∈ [2 ^ 20 + 2 ^ 32, 2 ^ 20 + 2 ^ 32 + 2 * 2 ^ 58], (meState 2 x {}).meHead 0 0 2 = some (me 2 x) ∧
      ((meState 2 x {}).me 0 0).feedBusy ((meState 2 x {}).cycle 0) = false ∧ ((meState 2 x {}).me 0 0).feeds.length < 8 ∧
      ((meState 2 x {}).me 0 1).tokens.length < 15 ∧ feedBeyond (me 2 x).w ((meState 2 x {}).me 0 0).ctx0 = none ∧ feedCtx (me 2 x).w = false) ∧
    ((meState 3 (2 ^ 7 + 2 ^ 38) {}).meHead 0 0 3 = some (me 3 (2 ^ 7 + 2 ^ 38)) ∧ ((meState 3 (2 ^ 7 + 2 ^ 38) {}).me 0 0).store = none ∧
      rowsBeyond (storeDst (me 3 (2 ^ 7 + 2 ^ 38)).w) (storeStride (me 3 (2 ^ 7 + 2 ^ 38)).w) (storeCount (me 3 (2 ^ 7 + 2 ^ 38)).w) = none) ∧
    ((meState 4 0 {}).meHead 0 0 4 = some (me 4 0) ∧ ((meState 4 0 {}).me 0 0).runs = []) ∧
    (let m : MeSt := { started := 1, wload := some ⟨me 1 0, 1, 0, []⟩, lastStart := some 0 }; let s : State := { meState 4 0 m with regionCycle := [(0, 5)] };
      s.meHead 0 0 4 = some (me 4 0) ∧ ((s.me 0 0).runs.any (fun r => decide (r.1 ≤ (s.me 0 0).started))) = true) ∧
    ((meState 5 0 {}).meHead 0 0 5 = some (me 5 0) ∧ ((meState 5 0 {}).me 0 0).loadBusy ((meState 5 0 {}).cycle 0) = false ∧ convDescOff (me 5 0).w + 64 ≤ sramBytes) ∧
    (∀ n ∈ [1, 32], (meState 6 (n * 2 ^ 5) {}).meHead 0 0 6 = some (me 6 (n * 2 ^ 5)) ∧ invalCount (me 6 (n * 2 ^ 5)).w = n) := by
  decide +kernel

def feed0 : FeedRun := ⟨me 2 (2 ^ 20 + 2 ^ 32 + 1 * 2 ^ 58), 1, 0, ConvDesc.default, [], [([], [])], 1, 0, 0⟩
theorem witness_RowsLandInTheirEntries : ∀ v ∈ [false, true], let s : State := { (run0.tl { mes := [(0, { feeds := [feed0], buf := [(0, { valid := v })] })] }) with regionCycle := [(0, 100)] }; s.dueFeed 0 0 = some feed0 ∧
    ((s.me 0 (landEngine 0 feed0.cmd.w)).entry (landEntry feed0.cmd.w feed0.landed)).valid = v ∧ feedOutMode feed0.cmd.w ≠ 0 ∧ feed0.rows = [([], [])] := by
  decide +kernel


/-! ## Witnesses: the vector unit, the Anvil units, Halo counts -/

/-- A vector command on one element at offset 0 with its result at 0x100, FP32. -/
def vu (op : Nat) : Cmd := cm 4 op (0x100 * 2 ^ 60 + 1 * 2 ^ 80 + 0 * 2 ^ 96)
def vuState (op : Nat) : State := run0.tl { queues := [(4, [vu op])] }
theorem witness_ElementwiseVectorCommandsComplete : ∀ x ∈ elementwiseRows 0, (vuState x.2).vuHead 0 x.2 = some (vu x.2) ∧
    (vuState x.2).vuReady 0 (vuReads (vu x.2).w) [(vuD (vu x.2).w, vuCount (vu x.2).w * codeBytes (vuOut (vu x.2).w))] := by
  unfold State.vuReady; decide +kernel
theorem witness_VectorResultsAreStored : ∀ off ∈ [0, 0xFFFF8], 1 ≤ 4 ∧ off + 4 * 2 ≤ 0x100000 ∧ run0.plain (sramBase 0 + off) (4 * 2) ∧
    run0.partlyBad (sramBase 0 + off) (4 * 2) = [] ∧ (∀ k < 2, run0.partlyBad (sramBase 0 + off + 4 * k) 4 = []) := by
  unfold State.plain; decide +kernel
theorem witness_OtherVectorCommandsComplete :
    (∀ op ∈ [0x20, 0x21], (vuState op).vuHead 0 op = some (vu op) ∧ (vuState op).vuReady 0 (vuReads (vu op).w) [(vuD (vu op).w, codeBytes (vuOut (vu op).w))] ∧
      ((vuState op).startHead 0 4 (vu op)).fastMarked (vu op) = false) ∧
    (∀ op ∈ [0x28, 0x29], (vuState op).vuHead 0 op = some (vu op) ∧ (vuState op).vuReady 0 (g32Reads (vu op).w) [(vuD (vu op).w, 4)]) ∧
    (∀ op ∈ [0x22, 0x30, 0x31, 0x32, 0x33, 0x34, 0x38], (vuState op).vuHead 0 op = some (vu op) ∧
      (vuState op).vuReady 0 [(vuA (vu op).w, 64)] [(vuD (vu op).w, 64), (drawD (vu op).w, 4 * drawCount (vu op).w)]) ∧
    (let s : State := { vuState 0x20 with parts := [(0, { active := some { img0 with numerics := [⟨0, 0xFFFFF, 0, true⟩] }, regions := 1 })] }
     s.vuHead 0 0x20 = some (vu 0x20) ∧ (s.startHead 0 4 (vu 0x20)).fastMarked (vu 0x20) = true) := by
  unfold State.vuReady; decide +kernel
theorem witness_OrderOfLaneValues : Val.rank (.fin 0 false) < 3 ∧ Val.rank (.inf true) < 3 ∧ Val.above (.inf false) (.fin 1 false) = true ∧
    Val.above (.fin 0 true) (.fin 0 false) = false := by decide +kernel

/-- A group of one element, momentum, in the HBM that partition 0 owns (R177). -/
def desc0 : List Byte := leBytes 8 0x10000 ++ leBytes 8 0x11000 ++ leBytes 8 0x12000 ++ leBytes 8 0 ++ leBytes 8 0x13000 ++ leBytes 8 0x14000 ++
  leBytes 8 0 ++ leBytes 8 0x15000 ++ leBytes 8 0x16000 ++ leBytes 4 1 ++ leBytes 4 0 ++ leBytes 8 0 ++ leBytes 4 1 ++ zeros 4 ++ zeros 24 ++
  leBytes 4 0x3F800000 ++ zeros 4
/-- The same with NEXT_EXP. -/
def desc1 : List Byte := desc0.take 0x30 ++ leBytes 8 0x17000 ++ desc0.drop 0x38
/-- An Anvil command with its first operand 0x6000, as queued and as a unit holds it. -/
def av (op : Nat) : Cmd := cm 8 op (0x6000 + 0x7000 * 2 ^ 48 + 1 * 2 ^ 96)
def avState (op : Nat) (d : List Byte) : State := { run0.withBytes 0x6000 d with anvils := [(0, { input := [(0, av op)] })] }
theorem witness_AnvilCommandsRun :
    (let s : State := run0.tl { queues := [(7, [av 1])] }; s.headOf 0 7 = some (av 1) ∧ s.queueRuns 0 7 = true ∧ s.waitHolds 0 (av 1) = true ∧
      s.anvilUsable (wEngine (av 1).w - 8) = true ∧ s.domOn (84 + (wEngine (av 1).w - 8)) = true ∧ (s.anvil (wEngine (av 1).w - 8)).input.length < 32) ∧
    (let s : State := avState 1 desc0; s.anvilHead 0 1 = some (0, av 1) ∧ (s.anvil 0).under = none ∧ s.haloOff 0 (av 1).step (descOf desc0).layer = none ∧ s.firstUnowned 0 (avDesc (av 1).w) 128 = none ∧
      s.memOn (avDesc (av 1).w) 128 = true ∧ s.firstBad (avDesc (av 1).w) 128 = none ∧ descOk (s.readBytes (avDesc (av 1).w) 128) = true ∧
      s.unownedOf 0 (descOf desc0).extents = none ∧ (descOf desc0).stackExtents.findSome? (fun e => outsideStacks (s.fuses.serves 0) e.1 e.2) = none ∧
      s.offOf (descOf desc0).extents = none) ∧
    (let s : State := avState 2 desc0; s.anvilHead 0 2 = some (0, av 2) ∧ (s.anvil 0).under = none ∧ s.firstUnowned 0 (avDesc (av 2).w) 128 = none ∧
      s.memOn (avDesc (av 2).w) 128 = true ∧ s.firstBad (avDesc (av 2).w) 128 = none ∧ descOk (s.readBytes (avDesc (av 2).w) 128) = true ∧
      s.unownedOf 0 ((descOf desc0).gradExtents ++ [(normDst (av 2).w, 64)]) = none ∧ s.offOf ((descOf desc0).gradExtents ++ [(normDst (av 2).w, 64)]) = none) ∧
    (let s : State := avState 3 []; s.anvilHead 0 3 = some (0, av 3) ∧ (s.anvil 0).under = none ∧
      s.unownedOf 0 [(xorSrc (av 3).w, 32 * xorSectors (av 3).w), (xorDst (av 3).w, 32 * xorSectors (av 3).w)] = none ∧
      outsideStacks (s.fuses.serves 0) (xorDst (av 3).w) (32 * xorSectors (av 3).w) = none ∧
      s.offOf [(xorSrc (av 3).w, 32 * xorSectors (av 3).w), (xorDst (av 3).w, 32 * xorSectors (av 3).w)] = none ∧
      s.badOf [(xorDst (av 3).w, 32 * xorSectors (av 3).w), (xorSrc (av 3).w, 32 * xorSectors (av 3).w)] = none ∧
      s.plain (xorDst (av 3).w) (32 * xorSectors (av 3).w)) := by
  unfold State.plain
  decide +kernel
theorem witness_UpdateWithoutContributors : ∀ b ∈ [desc0, desc1], let d : UpdDesc := descOf b;
    run0.badOf ((d.count, 4) :: (if d.clip then [(d.gnorm, 64)] else [])) = none ∧ run0.readNat d.count 4 = 0 ∧ (d.next = 0 ↔ b = desc0) ∧ aligned d.gexp 32 = true ∧ aligned d.next 32 = true ∧
    (b = desc1 → d.gexp + 2 * d.blocks ≤ d.next ∨ d.next + 2 * d.blocks ≤ d.gexp) ∧
    run0.firstBad d.gexp (2 * d.blocks) = none ∧ run0.firstFailed d.next (2 * d.blocks) = none ∧ run0.partlyBad d.next (2 * d.blocks) = [] ∧
    run0.plain d.next (2 * d.blocks) ∧ (∀ k < 2 * d.blocks, run0.inFailed (d.next + k) = false) := by
  unfold State.plain
  decide +kernel
def halo0 : HaloMsg := { part := 0, step := 0, layer := 3, tile := 0 }
theorem witness_HaloCountsReachTheirUnits :
    (let s : State := run0.tl { halo := [halo0] }; let x : TileSt := {}; s.tileRuns 0 = true ∧ (s.tile 0).haloNext = some (halo0, x) ∧
      (s.setTile 0 x).haloUnit (((s.setTile 0 x).haloEntry 0 0 3).1 / stackBytes) = some 0) ∧
    (let s : State := { (run0.setFld (SI_HALO_GEOM 0) SI_HALO_GEOM_ENABLE 1) with haloNet := [(0, [halo0])] };
      (s.haloAt 0).find? (fun m => !s.stopHolds (some m.part)) = some halo0 ∧ s.anvilUsable 0 = true ∧ s.domOn 84 = true ∧
      s.haloOn 0 = true ∧ s.memOn (s.haloEntry 0 0 3).1 256 = true) := by
  decide +kernel


/-! ## Witnesses: the routines of the training passes and of the failure paths, and the self-test -/

/-- An argument block of R189 over one descriptor. -/
def optB (widen flags : Nat) (d : List Byte) : List Byte := leBytes 2 1 ++ leBytes 2 widen ++ leBytes 4 flags ++ leBytes 8 0x8000 ++ zeros 16 ++ d
/-- desc0 with another KIND (ADAPTIVE carries V8 and EPS). -/
def descK (k : Nat) : List Byte :=
  desc0.take 0x18 ++ leBytes 8 (if k = 1 then 0x18000 else 0) ++ (desc0.drop 0x20).take 0x3C ++ leBytes 1 k ++ (desc0.drop 0x5D).take 0x13 ++
    leBytes 4 (if k = 1 then 0x3F800000 else 0) ++ desc0.drop 0x74
/-- A CALL of a routine that is running at tile 0. -/
def runs (_r : Nat) (c : Cmd) (k : Routine) (s : State) : State := s.tl { inl := some c, started6 := true, routine := some k }
def optK (r n : Nat) : Routine := { number := r, vals := [0], pos := n }
/-- A CALL with its argument block, and a routine of it that is running. -/
def optS (r : Nat) (k : Routine) : State := runs r (call r 160) k (run0.withBytes 0x4000 (optB 0 0 (descK (r - 3))))
/-- Memory with a gradient-norm record of step 0 at 0x8000: SAT_TOTAL at 0x48. -/
def withNorm (sat : Nat) (s : State) : State := s.withBytes 0x8048 (leBytes 8 sat)

theorem witness_TrainingRoutinesRun_entry :
    (∀ r ∈ [3, 4, 5], let s : State := calls r (optB 0 0 (descK (r - 3))); s.callHead 0 r = some (call r 160) ∧ s.argsReady 0 (call r 160) ∧
      (optArgs (s.argBytes 0 (call r 160))).ok false (callLen (call r 160).w) (s.argBytes 0 (call r 160)) = true ∧
      (s.argState 0 (call r 160)).descCheck 0 (some (r - 3)) false 0 (optArgs (s.argBytes 0 (call r 160))).descs = none ∧
      (optArgs (s.argBytes 0 (call r 160))).gate = false) := by
  unfold State.argsReady
  decide +kernel
theorem witness_TrainingRoutinesRun_gate :
    (∀ e ∈ [(0, 0), (5, 1), (5, 0)], let s : State := withNorm e.1 (calls 3 (optB 0 (1 + 2 * e.2) desc0)); s.callHead 0 3 = some (call 3 160) ∧
      s.argsReady 0 (call 3 160) ∧ (optArgs (s.argBytes 0 (call 3 160))).ok false (callLen (call 3 160).w) (s.argBytes 0 (call 3 160)) = true ∧
      (s.argState 0 (call 3 160)).descCheck 0 (some 0) false 0 (optArgs (s.argBytes 0 (call 3 160))).descs = none ∧
      (optArgs (s.argBytes 0 (call 3 160))).gate = true ∧ (optArgs (s.argBytes 0 (call 3 160))).force = decide (e.2 = 1) ∧
      (s.argState 0 (call 3 160)).owns 0 0x8000 128 = true ∧ (s.argState 0 (call 3 160)).memOn 0x8000 128 = true ∧
      (s.argState 0 (call 3 160)).firstBad 0x8000 128 = none ∧ (s.argState 0 (call 3 160)).readNat 0x8040 4 = (call 3 160).step ∧
      (s.argState 0 (call 3 160)).readNat 0x8048 8 = e.1) := by
  unfold State.argsReady
  decide +kernel

theorem witness_TrainingRoutinesRun_progress :
    (∀ r ∈ [3, 4, 5, 6], ∀ n ∈ [0, 1], (optS r (optK r n)).callHead 0 r = none ∧ (optS r (optK r n)).running 0 r = some (call r 160, optK r n) ∧
      ((optS r (optK r n)).tile 0).held 7 < 16 ∧ ((optS r (optK r n)).tile 0).awaits (optK r n) = false ∧ (optK r n).failed = none) ∧
    (let s : State := (calls 6 (optB 0 0 desc0)).setFld (SI_HALO_GEOM 0) SI_HALO_GEOM_ENABLE 1; let c : Cmd := call 6 160; let s1 : State := s.argState 0 c;
      s.callHead 0 6 = some c ∧ s.argsReady 0 c ∧ (optArgs (s.argBytes 0 c)).ok false (callLen c.w) (s.argBytes 0 c) = true ∧
      s1.haloOn 0 = true ∧ s1.descCheck 0 none false 0 (optArgs (s.argBytes 0 c)).descs = none ∧ s1.owns 0 0x8000 0x280 = true ∧
      s1.firstFailed 0x8000 0x280 = none ∧ s1.memOn 0x8000 0x280 = true) ∧
    (let s : State := (calls 7 (optB 16 0 desc0)).setFld (SI_HALO_GEOM 0) SI_HALO_GEOM_ENABLE 1; let c : Cmd := call 7 160; let s1 : State := s.argState 0 c;
      s.callHead 0 7 = some c ∧ s.argsReady 0 c ∧ (optArgs (s.argBytes 0 c)).ok true (callLen c.w) (s.argBytes 0 c) = true ∧
      s1.haloOn 0 = true ∧ s1.descCheck 0 none true 0 (optArgs (s.argBytes 0 c)).descs = none) := by
  unfold State.argsReady
  decide +kernel

/-- RECOMPUTE of one word of layer 3, a FILL, at 0x5000. -/
def recompB : List Byte := leBytes 8 0x5000 ++ leBytes 4 1 ++ leBytes 4 0 ++ leBytes 4 5 ++ zeros 12
def recompW : Nat := fillWord 0x2000 1 7 + 3 * 2 ^ 112
def recompK (n : Nat) : Routine := { number := 2, phase := 1, pos := n, vals := [0x5000, 1, 0, 5] }
def recompS (n : Nat) : State := runs 2 (call 2 32) (recompK n) ((run0.withBytes 0x4000 recompB).withBytes 0x5000 (leBytes 32 recompW))
theorem witness_TrainingRoutinesRun_recompute :
    ((calls 2 recompB).callHead 0 2 = some (call 2 32) ∧ (calls 2 recompB).argsReady 0 (call 2 32) ∧
      recomputeOk (callLen (call 2 32).w) ((calls 2 recompB).argBytes 0 (call 2 32)) = true) ∧
    (let s : State := recompS 0; s.callHead 0 2 = none ∧ s.running 0 2 = some (call 2 32, recompK 0) ∧ (recompK 0).pos < (recompK 0).vals.getD 1 0 ∧
      s.firstUnowned 0 0x5000 32 = none ∧ s.memOn 0x5000 32 = true ∧ s.firstBad 0x5000 32 = none ∧ s.readNat 0x5000 32 = recompW ∧
      s.recompDenied 0 0 5 recompW = none ∧ s.placeFree 0 6 = true ∧ s.entryCheck 0 0 (recompCmd (call 2 32) (recompK 0) recompW).w = stOk ∧
      wEngine (recompCmd (call 2 32) (recompK 0) recompW).w = 5 ∧ (s.tile 0).held 5 < 16) ∧
    (let s : State := recompS 1; s.callHead 0 2 = none ∧ s.running 0 2 = some (call 2 32, recompK 1) ∧ (recompK 1).vals.getD 1 0 ≤ (recompK 1).pos ∧
      (s.tile 0).awaits (recompK 1) = false) := by
  unfold State.argsReady
  decide +kernel

theorem witness_NormCombinesItsSlots : let s : State := optS 6 (optK 6 1); let c : Cmd := call 6 160;
    s.badOf ((s.normSlots 0x8000).map (fun a => (a, 64))) = none ∧ s.haloBad c.part = none ∧ s.plain 0x8000 128 := by
  unfold State.plain
  decide +kernel


/-- A module of a ring of four along X; a PARITY_UPDATE block of groups of two, of one chunk, one range. -/
def ring0 : State := run0.wr RT_COORD (4 * 2 ^ 20)
def parityB (stage : Nat) : List Byte := leBytes 2 1 ++ leBytes 1 2 ++ leBytes 1 0 ++ leBytes 4 6 ++ leBytes 8 0x100000 ++ leBytes 8 0x101000 ++ leBytes 8 stage ++
  leBytes 4 4096 ++ zeros 4 ++ leBytes 8 0x400000 ++ leBytes 8 4096 ++ zeros 8 ++ leBytes 8 0x200000 ++ leBytes 8 4096
def ringCall (r : Nat) (b : List Byte) : State := (ring0.withBytes 0x4000 b).tl { inl := some (call r b.length) }
def parityK (n : Nat) : Routine := { number := 8, pos := n, vals := [leNat (parityB 0x300000), 80] }
theorem witness_RecoveryRoutinesRun_parity :
    (let stage : Nat := 0x300000; let s : State := ringCall 8 (parityB stage); let c : Cmd := call 8 80; let s1 : State := s.argState 0 c; let a : ParityArgs := parityArgs (s.argBytes 0 c); s.callHead 0 8 = some c ∧ s.argsReady 0 c ∧ callLen c.w = 64 + 16 * fieldAt (s.argBytes 0 c) 0 2 ∧
      a.bad (s.argBytes 0 c) = none ∧ s1.ringFits a = true ∧
      (stage = 0x300000 → s1.parityUnowned 0 a = none ∧ (s1.unitServing a.stage ((a.k - 1) * a.chunk)).isSome = true ∧
        (s1.unitServing a.area0 a.stripe).isSome = true ∧ (s1.unitServing a.area1 a.stripe).isSome = true)) ∧
    (let s : State := runs 8 (call 8 80) (parityK 3) ring0; let c : Cmd := call 8 80; s.callHead 0 8 = none ∧ s.running 0 8 = some (c, parityK 3) ∧
      (parityK 3).failed = none ∧ (parityK 3).libFail = none ∧ s.libIdle 0 (parityK 3) = true ∧
      (parityArgs (leBytes 80 ((parityK 3).vals.getD 0 0))).stripe / (parityArgs (leBytes 80 ((parityK 3).vals.getD 0 0))).chunk ≤ 3 / 3) := by
  unfold State.argsReady
  decide +kernel

/-- A staging area that no one unit serves although partition 0 owns it: it runs from stack 0 into stack 1. -/
def wide0 : State := { ring0 with parts := [(0, { active := some { img0 with hbm := [(0, 96)] }, regions := 1, locked := true })] }
theorem witness_RecoveryRoutinesRun_noUnit : let c : Cmd := call 8 80; let s : State := (wide0.withBytes 0x4000 (parityB (8 * stackBytes))).tl { inl := some c }; let s1 : State := s.argState 0 c; let a : ParityArgs := parityArgs (s.argBytes 0 c);
    s.callHead 0 8 = some c ∧ a.bad (s.argBytes 0 c) = none ∧ s1.ringFits a = true ∧ s1.unitServing a.stage ((a.k - 1) * a.chunk) = none := by
  decide +kernel

/-- A REBUILD block of a whole member, or of one page, whose PARITY_UPDATE block lies at 0x9000. -/
def rebuildB (member : Bool) : List Byte := leBytes 1 (if member then 1 else 0) ++ leBytes 1 0 ++ leBytes 2 0 ++ leBytes 4 6 ++ leBytes 8 0 ++ leBytes 8 0x9000 ++
  leBytes 8 (if member then 0x500000 else 0)
def rebuildK (member : Bool) (n : Nat) : Routine := { number := 0xA, pos := n, vals := [leNat (rebuildB member), leNat (parityB 0x300000), 80, 0] }
theorem witness_RecoveryRoutinesRun_rebuild :
    (∀ m ∈ [true, false], let s : State := (ringCall 0xA (rebuildB m)).withBytes 0x9000 (parityB 0x300000); let c : Cmd := call 0xA 32; let s1 : State := s.argState 0 c; let b : List Byte := s.argBytes 0 c; s.callHead 0 0xA = some c ∧ s.argsReady 0 c ∧ callLen c.w = 32 ∧ fieldAt b 0x10 8 = 0x9000 ∧
      64 + 16 * s1.readNat 0x9000 2 = 80 ∧ s1.owns 0 0x9000 80 = true ∧ s1.memOn 0x9000 80 = true ∧ s1.firstBad 0x9000 80 = none ∧
      (parityArgs (s1.readBytes 0x9000 80)).bad (s1.readBytes 0x9000 80) = none ∧ s1.parityUnowned 0 (parityArgs (s1.readBytes 0x9000 80)) = none ∧
      s1.ringFits (parityArgs (s1.readBytes 0x9000 80)) = true ∧ s1.rebuildOk 0 (rebuildArgs b) (parityArgs (s1.readBytes 0x9000 80)) b = true ∧ s1.owns 0 0x9000 64 = true ∧
      s1.memOn 0x9000 64 = true ∧ s1.firstBad 0x9000 64 = none ∧
      (s1.unitServing 0x300000 4096).isSome = true ∧ (rebuildArgs b).member = m ∧ (m = true → (s1.unitServing (rebuildArgs b).target 4096).isSome = true)) := by
  unfold State.argsReady
  decide +kernel
theorem witness_RecoveryRoutinesRun_rebuilt :
    (∀ m ∈ [true, false], let k : Routine := rebuildK m 5; let s : State := runs 0xA (call 0xA 32) k ring0; let r : RebuildArgs := rebuildArgs (leBytes 32 (k.vals.getD 0 0)); let a : ParityArgs := parityArgs (leBytes (k.vals.getD 2 0) (k.vals.getD 1 0));
      s.callHead 0 0xA = none ∧ s.running 0 0xA = some (call 0xA 32, k) ∧ k.failed = none ∧ k.libFail = none ∧ s.libIdle 0 k = true ∧
      (r.readers a).length < k.pos ∧ r.pages a ≤ (k.pos - (r.readers a).length - 1) / (2 * a.k - 2)) := by
  decide +kernel

/-- A SNAPSHOT block of an OP over one range; its STORAGE queue is queue 3 of die 0. -/
def snapB (op : Nat) : List Byte := leBytes 1 op ++ leBytes 1 8 ++ leBytes 2 3 ++ leBytes 2 4 ++ leBytes 2 1 ++ leBytes 8 1 ++ leBytes 8 0x600000 ++ leBytes 8 0 ++
  leBytes 8 0 ++ leBytes 8 (if op = 1 then 0x610000 else 0) ++ leBytes 8 (if op = 1 then 0x620000 else 0) ++ zeros 8 ++ leBytes 8 0x200000 ++ leBytes 8 4096
def snapK (op n : Nat) : Routine := { number := 9, pos := n, vals := [leNat (snapB op), 80, 0, 0] }
theorem witness_RecoveryRoutinesRun_snapshot :
    (∀ op ∈ [0, 1, 2], let s : State := ringCall 9 (snapB op); let c : Cmd := call 9 80; let s1 : State := s.argState 0 c; let a : SnapArgs := snapArgs (s.argBytes 0 c); s.callHead 0 9 = some c ∧ s.argsReady 0 c ∧ 0 < callLen c.w ∧ (s.byte (callAddr c.w)).toNat = op ∧ a.op = op ∧
      callLen c.w = 64 + 16 * fieldAt (s.argBytes 0 c) 6 2 ∧ a.bad (s.argBytes 0 c) = none ∧ s1.snapUnowned 0 0 a = none ∧
      s1.memOn a.header 4096 = true ∧ s1.offOf [(a.header, 4096), (0x610000, 64), (0x620000, 128)] = none ∧
      s1.badOf [(a.header, 4096), (0x610000, 64), (0x620000, 128)] = none ∧ s1.readNat (0x620000 + 0x40) 4 = a.step) ∧
    (∀ op ∈ [0, 1, 2], ∀ n ∈ [0, 2], let k : Routine := snapK op n; let s : State := runs 9 (call 9 80) k ring0; let a : SnapArgs := snapArgs (leBytes (k.vals.getD 1 0) (k.vals.getD 0 0)); s.callHead 0 9 = none ∧
      s.running 0 9 = some (call 9 80, k) ∧ k.failed = none ∧ a.op = op ∧ k.phase = 0 ∧
      (if n = 0 then (a.plan[k.pos]?).isSome = true else a.plan.length ≤ k.pos)) := by
  unfold State.argsReady
  decide +kernel

theorem witness_RecoveryRoutinesRun_stores : let s1 : State := (ringCall 9 (snapB 0)).argState 0 (call 9 80); let a : SnapArgs := snapArgs (snapB 0);
    (s1.store a.header (s1.snapHeader 0 a) ((call 9 80).master 0 0)).2 = none ∧
    (s1.store a.header (sealHeader (s1.readBytes a.header 4096) (s1.readBytes 0x610000 64) (s1.readBytes 0x620000 64)) ((call 9 80).master 0 0)).2 = none := by
  decide +kernel

def replayB : List Byte := leBytes 8 0x600000 ++ leBytes 8 0x610000 ++ leBytes 8 0x620000 ++ zeros 8
theorem witness_RecoveryRoutinesRun_replay : let s : State := ringCall 0xB replayB; let c : Cmd := call 0xB 32; let s1 : State := s.argState 0 c;
    s.callHead 0 0xB = some c ∧ s.argsReady 0 c ∧ callLen c.w = 32 ∧ fieldAt (s.argBytes 0 c) 0 8 = 0x600000 ∧ fieldAt (s.argBytes 0 c) 0x10 8 = 0x620000 ∧
    s1.unownedOf 0 [(0x600000, 4096), (0x610000, 64), (0x620000, 128)] = none ∧ s1.offOf [(0x600000, 4096), (0x610000, 64), (0x620000, 128)] = none ∧
    s1.badOf [(0x600000, 4096), (0x610000, 64), (0x620000, 128)] = none ∧ s1.readNat (0x620000 + 0x40) 4 = s1.readNat (0x600000 + 0x18) 8 := by
  unfold State.argsReady
  decide +kernel

/-- Windows of 100 µs from 0 in partition 0's image. -/
def test0 : State := (run0.setPart 0 { run0.part 0 with active := some { img0 with windows := [⟨0, 100, 7, 1⟩] } }).setFld SI_TEST_CTRL SI_TEST_CTRL_ENABLE 1
theorem witness_SelfTestSlicesRunAndEnd :
    test0.windowNow 0 0 = some (⟨0, 100, 7, 1⟩, 0, 100000) ∧ test0.slicesAllowed = true ∧ test0.stopHolds (some 0) = false ∧
    sget (fun _ => 0) test0.tests.opened 0 / 2 ≠ 1 ∧
    (test0.cursorPlaces 0).find? (fun x => test0.sliceFits 0 ⟨0, 100, 7, 1⟩ 100000 x) = some 0 ∧ cursorUnit 0 ≠ 5 ∧
    (∀ u ∈ [0, 4, 5], (test0.setTests { slices := [⟨0, 0, u, 0, 0⟩] }).tests.slices.find? (fun x => tileRegion x.tile == 0 && decide (x.ends ≤ test0.zt)) =
      some ⟨0, 0, u, 0, 0⟩) := by decide +kernel
theorem witness_SelfTestSlicesRunAndEnd_further : let s : State := test0.setTests { opened := [(0, 3)] }; s.windowNow 0 0 = some (⟨0, 100, 7, 1⟩, 0, 100000) ∧
    s.slicesAllowed = true ∧ s.stopHolds (some 0) = false ∧ sget (fun _ => 0) s.tests.opened 0 = 2 * (0 + 1) + 1 := by
  decide +kernel


/-! ## Witnesses: HBM controllers, the Queue hub, interrupts -/

/-- Stack n in a state of its STATUS. -/
def hbm0 (n st : Nat) : State := run0.setFld (HB_STATUS n) HB_STATUS_STATE st
theorem witness_StacksTrainFillAndScrub : ∀ n ∈ [0, 7], (⟨[0], true, [(0, 1)], []⟩ : StackTraining).repairs.length ≤ 32 ∧
    (run0.lcServed n ≤ lcShare) ∧ lcShare < (run0.lcUse n 2401 {}).lcServed n ∧
    (hbm0 n 1).fld (HB_STATUS n) HB_STATUS_STATE = 1 ∧ (hbm0 n 2).fld (HB_STATUS n) HB_STATUS_STATE = 2 ∧
    ((hbm0 n 3).setFld (PD_DOM (64 + n)) PD_DOM_STATE 5).domState (64 + n) = 5 ∧
    (∀ pos ∈ [0, stackSectors - 1], let s : State := ((hbm0 n 3).setFld (HB_SCRUB n) HB_SCRUB_ENABLE 1).setFld (HB_SCRUB n) HB_SCRUB_POSITION pos;
      s.flag (HB_SCRUB n) HB_SCRUB_ENABLE = true ∧ s.fld (HB_STATUS n) HB_STATUS_STATE = 3 ∧ s.domOn (64 + n) = true ∧
      s.fld (HB_SCRUB n) HB_SCRUB_POSITION = pos ∧ s.ue.contains (n * stackBytes + pos * 32) = false) ∧
    ctxGlobal .module = true ∧ bits (32 : Word).toNat HB_LOG_BASE_ADDR.hi HB_LOG_BASE_ADDR.lo ≠ run0.fld (HB_LOG_BASE n) HB_LOG_BASE_ADDR := by
  decide +kernel

/-- A queue of 16 entries of 64 bytes at 0x2000 (COMMAND), enabled or not, of a role and counts. -/
def queueOf (en role prod cons : Nat) : QueueSt :=
  { desc0 := en * 2 ^ 63 + 2 ^ 59 + 4 * 2 ^ 54 + role * 2 ^ 52 + 0x2000, desc1 := 0xFFFF0000, prod := prod, cons := cons }
theorem witness_DoorbellsMoveTheirCounts :
    ∀ e ∈ [(1, 0, 16, true), (1, 2 ^ 32 - 1, 15, true), (1, 0, 17, false), (2, 5, 5, true), (2, 5, 6, false)], let x : QueueSt := queueOf 1 e.1 e.2.1 (if e.1 = 1 then e.2.1 else 0); let s : State := withQueue run0 1 x; s.mayRing (.kernel 0) 0 1 = true ∧ s.queue 0 1 = x ∧
      x.enabled = true ∧ x.role = e.1 ∧ x.prod < 2 ^ 32 ∧ x.cons < 2 ^ 32 ∧ x.indexOk e.2.2.1 = e.2.2.2 ∧
      ((s.mayRing (.kernel 0) 0 1 && x.enabled && (x.role == 1 || x.role == 2) && (bit 0 15 || x.indexOk e.2.2.1)) = false ↔ e.2.2.2 = false) ∧
      (s.window 0 (scopeWin (some 0))).2 % 16384 ≠ 1 := by
  decide +kernel

/-- QH_WDESC0 of an EVENT queue of 16 entries of 64 bytes at 0x2000, host-consumed; and the same at 0x2008. -/
def wdesc0 (a : Nat) : Word := BitVec.ofNat 64 (2 ^ 63 + 3 * 2 ^ 60 + 2 ^ 59 + 4 * 2 ^ 54 + 2 * 2 ^ 52 + a)
theorem witness_QueuesAreEnabledArmedAndReset :
    (∀ en ∈ [0, 1], let x : QueueSt := queueOf en 1 3 1; let s : State := withQueue run0 0 x; ctxWin (.kernel 0) = some 1 ∧ s.wsel 0 1 = 0 ∧
      s.queue 0 0 = x ∧ s.actsOn (.kernel 0) 0 0 = true ∧ x.enabled = decide (en = 1) ∧
      (∀ a ∈ [0x2000, 0x2008], s.enableOk (s.queueOwner 0 0) { x with desc0 := putBits (wdesc0 a).toNat 50 48 0 } = decide (a = 0x2000)) ∧
      bit (wdesc0 0x2000).toNat 63 = true) ∧ ctxWin (.user 3) = none := by
  decide +kernel

/-- A COMPLETION queue 1 of 16 entries of 32 bytes at 0x2000, and a tile-consumed full queue with its head word at 0x3000. -/
def complQ : QueueSt := { desc0 := 2 ^ 63 + 2 ^ 60 + 4 * 2 ^ 54 + 2 * 2 ^ 52 + 0x2000, desc1 := 0xFFFF0000 }
def fullQ : QueueSt := { desc0 := 2 ^ 63 + 2 * 2 ^ 60 + 2 ^ 59 + 4 * 2 ^ 54 + 0x2000, desc1 := 0xFFFF0000, desc2 := 0x3000, prod := 16 }
theorem witness_RecordsAndHeadWordsReachTheirQueues :
    (∀ ix ∈ [0, 8192], let s : State := (withQueue run0 1 complQ).setHub 0 { held := [(ix, [⟨1, 0, zeros 32, 1⟩])] }; s.domOn 100 = true ∧ (s.hub 0).wbuf = [] ∧
      (s.hub 0).late = [] ∧
      (s.hub 0).held = [(ix, [⟨1, 0, zeros 32, 1⟩])] ∧ s.fld (QH_STATUS 0) QH_STATUS_PASS_POS ≤ ix ∧ s.recFate 0 ⟨1, 0, zeros 32, 1⟩ 0 = .write ∧
      s.memOn ((s.queue 0 1).slot (s.queue 0 1).prod) 32 = true) ∧
    (∀ v ∈ [16, 17], let s : State := (withQueue run0 1 fullQ).withBytes 0x3000 (leBytes 4 v); s.queue 0 1 = fullQ ∧ s.readNat fullQ.headAddr 4 = v ∧
      s.domOn 100 = true ∧ fullQ.enabled = true ∧ fullQ.tileConsumed = true ∧ fullQ.headAddr ≠ 0 ∧ s.producerFull 0 1 = true ∧
      s.memOn fullQ.headAddr 4 = true ∧ s.firstBad fullQ.headAddr 4 = none ∧ (decide ((v + 2 ^ 32 - fullQ.cons) % 2 ^ 32 ≤ fullQ.occupancy) = decide (v = 16))) ∧
    (let s : State := withQueue run0 1 { complQ with desc1 := 2 ^ 48 + 0xFFFF0000, prod := 1, armed := true }; (s.hub 0).wbuf = [] ∧ (s.hub 0).late = [] ∧ (s.hub 0).held = [] ∧
      s.domOn 100 = true ∧ (s.queue 0 1).noticeHolds = true) := by
  decide +kernel
theorem witness_AdvancingProdSignalsItsTile : ({ fullQ with desc1 := 0x07FF0000 + 127 * 256 } : QueueSt).sigTile = 0x7FF ∧
    ({ fullQ with desc1 := 0x07FF0000 + 127 * 256 } : QueueSt).sigCounter = 127 ∧ fullQ.sigTile = 0xFFFF := by decide +kernel
theorem witness_VectorsFire : ∀ v ∈ [0, 2047],
    (let s : State := run0.setFld (UC_STATUS 0) UC_STATUS_STATE 2; v ∉ s.msiFired ∧ (s.setFld (UC_MSI_DATA 0 v) UC_MSI_DATA_MASK 0).flag (UC_MSI_DATA 0 v) UC_MSI_DATA_MASK = false ∧
      (s.setFld (UC_MSI_DATA 0 v) UC_MSI_DATA_MASK 1).flag (UC_MSI_DATA 0 v) UC_MSI_DATA_MASK = true ∧
      (s.setFld (UC_MSI_DATA 0 v) UC_MSI_DATA_PENDING 1).flag (UC_MSI_DATA 0 v) UC_MSI_DATA_PENDING = true ∧ s.linkActive = true) ∧
    (run0.fld (UC_STATUS 0) UC_STATUS_STATE ≠ 2 ∧ run0.fld (UC_STATUS 0) UC_STATUS_STATE ≠ 3) ∧ ctxGlobal .module = true ∧ ctxGlobal (.kernel 0) = false := by
  decide +kernel


/-! ## Witnesses: the Kwebel ports -/

/-- Port n in a state, of full width, with its power on. -/
def kl (n st : Nat) : State := (run0.setFld (KL_STATUS n) KL_STATUS_STATE st)
theorem witness_PortsTrain : ∀ n ∈ [0, 9],
    ((kl n 1).klState n = 1 ∧ (kl n 1).lanesOn n = true ∧ (kl n 1).laserOff n = false ∧ 4 ≤ popCount 9 (0xF : BitVec 9).toNat) ∧
    (kl n 2).klState n = 2 ∧ ((kl n 3).klState n = 3 ∧ widthOf ((kl n 3).failedRx n) ≠ 0 ∧ widthOf (popCount 9 (0x1F : BitVec 9).toNat) ≠ 0 ∧
      widthOf (popCount 9 (0x3F : BitVec 9).toNat) = 0) ∧
    (∀ e ∈ [(2, 25000000), (3, 1000000), (4, 500000)], let s : State := { kl n e.1 with zt := e.2 + 1 }; s.klState n = e.1 ∧ (s.port n).since + e.2 < s.zt) ∧
    (let s : State := { (kl n 1).setFld (KL_PLAN n) KL_PLAN_EXPECT 1 with zt := 500000001 }; s.klState n = 1 ∧ s.fld (KL_PLAN n) KL_PLAN_EXPECT ≠ 0 ∧
      (s.port n).since + 500000000 < s.zt) ∧
    (let s : State := { (kl n 7).setFld (KL_PLAN n) KL_PLAN_AUTO_RETRAIN 1 with zt := 100000000 }; s.klState n = 7 ∧
      s.flag (KL_PLAN n) KL_PLAN_AUTO_RETRAIN = true ∧ s.lanesOn n = true ∧ s.laserOff n = false ∧ (s.port n).since + 100000000 ≤ s.zt) := by
  decide +kernel
theorem witness_PortsTrain_discover : ∀ n ∈ [0, 9],
    (let s : State := (kl n 4).setPort n { heard := some (5, 4, zeros 24), exchanges := 64 }; s.klState n = 4 ∧
      ((s.port n).exchange s.zt []).heard = some (5, 4, zeros 24) ∧ 64 ≤ (s.port n).exchanges ∧ (s.port n).back = none) ∧
    (let s : State := { (kl n 4).setPort n { exchanges := 63 } with zt := 9 }; ((s.port n).exchange (s.zt - 2) (zeros 32 ++ [1] ++ zeros 31)).exchanges = 64 ∧
      ((s.port n).exchange (s.zt - 2) (zeros 32 ++ [1] ++ zeros 31)).heard = some (0, 7, zeros 24) ∧ (kl n 4).klState n = 4 ∧ ((kl n 4).port n).heard = none) ∧
    (let s : State := (kl n 4).setPort n { back := some 6, content := some (zeros 24), heard := some (5, 4, zeros 24), exchanges := 64 }
     s.klState n = 4 ∧ (s.port n).heard = some (5, 4, zeros 24) ∧ 64 ≤ (s.port n).exchanges ∧ (s.port n).back = some 6 ∧
      (s.port n).content = some (zeros 24)) := by
  decide +kernel
theorem witness_PortsObeyTheirControls : ∀ n ∈ [0, 9], klWriter .module = true ∧ klWriter (.kernel 0) = false ∧
    ((kl n 5).setFld (KL_STATUS n) KL_STATUS_CHECK 1).klState n = 5 ∧ ((kl n 5).setFld (KL_STATUS n) KL_STATUS_CHECK 1).fld (KL_STATUS n) KL_STATUS_CHECK = 1 ∧
    (kl n 6).klState n ≠ 5 ∧ (kl n 6).lanesOn n = true ∧ (kl n 6).laserOff n = false ∧ ((kl n 6).port n).handling = false := by decide +kernel

/-- A live port with a CONTROL flit of a kind waiting. -/
def ctrl (n st kind : Nat) : State := (kl n st).setPort n { ctrlIn := [(0, leBytes 1 kind ++ zeros 31)], back := if st = 9 then some 6 else none }
theorem witness_LinksCarryAndLose : ∀ n ∈ [0, 9],
    (∀ st ∈ [3, 6], 3 ≤ (kl n st).klState n ∧ (kl n st).klState n ≤ 6) ∧
    ((kl n 6).carries n = true ∧ (0 : BitVec 16).toNat = ((kl n 6).port n).rxSeq ∧ (65535 : BitVec 16).toNat ≠ ((kl n 6).port n).rxSeq) ∧
    (∀ kind ∈ [0, 2], (((ctrl n 6 kind).port n).ctrlIn = [(0, leBytes 1 kind ++ zeros 31)] ∧ fieldAt (leBytes 1 kind ++ zeros 31) 0 1 = kind ∧
      (fieldAt (leBytes 1 kind ++ zeros 31) 2 2 + 65536 - ((ctrl n 6 kind).port n).ackSeq) % 65536 ≤
        (((ctrl n 6 kind).port n).txSeq + 65536 - ((ctrl n 6 kind).port n).ackSeq) % 65536)) ∧
    ((ctrl n 4 1).klState n = 4 ∧ ((ctrl n 4 1).port n).ctrlIn = [(0, leBytes 1 1 ++ zeros 31)] ∧ fieldAt (leBytes 1 1 ++ zeros 31) 0 1 = 1) ∧
    (∀ st ∈ [5, 6], (kl n st).klState n = st ∧ (kl n st).fld (KL_LANES n) KL_LANES_FAILED_RX = 0) ∧
    (let s : State := (kl n 6).setPort n { degRx := true }; s.klState n = 6 ∧ (s.port n).degRx = true ∧ (s.port n).retrainAfter = false ∧
      widthOf (s.failedRx n) ≠ 0 ∧ widthOf (s.failedTx n) ≠ 0) ∧
    (let s : State := { kl n 6 with zt := 1001 }; s.linkAlive n = true ∧ (s.port n).lastCtrl + 1000 < s.zt) ∧
    (let s : State := ((kl n 6).setFld (PD_DOM (72 + n)) PD_DOM_TARGET 1).setPort n { sleepSent := true, sleepRcvd := true }; s.sendsSleep n = true ∧
      (s.port n).sleepSent = true ∧ (s.port n).sleepRcvd = true) ∧
    ((ctrl n 9 3).klState n = 9 ∧ ((ctrl n 9 3).port n).ctrlIn = [(0, leBytes 1 3 ++ zeros 31)] ∧ fieldAt (leBytes 1 3 ++ zeros 31) 0 1 = 3 ∧
      (ctrl n 9 3).domState (72 + n) = 3 ∧ (∀ st ∈ ((ctrl n 9 3).port n).back, st < 16)) := by
  decide +kernel

/-- A verified Contrail module. -/
def contrail0 : ContrailSt := { serial := 7, ok := true, hours := 2 ^ 32, minute := 0, bias0 := [] }
theorem witness_MediaComeAndGo : ∀ n ∈ [0, 9], run0.fld (KL_STATUS n) KL_STATUS_MEDIUM = 0 ∧ run0.record 0x0006 0 = none ∧ (kl n 6).linkAlive n = true ∧
    (let s : State := { run0.setPort n { contrail := some contrail0 } with zt := 600000000000 }; (s.port n).contrail = some contrail0 ∧ contrail0.ok = true ∧
      contrail0.writtenAt + 600000000000 ≤ s.zt) := by
  decide +kernel


/-! ## Witnesses: the router, epochs, storage -/

/-- A module at the origin of a ring of four along X. -/
def rt0 : State := run0.wr RT_COORD (4 * 2 ^ 20 + 2 ^ 26 + 2 ^ 32 + 2 ^ 38 + 2 ^ 63)
/-- A packet of partition 0 with a body in the receive buffer of an ingress and channel. -/
def pkt (dst cls kind data : Nat) (isMod : Bool) (b : List Byte) : Packet := ⟨mkHdr dst 1 0 cls 0 false isMod kind b.length 0 data, b⟩
def rxOne (s : State) (i c : Nat) (k : Packet) : State := s.setRx i c [k]
theorem witness_PacketsAreRouted_arrival :
    (∀ k ∈ [pkt 0 1 1 0 false [], pkt 0 0 6 0 true [], pkt 1 5 10 0 true [], pkt 0 0 15 0 false [], pkt 40 0 6 0 true []], let s : State := rxOne rt0 10 k.cls k;
      s.firstFree (s.rxAt 10 k.cls) = some (k, []) ∧ s.ingressBar 10 k = false ∧ k.kind ≠ 4 ∧ s.flag RT_COORD RT_COORD_VALID = true ∧
      s.headerBad k = decide (k.kind = 15 ∨ k.dst = 40) ∧
      (k.kind = 1 → s.hop k 10 1 = .here ∧ s.localFate k = .take) ∧ (k.kind = 10 → s.hop k 10 5 = .out 0 false)) ∧
    (let s : State := rxOne run0 10 1 (pkt 0 1 1 0 false [])
     s.firstFree (s.rxAt 10 1) = some (pkt 0 1 1 0 false [], []) ∧ s.ingressBar 10 (pkt 0 1 1 0 false []) = false ∧
      s.flag RT_COORD RT_COORD_VALID = false) ∧
    (let s : State := rxOne (rt0.setFld (KL_STATUS 0) KL_STATUS_STATE 5) 0 1 (pkt 0 1 1 0 false [])
     s.firstFree (s.rxAt 0 1) = some (pkt 0 1 1 0 false [], []) ∧ s.quarantined 0 (pkt 0 1 1 0 false []) = true) ∧
    (let s : State := rxOne rt0 10 0 (pkt 0 0 0 1 false [])
     s.firstFree (s.rxAt 10 0) = some (pkt 0 0 0 1 false [], []) ∧ s.headerBad (pkt 0 0 0 1 false []) = false ∧
      s.hop (pkt 0 0 0 1 false []) 10 0 = .here ∧ s.localFate (pkt 0 0 0 1 false []) = .discard dNoQueue) := by
  decide +kernel
/-- The packet waits at port 0, judged in share. -/
def eg0 (c : Nat) : EgPkt := ⟨pkt 1 0 6 0 true [], 10, c, true, 1, false⟩
theorem witness_PacketsAreRouted_boundary : ∀ c ∈ [0], let g : EgPkt := eg0 c; let s : State := ((rt0.setFld (KL_STATUS 0) KL_STATUS_STATE 6).setPort 0 { credited := true }).setEg 0 c [g];
    s.klState 0 = 6 ∧ s.domOn 72 = true ∧ (s.port 0).degTx = false ∧ (s.port 0).replayFrom = none ∧ s.egAt 0 c = [g] ∧
    (∀ x ∈ List.range 10, x ≠ c → s.egAt 0 x = []) ∧ (s.egressBar 0 g).isNone = true ∧ s.packetHeld g.pkt = false ∧ g.judged = 1 ∧
    g.need 0 ≤ (s.port 0).credits c ∧ g.pkt.flits + ((s.port 0).txSeq + 65536 - (s.port 0).ackSeq) % 65536 ≤ 8192 := by
  decide +kernel

/-- A MESSAGE queue 1 of die 0: 16 entries of 64 bytes at 0x2000, or full. -/
def msgQ (prod : Nat) : QueueSt := { desc0 := 2 ^ 63 + 2 * 2 ^ 60 + 2 ^ 59 + 4 * 2 ^ 54 + 2 * 2 ^ 52 + 0x2000, desc1 := 0xFFFF0000, prod := prod }
theorem witness_MessagesAreDelivered : ∀ prod ∈ [0, 9, 15, 16], let k : Packet := pkt 0 0 0 1 false (zeros 65); let x : QueueSt := msgQ prod; let s : State := rxOne (withQueue rt0 1 x) 10 0 k; s.firstFree (s.rxAt 10 0) = some (k, []) ∧ bits k.data 14 14 = 0 ∧ bits k.data 13 0 = 1 ∧ s.queue 0 1 = x ∧
    k.isModule = false ∧ k.dst = s.coord ∧ s.flag RT_COORD RT_COORD_VALID = true ∧ s.headerBad k = false ∧ s.ingressBar 10 k = false ∧
    s.queueValid k = true ∧ x.enabled = true ∧ s.roomFor 0 1 (messageEntries x.entryBytes k.body).length = decide (prod ≤ 14) ∧ s.domOn 100 = true ∧
    (∀ e ∈ enumFrom 0 (messageEntries x.entryBytes k.body), s.memOn (x.slot (x.prod + e.1)) x.entryBytes = true) := by
  decide +kernel
/-- RT_COORD of ring sizes along X and of a coordinate on X. -/
def coordW (l c : Nat) : Word := BitVec.ofNat 64 (c + l * 2 ^ 20 + 2 ^ 26 + 2 ^ 32 + 2 ^ 38 + 2 ^ 63)
theorem witness_CoordinatesAreWelkins :
    (∀ e ∈ [(1, 0), (32, 31)], ∀ a : Fin 4, 1 ≤ bits (coordW e.1 e.2).toNat (25 + 6 * a.val) (20 + 6 * a.val) ∧
      bits (coordW e.1 e.2).toNat (25 + 6 * a.val) (20 + 6 * a.val) ≤ 32 ∧
      coordAt (coordW e.1 e.2).toNat a < bits (coordW e.1 e.2).toNat (25 + 6 * a.val) (20 + 6 * a.val)) ∧
    (∀ e ∈ [(0, 0), (33, 0), (4, 4)], bits (coordW e.1 e.2).toNat 25 20 ≤ coordAt (coordW e.1 e.2).toNat 0 ∨ 32 < bits (coordW e.1 e.2).toNat 25 20) := by
  decide +kernel

/-- Partition p's epoch group: both tables valid, a close list of one entry at 0x3000, a switch at 20,000. -/
def ep (p st sent : Nat) : State :=
  ((((((run0.withBytes 0x3000 (leBytes 4 0x100001)).setFld (RT_EPOCH_STATE p) (validFld 0) 1).setFld (RT_EPOCH_STATE p) (validFld 1) 1).setFld (RT_EPOCH_STATE p)
    RT_EPOCH_STATE_STATE st).setFld (RT_EPOCH_STATE p) RT_EPOCH_STATE_CLOSES_SENT sent).setFld (RT_CLOSE_LIST p) RT_CLOSE_LIST_ADDR 0x3000).setFld
    (RT_CLOSE_LIST p) RT_CLOSE_LIST_COUNT 1 |>.wr (RT_SWITCH_AT p) 20000
theorem witness_EpochsSwitch :
    (let s : State := ep 0 0 0; groupWriter (.kernel 0) 0 = true ∧ groupWriter (.kernel 1) 0 = false ∧ s.fld (RT_CLOSE_LIST 0) RT_CLOSE_LIST_ADDR = 0x3000 ∧
      s.fld (RT_CLOSE_LIST 0) RT_CLOSE_LIST_COUNT = 1 ∧ s.epochState 0 = 0 ∧ s.flag (RT_EPOCH_STATE 0) (validFld (1 - s.currentEpoch 0)) = true ∧
      s.zt + 10000 ≤ s.rd (RT_SWITCH_AT 0) ∧ s.owns 0 0x3000 4 = true ∧ s.memOn 0x3000 4 = true ∧ s.firstBad 0x3000 4 = none ∧ s.readNat 0x3000 4 < 2 ^ 26) ∧
    (let s : State := { ep 0 1 0 with zt := 10001 }; s.epochState 0 ≠ 0 ∧ s.rd (RT_SWITCH_AT 0) < s.zt + 10000) ∧
    (let s : State := { ep 0 1 0 with zt := 20000 }; s.epochState 0 = 1 ∧ s.rd (RT_SWITCH_AT 0) ≤ s.zt ∧ s.stopHolds (some 0) = false) ∧
    (let s : State := ep 0 2 0; s.epochState 0 = 2 ∧ s.flag (RT_EPOCH_STATE 0) RT_EPOCH_STATE_CLOSES_SENT = false ∧ s.runsEpoch 0 (1 - s.currentEpoch 0) = false ∧
      s.stopHolds (some 0) = false) ∧
    (∀ st ∈ [0, 1, 2], let s : State := (ep 0 st 1).setInbox 9 [(10, pkt 0 0 9 0 false [])]; s.inboxOf 9 = [(10, pkt 0 0 9 0 false [])] ∧
      s.epochState (pkt 0 0 9 0 false []).part = st) ∧
    (let s : State := ep 0 2 1; s.epochState 0 = 2 ∧ s.flag (RT_EPOCH_STATE 0) RT_EPOCH_STATE_CLOSES_SENT = true) ∧
    (let s : State := { (ep 0 2 1).setFld (RT_CLOSE_EXPECT 0) RT_CLOSE_EXPECT_TIMEOUT_US 1 with zt := 21001 }; s.epochState 0 = 2 ∧
      s.fld (RT_CLOSE_EXPECT 0) RT_CLOSE_EXPECT_TIMEOUT_US ≠ 0 ∧ s.rd (RT_SWITCH_AT 0) + s.fld (RT_CLOSE_EXPECT 0) RT_CLOSE_EXPECT_TIMEOUT_US * 1000 +
        sget (fun _ => 0) s.router.extra 0 < s.zt ∧ 0 ∉ s.router.timedOut ∧ s.stopHolds (some 0) = false) := by
  decide +kernel

/-- A storage entry: READ of 64 bytes to 0x7000 by port n, and the STORAGE queue 1 of die 0 at 0x2000 that holds it. -/
def seB (n : Nat) : List Byte := leBytes 1 1 ++ leBytes 1 n ++ leBytes 2 2 ++ leBytes 4 7 ++ leBytes 8 0x7000 ++ leBytes 8 64 ++ leBytes 8 5 ++ leBytes 8 4096 ++ zeros 24
def storQ : QueueSt := { desc0 := 2 ^ 63 + 4 * 2 ^ 60 + 2 ^ 59 + 4 * 2 ^ 54 + 2 ^ 52 + 0x2000, desc1 := 0xFFFF0000, prod := 1 }
def storReq (n moved : Nat) : StorageReq := { tag := 9, die := 0, queue := 1, slot := 0, entry := seB n, owner := some 0, moved := moved, last := 0 }
/-- Port n UP, with one request outstanding and a packet of its node of a storage KIND waiting. -/
def stor (n kind node moved : Nat) : State :=
  ((rt0.setFld (KL_STATUS n) KL_STATUS_STATE 6).setFld (KL_PLAN n) KL_PLAN_PART_MASK 1 |>.setPort n { reqs := [storReq n moved] }).setRx n 4
    [pkt 0 4 4 0 false (leBytes 1 kind ++ leBytes 1 node ++ zeros 2 ++ leBytes 4 9 ++ leBytes 8 5 ++ leBytes 8 4128 ++ leBytes 8 64 ++ zeros (if kind = 2 then 32 else 0))]
theorem witness_StorageRequestsRun_entry : ∀ e ∈ [0, 1], let s : State := ((withQueue rt0 1 storQ).withBytes 0x2000 (seB (8 + e))).setFld (KL_STATUS (8 + e)) KL_STATUS_STATE 6;
    (s.port (8 + e)).reqs.length < 16 ∧ (s.port (8 + e)).dones = [] ∧ s.storageQueue (8 + e) = some 1 ∧ s.memOn (storQ.slot storQ.cons) 64 = true ∧
    s.firstBad (storQ.slot storQ.cons) 64 = none ∧ storageEntryOk (s.readBytes (storQ.slot storQ.cons) 64) = true ∧
    seOp (s.readBytes (storQ.slot storQ.cons) 64) = 1 ∧ s.ownerMemory (s.queueOwner 0 1) 0x7000 64 = true ∧ s.klState (8 + e) = 6 := by
  decide +kernel
theorem witness_StorageRequestsRun_packets : ∀ n ∈ [8, 9],
    (let s : State := stor n 2 0 0; let k : Packet := (s.rxAt n 4).headD ⟨0, []⟩; s.storageIn n = some (k, []) ∧ fieldAt k.body 0 1 = 2 ∧
      s.storageReq n k = some (storReq n 0) ∧ 32 ≤ k.body.length ∧ seOffset (seB n) ≤ fieldAt k.body 0x10 8 ∧
      (fieldAt k.body 0x10 8 - seOffset (seB n)) + (k.body.drop 32).length ≤ seLen (seB n) ∧ s.memOn 0x7020 32 = true ∧ s.firstFailed 0x7020 32 = none ∧
      (∀ j < 32, s.inFailed (0x7020 + j) = false) ∧ s.partlyBad 0x7020 32 = [] ∧ s.plain 0x7020 32) ∧
    (∀ node ∈ [0, 3], let s : State := stor n 5 node 64; let k : Packet := (s.rxAt n 4).headD ⟨0, []⟩; s.storageIn n = some (k, []) ∧ fieldAt k.body 0 1 = 5 ∧
      s.storageReq n k = some (storReq n 64) ∧ fieldAt k.body 1 1 = node ∧ (storReq n 64).moved = seLen (seB n) ∧ (storReq n 64).ue = false) ∧
    (let s : State := { (stor n 5 0 0).setFld (KL_LIMITS n) KL_LIMITS_STORAGE_TIMEOUT 1 with zt := 1001 };
      (s.port n).reqs.find? (fun r => r.tag == 9) = some (storReq n 0) ∧ s.fld (KL_LIMITS n) KL_LIMITS_STORAGE_TIMEOUT ≠ 0 ∧
      (storReq n 0).last + s.fld (KL_LIMITS n) KL_LIMITS_STORAGE_TIMEOUT * 1000 < s.zt ∧ s.stopHolds (storReq n 0).owner = false) := by
  unfold State.plain
  decide +kernel


/-! ## Witnesses: the collective engines -/

/-- A descriptor of an operation over members 0 and 1 of the axis (ring operations), 64 G32 elements or 64 bytes. -/
def ceB (op fmt cw dl : Nat) : List Byte := leBytes 1 op ++ leBytes 1 fmt ++ leBytes 2 (if op ≤ 4 then 4 else 0) ++ leBytes 4 7 ++ leBytes 8 (if op = 5 ∨ op = 7 then 0 else 0x10000) ++
  leBytes 8 (if op = 5 ∨ op = 6 then 0 else 0x20000) ++ leBytes 8 64 ++ leBytes 4 (if op ≤ 4 then 3 else 0) ++ leBytes 4 0xFFFF0000 ++ leBytes 8 dl ++ leBytes 8 cw ++ zeros 18 ++
  leBytes 2 0xFFFF ++ zeros 52
def ceW (op : Nat) : List Byte := ceB op (if op ≤ 4 then 9 else 0xD) 0 0
/-- Axis a with partition 0's ring of 16 descriptors at 0x2000 in service, one posted. -/
def ring1 (a : Nat) (b : List Byte) : State :=
  (((((rt0.withBytes 0x2000 b).setFld (CE_RING a 0) CE_RING_ENABLE 1).setFld (CE_RING a 0) CE_RING_SIZE_LOG2 4).setFld (CE_RING a 0) CE_RING_BASE 0x2000).setFld
    (CE_PROD_ADDR a 0) CE_PROD_ADDR_ADDR 0x3000).setFld (CE_PTR a 0) CE_PTR_PROD 1
theorem witness_CollectivesStart : ∀ a ∈ [0, 3],
    (∀ v ∈ [16, 17], let s : State := ((ring1 a []).setFld (CE_PTR a 0) CE_PTR_PROD 0).withBytes 0x3000 (leBytes 4 v); s.fld (CE_PROD_ADDR a 0) CE_PROD_ADDR_ADDR = 0x3000 ∧
      s.readNat 0x3000 4 = v ∧ s.flag (CE_RING a 0) CE_RING_ENABLE = true ∧ s.pairRuns a 0 = true ∧ s.fld (CE_PTR a 0) CE_PTR_PROD = s.fld (CE_PTR a 0) CE_PTR_CONS ∧
      sget (fun _ => 0) (s.ce a).pollAt 0 ≤ s.zt ∧ s.memOn 0x3000 4 = true ∧ s.firstBad 0x3000 4 = none ∧
      (decide ((v + 2 ^ 32 - s.fld (CE_PTR a 0) CE_PTR_CONS) % 2 ^ 32 ≤ 2 ^ s.fld (CE_RING a 0) CE_RING_SIZE_LOG2) = decide (v = 16))) ∧
    (∀ op ∈ [1, 2, 3, 4, 5, 6, 7], let s : State := ring1 a (ceW op); s.ceHead a 0 = some (0, 0x2000) ∧ s.pairRuns a 0 = true ∧
      ((s.ce a).ops.filter (fun o => o.part == 0)).length < 4 ∧ (∀ o ∈ (s.ce a).ops, o.no < (s.ce a).started ∧ o.axis = a) ∧ s.memOn 0x2000 128 = true ∧
      s.firstBad 0x2000 128 = none ∧ (ceDesc (s.readBytes 0x2000 128)).op = op ∧ (ceDesc (s.readBytes 0x2000 128)).epochWait = false ∧
      (s.ce a).places.length < 32 ∧ s.flag TL_TRACE_CTRL TL_TRACE_CTRL_ENABLE = false ∧
      s.firstOff (ceDesc (s.readBytes 0x2000 128)).table (32 * (ceDesc (s.readBytes 0x2000 128)).tableCount) = none) ∧
    rt0.flag (CE_RING a 0) CE_RING_ENABLE = false := by
  decide +kernel

theorem witness_CollectivesStart_checked : (ring1 0 (ceW 1)).ceStartFault 0 0 (ceW 1) = none ∧
    (ring1 0 (ceB 1 0 0 0)).ceStartFault 0 0 (ceB 1 0 0 0) = some (stBadCommand, 0) := by decide +kernel

/-- An operation of pair 0 and a packet of a subtype for engine e, of its tag. -/
def ceO (b : List Byte) : CeOp := { no := 0, axis := 0, part := 0, desc := b, slot := 0, epoch := 0, order := [0, 1], last := 0 }
def ceS (o : CeOp) : State := { rt0 with ces := [(0, { ops := [o], started := 1 })] }
def ceK (e sub extra : Nat) (b : List Byte) : Packet := pkt 0 0 1 (sub + e * 2 ^ 4 + 7 * 2 ^ 11 + extra) false b
def ceM (o : CeOp) (k : Packet) : State := (ceS o).setInbox 1 [(10, k)]
theorem witness_CollectivesDecideAndEnd_contribution :
    (∀ w ∈ [0, 1], ∀ dl ∈ [0, 1], let o : CeOp := ceO (ceB 1 9 0x3000 dl); let s : State := (ceS o).withBytes 0x3000 (leBytes 4 w); s.opAt 0 0 0 = some o ∧
      o.d.reduces = true ∧ o.contrib = none ∧ o.fault = none ∧ s.pairRuns 0 0 = true ∧ o.d.contribAddr = 0x3000 ∧ o.d.contribAddr ≠ 0 ∧ s.memOn 0x3000 4 = true ∧
      s.firstBad 0x3000 4 = none ∧ o.readAt ≤ s.zt ∧ (o.d.deadline = 0 ∨ s.zt < o.d.deadline) ∧ s.readNat 0x3000 4 = w) ∧
    (let o : CeOp := ceO (ceB 1 9 0x3000 1); let s : State := { ceS o with zt := 1 }; s.opAt 0 0 0 = some o ∧ o.d.reduces = true ∧ o.contrib = none ∧
      o.fault = none ∧ s.pairRuns 0 0 = true ∧ o.d.contribAddr = 0x3000 ∧ s.memOn 0x3000 4 = true ∧ s.firstBad 0x3000 4 = none ∧ o.d.deadline ≠ 0 ∧ o.d.deadline ≤ s.zt) := by
  decide +kernel
theorem witness_CollectivesDecideAndEnd_messages : ∀ e ∈ [0, 4], let o : CeOp := ceO (ceW 1); let o2 : CeOp := { ceO (ceW 1) with stopped := true, ready0 := true };
    (let s1 : State := (ceS o).setInbox 1 []; (ceM o (ceK e 2 (2 ^ 43) [])).collective e 2 = some (ceK e 2 (2 ^ 43) [], s1) ∧ s1.opOf e (ceK e 2 (2 ^ 43) []) = some o ∧
      o.axis = e % 4 ∧ (ceK e 2 (2 ^ 43) []).attempt = o.attempt ∧ o.done ||| (ceK e 2 (2 ^ 43) []).mask ≠ o.done) ∧
    (let s1 : State := (ceS o).setInbox 1 []; (ceM o (ceK e 5 0 [])).collective e 5 = some (ceK e 5 0 [], s1) ∧ s1.opOf e (ceK e 5 0 []) = some o ∧ o.fault = none ∧
      (ceK e 5 0 []).attempt = o.attempt ∧ s1.decisionLine o = some ([0, 1], 0)) ∧
    (let s1 : State := (ceS o).setInbox 1 []; (ceM o (ceK e 6 0 [])).collective e 6 = some (ceK e 6 0 [], s1) ∧ s1.opOf e (ceK e 6 0 []) = some o ∧
      o.fault = none ∧ o.told = false) ∧
    (let s1 : State := (ceS o2).setInbox 1 []; (ceM o2 (ceK e 4 0 [])).collective e 4 = some (ceK e 4 0 [], s1) ∧ s1.opOf e (ceK e 4 0 []) = some o2 ∧ o2.stopped = true ∧
      s1.opNo (e % 4) o2.no = some o2 ∧ s1.decisionLine o2 = some ([0, 1], 0)) ∧
    (let s1 : State := (ceS o).setInbox 1 []; (ceM o (ceK e 3 (2 * 2 ^ 75) [])).collective e 3 = some (ceK e 3 (2 * 2 ^ 75) [], s1) ∧ (s1.brokenLinks (e % 4)).length < 2) := by
  decide +kernel
theorem witness_CollectivesDecideAndEnd_ends :
    (let o : CeOp := { ceO (ceW 1) with ready0 := true }; let s : State := { (ceS o).setFld (CE_LIMIT 0 0) CE_LIMIT_TIMEOUT_US 1 with zt := 1001 }; s.opAt 0 0 0 = some o ∧
      o.axis = 0 ∧ s.pairRuns 0 0 = true ∧ s.fld (CE_LIMIT 0 0) CE_LIMIT_TIMEOUT_US ≠ 0 ∧ o.d.op ≠ 6 ∧ o.fault = none ∧ s.opDone o = false ∧
      o.last + 1000 * s.fld (CE_LIMIT 0 0) CE_LIMIT_TIMEOUT_US < s.zt) ∧
    (let o : CeOp := { ceO (ceW 1) with fault := some (stDataFault, 4) }; let s : State := ceS o; s.opAt 0 0 0 = some o ∧ o.axis = 0 ∧ s.pairRuns 0 0 = true ∧ s.opDone o = true ∧
      (s.finishOp o).isSome = true ∧ (∀ x ∈ [(o.d.resultAddr, 64), (o.d.statsAddr, 192)], x.1 = 0 ∨ s.firstOff x.1 x.2 = none)) ∧
    (let s : State := { rt0.setFld (CE_LIMIT 0 0) CE_LIMIT_TIMEOUT_US 1 with ces := [(0, { places := [{ part := 0, tag := 7, first := 0 }] })], zt := 1001 };
      s.tagPlace 0 0 7 = some { part := 0, tag := 7, first := 0 } ∧ s.pairRuns 0 0 = true ∧ (s.ce 0).ops = [] ∧ s.fld (CE_LIMIT 0 0) CE_LIMIT_TIMEOUT_US ≠ 0 ∧
      0 + 1000 * s.fld (CE_LIMIT 0 0) CE_LIMIT_TIMEOUT_US < s.zt) := by
  decide +kernel

/-- A reducing operation of two members under way; its first arrival on the plus way. -/
def dataO : CeOp := { ceO (ceW 1) with ready0 := true, contrib := some true }
theorem witness_CollectiveDataAreApplied_data : let s1 : State := (ceS { dataO with mode := 1 }).setInbox 1 []; let x : Send := (((s1.geom { dataO with mode := 1 }).arrivals 0 1).headD ⟨0, 0, 0, .free⟩); let k : Packet := ceK 0 0 (2 ^ 10 + x.off * 2 ^ 75) (zeros x.len); let s : State := ceM { dataO with mode := 1 } k; s.collective 0 0 = some (k, s1) ∧ s1.opOf 0 k = some { dataO with mode := 1 } ∧ k.attempt = 0 ∧ k.mode = 1 ∧ k.phase = 0 ∧ dataO.stopped = false ∧ dataO.fault = none ∧ dataO.ready0 = true ∧
    (((s1.geom { dataO with mode := 1 }).arrivals (s1.cePlace { dataO with mode := 1 }) (engineWay 0)).any (fun y => y.phase == k.phase && y.off == k.offset && y.len == x.len)) = true ∧
    ({ dataO with mode := 1 } : CeOp).has (engineWay 0) k.phase k.offset x.len = false ∧
    0 < x.len ∧ k.body.length = x.len ∧ s1.cePlace { dataO with mode := 1 } = 0 ∧ x.phase = 0 ∧ k.offset = x.off ∧
    s1.memOn (0x20000 + x.off) x.len = true ∧ s1.firstBad (0x20000 + x.off) x.len = none ∧ s1.firstFailed (0x20000 + x.off) x.len = none ∧
    s1.partlyBad (0x20000 + x.off) x.len = [] ∧ s1.plain (0x20000 + x.off) x.len ∧ (∀ j < x.len, s1.inFailed (0x20000 + x.off + j) = false) ∧
    (combineBytes 9 (s1.readBytes (0x20000 + x.off) x.len) k.body).length = x.len := by
  unfold State.plain
  decide +kernel
theorem witness_CollectiveDataAreApplied_ready : ∀ e ∈ [0, 4],
    ((rt0.setInbox 1 [(10, ceK e 1 0 [])]).collective e 1 = some (ceK e 1 0 [], rt0.setInbox 1 []) ∧ (rt0.setInbox 1 []).opOf e (ceK e 1 0 []) = none ∧
      (sget (fun _ => []) ((rt0.setInbox 1 []).ce (e % 4)).readys (0 * 2 + engineSide e)).length < 8) ∧
    ((ceM dataO (ceK e 1 0 [])).collective e 1 = some (ceK e 1 0 [], (ceS dataO).setInbox 1 []) ∧
      ((ceS dataO).setInbox 1 []).opOf e (ceK e 1 0 []) = some dataO ∧ dataO.ready0 = true ∧ dataO.fault = none ∧ (ceK e 1 0 []).attempt = dataO.attempt ∧
      (ceK e 1 0 []).mode = dataO.mode) := by decide +kernel
/-- A read request of 64 bytes, and a READ operation with its reply. -/
def reqK (a : Nat) : Packet := pkt 0 2 2 (a + 64 * 2 ^ 48) false []
def readO : CeOp := { ceO (ceW 7) with ready0 := true, reqs := [(0, 0, 64)], cursor := 64 }
def replyK : Packet := pkt 0 3 3 0 false (zeros 64)
theorem witness_CollectiveDataAreApplied_requests :
    (∀ a ∈ [0x5000, 0x40000000], let s : State := rxOne rt0 10 2 (reqK a); s.firstFree (s.rxAt 10 2) = some (reqK a, []) ∧ (reqK a).kind = 2 ∧ (reqK a).isModule = false ∧
      (reqK a).dst = s.coord ∧ s.flag RT_COORD RT_COORD_VALID = true ∧ s.headerBad (reqK a) = false ∧ s.ingressBar 10 (reqK a) = false ∧
      bits (reqK a).data 47 0 = a ∧ bits (reqK a).data 57 48 = 64 ∧ s.replyCredits ⟨mkHdr 1 s.coord 0 3 0 false false 3 64 0 0, zeros 64⟩ = true ∧
      s.owns 0 a 64 = decide (a = 0x5000) ∧ s.memOn 0x5000 64 = true ∧ s.firstBad 0x5000 64 = none) ∧
    (let s : State := (ceS readO).setInbox 3 [(10, replyK)]; ((s.inboxOf 3).find? (fun x => x.2.engine == 0)) = some (10, replyK) ∧ s.pairRuns 0 0 = true ∧
      ((s.ce 0).ops.find? (fun o => o.part == 0 && o.reqs.any (fun r => r.1 == 0))) = some readO ∧ readO.reqs.find? (fun r => r.1 == 0) = some (0, 0, 64) ∧
      bits replyK.data 21 19 = 0 ∧ s.memOn 0x20000 64 = true ∧ s.firstFailed 0x20000 64 = none ∧ s.partlyBad 0x20000 64 = [] ∧ s.plain 0x20000 64 ∧
      (∀ j < 64, s.inFailed (0x20000 + j) = false)) := by
  unfold State.plain
  decide +kernel


/-! ## Witnesses: Zenith, the Overcast stop, the Tally -/

/-- Port n UP with CHECK MATCH: it carries Zenith traffic. -/
def zp (n : Nat) : State := rt0.setFld (KL_STATUS n) KL_STATUS_STATE 6
/-- ZN_STATUS of a state, a parent and ROOT. -/
def zst (s : State) (st p root : Nat) : State := ((s.setFld ZN_STATUS ZN_STATUS_STATE st).setFld ZN_STATUS ZN_STATUS_PARENT p).setFld ZN_STATUS ZN_STATUS_ROOT root
def timeK (sub rest : Nat) : Packet := pkt 0 0 6 (sub + rest * 16) true []
theorem witness_ZenithElectsAndDisciplines_traffic :
    (let s : State := (zp 0).setFld ZN_ELECT ZN_ELECT_ELIGIBLE 1; sget (fun _ => 0) s.zenith.annSent 0 ≤ s.zt ∧ s.bestCand.isSome = true ∧ s.zenithPorts ≠ [] ∧
      s.flag RT_COORD RT_COORD_VALID = true) ∧
    (∀ n ∈ [0, 7], let s : State := (zp n).setInbox 6 [(n, timeK 0 0)]; s.timeIn 0 = some (n, timeK 0 0, (zp n).setInbox 6 []) ∧ s.zenithPort n = true) ∧
    (let s : State := zst (zp 0) 2 0 0; s.znParent = some 0 ∧ s.liveAnns = [] ∧ s.flag ZN_ELECT ZN_ELECT_ELIGIBLE = false ∧ s.znState = 2) ∧
    (∀ st ∈ [0, 3], let s : State := { zst run0 st 15 0 with zt := 1000 }; s.zenith.lastWin < s.zt / 1000 ∧ s.znParent = none ∧ s.znState = st) ∧
    (∀ n ∈ ([0, 7] : List (Fin 8)), let s : State := { zp n with zt := 1000 }; s.zenithPort n = true ∧ sget (fun _ => 0) s.zenith.syncSent n ≤ s.zt ∧ 1000 ≤ s.zt ∧
      s.flag RT_COORD RT_COORD_VALID = true) ∧
    (let k : Packet := timeK 1 (4000 + 2 ^ 112); let s1 : State := ({ zst (zp 0) 2 0 0 with zt := 5000, zenith := { windows := [(0, [⟨4000, 3, 1⟩])] } } : State).setInbox 6 []; let s : State := s1.setInbox 6 [(0, k)]; s.timeIn 1 = some (0, k, s1) ∧ s.zenithPort 0 = true ∧ s.znParent = some 0 ∧ bit k.data 116 = true ∧
      ((sget (fun _ => []) s.zenith.windows 0).filter (fun x => decide (x.start + 1000 ≤ s.zt) && decide (s.zt / 1000 ≤ x.start / 1000 + 16))).find? (fun x => x.start == bits k.data 67 4) =
        some ⟨4000, 3, 1⟩) := by
  decide +kernel
/-- A root with its reference enabled. -/
def znRef (z : ZenithSt) (t : Nat) : State := { (zst run0 4 15 1).setFld ZN_REF_CFG ZN_REF_CFG_PPS_EN 1 with zenith := z, zt := t }
theorem witness_ZenithElectsAndDisciplines_reference :
    (let s : State := znRef { nextSec := some 1 } 0; s.flag ZN_STATUS ZN_STATUS_ROOT = true ∧ s.flag ZN_REF_CFG ZN_REF_CFG_PPS_EN = true ∧
      s.zenith.nextSec = some 1) ∧
    (let s : State := (znRef { lastEdge := 1 } 2000000002).setFld ZN_STATUS ZN_STATUS_QUALITY 2; s.flag ZN_STATUS ZN_STATUS_ROOT = true ∧
      s.flag ZN_REF_CFG ZN_REF_CFG_PPS_EN = true ∧ s.zenith.lastEdge ≠ 0 ∧ s.zenith.lastEdge + 2000000000 < s.zt ∧ s.fld ZN_STATUS ZN_STATUS_QUALITY = 2) ∧
    (znWriter .module = true ∧ znWriter (.kernel 0) = false) ∧
    (∀ p : Fin 8, State.reset.flag (SI_STATUS p) SI_STATUS_ACTIVE = false ∧ State.reset.stage p ≠ 3 ∧ State.reset.stage p ≠ 4) ∧
    (∃ p : Fin 8, run0.flag (SI_STATUS p) SI_STATUS_ACTIVE = true) := by
  decide +kernel
/-- A slot of partition 0 that signals a tile's counter 5. -/
def frm (t : Nat) : State := ((run0.setFld (ZN_FRAME_SIG 0 3) ZN_FRAME_SIG_ENABLE 1).setFld (ZN_FRAME_SIG 0 3) ZN_FRAME_SIG_TILE t).setFld (ZN_FRAME_SIG 0 3) ZN_FRAME_SIG_COUNTER 5
theorem witness_TimeOutputsAndFrames :
    (∀ e ∈ [0, 1], let s : State := { (zst run0 4 15 1).setFld ZN_OUT_CFG ZN_OUT_CFG_PPS_EN e with zt := 1000000000 }; s.zenith.ppsAt < s.ppsSecond ∧
      s.fld ZN_CAL_PPS_OUT ZN_CAL_PPS_OUT_EFFECTIVE = 0 ∧ s.zenith.acc < 10 ^ 9 ∧
      s.flag ZN_OUT_CFG ZN_OUT_CFG_PPS_EN = decide (e = 1) ∧ s.shownState = 4) ∧
    (let s : State := { run0 with zt := 1010000000, zenith := { todFor := some 1 } }; s.zenith.todFor = some 1 ∧ 1 * 10 ^ 9 + 10000000 ≤ s.zt) ∧
    (∀ e ∈ [0, 1], let s : State := (frm 0).setFld ZN_STOP_STATE ZN_STOP_STATE_STOPPED e; s.flag (SI_STATUS 0) SI_STATUS_ACTIVE = true ∧
      (s.part 0).active = some img0 ∧ sget (fun _ => 0) s.zenith.frameAt 0 * (img0.head.frameUs * 1000) ≤ s.zt ∧
      (∀ k : Fin 4, k ≠ 3 → s.flag (ZN_FRAME_SIG 0 k) ZN_FRAME_SIG_ENABLE = false) ∧ s.flag (ZN_FRAME_SIG 0 3) ZN_FRAME_SIG_ENABLE = true ∧
      s.fld (ZN_FRAME_SIG 0 3) ZN_FRAME_SIG_TILE = 0 ∧ s.stopHolds (some 0) = decide (e = 1) ∧ s.tileOwner 0 = some 0 ∧ s.physUsable (s.physOf 0) = true) := by
  decide +kernel
/-- A stop of partition 0 wanted at T; an order of that scope. -/
def znStop (t : Nat) : State := (run0.setFld ZN_STOP_SCOPE ZN_STOP_SCOPE_SCOPE 1).wr ZN_STOP_T t
def ord (action : Nat) : StopOrder := ⟨9, 3, 255, true, action, false, 0, 0, none, 0, false⟩
def stopK (id : Nat) : Packet := pkt 0 0 7 (9 + id * 2 ^ 64 + 2 ^ 96) true []
theorem witness_OvercastStops :
    (∀ st ∈ [0, 1], let s : State := (znStop 100000).setFld ZN_STOP_STATE ZN_STOP_STATE_STOPPED st; s.leadShort = false ∧ s.zt < s.rd ZN_STOP_T ∧
      s.resumable (s.ownOrder 1 false 0) = decide (st = 1)) ∧
    (znStop 99999).leadShort = true ∧ bit ((znStop 0).fld ZN_STOP_SCOPE ZN_STOP_SCOPE_SCOPE) 0 = true ∧
    (∀ seen ∈ [[], [4]], let s : State := ({ zp 0 with zenith := { seen := seen } } : State).setInbox 7 [(0, stopK 4)]; s.inboxOf 7 = [(0, stopK 4)] ∧
      s.zenithPort 0 = true ∧ (stopOrderOf (stopK 4)).id = 4) ∧
    (let s : State := { run0 with zt := 9, zenith := { orders := [ord 0] } };
      s.zenith.orders.find? (fun o => o.action == 0 && o.stoppedAt.isNone && decide (o.t ≤ s.zt)) = some (ord 0) ∧ (ord 0).kind = 0 ∧ (ord 0).scope < 256) ∧
    (∀ a ∈ [0, 64, 0x2000], let o : StopOrder := { ord 0 with stoppedAt := some 9 }; let s : State := { run0.setFld ZN_STOP_REC_ADDR ZN_STOP_REC_ADDR_ADDR a with zenith := { orders := [o] } };
      s.zenith.orders.find? (fun o => o.action == 0 && o.stoppedAt.isSome && !o.written) = some o ∧
      a = s.fld ZN_STOP_REC_ADDR ZN_STOP_REC_ADDR_ADDR / 64 * 64 ∧ s.memOn a 64 = true) ∧
    (let s : State := { run0 with zt := 9, zenith := { orders := [ord 1] } }; s.zenith.orders.find? (fun o => o.action == 1 && decide (o.t ≤ s.zt)) = some (ord 1) ∧
      (∀ p : Fin 8, s.stage p ≠ 3 ∧ s.epochState p ≠ 1) ∧ (∀ a : Fin 4, (s.ce a).ops = [])) := by
  decide +kernel
/-- Schedule 0 due at 0 with a ring of one slot of 64 bytes at 0x2000. -/
def snap0 (head : Nat) : State := ((((run0.setFld (TL_SNAP_CTRL 0) TL_SNAP_CTRL_ENABLE 1).setFld (TL_SNAP_RING 0) TL_SNAP_RING_SLOT_LOG2 6).setFld (TL_SNAP_RING 0)
  TL_SNAP_RING_BASE 0x2000).setFld (TL_SNAP_PTR 0) TL_SNAP_PTR_HEAD head)
theorem witness_TallyIsConfiguredAndWrites :
    (∀ n : Fin 8, run0.hasCounter (selKind (run0.rd TL_SEL)) (selInst (run0.rd TL_SEL)) n = true) ∧ ctxGlobal .welkin = true ∧
    cfgAOk 0 5 = true ∧ cfgAOk 0 0x200 = false ∧ cfgAOk 0 (2 ^ 34) = false ∧ run0.ownsSelected 1 = false ∧ bit 0 63 = false ∧
    (∀ head ∈ [0, 1], let s : State := snap0 head; s.snapAt 0 = some 0 ∧ s.tally.waiting = [] ∧
      (decide ((head + 2 ^ 32 - s.fld (TL_SNAP_PTR 0) TL_SNAP_PTR_TAIL) % 2 ^ 32 = s.snapSlots 0) = decide (head = 1)) ∧
      s.memOn (s.fld (TL_SNAP_RING 0) TL_SNAP_RING_BASE + head % s.snapSlots 0 * s.snapSlot 0) (s.snapBytes 0 0).length = true) ∧
    bits (2 ^ 48) 52 48 ≠ run0.fld (TL_TRACE_BASE 1) TL_TRACE_BASE_SIZE_LOG2 ∧ run0.flag (TL_WATCH_CTRL 7) TL_WATCH_CTRL_ENABLE = false := by
  decide +kernel


/-! ## Witnesses: domains, Drizzle mode, the I3C port -/

/-- Domain i in a power state with a TARGET. -/
def pd (s : State) (i st tg : Nat) : State := (s.setFld (PD_DOM i) PD_DOM_STATE st).setFld (PD_DOM i) PD_DOM_TARGET tg
theorem witness_DomainsFollowTheirVotes :
    (∀ i ∈ [0, 101], run0.domPresent i = true) ∧ voteField .module = some PD_DOM_HOST ∧ voteField (.kernel 0) = none ∧
    (∀ v ∈ [0, 2], bits v PD_DOM_HOST.hi PD_DOM_HOST.lo ≠ 3) ∧
    bits (3 * 2 ^ PD_DOM_HOST.lo) PD_DOM_HOST.hi PD_DOM_HOST.lo = 3 ∧
    (∀ tg ∈ [0, 1], let s : State := pd run0 0 3 tg; s.domOn 0 = true ∧ s.domTarget 0 < 2 ∧ s.domTarget 0 = tg ∧ s.quiescent 0 tg = true) ∧
    (let s : State := (pd run0 0 3 0).tl { inl := some (cm 6 0 0) }; s.domOn 0 = true ∧ s.domTarget 0 < 2 ∧ s.quiescent 0 0 = false) ∧
    (∀ st ∈ [1, 4, 5, 6], (pd run0 32 st 2).domState 32 = st ∧ (pd run0 92 st 2).domState 92 = st) ∧
    (pd (pd run0 0 6 2) 32 1 2).domState 0 = 6 ∧ (pd (pd run0 0 6 2) 32 1 2).domOn (32 + 0) = false ∧
    (pd run0 64 5 1).domState 64 = 5 ∧ (pd run0 64 5 1).fld (HB_STATUS 0) HB_STATUS_STATE = 3 := by
  decide +kernel
/-- Every domain with TARGET RETENTION: Drizzle mode may be entered. -/
def lowPd : State := { run0 with regs := [(SI_START, 7), (WK_STATUS, 3)] ++ (List.range 102).map (fun i => (PD_DOM i, BitVec.ofNat 64 (3 * 2 ^ 40 + 1 * 2 ^ 34 + 2))) }
def dz1 (s : State) (v : Nat) : State := ((s.setFld PD_DZ_CTRL PD_DZ_CTRL_WAKE_ON_ALERT (bits v 62 62)).setFld PD_DZ_CTRL PD_DZ_CTRL_RESUME_MASK (bits v 55 48)).setFld
  PD_DZ_CTRL PD_DZ_CTRL_INTERVAL_MS (bits v 13 0)
def dzzz (w : Nat) : State := { run0.setFld PD_STATUS PD_STATUS_DRIZZLE 1 with power := { wake := w } }
theorem witness_DrizzleSleepsSamplesAndWakes_mode :
    (∀ ms ∈ [0, 1, 10000, 10001], let s1 : State := dz1 lowPd (2 ^ 63 + ms); bit (2 ^ 63 + ms) 63 = true ∧ lowPd.drizzling = false ∧
      s1.drizzleAllowed = decide (1 ≤ ms ∧ ms ≤ 10000)) := by
  decide +kernel
theorem witness_DrizzleSleepsSamplesAndWakes_samples :
    (∀ w ∈ [0, 1, 15], let s : State := dzzz w; s.drizzling = true ∧ s.power.sampleAt ≤ s.zt ∧ (∀ n < 16, s.flag (PD_DZ_THR n) PD_DZ_THR_ENABLE = false) ∧
      s.welkin.reqs = [] ∧ s.welkin.mgmt = [] ∧ s.power.wake = w) ∧
    (BitVec.ofNat 7 ((dzzz 0).fld WK_I3C WK_I3C_STATIC_ADDR)).toNat = (dzzz 0).fld WK_I3C WK_I3C_STATIC_ADDR ∧
    ((dzzz 0).setInbox 8 [(0, stopK 0)]).inboxOf 8 = [(0, stopK 0)] ∧ run0.drizzling = false ∧ run0.power.wokeAt ≠ some run0.zt := by
  decide +kernel
/-- An I3C port with an address assigned. -/
def i3cS : State := run0.setFld WK_I3C WK_I3C_DYN_VALID 1
theorem witness_DrizzleSleepsSamplesAndWakes_port :
    run0.portAcks false = false ∧ i3cS.portAcks false = true ∧ i3cS.bootState ≠ 4 ∧ i3cS.outstanding true = false ∧
    (let f := zeros 2 ++ leBytes 2 9 ++ leBytes 2 4 ++ zeros 2 ++ leBytes 2 1 ++ zeros 2
     frameOk f = true ∧ codes.contains (fieldAt f 8 2) = true) ∧
    (let f := zeros 2 ++ leBytes 2 9 ++ leBytes 2 4 ++ zeros 2 ++ leBytes 2 6 ++ zeros 2
     frameOk f = true ∧ codes.contains (fieldAt f 8 2) = false) ∧
    frameOk (zeros 2 ++ leBytes 2 9 ++ leBytes 2 5 ++ zeros 2 ++ leBytes 2 1 ++ zeros 2) = false ∧
    (i3cS.setWk { i3cS.welkin with answers := [[1]] }).welkin.answers = [[1]] := by decide +kernel


/-! ## Witnesses: Welkin's requests -/

/-- Welkin running with a buffer of n bytes, in a life-cycle state. -/
def wk (lc n : Nat) (b : Sparse Byte) : State := { run0 with fuses := { lifecycle := lc }, welkin := { buffer := if n = 0 then none else some ⟨false, n, b, 0⟩ } }
theorem witness_RequestsAreTakenInTurn :
    (run0.welkinServes = true ∧ run0.codeAllowed 0x61 = false ∧ run0.codeAllowed 1 = true ∧ State.reset.welkinServes = false) ∧
    run0.welkin.reqs = [] ∧ run0.outstanding false = false ∧ (run0.ask false 1 1 []).outstanding false = true ∧
    (∀ c ∈ [1, 2, 3, 4, 5, 0x10, 0x11, 0x20, 0x21, 0x22, 0x31, 0x40, 0x41, 0x50, 0x51, 0x52, 0x53, 0x60, 0x70, 0x71], (wk 3 0 []).welkinServes = true ∧
      (wk 3 0 []).codeAllowed c = true) ∧
    (∀ c ∈ [0x30, 0x61, 0x62], (wk 1 0 []).welkinServes = true ∧ (wk 1 0 []).codeAllowed c = true) ∧
    (wk 3 0 []).bufferBusy false = false ∧ (wk 3 1 []).bufferBusy true = true ∧ (wk 3 6291456 []).welkin.buffer = some ⟨false, 6291456, [], 0⟩ ∧
    6291220 + 236 ≤ 6291456 ∧
    (let s : State := { wk 3 1 [] with start := { clock := 60000000000 } }; s.welkin.buffer = some ⟨false, 1, [], 0⟩ ∧ 0 + 60000000000 ≤ s.start.clock) ∧
    (∀ c ∈ [0, 31, 0x2000], run0.sensorExists c = true) ∧ run0.fuses.seed = none ∧ (wk 1 0 []).fuses.lifecycle = 1 ∧
    (let s : State := { run0 with fuses := { lifecycle := 3, seed := some [] } }; s.fuses.seed = some [] ∧ s.welkinServes = true ∧ s.codeAllowed 0x20 = true) ∧
    (let s : State := { run0 with welkin := { inForce := [zeros 4 ++ leBytes 2 5 ++ zeros 26] } }
     (s.record 5 0).isSome = true ∧ (s.storedRecord 5 0).isSome = true) := by
  decide +kernel
/-- A calibration record of an oscillator of this module (SERIAL 0), an empty body; a plan of a ring of one. -/
def recB : List Byte := leBytes 4 0x43524B57 ++ leBytes 2 2 ++ zeros 26
def planB : List Byte := zeros 4 ++ [1, 1, 1, 1] ++ zeros 88
theorem witness_RequestsChangeTheModule :
    (let s : State := wk 3 64 []; s.welkinServes = true ∧ s.codeAllowed 0x10 = true ∧ s.welkin.buffer = some ⟨false, 64, [], 0⟩ ∧
      s.fwVerdict ((⟨false, 64, [], 0⟩ : WkBuffer).read 0 64) ≠ 0) ∧
    (recSigner 2 = some 0 ∧ (wk 1 0 []).recordAllowed 2 = true ∧ (wk 1 0 []).recordMine recB = true ∧ (wk 1 0 []).recordMine (leBytes 4 0x43524B57 ++ leBytes 2 2 ++ zeros 10 ++ leBytes 8 1 ++ zeros 8) = false) ∧
    (∀ t ∈ [2, 5], let s : State := { wk 1 0 [] with welkin := { challenge := some (zeros 32, 0) }, start := { clock := 59999999999 } }; s.fuses.lcTarget = none ∧
      lcRow s.fuses.lifecycle t = true ∧ (t = 5 → s.lcReady t = true) ∧ s.welkin.challenge = some (zeros 32, 0) ∧ s.start.clock < 0 + 60000000000) ∧
    planOk planB = true ∧ (wk 3 0 []).welkin.retrain = none ∧ (wk 3 0 []).welkin.fabric = none ∧ fieldAt (leBytes 4 (2 ^ 20 - 1) ++ zeros 4) 0 4 < 2 ^ 20 ∧
    (∀ t ∈ [10000000, 10000001], let s : State := { run0 with zt := t, welkin := { fabric := some ⟨false, 1, 0, 0, 0⟩ } };
      s.welkin.fabric = some ⟨false, 1, 0, 0, 0⟩ ∧ decide (0 + 10000000 < s.zt) = decide (t = 10000001)) ∧
    (∀ e ∈ [(0, 7), (0, 8), (1, 0)], let k : Packet := pkt 0 5 10 e.1 true []; let s : State := (run0.setWk { fabric := some ⟨false, 1, 0, 0, 0⟩, mgmt := List.replicate e.2 (0, 0, []) }).setInbox 0xA [(10, k)]; s.inboxOf 0xA = [(10, k)] ∧
      k.data % 16 = e.1 ∧ s.welkin.mgmt.length = e.2 ∧ s.welkinServes = true ∧ bits k.data 19 4 = 0) ∧
    (let s : State := { run0 with start := { clock := 10000000000 } }; s.welkin.mirroredAt + 10000000000 ≤ s.start.clock) ∧
    (run0.start.clock < run0.welkin.mirroredAt + 10000000000 ∧ ∀ e ∈ run0.welkin.log, e.1 = true ∨ entrySev e.2 < 2) := by
  decide +kernel


/-! ## Witnesses: power and temperature, host accesses -/

/-- A clock value and what the supervision holds. -/
def hot (c : Nat) (p : PwrSt) : State := { run0 with start := { clock := c }, pwr := p }
theorem witness_PowerAndTemperatureAreKept :
    (∀ c ∈ [0, 31, 0x1007, 0x2000, 0x4000], run0.bootState = 3 ∧ run0.sensorExists c = true ∧ run0.sensorOn c = true ∧ run0.sensorDue c = true) ∧
    (95 * 256 ≤ signed 32 (run0.calibrated 31 24320)) ∧ run0.sensorExists 32 = false ∧
    (∀ e ∈ [(1000000, 1901), (10000000, 1842), (9999999, 1842)], let s : State := hot e.1 { readings := [e.2] }; s.bootState = 3 ∧
      s.pwr.decidedAt + 1000000 ≤ s.start.clock ∧ s.pwr.meanOver (s.fld WK_PCAP WK_PCAP_CAP_W) = decide (e.2 = 1901) ∧
      (e.1 = 10000000 → s.pwr.raisedAt + 10000000 ≤ s.start.clock ∧
        s.pwr.readings.sum * 100 < 97 * s.fld WK_PCAP WK_PCAP_CAP_W * s.pwr.readings.length) ∧ (e.1 = 9999999 → s.start.clock < s.pwr.raisedAt + 10000000)) ∧
    (hot 999999 {}).start.clock < (hot 999999 {}).pwr.decidedAt + 1000000 ∧ 2 ≤ (hot 0 { fast := 2 }).pwr.fast ∧
    run0.flag WK_PWR_STATUS WK_PWR_STATUS_VIN_LOW = false ∧
    (∀ c ∈ [10000000, 10000001], let s : State := (hot c {}).setFld WK_PWR_STATUS WK_PWR_STATUS_VIN_LOW 1;
      s.flag WK_PWR_STATUS WK_PWR_STATUS_VIN_LOW = true ∧ decide (s.pwr.lowSince + 10000000 < s.start.clock) = decide (c = 10000001)) ∧
    (∀ c ∈ [0, 31, 0x1000, 0x1007], tripSensor c = true) ∧ (∀ c ∈ [32, 0x1008, 0x2000], tripSensor c = false) ∧
    (let s : State := hot 0 { tripped := [0, 0x1000] }; s.pwr.tripped ≠ [] ∧
      (∀ e ∈ s.pwr.tripped.zip [23040#32, 20480#32], e.2.toInt ≤ tripLimit e.1 - 5120) ∧
      (∃ e ∈ s.pwr.tripped.zip [23040#32, 20481#32], tripLimit e.1 - 5120 < e.2.toInt)) := by
  decide +kernel

/-- Both UCIe modules up in a state. -/
def up (st : Nat) : State := (run0.setFld (UC_STATUS 0) UC_STATUS_STATE st).setFld (UC_STATUS 1) UC_STATUS_STATE st
def hq (ctx : Ctx) (a : Nat) (tag : Option Nat) (seq len : Nat) (d : List Byte) : HostReq := ⟨linkModule a, ctx, a, seq, tag, len, d⟩
theorem witness_HostAccessesTakeEffectInOrder :
    blockOf 0x20000070000 = none ∧
    (∀ u ∈ [0, 7], blockOf (AV_STATUS u) = some (.av, u, 0) ∧ run0.anvilPresent u = true ∧ (rowOf (AV_STATUS u)).isSome = true ∧ (rowOf (AV_HALO u)).isSome = true) ∧
    run0.readRefused .module ZN_NOW = false ∧ run0.readRefused .module SI_START = false ∧ run0.linkUp 0 = false ∧
    linkModule ID_DEVICE = 0 ∧ linkModule 0x1000 = 1 ∧ linkModule SI_START = 0 ∧
    (∀ st ∈ [2, 3], (up st).linkUp 0 = true ∧ (up st).linkUp 1 = true ∧ (up st).link.held = [] ∧
      (∀ a ∈ [ID_DEVICE, 0x1000], (up st).requestReady (hq .module a (some 3) 0 8 []) = true ∧ (up st).requestRefused (hq .module a (some 3) 0 8 []) = false ∧
        isRegSpace a = decide (a = ID_DEVICE)) ∧ (up st).firstBad 0x1000 8 = none ∧
      (up st).requestReady (hq .module ID_DEVICE (some 3) 0 16 []) = true ∧ (up st).requestRefused (hq .module ID_DEVICE (some 3) 0 16 []) = true ∧
      ((up st).arrived 0).requestReady (hq .module SI_START none 0 8 (zeros 8)) = true ∧ (up st).requestRefused (hq .module SI_START none 0 8 (zeros 8)) = false ∧
      ((up st).arrived 1).requestReady (hq .module SI_START none 1 8 (zeros 8)) = false ∧ isRegSpace SI_START = true) ∧
    (let s : State := up 2; let s1 : State := s.hbWrite 0x1000 8 (hostAttr .module); s.requestReady (hq .module 0x1000 none 0 8 (zeros 8)) = true ∧
      s.requestRefused (hq .module 0x1000 none 0 8 (zeros 8)) = false ∧ s1.partlyBad 0x1000 8 = [] ∧ s1.firstFailed 0x1000 8 = none ∧ s1.plain 0x1000 8) ∧
    (let s : State := pd (up 2) 64 2 1; s.linkUp 1 = true ∧ s.requestReady (hq .module 0x1000 (some 3) 0 8 []) = false) ∧
    (∀ st ∈ [2, 3, 4], (up st).domOn (82 + 0) = true ∧ (up st).domOn (82 + 1) = true ∧ (up st).fld (UC_STATUS 1) UC_STATUS_STATE = st) := by
  unfold State.plain
  decide +kernel


/-! ## Witnesses: images, resets and start-up, the queue and the tick -/

/-- Partition 0 in a STAGE with an image staged. -/
def stg (st : Nat) : State := ((run0.setFld ZN_STATUS ZN_STATUS_STATE 2).setStage 0 st).setPart 0 { run0.part 0 with staged := some img0 }
def exIs {α : Type} (x : Except Refuse α) (good : Bool) : Bool := match x with | .ok _ => good | .error _ => !good
theorem witness_ImagesAreLoadedArmedAndSwitched_loader :
    siWriter .module 7 = true ∧ siWriter (.kernel 0) 0 = true ∧ siWriter (.kernel 1) 0 = false ∧
    (run0.stage 0 = 0 ∧ run0.fuses.lifecycle ≠ 0 ∧ run0.fuses.lifecycle ≠ 5 ∧ State.reset.fuses.lifecycle = 0) ∧
    (let s : State := stg 2; s.stage 0 = 2 ∧ (s.part 0).staged = some img0 ∧ s.fld (RT_EPOCH_STATE 0) RT_EPOCH_STATE_STATE = 0 ∧
      s.fld ZN_STATUS ZN_STATUS_STATE ≠ 1 ∧ s.armConflict 0 img0 = none ∧
      s.actTime 0 img0.head.frameUs ((s.part 0).active.map (·.head.frameUs)) = some 100000 ∧ 100000 < 2 ^ 64 ∧ 0 < img0.head.frameUs ∧
      (s.part 0).active = some img0 ∧ ((stg 2).setFld SI_FORCE_PASS SI_FORCE_PASS_MODE 1).stage 0 = 2) ∧
    (let s : State := (stg 2).setPart 1 { active := some img0, regions := 1 }; s.stage 0 = 2 ∧ (s.armConflict 0 img0).isSome = true) ∧
    (let s : State := (stg 3).wr (SI_ACT_TIME 0) 1; s.stage 0 = 3 ∧ s.zt < s.rd (SI_ACT_TIME 0)) ∧
    (run0.stage 0 = 0 ∧ run0.isActive 0 = true ∧ (run0.part 0).active = some img0 ∧ run0.actTime 0 img0.head.frameUs none = some 100000) ∧
    (let s : State := (run0.setStage 0 1).setPart 0 { run0.part 0 with loadAt := (0x1000, 8) }; let s1 : State := s.hbRead 0x1000 8 { part := some 0 }; s.stage 0 = 1 ∧
      (s.part 0).loadAt = (0x1000, 8) ∧ 0x1000 % 8 = 0 ∧ s.loaderReads (s.part 0).loadCtx 0x1000 8 = true ∧ s.memOn 0x1000 8 = true ∧ s.firstBad 0x1000 8 = none ∧
      exIs (s1.judge 0 0x1000 8) false = true) ∧
    (let s : State := (run0.setStage 0 1).setPart 0 { run0.part 0 with loadAt := (0, 2 ^ 48), loadCtx := 8 }; s.stage 0 = 1 ∧
      s.loaderReads (s.part 0).loadCtx (s.part 0).loadAt.1 (s.part 0).loadAt.2 = false) := by
  decide +kernel
theorem witness_ImagesAreLoadedArmedAndSwitched_switch :
    (∀ t ∈ [0, 1], let s : State := (stg 3).wr (SI_ACT_TIME 0) t; s.stage 0 = 3 ∧ (s.part 0).unloading = false ∧ s.stopHolds (some 0) = false ∧
      (s.part 0).staged = some img0 ∧ exIs (s.formMap 0 img0) true = true ∧ s.physConflict 0 img0 = none ∧ s.areaHaloBad 0 img0 = false ∧
      decide (s.rd (SI_ACT_TIME 0) ≤ s.zt) = decide (t = 0)) ∧
    (let s : State := (stg 3).setPart 0 { (stg 3).part 0 with unloading := true }; s.stage 0 = 3 ∧ (s.part 0).unloading = true ∧ s.stopHolds (some 0) = false ∧
      s.rd (SI_ACT_TIME 0) ≤ s.zt) ∧
    (∀ u ∈ [false, true], let s : State := (stg 4).setPart 0 { (stg 4).part 0 with unloading := u }; s.stage 0 = 4 ∧ s.switchQuiet 0 = true ∧
      (s.part 0).unloading = u ∧ (s.part 0).staged = some img0 ∧ (s.part 0).active = some img0) ∧
    State.reset.imageInForce = false ∧ run0.imageInForce = true := by
  decide +kernel
/-- Partition 0 sliced into two slots with a launch held; a TOKEN_LOOP block and a loop under way. -/
def slc (k : Nat) : State := (run0.setFld (SI_STATUS 0) SI_STATUS_SLICE 2).setPart 0 { run0.part 0 with sliceLaunch := [(1, zeros 64)], resident := k }
theorem witness_ImagesAreLoadedArmedAndSwitched_slices :
    (∀ k ∈ [0, 1], let s : State := slc k; (s.part 0).active = some img0 ∧ s.sliced 0 = true ∧ (s.part 0).sliceLaunch ≠ [] ∧
      (∀ k ∈ (s.part 0).tracks, k.tiles = []) ∧ (s.part 0).noDeliver = false ∧ s.stopHolds (some 0) = false ∧
      (∀ t ∈ imageTiles img0, s.memOn (backingBase img0 (imageTiles img0) t) 0x101000 = true) ∧
      decide ((s.part 0).resident + 1 < s.fld (SI_STATUS 0) SI_STATUS_SLICE) = decide (k = 0)) ∧
    (∀ n ∈ [0, 1], let k : Routine := { number := 0xE, phase := 2, vals := [0, 0, 0, 0, 0] }; let s : State := (run0.tl { inl := some (call 0xE 64), routine := some k }).setCounter 0 0 n; s.callHead 0 0xE = none ∧ s.running 0 0xE = some (call 0xE 64, k) ∧
      k.failed = none ∧ k.libFail = none ∧ s.libIdle 0 k = true ∧ (loopArgs (leBytes 64 (k.vals.getD 4 0))).doneCounter = 0 ∧ s.counter 0 0 = n ∧
      s.syncLogs 0 = [] ∧ s.countsTo 0 0 1 = decide (n = 1)) := by
  decide +kernel

/-- The TOKEN_LOOP block of a last stage without a host queue. -/
def loopB : List Byte := leBytes 1 2 ++ leBytes 1 3 ++ leBytes 2 2 ++ leBytes 2 1 ++ leBytes 2 3 ++ leBytes 8 0x8000 ++ leBytes 8 0x9000 ++ leBytes 8 0xA000 ++ leBytes 4 32 ++
  leBytes 4 0 ++ leBytes 4 7 ++ leBytes 4 9 ++ leBytes 2 0xFFFF ++ leBytes 1 4 ++ zeros 13
theorem witness_ImagesAreLoadedArmedAndSwitched_loop : let s : State := calls 0xE loopB; let c : Cmd := call 0xE 64; let s1 : State := s.argState 0 c; let b : List Byte := s.argBytes 0 c; s.callHead 0 0xE = some c ∧ s.argsReady 0 c ∧ loopOk (callLen c.w) b = true ∧ s1.owns c.part (loopArgs b).launch 64 = true ∧
    s1.owns c.part (loopArgs b).outAddr (loopArgs b).outLen = true ∧ s1.queueOwner (bits (loopArgs b).inQueue 14 14) (bits (loopArgs b).inQueue 13 0) = some c.part ∧
    s1.queueOwner (tileDie 0) (loopArgs b).entryQueue = some c.part ∧
    (s1.queue (tileDie 0) (loopArgs b).entryQueue).ty = 0 ∧ (s1.queue (tileDie 0) (loopArgs b).entryQueue).role = 0 ∧ (loopArgs b).last = true ∧ (loopArgs b).hostQueue = 0xFFFF := by
  unfold State.argsReady
  decide +kernel
/-- A module in a phase of start-up, and how far that phase has come. -/
def ph (p step : Nat) (c : Nat) : State := { run0.setFld SI_START SI_START_PHASE p with start := { step := step, clock := c } }
theorem witness_ResetsAndStartUpRun :
    (∀ b ∈ [0, 1], (run0.setFld SI_RESET_STATUS SI_RESET_STATUS_BUSY b).flag SI_RESET_STATUS SI_RESET_STATUS_BUSY = decide (b = 1)) ∧ ctxGlobal .module = true ∧
    (∀ t ∈ [0, 2047], run0.tilePresent t = true) ∧
    (∀ l ∈ [1, 3], let s : State := { run0 with start := { resetting := some (l, 0) } }; s.start.resetting = some (l, 0) ∧ s.zt < 2 ^ 64) ∧ run0.start.resetting = none ∧
    (∀ p ∈ [0, 1], let s : State := { ph p 0 0 with welkin := { log := [(false, [])] } }; s.startPhase ≤ 1 ∧ s.pwr.tripped = [] ∧ s.welkin.log ≠ [] ∧
      s.fwVerdict s.welkin.fw ≠ 0) ∧
    (∀ p ∈ [2, 3, 4], (ph p 0 0).startPhase = p) ∧
    (∀ c ∈ [529999999, 530000000], let s : State := (ph 5 1 c).setFld (KL_PLAN 0) KL_PLAN_EXPECT 1; s.startPhase = 5 ∧ s.start.step = 1 ∧
      s.portsSettled = false ∧ decide (s.start.phaseAt + 530000000 ≤ s.start.clock) = decide (c = 530000000)) ∧
    (ph 5 1 0).portsSettled = true ∧ (ph 5 0 0).startPhase = 5 ∧ (ph 5 0 0).start.step = 0 ∧ (ph 5 0 0).welkin.plan = none ∧
    (∀ c ∈ [1999999999, 2000000000], let s : State := ph 6 0 c; s.startPhase = 6 ∧ s.start.step = 0 ∧ s.flag ZN_STATUS ZN_STATUS_ROOT = false ∧ s.znState ≠ 2 ∧
      decide (s.start.phaseAt + 2000000000 ≤ s.start.clock) = decide (c = 2000000000)) ∧
    (zst (ph 6 0 0) 2 15 0).znState = 2 ∧ (ph 6 2 0).startPhase = 6 ∧ (ph 6 2 0).start.step = 2 ∧ (ph 6 2 0).linkTraining 0 = false ∧
    (ph 6 2 0).linkTraining 1 = false ∧ ((ph 6 2 0).setFld (UC_STATUS 0) UC_STATUS_STATE 1).linkTraining 0 = true := by
  decide +kernel
theorem witness_StepRunsTheFrontCommand : let s : State := { run0 with pending := [.vinLow, .wake] }; s.pending = Instr.vinLow :: [.wake] := by
  decide +kernel
theorem witness_StepIdlesAsATick : State.reset.pending = [] ∧ State.reset.zenith.running = false ∧
    (let s : State := { run0 with zenith := { running := true } }; s.zenith.running = true ∧ s.zenith.rate = 0 ∧ s.zenith.acc < 1000000000 ∧ s.pending = []) := by
  decide +kernel
theorem witness_StepKeepsTheInvariant : (run0.withBytes 0x1000 [1, 0, 2]).Inv ∧ ∃ s' : State, step (run0.withBytes 0x1000 [1, 0, 2]) = .next s' := by
  unfold State.Inv
  exact ⟨by decide +kernel, ⟨_, rfl⟩⟩
theorem witness_CommandsLeaveTheQueueAlone : ∃ s' : State, exec .vinLow run0 = .next s' ∧ State.reset.pending = [] := ⟨_, rfl, by decide +kernel⟩

end Sys2Proof.Tests
end

section
/-! PROOFS. What registers hold after reset (00 R11). -/
namespace Sys2Proof.Machine

/-- After reset a register holds what its table gives. -/
theorem rd_reset (a : Nat) : State.reset.rd a = (regReset a).toNat := rfl

/-- A row of the reset table covers no address beyond its blocks. -/
theorem resetRowHas_eq_false_of_le {a : Nat} {r : Nat × Nat × Nat × Nat × Nat × Nat × Nat} (h : r.1 + r.2.1 * 0x10000 ≤ a) : resetRowHas a r = false := by
  have hblocks : ¬(a - r.1) / 0x10000 < r.2.1 := by omega
  simp only [resetRowHas, hblocks, decide_false, Bool.and_false, Bool.false_and]

/-- The data register of any of the 2,048 vectors holds MASK alone (10 R249). -/
theorem regReset_msiData {v : Nat} (hv : v < 2048) : regReset (UC_MSI_DATA 0 v) = 0x8000000000000000#64 := by
  have hsplit : resetRows = resetRows.take 17 ++ (0x20000088008, 2, 1, 0x0, 2048, 0x10, 0x8000000000000000) :: resetRows.drop 18 := rfl
  have hbelow : ∀ r ∈ resetRows.take 17, r.1 + r.2.1 * 0x10000 ≤ 0x20000088008 := by decide
  have hmissed : (resetRows.take 17).find? (resetRowHas (UC_MSI_DATA 0 v)) = none := by
    rw [List.find?_eq_none]
    intro r hr
    rw [resetRowHas_eq_false_of_le (Nat.le_trans (hbelow r hr) (by rw [UC_MSI_DATA]; omega))]
    exact Bool.false_ne_true
  have hcovered : resetRowHas (UC_MSI_DATA 0 v) (0x20000088008, 2, 1, 0x0, 2048, 0x10, 0x8000000000000000) = true := by
    have hoffset : UC_MSI_DATA 0 v - 0x20000088008 = v * 16 := by rw [UC_MSI_DATA]; omega
    have hlow : v * 16 % 0x10000 = v * 16 := Nat.mod_eq_of_lt (by omega)
    have hbase : 0x20000088008 ≤ UC_MSI_DATA 0 v := by rw [UC_MSI_DATA]; omega
    have hblocks : v * 16 / 0x10000 < 2 := by omega
    simp [resetRowHas, hoffset, hlow, hbase, hblocks, hv]
  unfold regReset
  rw [hsplit, List.find?_append, hmissed, Option.none_or, List.find?_cons_of_pos hcovered]

theorem reset_msiMasked {v : Nat} (hv : v < 2048) : State.reset.flag (UC_MSI_DATA 0 v) UC_MSI_DATA_MASK = true := by
  rw [State.flag, State.fld, rd_reset, regReset_msiData hv]
  decide

/-- Settles O7: every vector is masked by the lemma on the reset table; the other registers are read off the table. -/
theorem resetLeavesTheTabledValues : Obligations.ResetLeavesTheTabledValues := by
  unfold Obligations.ResetLeavesTheTabledValues
  refine ⟨fun v hv => reset_msiMasked ?_, ?ports, ?memory, ?cap, ?point, ?lead, ?partitions⟩
  · simp only [List.mem_cons, List.not_mem_nil, or_false] at hv
    omega
  case ports => decide
  case memory => decide
  case cap => decide
  case point => decide
  case lead => decide
  case partitions => decide

end Sys2Proof.Machine
end

section
/-! PROOFS. What does not see the order of the host link (10 R243): every operation that a request can run acts alike whatever the
link's SEQ and held requests are, and leaves them as they are. Equations that hold by unfolding end in (rfl), so that simp rewrites by their
proofs: taken as definitional equations they would have the kernel compare whole states. -/
namespace Sys2Proof.Machine

/-- The state with another order of the host link. -/
def State.withLink (s : State) (l : LinkSt) : State := { s with link := l }

@[simp] theorem withLink_link (s : State) (l : LinkSt) : (s.withLink l).link = l := (rfl)
@[simp] theorem withLink_self (s : State) : s.withLink s.link = s := (rfl)

/-- An operation that commutes with the link's order leaves it as it is. -/
theorem link_of_withLink {f : State → State} (h : ∀ (s : State) (l : LinkSt), f (s.withLink l) = (f s).withLink l) (s : State) :
    (f s).link = s.link := by
  have hs := congrArg State.link (h s s.link)
  rwa [withLink_self, withLink_link] at hs

/-- A choice between operations that commute with the link's order commutes with it. -/
theorem ite_withLink (c : Prop) [Decidable c] (t e : State) (l : LinkSt) :
    (if c then t.withLink l else e.withLink l) = (if c then t else e).withLink l := (apply_ite (State.withLink · l) c t e).symm

/-- So does a run of them over a list. -/
theorem withLink_foldl {α : Type} {f : State → α → State} {l : LinkSt} (h : ∀ s x, f (s.withLink l) x = (f s x).withLink l)
    (xs : List α) (s : State) : xs.foldl f (s.withLink l) = (xs.foldl f s).withLink l := by
  induction xs generalizing s with
  | nil => rfl
  | cons x xs ih => rw [List.foldl_cons, List.foldl_cons, h, ih]

/-! ## Registers, counts and memory -/

variable (s : State) (l : LinkSt)

theorem withLink_free (n : Nat) : { s.withLink l with free := n } = { s with free := n }.withLink l := (rfl)
theorem withLink_mem (m : List Host.Cell) : { s.withLink l with mem := m } = { s with mem := m }.withLink l := (rfl)
theorem withLink_welkin (w : WelkinSt) : { s.withLink l with welkin := w } = { s with welkin := w }.withLink l := (rfl)
theorem withLink_waits (w : List (Nat × Nat)) : { s.withLink l with waits := w } = { s with waits := w }.withLink l := (rfl)
theorem withLink_out (o : List Output) : { s.withLink l with out := o } = { s with out := o }.withLink l := (rfl)
theorem withLink_msiFired (v : List Nat) : { s.withLink l with msiFired := v } = { s with msiFired := v }.withLink l := (rfl)
theorem withLink_hubStart (h : List (Nat × Nat × Nat)) : { s.withLink l with hubStart := h } = { s with hubStart := h }.withLink l := (rfl)
theorem withLink_evPend (p : List (Nat × Nat × List Byte)) : { s.withLink l with evPend := p } = { s with evPend := p }.withLink l := (rfl)
theorem withLink_hbPend (p : List (Nat × List Byte)) : { s.withLink l with hbPend := p } = { s with hbPend := p }.withLink l := (rfl)
theorem withLink_hbSeq (q : Sparse Nat) : { s.withLink l with hbSeq := q } = { s with hbSeq := q }.withLink l := (rfl)

@[simp] theorem zt_withLink : (s.withLink l).zt = s.zt := (rfl)
@[simp] theorem free_withLink : (s.withLink l).free = s.free := (rfl)
@[simp] theorem out_withLink : (s.withLink l).out = s.out := (rfl)
@[simp] theorem regs_withLink : (s.withLink l).regs = s.regs := (rfl)
@[simp] theorem mem_withLink : (s.withLink l).mem = s.mem := (rfl)
@[simp] theorem welkin_withLink : (s.withLink l).welkin = s.welkin := (rfl)
@[simp] theorem waits_withLink : (s.withLink l).waits = s.waits := (rfl)
@[simp] theorem msiFired_withLink : (s.withLink l).msiFired = s.msiFired := (rfl)
@[simp] theorem hubStart_withLink : (s.withLink l).hubStart = s.hubStart := (rfl)
@[simp] theorem evPend_withLink : (s.withLink l).evPend = s.evPend := (rfl)
@[simp] theorem hbPend_withLink : (s.withLink l).hbPend = s.hbPend := (rfl)
@[simp] theorem hbSeq_withLink : (s.withLink l).hbSeq = s.hbSeq := (rfl)
@[simp] theorem rd_withLink (a : Nat) : (s.withLink l).rd a = s.rd a := (rfl)
@[simp] theorem fld_withLink (a : Nat) (f : Fld) : (s.withLink l).fld a f = s.fld a f := (rfl)
@[simp] theorem flag_withLink (a : Nat) (f : Fld) : (s.withLink l).flag a f = s.flag a f := (rfl)
@[simp] theorem wr_withLink (a v : Nat) : (s.withLink l).wr a v = (s.wr a v).withLink l := (rfl)
@[simp] theorem setFld_withLink (a : Nat) (f : Fld) (v : Nat) : (s.withLink l).setFld a f v = (s.setFld a f v).withLink l := (rfl)
@[simp] theorem addFld_withLink (a : Nat) (f : Fld) (k : Nat) : (s.withLink l).addFld a f k = (s.addFld a f k).withLink l := (rfl)
@[simp] theorem sticky_withLink (e : Nat) (f : Fld) (ev : Nat) : (s.withLink l).sticky e f ev = (s.sticky e f ev).withLink l := by
  rw [State.sticky, State.sticky, setFld_withLink, addFld_withLink]

@[simp] theorem count_withLink (kind inst ev k : Nat) (x : Attr) :
    (s.withLink l).count kind inst ev k x = (s.count kind inst ev k x).withLink l := (rfl)
@[simp] theorem tile_withLink (t : Nat) : (s.withLink l).tile t = s.tile t := (rfl)
@[simp] theorem part_withLink (p : Nat) : (s.withLink l).part p = s.part p := (rfl)
@[simp] theorem queue_withLink (d q : Nat) : (s.withLink l).queue d q = s.queue d q := (rfl)
@[simp] theorem window_withLink (d w : Nat) : (s.withLink l).window d w = s.window d w := (rfl)
@[simp] theorem setTile_withLink (t : Nat) (x : TileSt) : (s.withLink l).setTile t x = (s.setTile t x).withLink l := (rfl)
@[simp] theorem setQueue_withLink (d q : Nat) (x : QueueSt) : (s.withLink l).setQueue d q x = (s.setQueue d q x).withLink l := (rfl)
@[simp] theorem sendSig_withLink (g : Sig) : (s.withLink l).sendSig g = (s.sendSig g).withLink l := (rfl)
@[simp] theorem cleanUnits_withLink (a n : Nat) : (s.withLink l).cleanUnits a n = (s.cleanUnits a n).withLink l := (rfl)

@[simp] theorem tilePresent_withLink (t : Nat) : (s.withLink l).tilePresent t = s.tilePresent t := (rfl)
@[simp] theorem resolve_withLink (a : Nat) : (s.withLink l).resolve a = s.resolve a := (rfl)
@[simp] theorem byte_withLink (a : Nat) : (s.withLink l).byte a = s.byte a := (rfl)
@[simp] theorem inFailed_withLink (a : Nat) : (s.withLink l).inFailed a = s.inFailed a := (rfl)
@[simp] theorem firstBad_withLink (a n : Nat) : (s.withLink l).firstBad a n = s.firstBad a n := (rfl)
@[simp] theorem firstFailed_withLink (a n : Nat) : (s.withLink l).firstFailed a n = s.firstFailed a n := (rfl)
@[simp] theorem memOn_withLink (a n : Nat) : (s.withLink l).memOn a n = s.memOn a n := (rfl)
@[simp] theorem memDomain_withLink (a : Nat) : (s.withLink l).memDomain a = s.memDomain a := (rfl)
@[simp] theorem domOn_withLink (i : Nat) : (s.withLink l).domOn i = s.domOn i := (rfl)

@[simp] theorem setByte_withLink (a : Nat) (b : Byte) : (s.withLink l).setByte a b = (s.setByte a b).withLink l := by
  simp only [State.setByte, tilePresent_withLink, resolve_withLink, mem_withLink, withLink_mem, ite_withLink]

@[simp] theorem writeBytes_withLink (a : Nat) (b : List Byte) : (s.withLink l).writeBytes a b = (s.writeBytes a b).withLink l := by
  induction b generalizing s a with
  | nil => rfl
  | cons x t ih => rw [State.writeBytes, State.writeBytes, setByte_withLink, ih]

@[simp] theorem readBytes_withLink (a n : Nat) : (s.withLink l).readBytes a n = s.readBytes a n := by
  induction n generalizing a with
  | zero => rfl
  | succ n ih => rw [State.readBytes, State.readBytes, ih, byte_withLink]

@[simp] theorem tallyCfgA_withLink : (s.withLink l).tally.cfgA = s.tally.cfgA := (rfl)

@[simp] theorem hbCount_withLink (ev a n : Nat) (x : Attr) : (s.withLink l).hbCount ev a n x = (s.hbCount ev a n x).withLink l := by
  unfold State.hbCount
  rw [withLink_foldl (fun s _ => count_withLink s l _ _ _ _ _), tallyCfgA_withLink, ite_withLink]

/-! ## Waits for a domain -/

@[simp] theorem waitAttr_withLink (who : Nat) (x : Attr) : (s.withLink l).waitAttr who x = s.waitAttr who x := (rfl)

@[simp] theorem holdWork_withLink (who dom : Nat) : (s.withLink l).holdWork who dom = (s.holdWork who dom).withLink l := by
  simp only [State.holdWork, waits_withLink, withLink_waits, addFld_withLink, sticky_withLink, ite_withLink]

@[simp] theorem holdAccess_withLink (who a : Nat) (x : Attr) : (s.withLink l).holdAccess who a x = (s.holdAccess who a x).withLink l := by
  simp only [State.holdAccess, waits_withLink, domOn_withLink, addFld_withLink, sticky_withLink, waitAttr_withLink, count_withLink,
    memDomain_withLink, holdWork_withLink, ite_withLink]

/-! ## Events and interrupts -/

@[simp] theorem logEntry_withLink (code sev : Nat) (b : List Byte) : (s.withLink l).logEntry code sev b = (s.logEntry code sev b).withLink l := by
  simp only [State.logEntry, fld_withLink, welkin_withLink, withLink_welkin, addFld_withLink, sticky_withLink, ite_withLink]
  rw [zt_withLink]

@[simp] theorem logFree_withLink (code : Nat) (b : List Byte) : (s.withLink l).logFree code b = (s.logFree code b).withLink l := by
  simp only [State.logFree, State.fresh, free_withLink, withLink_free, logEntry_withLink]

@[simp] theorem noteCounts_withLink (d q : Nat) : (s.withLink l).noteCounts d q = (s.noteCounts d q).withLink l := by
  simp only [State.noteCounts, hubStart_withLink, queue_withLink, withLink_hubStart, ite_withLink]

@[simp] theorem advanceProd_withLink (d q k : Nat) : (s.withLink l).advanceProd d q k = (s.advanceProd d q k).withLink l := by
  simp only [State.advanceProd, queue_withLink, noteCounts_withLink, setQueue_withLink, sendSig_withLink, ite_withLink]

@[simp] theorem pushEntry_withLink (d q : Nat) (b : List Byte) : (s.withLink l).pushEntry d q b = (s.pushEntry d q b).withLink l := by
  simp only [State.pushEntry, queue_withLink, writeBytes_withLink, cleanUnits_withLink, advanceProd_withLink]

@[simp] theorem dropEvent_withLink (d : Nat) : (s.withLink l).dropEvent d = (s.dropEvent d).withLink l := by
  simp only [State.dropEvent, sticky_withLink, addFld_withLink]

@[simp] theorem eventsWaiting_withLink (d q : Nat) : (s.withLink l).eventsWaiting d q = s.eventsWaiting d q := (rfl)
@[simp] theorem queueOwner_withLink (d q : Nat) : (s.withLink l).queueOwner d q = s.queueOwner d q := (rfl)
@[simp] theorem roomFor_withLink (d q k : Nat) : (s.withLink l).roomFor d q k = s.roomFor d q k := (rfl)

@[simp] theorem putEvent_withLink (d q : Nat) (b : List Byte) : (s.withLink l).putEvent d q b = (s.putEvent d q b).withLink l := by
  simp only [State.putEvent, eventsWaiting_withLink, evPend_withLink, withLink_evPend, memOn_withLink, queue_withLink, holdAccess_withLink,
    pushEntry_withLink, ite_withLink]

@[simp] theorem postEvent_withLink (scope : Option Nat) (d kind source : Nat) (b : List Byte) :
    (s.withLink l).postEvent scope d kind source b = (s.postEvent scope d kind source b).withLink l := by
  simp only [State.postEvent, window_withLink, queue_withLink, logFree_withLink, queueOwner_withLink, roomFor_withLink, eventsWaiting_withLink,
    inFailed_withLink, zt_withLink, putEvent_withLink, dropEvent_withLink, ite_withLink]

@[simp] theorem sendMsi_withLink (v : Nat) : (s.withLink l).sendMsi v = (s.sendMsi v).withLink l := by
  simp only [State.sendMsi, rd_withLink, fld_withLink, out_withLink, withLink_out, wr_withLink]

@[simp] theorem fireVector_withLink (v : Nat) : (s.withLink l).fireVector v = (s.fireVector v).withLink l := by
  simp only [State.fireVector, msiFired_withLink, fld_withLink, withLink_msiFired, flag_withLink, setFld_withLink, sendMsi_withLink, ite_withLink]

@[simp] theorem ucErr_withLink (um : Nat) (f : Fld) : (s.withLink l).ucErr um f = (s.ucErr um f).withLink l := by
  simp only [State.ucErr, sticky_withLink, fireVector_withLink]

@[simp] theorem linkNews_withLink (um b : Nat) : (s.withLink l).linkNews um b = (s.linkNews um b).withLink l := by
  simp only [State.linkNews, fld_withLink, rd_withLink, postEvent_withLink, ite_withLink]

@[simp] theorem setLink_withLink (um st : Nat) : (s.withLink l).setLink um st = (s.setLink um st).withLink l := by
  simp only [State.setLink, rd_withLink, setFld_withLink, linkNews_withLink]

@[simp] theorem accessErrorOn_withLink (um : Nat) (ctx : Ctx) (a op : Nat) :
    (s.withLink l).accessErrorOn um ctx a op = (s.accessErrorOn um ctx a op).withLink l := by
  simp only [State.accessErrorOn, addFld_withLink, wr_withLink, ucErr_withLink, postEvent_withLink]

/-! ## Ownership -/

@[simp] theorem ownedTo_withLink (p a : Nat) : (s.withLink l).ownedTo p a = s.ownedTo p a := (rfl)

@[simp] theorem firstUnownedFuel_withLink (p n a stop : Nat) : (s.withLink l).firstUnownedFuel p n a stop = s.firstUnownedFuel p n a stop := by
  induction n generalizing a with
  | zero => rfl
  | succ n ih => simp only [State.firstUnownedFuel, ownedTo_withLink, ih]

@[simp] theorem owns_withLink (p a n : Nat) : (s.withLink l).owns p a n = s.owns p a n := by
  simp only [State.owns, State.firstUnowned, firstUnownedFuel_withLink]

/-! ## Uncorrectable errors -/

@[simp] theorem hbSlot_withLink (n : Nat) : (s.withLink l).hbSlot n = s.hbSlot n := (rfl)
@[simp] theorem hbRing_withLink (n : Nat) : (s.withLink l).hbRing n = s.hbRing n := (rfl)

@[simp] theorem hbHolds_withLink (n : Nat) : (s.withLink l).hbHolds n = s.hbHolds n := by
  simp only [State.hbHolds, hbSlot_withLink, hbRing_withLink, inFailed_withLink, memOn_withLink]

@[simp] theorem hbPut_withLink (n : Nat) (b : List Byte) : (s.withLink l).hbPut n b = (s.hbPut n b).withLink l := by
  simp only [State.hbPut, hbRing_withLink, hbSlot_withLink, inFailed_withLink, fld_withLink, addFld_withLink, sticky_withLink,
    writeBytes_withLink, cleanUnits_withLink, setFld_withLink, ite_withLink]

@[simp] theorem hbLog_withLink (n : Nat) (b : List Byte) : (s.withLink l).hbLog n b = (s.hbLog n b).withLink l := by
  simp only [State.hbLog, hbPend_withLink, withLink_hbPend, hbHolds_withLink, hbSlot_withLink, holdAccess_withLink, hbPut_withLink, ite_withLink]

@[simp] theorem hbRecord_withLink (n kind a : Nat) (m : Master) : (s.withLink l).hbRecord n kind a m = (s.hbRecord n kind a m).withLink l := by
  simp only [State.hbRecord, State.hbRecordAt, hbSeq_withLink, logFree_withLink, ite_withLink, withLink_hbSeq, hbLog_withLink]
  simp only [zt_withLink]

@[simp] theorem memOwner_withLink (a : Nat) : (s.withLink l).memOwner a = s.memOwner a := by
  simp only [State.memOwner, owns_withLink]

@[simp] theorem dataLoss_withLink (kind a : Nat) : (s.withLink l).dataLoss kind a = (s.dataLoss kind a).withLink l := by
  simp only [State.dataLoss, sticky_withLink, memOwner_withLink, part_withLink, window_withLink, postEvent_withLink]

@[simp] theorem notedError_withLink (what which : Nat) : (s.withLink l).notedError what which = (s.notedError what which).withLink l := (rfl)

@[simp] theorem ueMet_withLink (kind a : Nat) (m : Master) : (s.withLink l).ueMet kind a m = (s.ueMet kind a m).withLink l := by
  simp only [State.ueMet, inFailed_withLink, flag_withLink, sticky_withLink, addFld_withLink, wr_withLink, ite_withLink, count_withLink,
    notedError_withLink, hbRecord_withLink, dataLoss_withLink]

/-! ## What registers read as -/

@[simp] theorem cycle_withLink (t : Nat) : (s.withLink l).cycle t = s.cycle t := (rfl)
@[simp] theorem physOf_withLink (t : Nat) : (s.withLink l).physOf t = s.physOf t := (rfl)
@[simp] theorem me_withLink (t e : Nat) : (s.withLink l).me t e = s.me t e := (rfl)
@[simp] theorem dueFeed_withLink (t e : Nat) : (s.withLink l).dueFeed t e = s.dueFeed t e := (rfl)
@[simp] theorem rowValues_withLink (t : Nat) (f : FeedRun) (acts psum : List Nat) :
    (s.withLink l).rowValues t f acts psum = s.rowValues t f acts psum := by
  simp only [State.rowValues, fld_withLink, State.drawKey, rd_withLink, State.readNat, readBytes_withLink]

@[simp] theorem setMe_withLink (t e : Nat) (m : MeSt) : (s.withLink l).setMe t e m = (s.setMe t e m).withLink l := (rfl)

@[simp] theorem haloCount_withLink (t : Nat) (m : HaloMsg) : (s.withLink l).haloCount t m = (s.haloCount t m).withLink l := by
  simp only [State.haloCount, flag_withLink, tile_withLink, setTile_withLink, ite_withLink]

@[simp] theorem feedCounts_withLink (t : Nat) (f : FeedRun) : (s.withLink l).feedCounts t f = (s.feedCounts t f).withLink l := by
  simp only [State.feedCounts, count_withLink, haloCount_withLink, ite_withLink]

@[simp] theorem stopQueue_withLink (t q : Nat) (c : Cmd) (status addr : Nat) :
    (s.withLink l).stopQueue t q c status addr = (s.stopQueue t q c status addr).withLink l := by
  simp only [State.stopQueue, State.tcFault, wr_withLink, sticky_withLink, setFld_withLink, ite_withLink, tile_withLink, setTile_withLink]

@[simp] theorem endCmd_withLink (t q : Nat) (c : Cmd) (status addr detail : Nat) :
    (s.withLink l).endCmd t q c status addr detail = (s.endCmd t q c status addr detail).withLink l := by
  simp only [State.endCmd, stopQueue_withLink, ite_withLink, zt_withLink, tile_withLink, setTile_withLink]

@[simp] theorem endOk_withLink (t q : Nat) (c : Cmd) (detail : Nat) (wrote : List (Nat × Nat)) :
    (s.withLink l).endOk t q c detail wrote = (s.endOk t q c detail wrote).withLink l := by
  simp only [State.endOk, zt_withLink, tile_withLink, setTile_withLink]

@[simp] theorem flushRuns_withLink (t e : Nat) (r : List (Nat × Cmd × Option FeedRun)) :
    (s.withLink l).flushRuns t e r = (s.flushRuns t e r).withLink l := by
  refine withLink_foldl (fun s x => ?_) _ s
  cases x.2.2 with
  | none => exact endCmd_withLink s l _ _ _ _ _ _
  | some f => simp only [feedCounts_withLink, endCmd_withLink]

@[simp] theorem meFault_withLink (t e no : Nat) (c : Cmd) (status addr : Nat) (f : Fld) (peer index row : Nat) :
    (s.withLink l).meFault t e no c status addr f peer index row = (s.meFault t e no c status addr f peer index row).withLink l := by
  simp only [State.meFault, me_withLink, sticky_withLink, wr_withLink, physOf_withLink, notedError_withLink, ite_withLink]
  cases (s.me t e).feeds.find? (fun x => x.no == no) with
  | none => simp only [setMe_withLink, endCmd_withLink, flushRuns_withLink]
  | some x => simp only [feedCounts_withLink, setMe_withLink, endCmd_withLink, flushRuns_withLink]

@[simp] theorem drainCheck_withLink (t e : Nat) : (s.withLink l).drainCheck t e = (s.drainCheck t e).withLink l := by
  simp only [State.drainCheck, me_withLink]
  cases (s.me t e).drain with
  | none => rfl
  | some d => simp only [setMe_withLink, endOk_withLink, ite_withLink]

@[simp] theorem landRow_withLink (t e : Nat) (f : FeedRun) : (s.withLink l).landRow t e f = (s.landRow t e f).withLink l := by
  unfold State.landRow
  cases f.rows with
  | nil => rfl
  | cons r rows =>
    simp only [me_withLink, State.landOverrun, meFault_withLink, firstBad_withLink, rowValues_withLink]
    cases (if feedOutMode f.cmd.w = 0 then s.firstBad (rowTableAt t f f.landed) f.ctx.rowEntry else none) with
    | none => simp only [setMe_withLink, me_withLink, feedCounts_withLink, endOk_withLink, drainCheck_withLink, ite_withLink]
    | some a => simp only [ueMet_withLink, meFault_withLink, ite_withLink]

@[simp] theorem landAll_withLink (n t e : Nat) : State.landAll n (s.withLink l) t e = (State.landAll n s t e).withLink l := by
  induction n generalizing s with
  | zero => rfl
  | succ n ih =>
    simp only [State.landAll, dueFeed_withLink]
    cases s.dueFeed t e with
    | none => rfl
    | some f => simp only [landRow_withLink, ih]

@[simp] theorem settle_withLink (t : Nat) : (s.withLink l).settle t = (s.settle t).withLink l :=
  withLink_foldl (fun s e => landAll_withLink s l 16 t e) _ s

@[simp] theorem recordOf_withLink (t : Nat) : (s.withLink l).recordOf t = s.recordOf t := (rfl)

@[simp] theorem readMe_withLink (a t o : Nat) : (s.withLink l).readMe a t o = s.readMe a t o := by
  simp only [State.readMe, settle_withLink, me_withLink, cycle_withLink, recordOf_withLink, rd_withLink]

@[simp] theorem readId_withLink (a o : Nat) : (s.withLink l).readId a o = s.readId a o := (rfl)
@[simp] theorem readWk_withLink (a : Nat) : (s.withLink l).readWk a = s.readWk a := (rfl)
@[simp] theorem readSi_withLink (a o : Nat) : (s.withLink l).readSi a o = s.readSi a o := (rfl)
@[simp] theorem readTl_withLink (ctx : Ctx) (a o : Nat) : (s.withLink l).readTl ctx a o = s.readTl ctx a o := (rfl)
@[simp] theorem readRt_withLink (a : Nat) : (s.withLink l).readRt a = s.readRt a := (rfl)
@[simp] theorem readWindow_withLink (ctx : Ctx) (d o : Nat) : (s.withLink l).readWindow ctx d o = s.readWindow ctx d o := (rfl)
@[simp] theorem readKl_withLink (a n o : Nat) : (s.withLink l).readKl a n o = s.readKl a n o := (rfl)
@[simp] theorem readTc_withLink (a t o : Nat) : (s.withLink l).readTc a t o = s.readTc a t o := (rfl)
@[simp] theorem readVu_withLink (a t o : Nat) : (s.withLink l).readVu a t o = s.readVu a t o := (rfl)
@[simp] theorem readAv_withLink (a u o : Nat) : (s.withLink l).readAv a u o = s.readAv a u o := (rfl)
@[simp] theorem domState_withLink (i : Nat) : (s.withLink l).domState i = s.domState i := (rfl)
@[simp] theorem spares_withLink : (s.withLink l).spares = s.spares := (rfl)
@[simp] theorem mayRead_withLink (ctx : Ctx) (b : Block) (n o : Nat) : (s.withLink l).mayRead ctx b n o = s.mayRead ctx b n o := (rfl)

@[simp] theorem readBlock_withLink (ctx : Ctx) (b : Block) (a n o : Nat) : (s.withLink l).readBlock ctx b a n o = s.readBlock ctx b a n o := by
  cases b <;> simp only [State.readBlock, readMe_withLink, readId_withLink, readWk_withLink, readSi_withLink, readTl_withLink, readRt_withLink,
    readWindow_withLink, readKl_withLink, readTc_withLink, readVu_withLink, readAv_withLink, domState_withLink, spares_withLink, zt_withLink,
    rd_withLink, tilePresent_withLink]

@[simp] theorem readRefused_withLink (ctx : Ctx) (a : Nat) : (s.withLink l).readRefused ctx a = s.readRefused ctx a := by
  simp only [State.readRefused, mayRead_withLink]

@[simp] theorem mmioValue_withLink (ctx : Ctx) (a : Nat) : (s.withLink l).mmioValue ctx a = s.mmioValue ctx a := by
  simp only [State.mmioValue, readRefused_withLink, readBlock_withLink]

@[simp] theorem zenith_withLink : (s.withLink l).zenith = s.zenith := (rfl)

@[simp] theorem readEffect_withLink (um : Nat) (ctx : Ctx) (a : Nat) : (s.withLink l).readEffect um ctx a = (s.readEffect um ctx a).withLink l := by
  simp only [State.readEffect, readRefused_withLink, accessErrorOn_withLink, zenith_withLink, setFld_withLink, mmioValue_withLink, rd_withLink,
    wr_withLink]
  cases rowOf a with
  | none => simp only [ite_withLink]
  | some r => simp only [ite_withLink]

end Sys2Proof.Machine
end

section
/-! PROOFS. What reports leave alone: the registers that waits, events and interrupts count in, and no others (09 R222, 10 R235, R246, 17 R411). -/
namespace Sys2Proof.Machine

/-! ## Registers after the operations of Flags -/

theorem rd_addFld_ne (s : State) {a b : Nat} (f : Fld) (k : Nat) (h : b ≠ a) : (s.addFld a f k).rd b = s.rd b := rd_setFld_ne s f _ h

theorem fld_addFld_same (s : State) (a : Nat) (f : Fld) (k : Nat) (h : f.ok) :
    (s.addFld a f k).fld a f = (s.fld a f + k) % 2 ^ (f.hi + 1 - f.lo) := fld_setFld_same s a f _ h

theorem fld_addFld_other (s : State) (a : Nat) (f g : Fld) (k : Nat) (h : f.ok) (hd : g.hi < f.lo ∨ f.hi < g.lo) :
    (s.addFld a f k).fld a g = s.fld a g := fld_setFld_other s a f g _ h hd

/-- A field reads as it did where its register does. -/
theorem fld_of_rd {s t : State} {a : Nat} (h : t.rd a = s.rd a) (f : Fld) : t.fld a f = s.fld a f := by rw [State.fld, State.fld, h]

@[simp] theorem rd_count (s : State) (b kind inst ev k : Nat) (x : Attr) : (s.count kind inst ev k x).rd b = s.rd b := (rfl)
@[simp] theorem rd_withWaits (s : State) (b : Nat) (w : List (Nat × Nat)) : ({ s with waits := w } : State).rd b = s.rd b := (rfl)
@[simp] theorem rd_withEvPend (s : State) (b : Nat) (p : List (Nat × Nat × List Byte)) : ({ s with evPend := p } : State).rd b = s.rd b := (rfl)

theorem rd_of_regs {s t : State} (h : t.regs = s.regs) (a : Nat) : t.rd a = s.rd a := by rw [State.rd, State.rd, h]

/-! ## Waits -/

/-- The registers that count an access to memory that is not ON, for one HB_ block (R209, R216, 17 R411). -/
def holdRegs (n : Nat) : List Nat := [HB_HELD n, HB_ERR n, HB_ERR_EVENTS n, PD_HELD, PD_ERR, PD_ERR_EVENTS]

theorem rd_holdWork_ne (s : State) {b : Nat} (who dom : Nat) (h : b ∉ [PD_HELD, PD_ERR, PD_ERR_EVENTS]) : (s.holdWork who dom).rd b = s.rd b := by
  simp only [List.mem_cons, List.not_mem_nil, or_false, not_or] at h
  obtain ⟨hheld, herr, hev⟩ := h
  unfold State.holdWork
  split
  · rfl
  · rw [rd_sticky_ne _ _ herr hev, rd_addFld_ne _ _ _ hheld, rd_withWaits]

theorem rd_holdAccess_ne (s : State) {b : Nat} (who a : Nat) (x : Attr) (h : b ∉ holdRegs (memHb a)) : (s.holdAccess who a x).rd b = s.rd b := by
  simp only [holdRegs, List.mem_cons, List.not_mem_nil, or_false, not_or] at h
  obtain ⟨hheld, herr, hev, hpd⟩ := h
  unfold State.holdAccess
  split
  · rfl
  · rw [rd_holdWork_ne _ _ _ (by simpa using hpd), rd_count, rd_sticky_ne _ _ herr hev, rd_addFld_ne _ _ _ hheld]

theorem addFld_other (s : State) (a : Nat) (f : Fld) (k : Nat) : ∃ r, s.addFld a f k = { s with regs := r } := ⟨_, rfl⟩

theorem sticky_other (s : State) (e : Nat) (f : Fld) (ev : Nat) : ∃ r, s.sticky e f ev = { s with regs := r } := ⟨_, rfl⟩

theorem count_other (s : State) (kind inst ev k : Nat) (x : Attr) : ∃ t, s.count kind inst ev k x = { s with tally := t } := ⟨_, rfl⟩

/-- Beside registers a wait for a domain changes the list of waits alone. -/
theorem holdWork_other (s : State) (who dom : Nat) : ∃ r w, s.holdWork who dom = { s with regs := r, waits := w } := by
  unfold State.holdWork
  split
  · exact ⟨s.regs, s.waits, rfl⟩
  · obtain ⟨_, hadd⟩ := addFld_other { s with waits := s.waits ++ [(dom, who)] } PD_HELD PD_HELD_COUNT 1
    rw [hadd]
    obtain ⟨r, hset⟩ := sticky_other _ PD_ERR PD_ERR_HELD PD_ERR_EVENTS
    exact ⟨r, _, hset⟩

/-- Beside registers a held access changes the list of waits and the counters alone. -/
theorem holdAccess_other (s : State) (who a : Nat) (x : Attr) :
    ∃ r w t, s.holdAccess who a x = { s with regs := r, waits := w, tally := t } := by
  unfold State.holdAccess
  dsimp only
  split
  · exact ⟨s.regs, s.waits, s.tally, rfl⟩
  · obtain ⟨_, hadd⟩ := addFld_other s (HB_HELD (memHb a)) HB_HELD_COUNT 1
    rw [hadd]
    obtain ⟨_, hset⟩ := sticky_other { s with regs := _ } (HB_ERR (memHb a)) HB_ERR_HELD (HB_ERR_EVENTS (memHb a))
    rw [hset]
    obtain ⟨t, hcount⟩ := count_other { s with regs := _ } 2 (memHb a) 0x0A 1 _
    rw [hcount]
    obtain ⟨r, w, hwork⟩ := holdWork_other { s with regs := _, tally := t } who _
    exact ⟨r, w, t, hwork⟩

/-! ## Events -/

/-- The registers that an event posted on a die counts in (10 R235, 18 R427), with those of the wait for its slot. -/
def eventRegs (d n : Nat) : List Nat := [WK_LOG, WK_ERR, WK_ERR_EVENTS, QH_ERR d, QH_ERR_EVENTS d, QH_EV_DROPS d] ++ holdRegs n

theorem rd_logEntry_ne (s : State) {b : Nat} (code sev : Nat) (x : List Byte) (h : b ∉ [WK_LOG, WK_ERR, WK_ERR_EVENTS]) :
    (s.logEntry code sev x).rd b = s.rd b := by
  simp only [List.mem_cons, List.not_mem_nil, or_false, not_or] at h
  obtain ⟨hlog, herr, hev⟩ := h
  unfold State.logEntry
  dsimp only
  rw [apply_ite (State.rd · b), rd_sticky_ne _ _ herr hev, ite_self, rd_addFld_ne _ _ _ hlog]
  exact rd_of_regs rfl b

theorem rd_logFree_ne (s : State) {b : Nat} (code : Nat) (x : List Byte) (h : b ∉ [WK_LOG, WK_ERR, WK_ERR_EVENTS]) :
    (s.logFree code x).rd b = s.rd b := (rd_logEntry_ne _ code _ x h).trans (rd_of_regs rfl b)

theorem rd_dropEvent_ne (s : State) {b : Nat} (d : Nat) (h : b ∉ [QH_ERR d, QH_ERR_EVENTS d, QH_EV_DROPS d]) : (s.dropEvent d).rd b = s.rd b := by
  simp only [List.mem_cons, List.not_mem_nil, or_false, not_or] at h
  obtain ⟨herr, hev, hdrops⟩ := h
  rw [State.dropEvent, rd_addFld_ne _ _ _ hdrops, rd_sticky_ne _ _ herr hev]

@[simp] theorem noteCounts_regs (s : State) (d q : Nat) : (s.noteCounts d q).regs = s.regs := by
  unfold State.noteCounts
  split <;> rfl

@[simp] theorem advanceProd_regs (s : State) (d q k : Nat) : (s.advanceProd d q k).regs = s.regs := by
  unfold State.advanceProd
  dsimp only
  rw [apply_ite State.regs, sendSig_regs, setQueue_regs, noteCounts_regs, ite_self]

@[simp] theorem writeBytes_regs (s : State) (a : Nat) (b : List Byte) : (s.writeBytes a b).regs = s.regs := by
  obtain ⟨m, h⟩ := writeBytes_other s a b
  rw [h]

@[simp] theorem pushEntry_regs (s : State) (d q : Nat) (b : List Byte) : (s.pushEntry d q b).regs = s.regs := by
  rw [State.pushEntry, advanceProd_regs, cleanUnits_regs, writeBytes_regs]

theorem rd_putEvent_ne (s : State) {b : Nat} (d q : Nat) (x : List Byte) (h : ∀ n, b ∉ holdRegs n) : (s.putEvent d q x).rd b = s.rd b := by
  unfold State.putEvent
  dsimp only
  split
  · exact rd_withEvPend s b _
  · split
    · rw [rd_withEvPend, rd_holdAccess_ne s _ _ _ (h _)]
    · exact rd_of_regs (pushEntry_regs s d q x) b

theorem rd_postEvent_ne (s : State) {b : Nat} (scope : Option Nat) (d kind source : Nat) (x : List Byte) (h : ∀ n, b ∉ eventRegs d n) :
    (s.postEvent scope d kind source x).rd b = s.rd b := by
  have hlog : b ∉ [WK_LOG, WK_ERR, WK_ERR_EVENTS] := fun m => h 0 (by simp only [eventRegs, List.mem_cons, List.mem_append] at m ⊢; tauto)
  have hdrop : b ∉ [QH_ERR d, QH_ERR_EVENTS d, QH_EV_DROPS d] := fun m => h 0 (by simp only [eventRegs, List.mem_cons, List.mem_append] at m ⊢; tauto)
  have hhold (n : Nat) : b ∉ holdRegs n := fun m => h n (List.mem_append_right _ m)
  unfold State.postEvent
  dsimp only
  rw [apply_ite (State.rd · b), rd_putEvent_ne _ _ _ _ hhold, rd_dropEvent_ne _ _ hdrop, ite_self, rd_logFree_ne _ _ _ hlog]

/-- The UC_ registers are none of them. -/
theorem uc_notMem_eventRegs {b : Nat} (d : Nat) (hlo : 0x20000080000 ≤ b) (hhi : b < 0x200000A0000) (n : Nat) : b ∉ eventRegs d n := by
  simp only [eventRegs, holdRegs, WK_LOG, WK_ERR, WK_ERR_EVENTS, QH_ERR, QH_ERR_EVENTS, QH_EV_DROPS, HB_HELD, HB_ERR, HB_ERR_EVENTS, PD_HELD, PD_ERR,
    PD_ERR_EVENTS, List.mem_append, List.mem_cons, List.not_mem_nil, or_false]
  omega

/-! ## Interrupts -/

theorem rd_sendMsi_ne (s : State) {b : Nat} (v : Nat) (h : b ≠ UC_MSI_SENT 0) : (s.sendMsi v).rd b = s.rd b := rd_wr_ne _ _ h

theorem rd_fireVector_ne (s : State) {b : Nat} (v : Nat) (hdata : b ≠ UC_MSI_DATA 0 v) (hsent : b ≠ UC_MSI_SENT 0) :
    (s.fireVector v).rd b = s.rd b := by
  unfold State.fireVector
  dsimp only
  split
  · rfl
  · split
    · rw [rd_setFld_ne _ _ _ hdata]; rfl
    · rw [rd_sendMsi_ne _ _ hsent]; rfl

@[simp] theorem setFld_mem (s : State) (a : Nat) (f : Fld) (v : Nat) : (s.setFld a f v).mem = s.mem := (rfl)
@[simp] theorem addFld_mem (s : State) (a : Nat) (f : Fld) (k : Nat) : (s.addFld a f k).mem = s.mem := by rw [State.addFld, setFld_mem]
@[simp] theorem sticky_mem (s : State) (e : Nat) (f : Fld) (ev : Nat) : (s.sticky e f ev).mem = s.mem := by
  rw [State.sticky, addFld_mem, setFld_mem]
@[simp] theorem sendMsi_mem (s : State) (v : Nat) : (s.sendMsi v).mem = s.mem := (rfl)

@[simp] theorem fireVector_mem (s : State) (v : Nat) : (s.fireVector v).mem = s.mem := by
  unfold State.fireVector
  simp only [apply_ite State.mem, setFld_mem, sendMsi_mem, ite_self]

/-! ## UC_ERR and access errors -/

@[simp] theorem ucErr_mem (s : State) (um : Nat) (f : Fld) : (s.ucErr um f).mem = s.mem := by
  rw [State.ucErr, fireVector_mem, sticky_mem]
@[simp] theorem ucErr_link (s : State) (um : Nat) (f : Fld) : (s.ucErr um f).link = s.link :=
  link_of_withLink (f := (State.ucErr · um f)) (fun s l => ucErr_withLink s l um f) s

theorem rd_ucErr_ne (s : State) {b : Nat} (um : Nat) (f : Fld) (h : b ∉ [UC_ERR um, UC_ERR_EVENTS um, UC_MSI_DATA 0 0, UC_MSI_SENT 0]) :
    (s.ucErr um f).rd b = s.rd b := by
  simp only [List.mem_cons, List.not_mem_nil, or_false, not_or] at h
  obtain ⟨herr, hev, hdata, hsent⟩ := h
  rw [State.ucErr, rd_fireVector_ne _ _ hdata hsent, rd_sticky_ne _ _ herr hev]

/-- The bit set reads as set (R249). -/
theorem flag_ucErr (s : State) (um : Nat) (f : Fld) (h : f.ok) : (s.ucErr um f).flag (UC_ERR um) f = true := by
  have hfire : (s.ucErr um f).rd (UC_ERR um) = (s.sticky (UC_ERR um) f (UC_ERR_EVENTS um)).rd (UC_ERR um) :=
    rd_fireVector_ne _ _ (by simp only [UC_ERR, UC_MSI_DATA]; omega) (by simp only [UC_ERR, UC_MSI_SENT]; omega)
  rw [State.flag, fld_of_rd hfire, sticky_set s _ _ f h (by simp only [UC_ERR, UC_ERR_EVENTS]; omega)]
  rfl

/-- An access error is counted on its module (R245). -/
theorem accessErrorOn_count (s : State) (um : Nat) (ctx : Ctx) (a op : Nat) (hum : um < 2) :
    (s.accessErrorOn um ctx a op).fld (UC_ACCESS um) UC_ACCESS_COUNT = (s.fld (UC_ACCESS um) UC_ACCESS_COUNT + 1) % 2 ^ 32 := by
  have hrd : (s.accessErrorOn um ctx a op).rd (UC_ACCESS um) = (s.addFld (UC_ACCESS um) UC_ACCESS_COUNT 1).rd (UC_ACCESS um) := by
    have hinfo : UC_ACCESS um ≠ UC_ACCESS_INFO um := by simp only [UC_ACCESS, UC_ACCESS_INFO]; omega
    have herr : UC_ACCESS um ∉ [UC_ERR um, UC_ERR_EVENTS um, UC_MSI_DATA 0 0, UC_MSI_SENT 0] := by
      simp only [UC_ACCESS, UC_ERR, UC_ERR_EVENTS, UC_MSI_DATA, UC_MSI_SENT, List.mem_cons, List.not_mem_nil, or_false]; omega
    rw [State.accessErrorOn, rd_postEvent_ne _ _ _ _ _ _ (uc_notMem_eventRegs 0 (by simp only [UC_ACCESS]; omega) (by simp only [UC_ACCESS]; omega)),
      rd_ucErr_ne _ _ _ herr, rd_wr_ne _ _ hinfo]
  rw [fld_of_rd hrd, fld_addFld_same s _ _ _ (by simp [Fld.ok, UC_ACCESS_COUNT])]
  rfl

end Sys2Proof.Machine
end

section
/-! PROOFS. Register writes and reads: what the access codes make of a register (00 R7), and what a read does beside returning the value. -/
namespace Sys2Proof.Machine

/-! ## Fields of a value -/

/-- A field inside 64 bits of a value wrapped at 64 bits. -/
theorem bits_mod_two_pow_64 (v hi lo : Nat) (h : hi < 64) : bits (v % 2 ^ 64) hi lo = bits v hi lo := by
  apply Nat.eq_of_testBit_eq
  intro i
  rw [testBit_bits, testBit_bits, Nat.testBit_mod_two_pow]
  by_cases hi' : i < hi + 1 - lo
  · have : i + lo < 64 := by omega
    simp [this]
  · simp [hi']

/-- Two fields of a register share no bit. -/
def Fld.apart (f g : Fld) : Prop := g.hi < f.lo ∨ f.hi < g.lo

theorem Fld.apart_comm {f g : Fld} (h : f.apart g) : g.apart f := Or.symm h

/-- What a write of x makes of a field that holds y, by its access code, the register unlocked (R7). -/
def fieldWritten (c : Acc) (y x : Nat) : Nat :=
  match c with
  | .rw => x
  | .rwl => x
  | .w1c => y - (y &&& x)
  | .w1s => y ||| x
  | _ => y

/-- What a write of v makes of a register's value in one field. -/
def writeField (v m : Nat) (f : Fld × Acc) : Nat :=
  match f.2 with
  | .rw => putBits m f.1.hi f.1.lo (bits v f.1.hi f.1.lo)
  | .rwl => putBits m f.1.hi f.1.lo (bits v f.1.hi f.1.lo)
  | .w1c => putBits m f.1.hi f.1.lo (bits m f.1.hi f.1.lo - (bits m f.1.hi f.1.lo &&& bits v f.1.hi f.1.lo))
  | .w1s => putBits m f.1.hi f.1.lo (bits m f.1.hi f.1.lo ||| bits v f.1.hi f.1.lo)
  | _ => m

theorem writtenValue_unlocked (r : RegRow) (old v : Nat) : writtenValue r old v false = r.fields.foldl (writeField v) old := by
  unfold writtenValue
  refine congrArg (fun g => List.foldl g old r.fields) (funext fun m => funext fun f => ?_)
  obtain ⟨g, c⟩ := f
  cases c <;> rfl

/-- The field that is written. -/
theorem bits_writeField_same (v m : Nat) (f : Fld × Acc) (h : f.1.ok) :
    bits (writeField v m f) f.1.hi f.1.lo = fieldWritten f.2 (bits m f.1.hi f.1.lo) (bits v f.1.hi f.1.lo) := by
  obtain ⟨g, c⟩ := f
  have hm := bits_lt m g.hi g.lo
  have hv := bits_lt v g.hi g.lo
  have put (x : Nat) (hx : x < 2 ^ (g.hi + 1 - g.lo)) : bits (putBits m g.hi g.lo x) g.hi g.lo = x := by
    rw [bits_putBits_same _ _ _ _ h.1, Nat.mod_eq_of_lt hx]
  cases c with
  | rw => exact put _ hv
  | rwl => exact put _ hv
  | w1c => exact put _ (Nat.lt_of_le_of_lt (Nat.sub_le _ _) hm)
  | w1s => exact put _ (Nat.or_lt_two_pow hm hv)
  | _ => rfl

/-- A field apart from the one that is written. -/
theorem bits_writeField_apart (v m : Nat) (f : Fld × Acc) (g : Fld) (h : f.1.ok) (hd : f.1.apart g) :
    bits (writeField v m f) g.hi g.lo = bits m g.hi g.lo := by
  obtain ⟨k, c⟩ := f
  cases c with
  | rw => exact bits_putBits_ne _ _ _ _ _ _ h.1 hd
  | rwl => exact bits_putBits_ne _ _ _ _ _ _ h.1 hd
  | w1c => exact bits_putBits_ne _ _ _ _ _ _ h.1 hd
  | w1s => exact bits_putBits_ne _ _ _ _ _ _ h.1 hd
  | _ => rfl

/-! ## Writes of whole registers -/

/-- A row's fields lie inside its register, and no two share a bit. -/
def fieldsApart (l : List (Fld × Acc)) : Prop := (∀ f ∈ l, f.1.ok) ∧ l.Pairwise (fun f g => f.1.apart g.1)

theorem bits_writeFields_apart (v m : Nat) (l : List (Fld × Acc)) (g : Fld) (hok : ∀ f ∈ l, f.1.ok) (hd : ∀ f ∈ l, f.1.apart g) :
    bits (l.foldl (writeField v) m) g.hi g.lo = bits m g.hi g.lo := by
  induction l generalizing m with
  | nil => rfl
  | cons f l ih =>
    rw [List.foldl_cons, ih _ (fun x hx => hok x (List.mem_cons_of_mem _ hx)) (fun x hx => hd x (List.mem_cons_of_mem _ hx)),
      bits_writeField_apart v m f g (hok f List.mem_cons_self) (hd f List.mem_cons_self)]

/-- Each field of a row takes what its access code makes of the value written. -/
theorem bits_writeFields (v m : Nat) (l : List (Fld × Acc)) (h : fieldsApart l) (f : Fld × Acc) (hf : f ∈ l) :
    bits (l.foldl (writeField v) m) f.1.hi f.1.lo = fieldWritten f.2 (bits m f.1.hi f.1.lo) (bits v f.1.hi f.1.lo) := by
  induction l generalizing m with
  | nil => cases hf
  | cons g l ih =>
    obtain ⟨hok, hpair⟩ := h
    rw [List.pairwise_cons] at hpair
    obtain ⟨hg, hl⟩ := hpair
    have hokl : ∀ x ∈ l, x.1.ok := fun x hx => hok x (List.mem_cons_of_mem _ hx)
    rw [List.foldl_cons]
    rcases List.mem_cons.mp hf with rfl | hfl
    · rw [bits_writeFields_apart v _ l f.1 hokl (fun x hx => Fld.apart_comm (hg x hx)), bits_writeField_same v m f (hok f List.mem_cons_self)]
    · rw [ih _ ⟨hokl, hl⟩ hfl, bits_writeField_apart v m g f.1 (hok g List.mem_cons_self) (hg f hfl)]

/-- The state after a write that the access codes alone decide (R7). -/
theorem putReg_unlocked (s : State) {a : Nat} {r : RegRow} (v : Nat) (h : rowOf a = some r) :
    s.putReg a v false = s.wr a (r.fields.foldl (writeField v) (s.rd a)) := by
  unfold State.putReg
  rw [h]
  dsimp only
  rw [writtenValue_unlocked]
  rfl

theorem fld_putReg_unlocked (s : State) {a : Nat} {r : RegRow} (v : Nat) (h : rowOf a = some r) (hr : fieldsApart r.fields) (f : Fld × Acc)
    (hf : f ∈ r.fields) : (s.putReg a v false).fld a f.1 = fieldWritten f.2 (s.fld a f.1) (bits v f.1.hi f.1.lo) := by
  rw [putReg_unlocked s v h, fld_wr_same, bits_mod_two_pow_64 _ _ _ (hr.1 f hf).2, bits_writeFields v _ _ hr f hf, State.fld]

/-- The Anvil block's rows (08 R199). -/
theorem fieldsApart_of_rowsAv : ∀ r ∈ rowsAv, fieldsApart r.fields := by
  unfold fieldsApart Fld.ok Fld.apart
  decide

theorem mem_blockRows_of_rowOf {a u o : Nat} {b : Block} {r : RegRow} (hb : blockOf a = some (b, u, o)) (h : rowOf a = some r) : r ∈ blockRows b := by
  rw [rowOf, hb] at h
  exact List.mem_of_find?_eq_some h

/-! ## Register writes by a context (R6, R245) -/

/-- A misaligned address, and one that no block holds, is refused. -/
theorem mmioWrite_of_noRegister (s : State) (ctx : Ctx) (a v : Nat) (h : a % 8 ≠ 0 ∨ blockOf a = none) :
    s.mmioWrite ctx a v = s.accessError ctx a := by
  unfold State.mmioWrite
  split
  · rfl
  · rename_i haligned
    rw [h.resolve_left haligned]

/-- A write of an Anvil unit's register is for the module context and Welkin (R244). -/
theorem mmioWrite_anvil (s : State) (ctx : Ctx) {a u o : Nat} (v : Nat) (ha : a % 8 = 0) (hb : blockOf a = some (.av, u, o))
    (hu : s.anvilPresent u = true) : s.mmioWrite ctx a v = if ctxGlobal ctx then s.putReg a v false else s.accessError ctx a := by
  unfold State.mmioWrite
  rw [if_neg (by omega), hb]
  dsimp only
  rw [if_pos hu]
  rfl

/-! ## Register reads (R7, 14 R359) -/

/-- What an accepted read changes: nothing, or the read-clear fields of its own register. -/
theorem readEffect_cases (s : State) (um : Nat) (ctx : Ctx) {a : Nat} (h : s.readRefused ctx a = false) (ha : a ≠ ZN_NOW) :
    s.readEffect um ctx a = s ∨ ∃ r v, rowOf a = some r ∧ r.hasAcc .rc = true ∧ s.readEffect um ctx a = s.wr a v := by
  unfold State.readEffect
  rw [if_neg (by rw [h]; exact Bool.false_ne_true), if_neg ha]
  cases hrow : rowOf a with
  | none => exact Or.inl rfl
  | some r =>
    dsimp only
    split
    · exact Or.inr ⟨r, _, rfl, ‹_›, rfl⟩
    · exact Or.inl rfl

theorem readOut_out (s : State) (ctx : Ctx) (a : Nat) : (s.readOut ctx a).out = (s.readEffect 0 ctx a).out ++ [.read ctx a (s.mmioValue ctx a)] := (rfl)
theorem readOut_mem (s : State) (ctx : Ctx) (a : Nat) : (s.readOut ctx a).mem = (s.readEffect 0 ctx a).mem := (rfl)
theorem readOut_rd (s : State) (ctx : Ctx) (a b : Nat) : (s.readOut ctx a).rd b = (s.readEffect 0 ctx a).rd b := (rfl)

/-- ZN_NOW reads as Zenith time (14 R359). -/
theorem mmioValue_znNow (s : State) (ctx : Ctx) (h : s.readRefused ctx ZN_NOW = false) (hzt : s.zt < 2 ^ 64) : s.mmioValue ctx ZN_NOW = s.zt := by
  have hblock : blockOf ZN_NOW = some (.zn, 0, 0) := by decide
  have hregister : reservedAt .zn 0 0 = false := by decide
  unfold State.mmioValue
  rw [if_neg (by rw [h]; exact Bool.false_ne_true), hblock]
  dsimp only
  rw [hregister, if_neg Bool.false_ne_true, State.readBlock, if_pos rfl, Nat.mod_mod, Nat.mod_eq_of_lt hzt]

/-- A read of ZN_NOW latches the fraction into ZN_FRAC. -/
theorem readEffect_znNow (s : State) (um : Nat) (ctx : Ctx) (h : s.readRefused ctx ZN_NOW = false) :
    s.readEffect um ctx ZN_NOW = s.setFld ZN_FRAC ZN_FRAC_FRAC (s.zenith.acc * 256 / 1000000000) := by
  unfold State.readEffect
  rw [if_neg (by rw [h]; exact Bool.false_ne_true), if_pos rfl]

end Sys2Proof.Machine
end

section
/-! PROOFS. The host link (10 R241 to R245): when a request is ready, what serving it does, and what waits. -/
namespace Sys2Proof.Machine

/-! ## What readiness depends on -/

section Alike
variable {s t : State}

theorem domPresent_lt {i : Nat} (h : s.domPresent i = true) : i < 102 := by
  unfold State.domPresent at h
  split at h
  · omega
  · split at h
    · omega
    · exact of_decide_eq_true h

theorem domState_congr (hfuses : t.fuses = s.fuses) (hdom : ∀ i < 102, t.rd (PD_DOM i) = s.rd (PD_DOM i)) (i : Nat) :
    t.domState i = s.domState i := by
  have hpresent : t.domPresent i = s.domPresent i := by simp only [State.domPresent, State.anvilPresent, hfuses]
  unfold State.domState
  rw [hpresent]
  split
  · exact fld_of_rd (hdom i (domPresent_lt ‹_›)) _
  · rfl

theorem domOn_congr (hfuses : t.fuses = s.fuses) (hdom : ∀ i < 102, t.rd (PD_DOM i) = s.rd (PD_DOM i)) (i : Nat) : t.domOn i = s.domOn i := by
  rw [State.domOn, State.domOn, domState_congr hfuses hdom]

theorem part_congr (hparts : t.parts = s.parts) (p : Nat) : t.part p = s.part p := by rw [State.part, State.part, hparts]

theorem memDomain_congr (hparts : t.parts = s.parts) (a : Nat) : t.memDomain a = s.memDomain a := by
  simp only [State.memDomain, State.servRegion, State.tileOwner, part_congr hparts]

theorem stackFailed_congr (hstack : ∀ k, t.rd (HB_STATUS k) = s.rd (HB_STATUS k)) (k : Nat) : t.stackFailed k = s.stackFailed k := by
  rw [State.stackFailed, State.stackFailed, fld_of_rd (hstack k)]

theorem firstOff_congr (hfuses : t.fuses = s.fuses) (hparts : t.parts = s.parts) (htests : t.tests = s.tests)
    (hdom : ∀ i < 102, t.rd (PD_DOM i) = s.rd (PD_DOM i)) (hstack : ∀ k, t.rd (HB_STATUS k) = s.rd (HB_STATUS k)) (a n : Nat) :
    t.firstOff a n = s.firstOff a n := by
  simp only [State.firstOff, State.tilePresent, State.inFailed, State.sramHeld, hfuses, htests, part_congr hparts, memDomain_congr hparts,
    stackFailed_congr hstack, domOn_congr hfuses hdom]

theorem ownedTo_congr (hparts : t.parts = s.parts) (p a : Nat) : t.ownedTo p a = s.ownedTo p a := by
  rw [State.ownedTo, State.ownedTo, part_congr hparts]

theorem owns_congr (hparts : t.parts = s.parts) (p a n : Nat) : t.owns p a n = s.owns p a n := by
  have fuel (k a stop : Nat) : t.firstUnownedFuel p k a stop = s.firstUnownedFuel p k a stop := by
    induction k generalizing a with
    | zero => rfl
    | succ k ih => simp only [State.firstUnownedFuel, ownedTo_congr hparts, ih]
  rw [State.owns, State.owns, State.firstUnowned, State.firstUnowned, fuel]

theorem firstFailed_congr (hstack : ∀ k, t.rd (HB_STATUS k) = s.rd (HB_STATUS k)) (a n : Nat) : t.firstFailed a n = s.firstFailed a n := by
  have hfailed : t.stackFailed = s.stackFailed := funext (stackFailed_congr hstack)
  unfold State.firstFailed State.inFailed
  rw [hfailed]

theorem requestRefused_congr (hparts : t.parts = s.parts) (hstart : t.rd SI_START = s.rd SI_START)
    (hstack : ∀ k, t.rd (HB_STATUS k) = s.rd (HB_STATUS k)) (r : HostReq) : t.requestRefused r = s.requestRefused r := by
  simp only [State.requestRefused, State.hostIsReady, State.startPhase, fld_of_rd hstart, firstFailed_congr hstack, owns_congr hparts]

/-- Whether a request is ready depends on the link's order and the modules' registers, on start-up, on the partitions, and on whether memory is ON. -/
theorem requestReady_congr (hlink : t.link = s.link) (hfuses : t.fuses = s.fuses) (hparts : t.parts = s.parts) (htests : t.tests = s.tests)
    (huc : ∀ um, t.rd (UC_STATUS um) = s.rd (UC_STATUS um)) (hstart : t.rd SI_START = s.rd SI_START)
    (hdom : ∀ i < 102, t.rd (PD_DOM i) = s.rd (PD_DOM i)) (hstack : ∀ k, t.rd (HB_STATUS k) = s.rd (HB_STATUS k)) (r : HostReq) :
    t.requestReady r = s.requestReady r := by
  simp only [State.requestReady, State.linkUp, State.blockWaits, State.writesBefore, State.memOn, hlink, fld_of_rd (huc r.um),
    domOn_congr hfuses hdom, requestRefused_congr hparts hstart hstack, firstOff_congr hfuses hparts htests hdom hstack]

end Alike

/-- That an access to memory waits makes no request ready. -/
theorem requestReady_holdAccess (s : State) (who a : Nat) (x : Attr) (r : HostReq) : (s.holdAccess who a x).requestReady r = s.requestReady r := by
  have regs {b : Nat} (h : ∀ n, b ∉ holdRegs n) : (s.holdAccess who a x).rd b = s.rd b := rd_holdAccess_ne s who a x (h _)
  obtain ⟨_, _, _, hother⟩ := holdAccess_other s who a x
  refine requestReady_congr (by rw [hother]) (by rw [hother]) (by rw [hother]) (by rw [hother]) (fun um => regs fun n => ?_) (regs fun n => ?_)
    (fun i hi => regs fun n => ?_) (fun k => regs fun n => ?_) r
  all_goals
    simp only [holdRegs, UC_STATUS, SI_START, PD_DOM, HB_STATUS, HB_HELD, HB_ERR, HB_ERR_EVENTS, PD_HELD, PD_ERR, PD_ERR_EVENTS, List.mem_cons,
      List.not_mem_nil, or_false]
    omega

/-! ## The link's order (R243) -/

section Order
variable (s : State) (l : LinkSt) (r : HostReq)

@[simp] theorem linkUp_withLink (um : Nat) : (s.withLink l).linkUp um = s.linkUp um := (rfl)
@[simp] theorem hostIsReady_withLink : (s.withLink l).hostIsReady = s.hostIsReady := (rfl)

@[simp] theorem requestRefused_withLink : (s.withLink l).requestRefused r = s.requestRefused r := by
  simp only [State.requestRefused, hostIsReady_withLink, firstFailed_withLink, owns_withLink]

theorem seqBefore_self (a : Nat) : seqBefore a a = false := by
  have : (a + 2 ^ 32 - a % 2 ^ 32) % 2 ^ 32 = 0 := by omega
  rw [seqBefore, this]
  rfl

/-- A request that waits is not in its own way. -/
theorem requestReady_held : (s.withLink { s.link with held := s.link.held ++ [r] }).requestReady r = s.requestReady r := by
  simp only [State.requestReady, State.blockWaits, State.writesBefore, linkUp_withLink, requestRefused_withLink, memOn_withLink, withLink_link,
    List.any_append, List.any_cons, List.any_nil, seqBefore_self, Bool.and_false, Bool.or_false]

/-- Only a register write looks at the SEQ numbers that have arrived. -/
theorem requestReady_withLink (hheld : l.held = s.link.held) (hr : r.tag.isSome = true ∨ isRegSpace r.addr = false) :
    (s.withLink l).requestReady r = s.requestReady r := by
  simp only [State.requestReady, State.blockWaits, linkUp_withLink, requestRefused_withLink, memOn_withLink, withLink_link, hheld]
  rcases hr with h | h <;> simp only [h, Bool.true_or, Bool.false_eq_true, if_false]

theorem arrived_eq (seq : Nat) : s.arrived seq = s.withLink (s.arrived seq).link := by
  unfold State.arrived
  split <;> rfl

theorem arrived_held (seq : Nat) : (s.arrived seq).link.held = s.link.held := by
  unfold State.arrived
  split <;> rfl

/-- The SEQ awaited, when it arrives with none ahead, advances by one. -/
theorem arrived_seqNext {seq : Nat} (hseq : seq = s.link.seqNext) (hahead : s.link.ahead = []) :
    (s.arrived seq).link.seqNext = (seq + 1) % 2 ^ 32 := by
  unfold State.arrived
  rw [← hseq, seqBefore_self, if_neg Bool.false_ne_true, hahead]
  simp [seqAdvance]

/-! ## Serving -/

theorem linkDrain_of_held_nil (h : s.link.held = []) : s.linkDrain = s := by rw [State.linkDrain, if_pos h]

theorem linkDrain_of_waiting (h : s.link.held = [r]) (hr : s.requestReady r = false) : s.linkDrain = s := by
  rw [State.linkDrain, h, if_neg (List.cons_ne_nil r []), List.length_singleton, State.linkDrainFuel, h, List.find?_cons_of_neg (by rw [hr]; exact Bool.false_ne_true)]
  rfl

@[simp] theorem answerHost_withLink (b : List Byte) : (s.withLink l).answerHost r b = (s.answerHost r b).withLink l := by
  unfold State.answerHost
  cases r.tag <;> rfl

/-- The host's accesses are not latency-critical (09 R213). -/
theorem hbRead_host (a n : Nat) (ctx : Ctx) : s.hbRead a n (hostAttr ctx) = s.hbCount 0 a n (hostAttr ctx) := (rfl)

@[simp] theorem hostRead_withLink : (s.withLink l).hostRead r = (s.hostRead r).withLink l := by
  simp only [State.hostRead, hbRead_host, hbCount_withLink, firstBad_withLink, readBytes_withLink]
  cases s.firstBad r.addr r.len with
  | none => exact answerHost_withLink _ l r _
  | some u => simp only [ueMet_withLink, ucErr_withLink, answerHost_withLink]

@[simp] theorem hbWrite_host_withLink (a n : Nat) (ctx : Ctx) :
    (s.withLink l).hbWrite a n (hostAttr ctx) = (s.hbWrite a n (hostAttr ctx)).withLink l := by
  have hlc : (hostAttr ctx).lc = false := rfl
  simp only [State.hbWrite, hlc, Bool.false_eq_true, if_false, hbCount_withLink]
  exact withLink_foldl (fun s e => by simp only [hbCount_withLink]) _ _

@[simp] theorem writeExcept_withLink (a : Nat) (skip : List Nat) (b : List Byte) :
    (s.withLink l).writeExcept a skip b = (s.writeExcept a skip b).withLink l := by
  induction b generalizing s a with
  | nil => rfl
  | cons x t ih => simp only [State.writeExcept, inFailed_withLink, setByte_withLink, ite_withLink, ih]

@[simp] theorem partlyBad_withLink (a n : Nat) : (s.withLink l).partlyBad a n = s.partlyBad a n := (rfl)

@[simp] theorem store_withLink (a : Nat) (b : List Byte) (m : Master) : ((s.withLink l).store a b m).1 = (s.store a b m).1.withLink l := by
  simp only [State.store, partlyBad_withLink, writeExcept_withLink, cleanUnits_withLink]
  exact withLink_foldl (fun s u => ueMet_withLink s l 3 u m) _ _

/-- Serving a request that is no register write does not see the link's order. -/
theorem serveRequest_withLink (hr : r.tag.isSome = true ∨ isRegSpace r.addr = false) :
    (s.withLink l).serveRequest r = (s.serveRequest r).withLink l := by
  simp only [State.serveRequest, requestRefused_withLink, accessErrorOn_withLink, answerHost_withLink, readEffect_withLink, mmioValue_withLink,
    hostRead_withLink, hbWrite_host_withLink, store_withLink]
  rcases hr with h | h <;> simp only [h, if_true, Bool.false_eq_true, if_false, ite_withLink]

theorem arriveRequest_ready (hready : (s.arrived r.seq).requestReady r = true) :
    s.arriveRequest r = ((s.arrived r.seq).serveRequest r).linkDrain := by
  unfold State.arriveRequest
  dsimp only
  rw [if_pos hready]

/-- A request that is ready, and no register write, is served; its SEQ has arrived. -/
theorem arriveRequest_served (hheld : s.link.held = []) (hr : r.tag.isSome = true ∨ isRegSpace r.addr = false) (hready : s.requestReady r = true) :
    s.arriveRequest r = (s.serveRequest r).withLink (s.arrived r.seq).link := by
  have hlink : (s.arrived r.seq).link.held = [] := by rw [arrived_held, hheld]
  obtain ⟨l, hl⟩ : ∃ l, s.arrived r.seq = s.withLink l := ⟨_, arrived_eq s r.seq⟩
  rw [hl, withLink_link] at hlink
  rw [arriveRequest_ready s r (by rw [hl, requestReady_withLink s l r (by rw [hlink, hheld]) hr, hready]), hl, serveRequest_withLink s l r hr,
    withLink_link]
  exact linkDrain_of_held_nil _ hlink

/-! ## Waiting -/

theorem holdRequest_register (h : isRegSpace r.addr = true) : s.holdRequest r = s.withLink { s.link with held := s.link.held ++ [r] } := by
  unfold State.holdRequest
  rw [if_pos h]
  rfl

/-- What waits is the request, last in line; an access to memory that is not ON is counted. -/
theorem holdRequest_cases : ∃ u : State, u = s.withLink { s.link with held := s.link.held ++ [r] } ∧
    (s.holdRequest r = u ∨ ∃ a, s.holdRequest r = u.holdAccess (0x1000000 + r.seq) a (hostAttr r.ctx)) := by
  refine ⟨_, rfl, ?_⟩
  unfold State.holdRequest
  dsimp only
  split
  · exact Or.inl rfl
  · split
    · exact Or.inr ⟨_, rfl⟩
    · exact Or.inl rfl

theorem holdRequest_link : (s.holdRequest r).link = { s.link with held := s.link.held ++ [r] } := by
  obtain ⟨u, hu, h | ⟨a, h⟩⟩ := holdRequest_cases s r
  · rw [h, hu, withLink_link]
  · obtain ⟨_, _, _, hother⟩ := holdAccess_other u (0x1000000 + r.seq) a (hostAttr r.ctx)
    rw [h, hother, hu]
    rfl

theorem requestReady_holdRequest : (s.holdRequest r).requestReady r = s.requestReady r := by
  obtain ⟨u, hu, h | ⟨a, h⟩⟩ := holdRequest_cases s r
  · rw [h, hu, requestReady_held]
  · rw [h, requestReady_holdAccess, hu, requestReady_held]

/-- A request that is not ready as it arrives is held. -/
theorem arriveRequest_held (hheld : s.link.held = []) (hready : (s.arrived r.seq).requestReady r = false) :
    s.arriveRequest r = (s.arrived r.seq).holdRequest r ∧ (s.arriveRequest r).link.held = [r] := by
  have hlink : ((s.arrived r.seq).holdRequest r).link.held = [r] := by rw [holdRequest_link, arrived_held, hheld]; rfl
  have hdrain := linkDrain_of_waiting _ r hlink (by rw [requestReady_holdRequest, hready])
  have heq : s.arriveRequest r = (s.arrived r.seq).holdRequest r := by
    unfold State.arriveRequest
    dsimp only
    rw [hready, if_neg Bool.false_ne_true, hdrain]
  exact ⟨heq, by rw [heq, hlink]⟩

end Order

/-! ## What serving does -/

section Serve
variable (s : State) (r : HostReq)

theorem answerHost_out {g : Nat} (h : r.tag = some g) (b : List Byte) : (s.answerHost r b).out = s.out ++ [.cpl r.um g b] := by
  rw [State.answerHost, h]

@[simp] theorem answerHost_regs (b : List Byte) : (s.answerHost r b).regs = s.regs := by
  unfold State.answerHost
  cases r.tag <;> rfl

@[simp] theorem answerHost_mem (b : List Byte) : (s.answerHost r b).mem = s.mem := by
  unfold State.answerHost
  cases r.tag <;> rfl

theorem serveRequest_refused (h : s.requestRefused r = true) :
    s.serveRequest r = (s.accessErrorOn r.um r.ctx r.addr (if r.tag.isSome then 1 else 2)).answerHost r (zeros r.len) := by
  rw [State.serveRequest, if_pos h]

theorem serveRequest_registerRead (h : s.requestRefused r = false) (ha : isRegSpace r.addr = true) (hr : r.tag.isSome = true) :
    s.serveRequest r = (s.readEffect r.um r.ctx r.addr).answerHost r (leBytes 8 (s.mmioValue r.ctx r.addr)) := by
  rw [State.serveRequest, h, if_neg Bool.false_ne_true, if_pos ha, if_pos hr]

theorem serveRequest_registerWrite (h : s.requestRefused r = false) (ha : isRegSpace r.addr = true) (hr : r.tag.isSome = false) :
    s.serveRequest r = s.mmioWrite r.ctx r.addr (leNat r.data) := by
  rw [State.serveRequest, h, if_neg Bool.false_ne_true, if_pos ha, hr, if_neg Bool.false_ne_true]

theorem serveRequest_memoryRead (h : s.requestRefused r = false) (ha : isRegSpace r.addr = false) (hr : r.tag.isSome = true)
    (hbad : s.firstBad r.addr r.len = none) :
    s.serveRequest r = (s.hbRead r.addr r.len (hostAttr r.ctx)).answerHost r (s.readBytes r.addr r.len) := by
  rw [State.serveRequest, h, if_neg Bool.false_ne_true, ha, if_neg Bool.false_ne_true, if_pos hr, State.hostRead, hbad]

theorem serveRequest_memoryWrite (h : s.requestRefused r = false) (ha : isRegSpace r.addr = false) (hr : r.tag.isSome = false) :
    s.serveRequest r = ((s.hbWrite r.addr r.len (hostAttr r.ctx)).store r.addr r.data (hostMaster r.ctx)).1 := by
  rw [State.serveRequest, h, if_neg Bool.false_ne_true, ha, if_neg Bool.false_ne_true, hr, if_neg Bool.false_ne_true]

/-- A register access of another length than 8 is refused (R244). -/
theorem len_of_registerRequest (h : s.requestRefused r = false) (ha : isRegSpace r.addr = true) : r.len = 8 := by
  simp only [State.requestRefused, ha, if_true, Bool.or_eq_false_iff, bne_eq_false_iff_eq] at h
  exact h.2

end Serve

theorem leNat_lt (b : List Byte) : leNat b < 256 ^ b.length := by
  induction b with
  | nil => simp [leNat]
  | cons x t ih =>
    have hx := x.isLt
    rw [leNat, List.length_cons, Nat.pow_succ]
    omega

/-! ## A memory write -/

section Store
variable (s : State)

theorem inFailed_setByte (a c : Nat) (b : Byte) : (s.setByte a b).inFailed c = s.inFailed c := by
  obtain ⟨m, h⟩ := setByte_other s a b
  rw [h]
  rfl

/-- Where no unit is skipped and no byte lies in a FAILED stack, every byte is written. -/
theorem writeExcept_sound (a : Nat) (b : List Byte) (h : ∀ k < b.length, s.inFailed (a + k) = false) : s.writeExcept a [] b = s.writeBytes a b := by
  induction b generalizing s a with
  | nil => rfl
  | cons x t ih =>
    have h0 : s.inFailed a = false := h 0 (by simp)
    rw [State.writeExcept, State.writeBytes, h0]
    refine ih (s.setByte a x) (a + 1) (fun k hk => ?_)
    rw [inFailed_setByte, show a + 1 + k = a + (k + 1) by omega]
    exact h (k + 1) (by simpa using hk)

/-- An extent whose first failed address is none lies outside FAILED stacks (R212). -/
theorem inFailed_of_firstFailed {a n : Nat} (h : s.firstFailed a n = none) (k : Nat) (hk : k < n) : s.inFailed (a + k) = false := by
  unfold State.firstFailed at h
  rw [if_neg (by omega)] at h
  split at h
  · cases h
  · rename_i hfirst
    rw [List.findSome?_eq_none_iff] at h
    by_contra hbad
    simp only [State.inFailed, isHbm, Bool.not_eq_false, Bool.and_eq_true, decide_eq_true_eq, not_and, stackBytes] at hbad hfirst
    obtain ⟨hhbm, hfailed⟩ := hbad
    by_cases hsame : (a + k) / 0xC00000000 = a / 0xC00000000
    · rw [hsame] at hfailed
      exact hfirst (by omega) hfailed
    · have hmeets : (s.stackFailed ((a + k) / 0xC00000000) && decide (a ≤ (a + k) / 0xC00000000 * stackBytes) &&
          decide ((a + k) / 0xC00000000 * stackBytes < a + n)) = true := by
        rw [hfailed, Bool.true_and, Bool.and_eq_true]
        exact ⟨decide_eq_true (by rw [stackBytes]; omega), decide_eq_true (by rw [stackBytes]; omega)⟩
      have hstack := h ((a + k) / 0xC00000000) (List.mem_range.mpr (by omega))
      rw [if_pos hmeets] at hstack
      cases hstack

/-- The bytes written to plain memory read back. -/
theorem byte_writeBytes (a : Nat) (b : List Byte) (h : s.plain a b.length) (k : Nat) (hk : k < b.length) :
    (s.writeBytes a b).byte (a + k) = b.getD k 0 := by
  induction b generalizing s a k with
  | nil => cases hk
  | cons x t ih =>
    have hplain : (s.setByte a x).plain (a + 1) t.length := by
      intro j hj
      rw [resolve_setByte, tilePresent_setByte, show a + 1 + j = a + (j + 1) by omega]
      exact h (j + 1) (by simpa using hj)
    rw [State.writeBytes]
    cases k with
    | zero =>
      obtain ⟨hplace, hpresent⟩ := h 0 (by simp)
      rw [Nat.add_zero] at hplace hpresent
      change ((s.setByte a x).writeBytes (a + 1) t).byte a = x
      rw [writeBytes_byte_ne _ _ _ _ (fun j hj => ?_), byte_setByte_same s a x hpresent]
      rw [(hplain j hj).1, resolve_setByte, hplace]
      omega
    | succ k =>
      rw [show a + (k + 1) = a + 1 + k by omega, ih (s.setByte a x) (a + 1) hplain k (by simpa using hk)]
      rfl

/-- Other plain bytes stay. -/
theorem byte_writeBytes_outside (a c : Nat) (b : List Byte) (h : s.plain a b.length) (hc : s.plain c 1) (ho : c < a ∨ a + b.length ≤ c) :
    (s.writeBytes a b).byte c = s.byte c := by
  have hplace : s.resolve c = c := (hc 0 Nat.one_pos).1
  refine writeBytes_byte_ne s a c b (fun k hk => ?_)
  rw [(h k hk).1, hplace]
  omega

@[simp] theorem byte_cleanUnits (a n c : Nat) : (s.cleanUnits a n).byte c = s.byte c := (rfl)

/-- A checked write that meets no bad unit and no FAILED stack writes its bytes (R208). -/
theorem byte_store {a : Nat} {b : List Byte} (m : Master) (hbad : s.partlyBad a b.length = []) (hfailed : s.firstFailed a b.length = none) (c : Nat) :
    (s.store a b m).1.byte c = (s.writeBytes a b).byte c := by
  unfold State.store
  rw [hbad]
  dsimp only [List.foldl_nil]
  rw [byte_cleanUnits, writeExcept_sound s a b (fun k hk => inFailed_of_firstFailed s hfailed k hk)]

end Store

end Sys2Proof.Machine
end

section
/-! PROOFS. The adapter of a UCIe module (10 R250): replays, and the end of a retraining. -/
namespace Sys2Proof.Machine

/-! ## What the end of a training reports -/

theorem foldl_keeps_rd {α : Type} {f : State → α → State} {b : Nat} (xs : List α) (h : ∀ s : State, ∀ x ∈ xs, (f s x).rd b = s.rd b) (s : State) :
    (xs.foldl f s).rd b = s.rd b := by
  induction xs generalizing s with
  | nil => rfl
  | cons x xs ih => rw [List.foldl_cons, ih (fun s y hy => h s y (List.mem_cons_of_mem x hy)), h s x List.mem_cons_self]

section
variable (s : State)

/-- A UCIe module's status and error registers (R249). -/
def moduleRegs (um : Nat) : List Nat := [UC_STATUS um, UC_ERR um]

/-- They are none of the vectors'. -/
theorem module_ne_msi {um b : Nat} (hb : b ∈ moduleRegs um) : b ≠ UC_MSI_SENT 0 ∧ ∀ v < 2048, b ≠ UC_MSI_DATA 0 v := by
  simp only [moduleRegs, List.mem_cons, List.not_mem_nil, or_false, UC_STATUS, UC_ERR] at hb
  simp only [UC_MSI_SENT, UC_MSI_DATA]
  constructor
  · omega
  · intro v hv
    omega

theorem module_notMem_eventRegs {um b : Nat} (hum : um < 2) (hb : b ∈ moduleRegs um) (d n : Nat) : b ∉ eventRegs d n := by
  simp only [moduleRegs, List.mem_cons, List.not_mem_nil, or_false, UC_STATUS, UC_ERR] at hb
  exact uc_notMem_eventRegs d (by omega) (by omega) n

theorem rd_linkNews_ne {b : Nat} (um before : Nat) (h : ∀ n, b ∉ eventRegs 0 n) : (s.linkNews um before).rd b = s.rd b := by
  unfold State.linkNews
  split
  · rfl
  · exact rd_postEvent_ne s _ _ _ _ _ h

theorem rd_sendPending_ne {b : Nat} (hsent : b ≠ UC_MSI_SENT 0) (hdata : ∀ v < 2048, b ≠ UC_MSI_DATA 0 v) : s.sendPending.rd b = s.rd b := by
  refine foldl_keeps_rd _ (fun s v hv => ?_) s
  split
  · rw [rd_sendMsi_ne _ _ hsent, rd_setFld_ne _ _ _ (hdata v (List.mem_range.mp hv))]
  · rfl

@[simp] theorem sendPending_withLink (l : LinkSt) : (s.withLink l).sendPending = s.sendPending.withLink l :=
  withLink_foldl (fun s v => by simp only [flag_withLink, setFld_withLink, sendMsi_withLink, ite_withLink]) _ s

theorem rd_withWelkin (b : Nat) (w : WelkinSt) : (s.setWk w).rd b = s.rd b := (rfl)
theorem rd_withOut (b : Nat) (o : List Output) : ({ s with out := o } : State).rd b = s.rd b := (rfl)
@[simp] theorem setWk_withLink (l : LinkSt) (w : WelkinSt) : (s.withLink l).setWk w = (s.setWk w).withLink l := (rfl)
@[simp] theorem linkActive_withLink (l : LinkSt) : (s.withLink l).linkActive = s.linkActive := (rfl)

theorem rd_answer_ne {b : Nat} (i3c : Bool) (seq code result : Nat) (d : List Byte) (hsent : b ≠ UC_MSI_SENT 0) (hdata : ∀ v < 2048, b ≠ UC_MSI_DATA 0 v) :
    (s.answer i3c seq code result d).rd b = s.rd b := by
  unfold State.answer State.respond State.inBand State.mailFrame
  simp only [apply_ite (State.rd · b), rd_fireVector_ne _ 1 (hdata 1 (by omega)) hsent, rd_withOut, rd_withWelkin, ite_self]

@[simp] theorem inBand_withLink (l : LinkSt) : (s.withLink l).inBand = s.inBand.withLink l := (rfl)

@[simp] theorem mailFrame_withLink (l : LinkSt) (b : List Byte) : (s.withLink l).mailFrame b = (s.mailFrame b).withLink l := by
  simp only [State.mailFrame, out_withLink, withLink_out, linkActive_withLink, fireVector_withLink, ite_withLink]

@[simp] theorem answer_withLink (l : LinkSt) (i3c : Bool) (seq code result : Nat) (d : List Byte) :
    (s.withLink l).answer i3c seq code result d = (s.answer i3c seq code result d).withLink l := by
  simp only [State.answer, State.respond, welkin_withLink, setWk_withLink, fld_withLink, inBand_withLink, mailFrame_withLink, ite_withLink]

theorem rd_retrainEnded_ne {b : Nat} (m : Nat) (hsent : b ≠ UC_MSI_SENT 0) (hdata : ∀ v < 2048, b ≠ UC_MSI_DATA 0 v) :
    (s.retrainEnded m).rd b = s.rd b := by
  unfold State.retrainEnded
  cases s.welkin.retrain with
  | none => rfl
  | some w =>
    dsimp only
    rw [apply_ite (State.rd · b), rd_answer_ne _ _ _ _ _ _ hsent hdata, rd_withWelkin, rd_withWelkin, ite_self]

@[simp] theorem retrainEnded_withLink (l : LinkSt) (m : Nat) : (s.withLink l).retrainEnded m = (s.retrainEnded m).withLink l := by
  simp only [State.retrainEnded, welkin_withLink]
  cases s.welkin.retrain with
  | none => rfl
  | some w => simp only [setWk_withLink, answer_withLink, ite_withLink]

/-! ## The training -/

@[simp] theorem satFld_withLink (l : LinkSt) (a : Nat) (f : Fld) (k : Nat) : (s.withLink l).satFld a f k = (s.satFld a f k).withLink l := (rfl)

@[simp] theorem ucRetrain_withLink (l : LinkSt) (m : Nat) : (s.withLink l).ucRetrain m = (s.ucRetrain m).withLink l := by
  simp only [State.ucRetrain, rd_withLink, setFld_withLink, satFld_withLink, linkNews_withLink]

@[simp] theorem ucTrained_withLink (l : LinkSt) (m : Nat) (o : UcieTraining) : (s.withLink l).ucTrained m o = (s.ucTrained m o).withLink l := by
  cases o with
  | failed => simp only [State.ucTrained, setLink_withLink, ucErr_withLink]
  | trained x64 rate n => simp only [State.ucTrained, rd_withLink, setFld_withLink, linkNews_withLink]

theorem ucRetrain_link (m : Nat) : (s.ucRetrain m).link = s.link := link_of_withLink (f := (State.ucRetrain · m)) (fun s l => ucRetrain_withLink s l m) s

theorem ucTrained_link (m : Nat) (o : UcieTraining) : (s.ucTrained m o).link = s.link :=
  link_of_withLink (f := (State.ucTrained · m o)) (fun s l => ucTrained_withLink s l m o) s

theorem sendPending_link : s.sendPending.link = s.link := link_of_withLink (f := State.sendPending) sendPending_withLink s

theorem retrainEnded_link (m : Nat) : (s.retrainEnded m).link = s.link :=
  link_of_withLink (f := (State.retrainEnded · m)) (fun s l => retrainEnded_withLink s l m) s

/-- A training that succeeds leaves the module's width, rate and state in UC_STATUS (R241, R249). -/
theorem ucTrained_status (um : Nat) (hum : um < 2) (x64 : Bool) (rate : Fin 3) (n : Fin 256) :
    (s.ucTrained um (.trained x64 rate n)).fld (UC_STATUS um) UC_STATUS_STATE = (if x64 && rate.val == 0 then 2 else 3) ∧
    (s.ucTrained um (.trained x64 rate n)).fld (UC_STATUS um) UC_STATUS_WIDTH = (if x64 then 64 else 32) ∧
    (s.ucTrained um (.trained x64 rate n)).fld (UC_STATUS um) UC_STATUS_RATE = 32 - 8 * rate.val := by
  have hnews : ∀ k, UC_STATUS um ∉ eventRegs 0 k := module_notMem_eventRegs hum List.mem_cons_self 0
  have okState : UC_STATUS_STATE.ok := by unfold Fld.ok; decide
  have okWidth : UC_STATUS_WIDTH.ok := by unfold Fld.ok; decide
  have okRate : UC_STATUS_RATE.ok := by unfold Fld.ok; decide
  have okRepaired : UC_STATUS_REPAIRED.ok := by unfold Fld.ok; decide
  unfold State.ucTrained
  dsimp only
  refine ⟨?_, ?_, ?_⟩
  · rw [fld_of_rd (rd_linkNews_ne _ _ _ hnews), fld_setFld_same _ _ _ _ okState]
    split <;> rfl
  · rw [fld_of_rd (rd_linkNews_ne _ _ _ hnews), fld_setFld_other _ _ _ _ _ okState (by decide), fld_setFld_other _ _ _ _ _ okRepaired (by decide),
      fld_setFld_other _ _ _ _ _ okRate (by decide), fld_setFld_same _ _ _ _ okWidth]
    split <;> rfl
  · rw [fld_of_rd (rd_linkNews_ne _ _ _ hnews), fld_setFld_other _ _ _ _ _ okState (by decide), fld_setFld_other _ _ _ _ _ okRepaired (by decide),
      fld_setFld_same _ _ _ _ okRate]
    exact Nat.mod_eq_of_lt (by simp only [UC_STATUS_RATE]; omega)

/-- A training that fails leaves the module DOWN. -/
theorem ucTrained_failed (um : Nat) (hum : um < 2) :
    (s.ucTrained um .failed).fld (UC_STATUS um) UC_STATUS_STATE = 0 ∧ (s.ucTrained um .failed).flag (UC_ERR um) UC_ERR_LINK_DOWN = true := by
  have hnews : ∀ k, UC_STATUS um ∉ eventRegs 0 k := module_notMem_eventRegs hum List.mem_cons_self 0
  have herr : UC_STATUS um ∉ [UC_ERR um, UC_ERR_EVENTS um, UC_MSI_DATA 0 0, UC_MSI_SENT 0] := by
    simp only [UC_STATUS, UC_ERR, UC_ERR_EVENTS, UC_MSI_DATA, UC_MSI_SENT, List.mem_cons, List.not_mem_nil, or_false]
    omega
  constructor
  · rw [State.ucTrained, fld_of_rd (rd_ucErr_ne _ _ _ herr), State.setLink, fld_of_rd (rd_linkNews_ne _ _ _ hnews), fld_setFld_same _ _ _ _ (by unfold Fld.ok; decide)]
    rfl
  · exact flag_ucErr _ um _ (by unfold Fld.ok; decide)

/-! ## The end of a retraining -/

theorem retrained_failed (um : Nat) (hheld : s.link.held = []) : s.retrained um .failed = (s.ucTrained um .failed).retrainEnded um := by
  have hdrain : ((s.ucTrained um .failed).retrainEnded um).link.held = [] := by rw [retrainEnded_link, ucTrained_link, hheld]
  have hfailed : (UcieTraining.failed == UcieTraining.failed) = true := by decide
  simp only [State.retrained, hfailed, if_true, Bool.true_or]
  exact linkDrain_of_held_nil _ hdrain

theorem retrained_trained (um : Nat) (x64 : Bool) (rate : Fin 3) (n : Fin 256) (hheld : s.link.held = []) :
    s.retrained um (.trained x64 rate n) = ((if um != 0 then (s.ucTrained um (.trained x64 rate n)).ucErr um UC_ERR_RETRAIN
      else ((s.ucTrained um (.trained x64 rate n)).ucErr um UC_ERR_RETRAIN).sendPending).retrainEnded um) := by
  have hdrain : ((if um != 0 then (s.ucTrained um (.trained x64 rate n)).ucErr um UC_ERR_RETRAIN
      else ((s.ucTrained um (.trained x64 rate n)).ucErr um UC_ERR_RETRAIN).sendPending).retrainEnded um).link.held = [] := by
    rw [retrainEnded_link, apply_ite State.link, sendPending_link, ite_self, ucErr_link, ucTrained_link, hheld]
  have hfailed : (UcieTraining.trained x64 rate n == UcieTraining.failed) = false := beq_eq_false_iff_ne.mpr (by simp)
  simp only [State.retrained, hfailed, Bool.false_or, Bool.false_eq_true, if_false]
  exact linkDrain_of_held_nil _ hdrain

/-- The module's own registers keep what the training left in them while pending vectors are sent and LINK_RETRAIN is answered. -/
theorem rd_afterTraining {b : Nat} (um : Nat) (hb : b ∈ moduleRegs um) :
    ((if um != 0 then s else s.sendPending).retrainEnded um).rd b = s.rd b := by
  obtain ⟨hsent, hdata⟩ := module_ne_msi hb
  rw [rd_retrainEnded_ne _ _ hsent hdata, apply_ite (State.rd · b), rd_sendPending_ne _ hsent hdata, ite_self]

end

end Sys2Proof.Machine
end

section
/-! PROOFS. Register accesses and the host's requests, row by row, and the statement on them. -/
namespace Sys2Proof.Machine

theorem gives_of_exec {i : Instr} {s s' : State} {P : State → Prop} (h : exec i s = .next s') (hP : P s') : Gives i s P := ⟨s', h, hP⟩

section
variable (s : State) (ctx : Ctx)

/-! ## REGISTER_WRITE, READ_CLEARS and ZN_NOW -/

theorem exec_registerWrite (a : Nat) (v : Word) : exec (.registerWrite ctx a v) s = .next (s.mmioWrite ctx a v.toNat) := rfl

/-- A granted write of an Anvil unit's register changes its fields by their access codes, and nothing else. -/
theorem anvilWrite_gives {a u o : Nat} (v : Word) {r : RegRow} (ha : a % 8 = 0) (hb : blockOf a = some (.av, u, o)) (hu : s.anvilPresent u = true)
    (hr : rowOf a = some r) (hctx : ctxGlobal ctx = true) :
    Gives (.registerWrite ctx a v) s (fun s' => s'.mem = s.mem ∧ (∀ b, b ≠ a → s'.rd b = s.rd b) ∧
      ∀ f ∈ r.fields, s'.fld a f.1 = fieldWritten f.2 (s.fld a f.1) (bits v.toNat f.1.hi f.1.lo)) := by
  have hapart : fieldsApart r.fields := fieldsApart_of_rowsAv r (mem_blockRows_of_rowOf hb hr)
  refine gives_of_exec (s' := s.putReg a v.toNat false) ?_ ⟨?_, ?_, fun f hf => fld_putReg_unlocked s v.toNat hr hapart f hf⟩
  · rw [exec_registerWrite, mmioWrite_anvil s ctx _ ha hb hu, if_pos hctx]
  · rw [putReg_unlocked s _ hr, wr_mem]
  · intro b hne
    rw [putReg_unlocked s _ hr, rd_wr_ne s _ hne]

/-- An accepted read sends the value out; it changes at most its own register, and that only where it has a read-clear field. -/
theorem readClears_gives {a : Nat} (h : s.readRefused ctx a = false) (ha : a ≠ ZN_NOW) :
    Gives (.readClears ctx a) s (fun s' => s'.out = s.out ++ [.read ctx a (s.mmioValue ctx a)] ∧ s'.mem = s.mem ∧ (∀ b, b ≠ a → s'.rd b = s.rd b) ∧
      (∀ r : RegRow, rowOf a = some r → r.hasAcc .rc = false → s'.rd a = s.rd a)) := by
  refine gives_of_exec (s' := s.readOut ctx a) rfl ?_
  rw [readOut_out, readOut_mem]
  simp only [readOut_rd]
  obtain heq | ⟨r, v, hrow, hrc, heq⟩ := readEffect_cases s 0 ctx h ha
  · rw [heq]
    exact ⟨rfl, rfl, fun _ _ => rfl, fun _ _ _ => rfl⟩
  · rw [heq]
    refine ⟨by rw [wr_out], wr_mem s a v, fun b hne => rd_wr_ne s v hne, fun r' hrow' hno => ?_⟩
    rw [hrow, Option.some.injEq] at hrow'
    rw [← hrow', hrc] at hno
    cases hno

theorem znNow_gives (h : s.readRefused ctx ZN_NOW = false) (hzt : s.zt < 2 ^ 64) (hacc : s.zenith.acc < 1000000000) :
    Gives (.znNow ctx) s (fun s' => s'.out = s.out ++ [.read ctx ZN_NOW s.zt] ∧
      s'.fld ZN_FRAC ZN_FRAC_FRAC = s.zenith.acc * 256 / 1000000000 ∧ s'.mem = s.mem) := by
  have hfrac : (s.readOut ctx ZN_NOW).rd ZN_FRAC = (s.setFld ZN_FRAC ZN_FRAC_FRAC (s.zenith.acc * 256 / 1000000000)).rd ZN_FRAC := by
    rw [readOut_rd, readEffect_znNow s 0 ctx h]
  refine gives_of_exec (s' := s.readOut ctx ZN_NOW) rfl ⟨?_, ?_, ?_⟩
  · rw [readOut_out, readEffect_znNow s 0 ctx h, mmioValue_znNow s ctx h hzt]
    rfl
  · rw [fld_of_rd hfrac, fld_setFld_same _ _ _ _ (by unfold Fld.ok; decide)]
    exact Nat.mod_eq_of_lt (by simp only [ZN_FRAC_FRAC]; omega)
  · rw [readOut_mem, readEffect_znNow s 0 ctx h, setFld_mem]

/-! ## Requests -/

variable (um : Fin 2) (tag : Fin 1024) (len8 : Fin 32) (addr : Nat) (data : List Byte) (seq : BitVec 32)

/-- The requests that the two rows make (R242). -/
def readRequest (um : Fin 2) (ctx : Ctx) (tag : Fin 1024) (addr : Nat) (len8 : Fin 32) (seq : BitVec 32) : HostReq :=
  ⟨um, ctx, addr, seq.toNat, some tag, 8 * (len8 + 1), []⟩
def writeRequest (um : Fin 2) (ctx : Ctx) (addr : Nat) (data : List Byte) (seq : BitVec 32) : HostReq :=
  ⟨um, ctx, addr, seq.toNat, none, data.length, data⟩

theorem exec_mrd : exec (.mrd um ctx tag addr len8 seq) s =
    .next (if s.linkUp um ∧ um.val = linkModule addr then s.arriveRequest (readRequest um ctx tag addr len8 seq) else s) := rfl

theorem exec_mwr : exec (.mwr um ctx addr data seq) s =
    .next (if s.linkUp um ∧ um.val = linkModule addr then s.arriveRequest (writeRequest um ctx addr data seq) else s) := rfl

/-- A module that is not up, or does not carry the address, carries nothing. -/
theorem request_ignored (h : s.linkUp um = false ∨ um.val ≠ linkModule addr) :
    exec (.mrd um ctx tag addr len8 seq) s = .next s ∧ exec (.mwr um ctx addr data seq) s = .next s := by
  have hno : ¬(s.linkUp um = true ∧ um.val = linkModule addr) := fun ⟨hup, hmod⟩ =>
    h.elim (fun hdown => by rw [hdown] at hup; cases hup) (fun hother => hother hmod)
  rw [exec_mrd, exec_mwr, if_neg hno, if_neg hno]
  exact ⟨rfl, rfl⟩

section Carried
variable (hup : s.linkUp um = true) (hmod : um.val = linkModule addr)
include hup hmod

/-- A register write that is ready does what REGISTER_WRITE does. -/
theorem mwr_register (hready : (s.arrived seq.toNat).requestReady (writeRequest um ctx addr data seq) = true)
    (href : s.requestRefused (writeRequest um ctx addr data seq) = false) (haddr : isRegSpace addr = true) :
    ∃ u : State, exec (.registerWrite ctx addr (BitVec.ofNat 64 (leNat data))) (s.arrived seq.toNat) = .next u ∧
      exec (.mwr um ctx addr data seq) s = .next u.linkDrain := by
  have hlen : data.length = 8 := len_of_registerRequest s _ href haddr
  have hvalue : (BitVec.ofNat 64 (leNat data)).toNat = leNat data := by
    have hlt := leNat_lt data
    rw [hlen] at hlt
    rw [BitVec.toNat_ofNat, Nat.mod_eq_of_lt (by omega)]
  have hrefused : (s.arrived seq.toNat).requestRefused (writeRequest um ctx addr data seq) = false := by
    rw [arrived_eq, requestRefused_withLink, href]
  have hserved : (s.arrived seq.toNat).serveRequest (writeRequest um ctx addr data seq) = (s.arrived seq.toNat).mmioWrite ctx addr (leNat data) :=
    serveRequest_registerWrite _ _ hrefused haddr rfl
  have harrive : s.arriveRequest (writeRequest um ctx addr data seq) =
      ((s.arrived seq.toNat).serveRequest (writeRequest um ctx addr data seq)).linkDrain := arriveRequest_ready s _ hready
  refine ⟨_, exec_registerWrite _ _ _ _, ?_⟩
  rw [hvalue, exec_mwr, if_pos ⟨hup, hmod⟩, harrive, hserved]

variable (hheld : s.link.held = [])
include hheld

/-! ## MRD -/

theorem mrd_served (hready : s.requestReady (readRequest um ctx tag addr len8 seq) = true) :
    exec (.mrd um ctx tag addr len8 seq) s =
      .next ((s.serveRequest (readRequest um ctx tag addr len8 seq)).withLink (s.arrived seq.toNat).link) := by
  rw [exec_mrd, if_pos ⟨hup, hmod⟩, arriveRequest_served s _ hheld (Or.inl rfl) hready]
  rfl

/-- A refused read answers zeros and counts an access error (R245). -/
theorem mrd_refused (hready : s.requestReady (readRequest um ctx tag addr len8 seq) = true)
    (href : s.requestRefused (readRequest um ctx tag addr len8 seq) = true) :
    Gives (.mrd um ctx tag addr len8 seq) s (fun s' => (∃ l : List Output, s'.out = l ++ [.cpl um tag (zeros (8 * (len8 + 1)))]) ∧
      s'.fld (UC_ACCESS um) UC_ACCESS_COUNT = (s.fld (UC_ACCESS um) UC_ACCESS_COUNT + 1) % 2 ^ 32) := by
  refine gives_of_exec (mrd_served s ctx um tag len8 addr seq hup hmod hheld hready) ?_
  rw [serveRequest_refused s _ href, out_withLink, answerHost_out _ _ rfl, fld_withLink, fld_of_rd (rd_of_regs (answerHost_regs _ _ _) _)]
  exact ⟨⟨_, rfl⟩, accessErrorOn_count s um ctx addr _ um.isLt⟩

/-- A register read answers its value. -/
theorem mrd_register (hready : s.requestReady (readRequest um ctx tag addr len8 seq) = true)
    (href : s.requestRefused (readRequest um ctx tag addr len8 seq) = false) (haddr : isRegSpace addr = true) :
    Gives (.mrd um ctx tag addr len8 seq) s (fun s' =>
      s'.out = (s.readEffect um ctx addr).out ++ [.cpl um tag (leBytes 8 (s.mmioValue ctx addr))] ∧ s'.regs = (s.readEffect um ctx addr).regs) := by
  refine gives_of_exec (mrd_served s ctx um tag len8 addr seq hup hmod hheld hready) ?_
  rw [serveRequest_registerRead s _ href haddr rfl, out_withLink, answerHost_out _ _ rfl, regs_withLink, answerHost_regs]
  exact ⟨rfl, rfl⟩

/-- A memory read answers the bytes. -/
theorem mrd_memory (hready : s.requestReady (readRequest um ctx tag addr len8 seq) = true)
    (href : s.requestRefused (readRequest um ctx tag addr len8 seq) = false) (haddr : isRegSpace addr = false)
    (hbad : s.firstBad addr (8 * (len8 + 1)) = none) :
    Gives (.mrd um ctx tag addr len8 seq) s (fun s' =>
      s'.out = (s.hbRead addr (8 * (len8 + 1)) (hostAttr ctx)).out ++ [.cpl um tag (s.readBytes addr (8 * (len8 + 1)))] ∧
      s'.mem = (s.hbRead addr (8 * (len8 + 1)) (hostAttr ctx)).mem ∧
      (seq.toNat = s.link.seqNext → s.link.ahead = [] → s'.link.seqNext = (seq.toNat + 1) % 2 ^ 32)) := by
  refine gives_of_exec (mrd_served s ctx um tag len8 addr seq hup hmod hheld hready) ?_
  rw [serveRequest_memoryRead s _ href haddr rfl hbad, out_withLink, answerHost_out _ _ rfl, mem_withLink, answerHost_mem, withLink_link]
  exact ⟨rfl, rfl, arrived_seqNext s⟩

/-- One that is not ready is held. -/
theorem mrd_held (hready : s.requestReady (readRequest um ctx tag addr len8 seq) = false) :
    Gives (.mrd um ctx tag addr len8 seq) s (fun s' => s'.link.held = [readRequest um ctx tag addr len8 seq]) := by
  have harrived : (s.arrived seq.toNat).requestReady (readRequest um ctx tag addr len8 seq) = false := by
    rw [arrived_eq, requestReady_withLink _ _ _ (arrived_held s _) (Or.inl rfl), hready]
  obtain ⟨_, hlink⟩ := arriveRequest_held s (readRequest um ctx tag addr len8 seq) hheld harrived
  exact gives_of_exec (by rw [exec_mrd, if_pos ⟨hup, hmod⟩]) hlink

/-! ## MWR -/

/-- A memory write stores exactly its bytes. -/
theorem mwr_memory {s1 : State} (hs1 : s1 = s.hbWrite addr data.length (hostAttr ctx))
    (hready : s.requestReady (writeRequest um ctx addr data seq) = true) (href : s.requestRefused (writeRequest um ctx addr data seq) = false)
    (haddr : isRegSpace addr = false) (hbad : s1.partlyBad addr data.length = []) (hfailed : s1.firstFailed addr data.length = none)
    (hplain : s1.plain addr data.length) :
    Gives (.mwr um ctx addr data seq) s (fun s' => (∀ k < data.length, s'.byte (addr + k) = data.getD k 0) ∧
      (∀ a, s1.plain a 1 → (a < addr ∨ addr + data.length ≤ a) → s'.byte a = s1.byte a) ∧
      (seq.toNat = s.link.seqNext → s.link.ahead = [] → s'.link.seqNext = (seq.toNat + 1) % 2 ^ 32)) := by
  have hserved : s.serveRequest (writeRequest um ctx addr data seq) = (s1.store addr data (hostMaster ctx)).1 := by
    rw [hs1]
    exact serveRequest_memoryWrite s _ href haddr rfl
  have hbyte (a : Nat) : (s1.store addr data (hostMaster ctx)).1.byte a = (s1.writeBytes addr data).byte a := byte_store s1 _ hbad hfailed a
  have hexec : exec (.mwr um ctx addr data seq) s =
      .next ((s1.store addr data (hostMaster ctx)).1.withLink (s.arrived seq.toNat).link) := by
    rw [exec_mwr, if_pos ⟨hup, hmod⟩, arriveRequest_served s _ hheld (Or.inr haddr) hready, hserved]
    rfl
  refine gives_of_exec hexec ?_
  simp only [byte_withLink, hbyte, withLink_link]
  exact ⟨byte_writeBytes s1 addr data hplain, fun a ha ho => byte_writeBytes_outside s1 addr a data hplain ha ho, arrived_seqNext s⟩

/-- One that is not ready is held and changes nothing else. -/
theorem mwr_held (hready : (s.arrived seq.toNat).requestReady (writeRequest um ctx addr data seq) = false) (haddr : isRegSpace addr = true) :
    Gives (.mwr um ctx addr data seq) s (fun s' => s'.link.held = [writeRequest um ctx addr data seq] ∧ s'.mem = s.mem ∧ s'.regs = s.regs ∧
      s'.out = s.out) := by
  obtain ⟨heq, hlink⟩ := arriveRequest_held s (writeRequest um ctx addr data seq) hheld hready
  refine gives_of_exec (by rw [exec_mwr, if_pos ⟨hup, hmod⟩]) ⟨hlink, ?_⟩
  rw [heq, holdRequest_register _ _ haddr, mem_withLink, regs_withLink, out_withLink, arrived_eq, mem_withLink, regs_withLink, out_withLink]
  exact ⟨rfl, rfl, rfl⟩

end Carried

/-! ## UCIE_REPLAY and UCIE_RETRAIN -/

theorem ucieReplay_gives (flits : Nat) (hup : s.linkUp um = true) :
    Gives (.ucieReplay um flits) s (fun s' =>
      s'.fld (UC_REPLAYS um) UC_REPLAYS_CRC_ERRORS = (s.fld (UC_REPLAYS um) UC_REPLAYS_CRC_ERRORS + 1) % 2 ^ 32 ∧
      s'.fld (UC_REPLAYS um) UC_REPLAYS_REPLAYS = (s.fld (UC_REPLAYS um) UC_REPLAYS_REPLAYS + flits) % 2 ^ 32 ∧
      s'.flag (UC_ERR um) UC_ERR_REPLAY = true ∧ s'.mem = s.mem) := by
  have okCrc : UC_REPLAYS_CRC_ERRORS.ok := by unfold Fld.ok; decide
  have okReplays : UC_REPLAYS_REPLAYS.ok := by unfold Fld.ok; decide
  have herr : UC_REPLAYS um ∉ [UC_ERR um, UC_ERR_EVENTS um, UC_MSI_DATA 0 0, UC_MSI_SENT 0] := by
    simp only [UC_REPLAYS, UC_ERR, UC_ERR_EVENTS, UC_MSI_DATA, UC_MSI_SENT, List.mem_cons, List.not_mem_nil, or_false]
    omega
  have hexec : exec (.ucieReplay um flits) s = .next (((s.addFld (UC_REPLAYS um) UC_REPLAYS_CRC_ERRORS 1).addFld (UC_REPLAYS um) UC_REPLAYS_REPLAYS
      flits).ucErr um UC_ERR_REPLAY) := congrArg Host.Outcome.next (if_pos hup)
  refine gives_of_exec hexec ⟨?_, ?_, flag_ucErr _ um _ (by unfold Fld.ok; decide), ?_⟩
  · rw [fld_of_rd (rd_ucErr_ne _ _ _ herr), fld_addFld_other _ _ _ _ _ okReplays (by decide), fld_addFld_same _ _ _ _ okCrc]
    rfl
  · rw [fld_of_rd (rd_ucErr_ne _ _ _ herr), fld_addFld_same _ _ _ _ okReplays, fld_addFld_other _ _ _ _ _ okCrc (by decide)]
    rfl
  · rw [ucErr_mem, addFld_mem, addFld_mem]

/-- A retraining ends from the state that asked for it, or from the one that it enters first. -/
theorem exec_ucieRetrain (o : UcieTraining) (hdom : s.domOn (82 + um) = true)
    (hst : s.fld (UC_STATUS um) UC_STATUS_STATE = 2 ∨ s.fld (UC_STATUS um) UC_STATUS_STATE = 3 ∨ s.fld (UC_STATUS um) UC_STATUS_STATE = 4) :
    ∃ t : State, t.link = s.link ∧ exec (.ucieRetrain um o) s = .next (t.retrained um o) := by
  change ∃ t : State, t.link = s.link ∧ execUcieRetrain um o s = .next (t.retrained um o)
  unfold execUcieRetrain
  dsimp only
  rw [hdom, if_neg (by decide)]
  rcases hst with h | h | h
  · exact ⟨s.ucRetrain um, ucRetrain_link s um, by rw [h, if_neg (by decide), if_pos (by decide)]⟩
  · exact ⟨s.ucRetrain um, ucRetrain_link s um, by rw [h, if_neg (by decide), if_pos (by decide)]⟩
  · exact ⟨s, rfl, by rw [if_pos h]⟩

section Retrained
variable (hdom : s.domOn (82 + um) = true) (hheld : s.link.held = [])
  (hst : s.fld (UC_STATUS um) UC_STATUS_STATE = 2 ∨ s.fld (UC_STATUS um) UC_STATUS_STATE = 3 ∨ s.fld (UC_STATUS um) UC_STATUS_STATE = 4)
include hdom hheld hst

theorem ucieRetrain_trained (x64 : Bool) (rate : Fin 3) (n : Fin 256) :
    Gives (.ucieRetrain um (.trained x64 rate n)) s (fun s' =>
      s'.fld (UC_STATUS um) UC_STATUS_STATE = (if x64 && rate.val == 0 then 2 else 3) ∧
      s'.fld (UC_STATUS um) UC_STATUS_WIDTH = (if x64 then 64 else 32) ∧ s'.fld (UC_STATUS um) UC_STATUS_RATE = 32 - 8 * rate.val ∧
      s'.flag (UC_ERR um) UC_ERR_RETRAIN = true) := by
  obtain ⟨t, hlink, hexec⟩ := exec_ucieRetrain s um (.trained x64 rate n) hdom hst
  have herr : UC_STATUS um ∉ [UC_ERR um, UC_ERR_EVENTS um, UC_MSI_DATA 0 0, UC_MSI_SENT 0] := by
    simp only [UC_STATUS, UC_ERR, UC_ERR_EVENTS, UC_MSI_DATA, UC_MSI_SENT, List.mem_cons, List.not_mem_nil, or_false]
    omega
  obtain ⟨hstate, hwidth, hrate⟩ := ucTrained_status t um um.isLt x64 rate n
  refine gives_of_exec hexec ?_
  rw [retrained_trained t um x64 rate n (by rw [hlink, hheld])]
  have hstatus (f : Fld) := fld_of_rd (rd_afterTraining ((t.ucTrained um (.trained x64 rate n)).ucErr um UC_ERR_RETRAIN) um
    (b := UC_STATUS um) List.mem_cons_self) f
  have herrors (f : Fld) := fld_of_rd (rd_afterTraining ((t.ucTrained um (.trained x64 rate n)).ucErr um UC_ERR_RETRAIN) um
    (b := UC_ERR um) (List.mem_cons_of_mem _ List.mem_cons_self)) f
  rw [hstatus, hstatus, hstatus, fld_of_rd (rd_ucErr_ne _ _ _ herr), fld_of_rd (rd_ucErr_ne _ _ _ herr), fld_of_rd (rd_ucErr_ne _ _ _ herr),
    State.flag, herrors]
  exact ⟨hstate, hwidth, hrate, flag_ucErr _ um _ (by unfold Fld.ok; decide)⟩

theorem ucieRetrain_failed :
    Gives (.ucieRetrain um .failed) s (fun s' => s'.fld (UC_STATUS um) UC_STATUS_STATE = 0 ∧ s'.flag (UC_ERR um) UC_ERR_LINK_DOWN = true) := by
  obtain ⟨t, hlink, hexec⟩ := exec_ucieRetrain s um .failed hdom hst
  obtain ⟨hstate, hflag⟩ := ucTrained_failed t um um.isLt
  have keep {b : Nat} (hb : b ∈ moduleRegs um) : ((t.ucTrained um .failed).retrainEnded um).rd b = (t.ucTrained um .failed).rd b :=
    have ⟨hsent, hdata⟩ := module_ne_msi hb
    rd_retrainEnded_ne _ _ hsent hdata
  refine gives_of_exec hexec ?_
  rw [retrained_failed t um (by rw [hlink, hheld]), fld_of_rd (keep List.mem_cons_self), State.flag,
    fld_of_rd (keep (List.mem_cons_of_mem _ List.mem_cons_self))]
  exact ⟨hstate, hflag⟩

end Retrained

end

/-- Settles O58, row by row: each clause is the lemma on its row. That a module which is not up or does not carry the address does nothing, and
that a request which is not ready waits, are the model's choices (log entry 13). -/
theorem hostAccessesTakeEffectInOrder : Obligations.HostAccessesTakeEffectInOrder := by
  unfold Obligations.HostAccessesTakeEffectInOrder
  intro ctx s
  refine ⟨fun a v h => ?_, fun a u o v r ha hb hu hr => ⟨fun hctx => ?_, fun hctx => ?_⟩, fun a h ha => readClears_gives s ctx h ha,
    fun h hzt hacc => znNow_gives s ctx h hzt hacc,
    fun um tag len8 addr data seq => ⟨fun h => ?_, fun h => ?_, fun r hr hup hmod hheld => ⟨fun hready => ?_, fun hready => ?_⟩,
      fun r s1 hr hup hmod hheld hs1 => ?_⟩,
    fun um flits => ⟨fun hup => ucieReplay_gives s um flits hup, fun hdown => ?_⟩,
    fun um hdom hheld hst => ⟨fun x64 rate n => ucieRetrain_trained s um hdom hheld hst x64 rate n, ucieRetrain_failed s um hdom hheld hst⟩⟩
  · rw [exec_registerWrite, mmioWrite_of_noRegister s ctx a _ h]
  · obtain ⟨s', hexec, hmem, hrd, hfld⟩ := anvilWrite_gives s ctx v ha hb hu hr hctx
    refine gives_of_exec hexec ⟨hmem, hrd, fun f hf => (hfld f hf).trans ?_⟩
    obtain ⟨g, c⟩ := f
    cases c <;> rfl
  · rw [exec_registerWrite, mmioWrite_anvil s ctx _ ha hb hu, hctx, if_neg Bool.false_ne_true]
  · exact request_ignored s ctx um tag len8 addr data seq (Or.inl h)
  · exact request_ignored s ctx um tag len8 addr data seq (Or.inr h)
  · subst hr
    exact ⟨fun href => mrd_refused s ctx um tag len8 addr seq hup hmod hheld hready href,
      fun href haddr => mrd_register s ctx um tag len8 addr seq hup hmod hheld hready href haddr,
      fun href haddr hbad => mrd_memory s ctx um tag len8 addr seq hup hmod hheld hready href haddr hbad⟩
  · subst hr
    exact mrd_held s ctx um tag len8 addr seq hup hmod hheld hready
  · subst hr
    exact ⟨fun hready href haddr hbad hfailed hplain =>
        mwr_memory s ctx um addr data seq hup hmod hheld hs1 hready href haddr hbad hfailed hplain,
      fun hready href haddr => mwr_register s ctx um addr data seq hup hmod hready href haddr,
      fun hready haddr => mwr_held s ctx um addr data seq hup hmod hheld hready haddr⟩
  · exact congrArg Host.Outcome.next (if_neg (by rw [hdown]; exact Bool.false_ne_true))

end Sys2Proof.Machine
end

section
/-! PROOFS. Partitions and tiles after a write, what a partition's traffic does not touch, and what counting leaves alone (03 R74, 16 R385). -/
namespace Sys2Proof.Machine

/-! ## Partitions and tiles -/

@[simp] theorem part_setPart_same (s : State) (p : Nat) (x : PartSt) : (s.setPart p x).part p = x := sget_sset_same _ _ _ _

@[simp] theorem tile_setTile_same (s : State) (t : Nat) (x : TileSt) : (s.setTile t x).tile t = x := sget_sset_same _ _ _ _

/-- What a partition's new state leaves as it is, every partition keeps. -/
theorem part_setPart_keeps {β : Type} (g : PartSt → β) {s : State} {p : Nat} {x : PartSt} (h : g x = g (s.part p)) (q : Nat) :
    g ((s.setPart p x).part q) = g (s.part q) := by
  rw [State.part, State.setPart, sget_sset]
  split
  · rw [h, ‹q = p›]
  · rfl

/-- A partition's state without its traffic: the launches followed, the stream entries, and the report that waits. -/
def PartSt.core (ps : PartSt) : PartSt :=
  { ps with tracks := [], aborted := [], step := none, streams := [], transit := [], streamEnded := 0, report := none }

theorem ownsTile_core (ps : PartSt) (t : Nat) : ps.core.ownsTile t = ps.ownsTile t := (rfl)
theorem hosts_core (ps : PartSt) (t : Nat) : ps.core.hosts t = ps.hosts t := (rfl)
theorem active_core (ps : PartSt) : ps.core.active = ps.active := (rfl)
theorem slots_core (ps : PartSt) : ps.core.slots = ps.slots := (rfl)
theorem resident_core (ps : PartSt) : ps.core.resident = ps.resident := (rfl)

section Core
variable {s t : State} (hcore : ∀ q, (t.part q).core = (s.part q).core)
include hcore

theorem tileOwner_of_core (n : Nat) : t.tileOwner n = s.tileOwner n := by
  have howns (q : Nat) : (t.part q).ownsTile n = (s.part q).ownsTile n := by rw [← ownsTile_core, hcore, ownsTile_core]
  simp only [State.tileOwner, howns]

theorem tilePresent_of_core (hfuses : t.fuses = s.fuses) (n : Nat) : t.tilePresent n = s.tilePresent n := by
  have hhosts (q : Nat) : (t.part q).hosts n = (s.part q).hosts n := by rw [← hosts_core, hcore, hosts_core]
  simp only [State.tilePresent, hhosts, hfuses]

theorem resolve_of_core (hregs : t.regs = s.regs) (a : Nat) : t.resolve a = s.resolve a := by
  have hactive (q : Nat) : (t.part q).active = (s.part q).active := by rw [← active_core, hcore, active_core]
  have hslots (q : Nat) : (t.part q).slots = (s.part q).slots := by rw [← slots_core, hcore, slots_core]
  have hresident (q : Nat) : (t.part q).resident = (s.part q).resident := by rw [← resident_core, hcore, resident_core]
  simp only [State.resolve, tileOwner_of_core hcore, hactive, hslots, hresident, fld_of_rd (rd_of_regs hregs _)]

end Core

/-- Bytes go where their addresses are kept, whatever else the state holds. -/
theorem writeBytes_mem_congr {s t : State} (hmem : t.mem = s.mem) (hpresent : ∀ n, t.tilePresent n = s.tilePresent n)
    (hresolve : ∀ a, t.resolve a = s.resolve a) (a : Nat) (b : List Byte) : (t.writeBytes a b).mem = (s.writeBytes a b).mem := by
  induction b generalizing s t a with
  | nil => exact hmem
  | cons x b ih =>
    refine ih ?_ (fun n => ?_) (fun c => ?_) (a + 1)
    · simp only [State.setByte, hmem, hpresent, hresolve, apply_ite State.mem]
    · rw [tilePresent_setByte, tilePresent_setByte, hpresent]
    · rw [resolve_setByte, resolve_setByte, hresolve]

/-! ## Counting -/

@[simp] theorem count_regs (s : State) (kind inst ev k : Nat) (x : Attr) : (s.count kind inst ev k x).regs = s.regs := (rfl)
@[simp] theorem count_mem (s : State) (kind inst ev k : Nat) (x : Attr) : (s.count kind inst ev k x).mem = s.mem := (rfl)
@[simp] theorem count_parts (s : State) (kind inst ev k : Nat) (x : Attr) : (s.count kind inst ev k x).parts = s.parts := (rfl)
@[simp] theorem count_sigNet (s : State) (kind inst ev k : Nat) (x : Attr) : (s.count kind inst ev k x).sigNet = s.sigNet := (rfl)

theorem foldl_count_other {α : Type} {f : State → α → State} (h : ∀ s x, ∃ t, f s x = { s with tally := t }) (xs : List α) (s : State) :
    ∃ t, xs.foldl f s = { s with tally := t } := by
  induction xs generalizing s with
  | nil => exact ⟨s.tally, rfl⟩
  | cons x xs ih =>
    obtain ⟨t, hx⟩ := h s x
    obtain ⟨t', hxs⟩ := ih { s with tally := t }
    exact ⟨t', by rw [List.foldl_cons, hx, hxs]⟩

/-- Sectors counted change the counters alone. -/
theorem hbCount_other (s : State) (ev a n : Nat) (x : Attr) : ∃ t, s.hbCount ev a n x = { s with tally := t } := by
  unfold State.hbCount
  split
  · exact ⟨s.tally, rfl⟩
  · exact foldl_count_other (fun s k => count_other s _ _ _ _ _) _ s

/-- So does a read or write that is not latency-critical (09 R213). -/
theorem hbRead_other (s : State) (a n : Nat) (x : Attr) (h : x.lc = false) : ∃ t, s.hbRead a n x = { s with tally := t } := by
  rw [State.hbRead, if_neg (by rw [h]; exact Bool.false_ne_true)]
  exact hbCount_other s 0 a n x

theorem hbWrite_other (s : State) (a n : Nat) (x : Attr) (h : x.lc = false) : ∃ t, s.hbWrite a n x = { s with tally := t } := by
  obtain ⟨_, hwrite⟩ := hbCount_other s 1 a n x
  simp only [State.hbWrite, h, Bool.false_eq_true, if_false, hwrite]
  refine foldl_count_other (fun s e => ?_) _ _
  obtain ⟨_, hread⟩ := hbCount_other s 0 e.1 e.2 x
  rw [hread]
  exact hbCount_other _ 2 e.1 e.2 x

end Sys2Proof.Machine
end

section
/-! PROOFS. Remote signals and route entries (03 R66, R74; 02 R34): what an update of a sync object changes, and the two rows. -/
namespace Sys2Proof.Machine

/-! ## Updates of sync objects (03 R62) -/

theorem setFld_other (s : State) (a : Nat) (f : Fld) (v : Nat) : ∃ r, s.setFld a f v = { s with regs := r } := ⟨_, rfl⟩

theorem setSyncFlag_other (s : State) (t k : Nat) (b : Bool) : ∃ r, s.setSyncFlag t k b = { s with regs := r } := by
  unfold State.setSyncFlag
  split
  · exact setFld_other s _ _ _
  · exact setFld_other s _ _ _

/-- A counter set, with SYNC_WRAP where its value wrapped. -/
def State.setCounterWrap (s : State) (t k v : Nat) (wraps : Prop) [Decidable wraps] : State :=
  if wraps then (s.setCounter t k v).tcFault t TC_FAULT_SYNC_WRAP else s.setCounter t k v

theorem setCounterWrap_other (s : State) (t k v : Nat) (wraps : Prop) [Decidable wraps] :
    ∃ r, s.setCounterWrap t k v wraps = { s with regs := r } := by
  obtain ⟨r, hset⟩ := setFld_other s (TC_COUNTER t k) TC_COUNTER_VALUE v
  rw [State.setCounterWrap, State.setCounter, hset]
  split
  · obtain ⟨r', hfault⟩ := sticky_other { s with regs := r } (TC_FAULT t) TC_FAULT_SYNC_WRAP (TC_FAULT_EVENTS t)
    exact ⟨r', hfault⟩
  · exact ⟨r, rfl⟩

/-- SYNC_WRAP is no part of the counter. -/
theorem counter_setCounterWrap (s : State) (t k v : Nat) (wraps : Prop) [Decidable wraps] :
    (s.setCounterWrap t k v wraps).counter t k = v % 2 ^ 32 := by
  have hset : (s.setCounter t k v).counter t k = v % 2 ^ 32 := fld_setFld_same s _ _ _ (by unfold Fld.ok; decide)
  unfold State.setCounterWrap
  split
  · rw [State.counter, State.tcFault, fld_of_rd (rd_sticky_ne _ _ (by simp only [TC_COUNTER, TC_FAULT]; omega)
      (by simp only [TC_COUNTER, TC_FAULT_EVENTS]; omega))]
    exact hset
  · exact hset

/-- An update noted in the log of its cycle. -/
def State.notedUpdate (s : State) (t obj op value : Nat) : State :=
  if 1 ≤ op ∧ op ≤ 5 then s.noteUpdate t (if op ≤ 2 then obj % 128 else 128 + obj % 128) op value else s

/-- The log of a cycle is no register. -/
theorem notedUpdate_other (s : State) (t obj op value : Nat) : ∃ l, s.notedUpdate t obj op value = { s with sync := l } := by
  unfold State.notedUpdate
  split
  · exact ⟨_, rfl⟩
  · exact ⟨s.sync, rfl⟩

theorem notedUpdate_regs (s : State) (t obj op value : Nat) : (s.notedUpdate t obj op value).regs = s.regs := by
  obtain ⟨l, h⟩ := notedUpdate_other s t obj op value; rw [h]

/-- What an operation of a sync object does once it is noted (R62). -/
def State.doUpdate (s : State) (t k op value : Nat) : State :=
  if op = 1 then s.setSyncFlag t k true
  else if op = 2 then s.setSyncFlag t k false
  else if op = 3 then s.setCounterWrap t k ((s.counter t k + value) % 2 ^ 32) (s.counter t k + value ≥ 2 ^ 32)
  else if op = 4 then s.setCounterWrap t k ((s.counter t k + 2 ^ 32 - value) % 2 ^ 32) (s.counter t k < value)
  else if op = 5 then s.setCounter t k value
  else s

theorem applyUpdate_eq (s : State) (t obj op value : Nat) :
    s.applyUpdate t obj op value = (s.notedUpdate t obj op value).doUpdate t (obj % 128) op value := (rfl)

theorem doUpdate_other (s : State) (t k op value : Nat) : ∃ r, s.doUpdate t k op value = { s with regs := r } := by
  unfold State.doUpdate
  split
  · exact setSyncFlag_other s _ _ _
  · split
    · exact setSyncFlag_other s _ _ _
    · split
      · exact setCounterWrap_other s _ _ _ _
      · split
        · exact setCounterWrap_other s _ _ _ _
        · split
          · exact setFld_other s _ _ _
          · exact ⟨s.regs, rfl⟩

/-- An update changes registers and the log of its cycle. -/
theorem applyUpdate_other (s : State) (t obj op value : Nat) : ∃ r l, s.applyUpdate t obj op value = { s with regs := r, sync := l } := by
  obtain ⟨l, hnote⟩ := notedUpdate_other s t obj op value
  obtain ⟨r, hdo⟩ := doUpdate_other { s with sync := l } t (obj % 128) op value
  exact ⟨r, l, by rw [applyUpdate_eq, hnote, hdo]⟩

@[simp] theorem applyUpdate_sigNet (s : State) (t obj op value : Nat) : (s.applyUpdate t obj op value).sigNet = s.sigNet := by
  obtain ⟨r, l, h⟩ := applyUpdate_other s t obj op value; rw [h]
@[simp] theorem applyUpdate_mem (s : State) (t obj op value : Nat) : (s.applyUpdate t obj op value).mem = s.mem := by
  obtain ⟨r, l, h⟩ := applyUpdate_other s t obj op value; rw [h]
@[simp] theorem applyUpdate_tiles (s : State) (t obj op value : Nat) : (s.applyUpdate t obj op value).tiles = s.tiles := by
  obtain ⟨r, l, h⟩ := applyUpdate_other s t obj op value; rw [h]
@[simp] theorem applyUpdate_parts (s : State) (t obj op value : Nat) : (s.applyUpdate t obj op value).parts = s.parts := by
  obtain ⟨r, l, h⟩ := applyUpdate_other s t obj op value; rw [h]

theorem setFld_regs_congr {s u : State} (h : u.regs = s.regs) (a : Nat) (f : Fld) (v : Nat) : (u.setFld a f v).regs = (s.setFld a f v).regs := by
  simp only [State.setFld, State.wr, State.rd, h]

theorem sticky_regs_congr {s u : State} (h : u.regs = s.regs) (e : Nat) (f : Fld) (ev : Nat) : (u.sticky e f ev).regs = (s.sticky e f ev).regs := by
  have herr := setFld_regs_congr h e f 1
  rw [State.sticky, State.sticky, State.addFld, State.addFld, fld_of_rd (rd_of_regs herr ev)]
  exact setFld_regs_congr herr _ _ _

/-- What an operation makes of the registers is read off the registers. -/
theorem doUpdate_regs_congr {s u : State} (h : u.regs = s.regs) (t k op value : Nat) : (u.doUpdate t k op value).regs = (s.doUpdate t k op value).regs := by
  have hcounter : u.counter t k = s.counter t k := fld_of_rd (rd_of_regs h _) _
  have hflag (b : Bool) : (u.setSyncFlag t k b).regs = (s.setSyncFlag t k b).regs := by
    simp only [State.setSyncFlag, apply_ite State.regs, setFld_regs_congr h]
  have hset (v : Nat) : (u.setCounter t k v).regs = (s.setCounter t k v).regs := setFld_regs_congr h _ _ _
  have hwrap (v : Nat) (wraps : Prop) [Decidable wraps] : (u.setCounterWrap t k v wraps).regs = (s.setCounterWrap t k v wraps).regs := by
    simp only [State.setCounterWrap, State.tcFault, apply_ite State.regs, sticky_regs_congr (hset v), hset]
  simp only [State.doUpdate, apply_ite State.regs, hflag, hwrap, hset, hcounter, h]

/-- So it does not depend on the signals on their way. -/
theorem applyUpdate_withSigNet_regs (s : State) (l : List Sig) (t obj op value : Nat) :
    (State.applyUpdate { s with sigNet := l } t obj op value).regs = (s.applyUpdate t obj op value).regs := by
  rw [applyUpdate_eq, applyUpdate_eq]
  exact doUpdate_regs_congr (by rw [notedUpdate_regs, notedUpdate_regs]) _ _ _ _

/-- CNT_ADD adds to the counter, which wraps at 32 bits. -/
theorem counter_applyUpdate_add (s : State) (t k v : Nat) (hk : k < 128) :
    (s.applyUpdate t (128 + k) 3 v).counter t k = (s.counter t k + v) % 2 ^ 32 := by
  have hobj : (128 + k) % 128 = k := by omega
  have hcounter : (s.notedUpdate t (128 + k) 3 v).counter t k = s.counter t k := fld_of_rd (rd_of_regs (notedUpdate_regs s _ _ _ _) _) _
  rw [applyUpdate_eq, hobj]
  simp only [State.doUpdate, Nat.reduceEqDiff, if_false, if_true, counter_setCounterWrap, hcounter, Nat.mod_mod]

/-! ## REMOTE_SIGNAL and ROUTE_DELIVERY -/

theorem meshWaits_none {s : State} {t : Nat} (who : Nat) (hdom : s.domOn (s.servRegion t) = true) (hstop : s.stopHolds (s.tileOwner t) = false) :
    s.meshWaits who t = none := by
  simp only [State.meshWaits, hdom, hstop, Bool.not_true, Bool.false_eq_true, if_false]

section
variable (s : State)

theorem exec_remoteSignal (src : Nat) (dst : Fin 2048) : exec (.remoteSignal src dst) s = execRemoteSignal src dst s := rfl
theorem exec_routeDelivery (p : Fin 8) (r : BitVec 16) : exec (.routeDelivery p r) s = execRouteDelivery p r s := rfl

variable {src : Nat} {dst : Fin 2048} {g : Sig} (hg : s.sigNet.find? (fun g => g.src == src && g.dst == dst.val) = some g)
include hg

/-- At a tile whose region runs, the oldest signal is applied and removed. -/
theorem remoteSignal_applied (hpresent : s.tilePresent dst = true) (hdom : s.domOn (s.servRegion dst) = true)
    (hstop : s.stopHolds (s.tileOwner dst) = false) :
    Gives (.remoteSignal src dst) s (fun s' => s'.sigNet = s.sigNet.erase g ∧ s'.mem = s.mem ∧
      s'.regs = (s.applyUpdate dst g.obj g.op g.value).regs) := by
  have hexec : exec (.remoteSignal src dst) s = .next ((State.applyUpdate { s with sigNet := s.sigNet.erase g } dst g.obj g.op g.value).count 0 dst 0x05 1
      { part := s.tileOwner dst }) := by
    rw [exec_remoteSignal, execRemoteSignal, hg]
    simp only [hpresent, Bool.not_true, Bool.false_eq_true, if_false, meshWaits_none _ hdom hstop]
  refine gives_of_exec hexec ⟨?_, ?_, ?_⟩
  · rw [count_sigNet, applyUpdate_sigNet]
  · rw [count_mem, applyUpdate_mem]
  · rw [count_regs, applyUpdate_withSigNet_regs]

/-- At an absent tile it is removed alone. -/
theorem remoteSignal_absent (hpresent : s.tilePresent dst = false) : exec (.remoteSignal src dst) s = .next { s with sigNet := s.sigNet.erase g } := by
  rw [exec_remoteSignal, execRemoteSignal, hg]
  simp only [hpresent, Bool.not_false, if_true]

end

/-- A partition's state once the oldest entry of a route has reached its stream queue. -/
def PartSt.delivered (ps : PartSt) (r : Nat) (e : List Byte) (rest : List (List Byte)) : PartSt :=
  { ps with transit := sset (fun _ => []) ps.transit r rest, streams := sset (fun _ => []) ps.streams r (ps.streamOf r ++ [e]) }

theorem transitOf_delivered (ps : PartSt) (r : Nat) (e : List Byte) (rest : List (List Byte)) : (ps.delivered r e rest).transitOf r = rest :=
  sget_sset_same _ _ _ _

theorem streamOf_delivered (ps : PartSt) (r : Nat) (e : List Byte) (rest : List (List Byte)) :
    (ps.delivered r e rest).streamOf r = ps.streamOf r ++ [e] := sget_sset_same _ _ _ _

/-- The oldest entry on its way joins the stream queue and is counted at the destination. -/
theorem routeDelivery_gives (s : State) (p : Fin 8) (r : BitVec 16) {k : Route} {e : List Byte} {rest : List (List Byte)}
    (hroute : s.findRoute p r.toNat = some k) (htransit : (s.part p).transitOf r.toNat = e :: rest) (hdom : s.domOn (s.servRegion k.dst) = true)
    (hstop : s.stopHolds (s.tileOwner k.dst) = false) (hcounter : k.dstCounter < 128) :
    Gives (.routeDelivery p r) s (fun s' => (s'.part p).transitOf r.toNat = rest ∧
      (s'.part p).streamOf r.toNat = (s.part p).streamOf r.toNat ++ [e] ∧
      s'.counter k.dst k.dstCounter = (s.counter k.dst k.dstCounter + 1) % 2 ^ 32 ∧ s'.mem = s.mem ∧ s'.tiles = s.tiles) := by
  have hexec : exec (.routeDelivery p r) s =
      .next ((s.setPart p ((s.part p).delivered r.toNat e rest)).applyUpdate k.dst (128 + k.dstCounter) 3 1) := by
    rw [exec_routeDelivery, execRouteDelivery]
    simp only [hroute, htransit, meshWaits_none _ hdom hstop]
    rfl
  have hpart : ((s.setPart p ((s.part p).delivered r.toNat e rest)).applyUpdate k.dst (128 + k.dstCounter) 3 1).part p = (s.part p).delivered r.toNat e rest := by
    rw [part_congr (applyUpdate_parts _ _ _ _ _), part_setPart_same]
  refine gives_of_exec hexec ⟨?_, ?_, counter_applyUpdate_add _ _ _ 1 hcounter, ?_, ?_⟩
  · rw [hpart, transitOf_delivered]
  · rw [hpart, streamOf_delivered]
  · rw [applyUpdate_mem, setPart_mem]
  · rw [applyUpdate_tiles, setPart_tiles]

/-- Settles O14: a signal applied, a signal at an absent tile, and a route's entry, each by its own lemma. -/
theorem signalsAndRouteEntriesArrive : Obligations.SignalsAndRouteEntriesArrive := by
  unfold Obligations.SignalsAndRouteEntriesArrive
  exact ⟨fun src dst s g hg hpresent hdom hstop => remoteSignal_applied s hg hpresent hdom hstop,
    fun src dst s g hg hpresent => remoteSignal_absent s hg hpresent,
    fun p r s k e rest hroute htransit hdom hstop hcounter => routeDelivery_gives s p r hroute htransit hdom hstop hcounter⟩

end Sys2Proof.Machine
end

section
/-! PROOFS. SPLIT and the route commands of the tile DMA (03 R72, R74, R75): their rows, and what the move of one entry does. -/
namespace Sys2Proof.Machine

/-- The tile DMA's requests are not latency-critical (09 R213). -/
theorem dmaAttr_lc (c : Cmd) : (dmaAttr c).lc = false := (rfl)

/-! ## SPLIT -/

theorem exec_split (t : Fin 2048) (s : State) : exec (.split t) s = execSplit t s := rfl

/-- A SPLIT that is granted, whose memory is ON and sound, and whose source does not meet its output, writes what it computes. -/
theorem split_next (t : Fin 2048) (s s1 : State) (c : Cmd) (x : SplitSt) (dst : Nat) (hhead : s.dmaHead t 3 = some c) (hx : x = s.splitOf c.w)
    (hdst : dst = sramBase t + splitDst c.w) (howned : s.firstUnowned c.part x.src x.srcBytes = none) (hfits : splitDst c.w + x.outBytes ≤ 0x100000)
    (hsrcOn : s.firstOff x.src x.srcBytes = none) (hdstOn : s.firstOff dst x.outBytes = none)
    (hs1 : s1 = (s.startHead t 5 c).hbRead x.src x.srcBytes (dmaAttr c)) (hsound : s1.firstBad x.src x.srcBytes = none)
    (hapart : dst + x.outBytes ≤ x.src ∨ x.src + x.srcBytes ≤ dst) :
    exec (.split t) s = .next (((s1.writeBytes dst ((x.output s1).map (·.2))).cleanUnits dst x.outBytes).dmaDone t c dst x.outBytes) := by
  have hmeet : (decide (x.src < dst + x.outBytes) && decide (dst < x.src + x.srcBytes)) = false := by
    rw [Bool.and_eq_false_iff, decide_eq_false_iff_not, decide_eq_false_iff_not]
    omega
  subst hx hdst hs1
  rw [exec_split, execSplit, hhead]
  simp only [howned, if_neg (Nat.not_lt.mpr hfits), hsrcOn, hdstOn, hsound, hmeet, Bool.false_eq_true, if_false]

/-! ## ROUTE_SEND and ROUTE_RECV -/

theorem exec_routeSend (t : Fin 2048) (s : State) : exec (.routeSend t) s = execRouteSend t s := rfl
theorem exec_routeRecv (t : Fin 2048) (s : State) : exec (.routeRecv t) s = execRouteRecv t s := rfl

/-- A route command of its tile whose entries move without an error ends once all have moved, and else stays. -/
theorem routeGo_of_moved {s s2 : State} {t : Nat} {c : Cmd} {r : Route} {run : Route → Nat → State → State × Option Nat} (wrote : Nat × Nat)
    (hroute : s.findRoute c.part (routeId c.w) = some r)
    (howned : (s.tile t).moved.isSome = true ∨ s.firstUnowned c.part (routeAddr c.w) (64 * routeCount c.w) = none)
    (hon : s.firstOff (routeAddr c.w) (64 * routeCount c.w) = none)
    (hrun : run r (routeCount c.w - (s.routeStart t c).movedOf t) (s.routeStart t c) = (s2, none)) :
    s.routeGo t c run wrote = if routeCount c.w ≤ s2.movedOf t then (s2.routeEnd t).dmaDone t c wrote.1 wrote.2 else s2 := by
  have hgranted : (if (s.tile t).moved.isSome then none else s.firstUnowned c.part (routeAddr c.w) (64 * routeCount c.w)) = none :=
    howned.elim (fun hmoved => if_pos hmoved) (fun hnone => by rw [hnone, ite_self])
  unfold State.routeGo
  simp only [hroute, hgranted, hon, hrun]

/-! ## One entry -/

@[simp] theorem bumpMoved_parts (s : State) (t : Nat) : (s.bumpMoved t).parts = s.parts := setTile_parts s _ _
@[simp] theorem bumpMoved_mem (s : State) (t : Nat) : (s.bumpMoved t).mem = s.mem := setTile_mem s _ _

theorem movedOf_bumpMoved (s : State) (t : Nat) : (s.bumpMoved t).movedOf t = s.movedOf t + 1 := by
  rw [State.movedOf, State.bumpMoved, tile_setTile_same]
  rfl

theorem movedOf_of_tiles {s u : State} (h : u.tiles = s.tiles) (t : Nat) : u.movedOf t = s.movedOf t := by
  rw [State.movedOf, State.movedOf, State.tile, State.tile, h]

/-- A partition's state once an entry has gone into a route, or left its stream queue. -/
def PartSt.sent (ps : PartSt) (r : Nat) (e : List Byte) : PartSt := { ps with transit := sset (fun _ => []) ps.transit r (ps.transitOf r ++ [e]) }
def PartSt.received (ps : PartSt) (r : Nat) (rest : List (List Byte)) : PartSt := { ps with streams := sset (fun _ => []) ps.streams r rest }

theorem transitOf_sent (ps : PartSt) (r : Nat) (e : List Byte) : (ps.sent r e).transitOf r = ps.transitOf r ++ [e] := sget_sset_same _ _ _ _
theorem streamOf_received (ps : PartSt) (r : Nat) (rest : List (List Byte)) : (ps.received r rest).streamOf r = rest := sget_sset_same _ _ _ _
theorem core_received (ps : PartSt) (r : Nat) (rest : List (List Byte)) : (ps.received r rest).core = ps.core := (rfl)

/-- An entry sent joins those on their way. -/
theorem sendEntries_one (t : Nat) (s : State) (c : Cmd) (r : Route) (hroom : (s.part c.part).routeRoom r = true)
    (hsound : s.firstBad (routeAddr c.w + 64 * s.movedOf t) 64 = none) :
    ((State.sendEntries t c r 1 s).1.part c.part).transitOf r.id =
      (s.part c.part).transitOf r.id ++ [s.readBytes (routeAddr c.w + 64 * s.movedOf t) 64] ∧
    (State.sendEntries t c r 1 s).1.movedOf t = s.movedOf t + 1 ∧ (State.sendEntries t c r 1 s).1.mem = s.mem := by
  obtain ⟨l, hread⟩ := hbRead_other s (routeAddr c.w + 64 * s.movedOf t) 64 (dmaAttr c) (dmaAttr_lc c)
  have hsent : (State.sendEntries t c r 1 s).1 = (((s.hbRead (routeAddr c.w + 64 * s.movedOf t) 64 (dmaAttr c)).setPart c.part
      ((s.part c.part).sent r.id (s.readBytes (routeAddr c.w + 64 * s.movedOf t) 64))).bumpMoved t) := by
    simp only [State.sendEntries, hroom, Bool.not_true, Bool.false_eq_true, if_false, hsound]
    rfl
  rw [hsent]
  refine ⟨?_, ?_, ?_⟩
  · rw [part_congr (bumpMoved_parts _ t), part_setPart_same, transitOf_sent]
  · rw [movedOf_bumpMoved, movedOf_of_tiles (setPart_tiles _ _ _), hread]
    rfl
  · rw [bumpMoved_mem, setPart_mem, hread]

/-- An entry received is stored at its place and leaves the stream queue. -/
theorem recvEntries_one (t : Nat) (s : State) (c : Cmd) (r : Route) (e : List Byte) (rest : List (List Byte))
    (hstream : (s.part c.part).streamOf r.id = e :: rest) (hsound : s.firstFailed (routeAddr c.w + 64 * s.movedOf t) 64 = none) :
    ((State.recvEntries t c r 1 s).1.part c.part).streamOf r.id = rest ∧ (State.recvEntries t c r 1 s).1.movedOf t = s.movedOf t + 1 ∧
    (State.recvEntries t c r 1 s).1.mem = (s.writeBytes (routeAddr c.w + 64 * s.movedOf t) e).mem := by
  generalize ha : routeAddr c.w + 64 * s.movedOf t = a at hsound ⊢
  generalize hu : s.setPart c.part ((s.part c.part).received r.id rest) = u
  have hcore (q : Nat) : (u.part q).core = (s.part q).core := by
    rw [← hu]
    exact part_setPart_keeps PartSt.core (core_received _ _ _) q
  have hrecv : (State.recvEntries t c r 1 s).1 = (((u.writeBytes a e).cleanUnits a 64).hbWrite a 64 (dmaAttr c)).bumpMoved t := by
    subst ha hu
    simp only [State.recvEntries, hstream, hsound]
    rfl
  obtain ⟨l, hwrite⟩ := hbWrite_other ((u.writeBytes a e).cleanUnits a 64) a 64 (dmaAttr c) (dmaAttr_lc c)
  obtain ⟨m, hbytes⟩ := writeBytes_other u a e
  have hmem : (u.writeBytes a e).mem = (s.writeBytes a e).mem :=
    writeBytes_mem_congr (by rw [← hu, setPart_mem]) (tilePresent_of_core hcore (by rw [← hu, setPart_fuses]))
      (resolve_of_core hcore (by rw [← hu, setPart_regs])) a e
  rw [hrecv]
  refine ⟨?_, ?_, ?_⟩
  · have hparts : ((((u.writeBytes a e).cleanUnits a 64).hbWrite a 64 (dmaAttr c)).bumpMoved t).parts = u.parts := by
      rw [bumpMoved_parts, hwrite, hbytes]
      rfl
    rw [part_congr hparts, ← hu, part_setPart_same, streamOf_received]
  · have htiles : (((u.writeBytes a e).cleanUnits a 64).hbWrite a 64 (dmaAttr c)).tiles = s.tiles := by
      rw [hwrite, hbytes, ← hu]
      rfl
    rw [movedOf_bumpMoved, movedOf_of_tiles htiles]
  · rw [bumpMoved_mem, hwrite]
    exact hmem

/-- Settles O16: SPLIT, the two route commands by what they share, and one entry's move each way. -/
theorem splitAndRoutesMoveTheirData : Obligations.SplitAndRoutesMoveTheirData := by
  unfold Obligations.SplitAndRoutesMoveTheirData
  refine ⟨fun t s s1 c x dst hhead hx hdst howned hfits hsrcOn hdstOn hs1 hsound hapart =>
      split_next t s s1 c x dst hhead hx hdst howned hfits hsrcOn hdstOn hs1 hsound hapart,
    fun t s s2 c r hhead hroute howned hon hrun => ?_, fun t s s2 c r hhead hroute howned hon hrun => ?_,
    fun t s c r hroom hsound => sendEntries_one t s c r hroom hsound,
    fun t s c r e rest hstream hsound => recvEntries_one t s c r e rest hstream hsound⟩
  · rw [exec_routeSend, execRouteSend, hhead]
    exact congrArg Host.Outcome.next (routeGo_of_moved (0, 0) hroute howned hon hrun)
  · rw [exec_routeRecv, execRouteRecv, hhead]
    exact congrArg Host.Outcome.next (routeGo_of_moved _ hroute howned hon hrun)

end Sys2Proof.Machine
end

section
/-! PROOFS. What the rest of the module leaves to the loader (02 R46): reports, errors, votes and the hub's records change neither the registers of the
loader's groups nor what a partition holds beside its traffic. -/
namespace Sys2Proof.Machine

/-- The registers of the loader's groups, with SI_FORCE_PASS. -/
def isLoaderReg (b : Nat) : Prop := SI_FORCE_PASS ≤ b ∧ b < 0x20000041000

/-- A later state holds what the loader held. -/
structure LoaderKept (s t : State) : Prop where
  rd : ∀ b, isLoaderReg b → t.rd b = s.rd b
  core : ∀ q, (t.part q).core = (s.part q).core

namespace LoaderKept

variable {s t u : State}

theorem refl (s : State) : LoaderKept s s := ⟨fun _ _ => rfl, fun _ => rfl⟩

theorem trans (h : LoaderKept s t) (h' : LoaderKept t u) : LoaderKept s u :=
  ⟨fun b hb => (h'.rd b hb).trans (h.rd b hb), fun q => (h'.core q).trans (h.core q)⟩

/-! ## Shapes of operations -/

theorem of_eq (h : LoaderKept s t) (hregs : u.regs = t.regs) (hparts : u.parts = t.parts) : LoaderKept s u :=
  h.trans ⟨fun b _ => rd_of_regs hregs b, fun q => by rw [part_congr hparts]⟩

theorem ite {c : Prop} [Decidable c] (ht : LoaderKept s t) (hu : LoaderKept s u) : LoaderKept s (if c then t else u) := by
  split
  · exact ht
  · exact hu

theorem foldl {α : Type} {l : List α} {f : State → α → State} (h : LoaderKept s t) (hf : ∀ u, ∀ x ∈ l, LoaderKept s u → LoaderKept s (f u x)) :
    LoaderKept s (l.foldl f t) := by
  induction l generalizing t with
  | nil => exact h
  | cons x l ih => exact ih (hf t x List.mem_cons_self h) (fun u y hy => hf u y (List.mem_cons_of_mem _ hy))

theorem setPart (h : LoaderKept s t) {p : Nat} {x : PartSt} (hx : x.core = (t.part p).core) : LoaderKept s (t.setPart p x) :=
  h.trans ⟨fun b _ => rd_of_regs (setPart_regs t p x) b, part_setPart_keeps PartSt.core hx⟩

theorem wr (h : LoaderKept s t) {a : Nat} (ha : ¬isLoaderReg a) (v : Nat) : LoaderKept s (t.wr a v) :=
  h.trans ⟨fun b hb => rd_wr_ne t v (fun hba => ha (hba ▸ hb)), fun q => by rw [part_congr (wr_parts t a v)]⟩

theorem setFld (h : LoaderKept s t) {a : Nat} (ha : ¬isLoaderReg a) (f : Fld) (v : Nat) : LoaderKept s (t.setFld a f v) := h.wr ha _

theorem addFld (h : LoaderKept s t) {a : Nat} (ha : ¬isLoaderReg a) (f : Fld) (k : Nat) : LoaderKept s (t.addFld a f k) := h.setFld ha f _

theorem sticky (h : LoaderKept s t) {e ev : Nat} (he : ¬isLoaderReg e) (hev : ¬isLoaderReg ev) (f : Fld) : LoaderKept s (t.sticky e f ev) :=
  (h.setFld he f 1).addFld hev _ 1

/-! ## What lies beside registers and partitions -/

theorem withFree (h : LoaderKept s t) (n : Nat) : LoaderKept s { t with free := n } := h.of_eq rfl rfl
theorem withWelkin (h : LoaderKept s t) (w : WelkinSt) : LoaderKept s { t with welkin := w } := h.of_eq rfl rfl
theorem withMsiFired (h : LoaderKept s t) (v : List Nat) : LoaderKept s { t with msiFired := v } := h.of_eq rfl rfl
theorem withOut (h : LoaderKept s t) (o : List Output) : LoaderKept s { t with out := o } := h.of_eq rfl rfl
theorem withEvPend (h : LoaderKept s t) (l : List (Nat × Nat × List Byte)) : LoaderKept s { t with evPend := l } := h.of_eq rfl rfl
theorem withHbPend (h : LoaderKept s t) (l : List (Nat × List Byte)) : LoaderKept s { t with hbPend := l } := h.of_eq rfl rfl
theorem withHbSeq (h : LoaderKept s t) (q : Sparse Nat) : LoaderKept s { t with hbSeq := q } := h.of_eq rfl rfl
theorem withMem (h : LoaderKept s t) (m : List Host.Cell) : LoaderKept s { t with mem := m } := h.of_eq rfl rfl
theorem cleanUnits (h : LoaderKept s t) (a n : Nat) : LoaderKept s (t.cleanUnits a n) := h.of_eq (cleanUnits_regs t a n) (cleanUnits_parts t a n)
theorem count (h : LoaderKept s t) (kind inst ev k : Nat) (x : Attr) : LoaderKept s (t.count kind inst ev k x) :=
  h.of_eq (count_regs t _ _ _ _ _) (count_parts t _ _ _ _ _)

/-! ## Waits and events (10 R235, 17 R411) -/

theorem holdAccess (h : LoaderKept s t) (who a : Nat) (x : Attr) : LoaderKept s (t.holdAccess who a x) := by
  obtain ⟨_, _, _, hother⟩ := holdAccess_other t who a x
  refine h.trans ⟨fun b hb => rd_holdAccess_ne t who a x ?_, fun q => by rw [hother]; rfl⟩
  unfold isLoaderReg SI_FORCE_PASS at hb
  simp only [holdRegs, HB_HELD, HB_ERR, HB_ERR_EVENTS, PD_HELD, PD_ERR, PD_ERR_EVENTS, List.mem_cons, List.not_mem_nil, or_false]
  omega

theorem logEntry (h : LoaderKept s t) (code sev : Nat) (x : List Byte) : LoaderKept s (t.logEntry code sev x) := by
  have hlog : ¬isLoaderReg WK_LOG := by unfold isLoaderReg; decide
  have herr : ¬isLoaderReg WK_ERR := by unfold isLoaderReg; decide
  have hev : ¬isLoaderReg WK_ERR_EVENTS := by unfold isLoaderReg; decide
  unfold State.logEntry
  dsimp only
  exact ite (((h.withWelkin _).addFld hlog _ _).sticky herr hev _) ((h.withWelkin _).addFld hlog _ _)

theorem logFree (h : LoaderKept s t) (code : Nat) (x : List Byte) : LoaderKept s (t.logFree code x) :=
  (h.withFree _).logEntry code _ x

theorem dropEvent (h : LoaderKept s t) (d : Nat) : LoaderKept s (t.dropEvent d) :=
  (h.sticky (by unfold isLoaderReg QH_ERR; omega) (by unfold isLoaderReg QH_ERR_EVENTS; omega) _).addFld
    (by unfold isLoaderReg QH_EV_DROPS; omega) _ _

theorem pushEntry (h : LoaderKept s t) (d q : Nat) (b : List Byte) : LoaderKept s (t.pushEntry d q b) := by
  have hnote (v : State) : (v.noteCounts d q).parts = v.parts := by unfold State.noteCounts; split <;> rfl
  have hadvance (v : State) : (v.advanceProd d q 1).parts = v.parts := by
    unfold State.advanceProd
    dsimp only
    rw [apply_ite State.parts, sendSig_parts, setQueue_parts, hnote, ite_self]
  obtain ⟨m, hbytes⟩ := writeBytes_other t ((t.queue d q).slot (t.queue d q).prod) b
  refine h.of_eq (pushEntry_regs t d q b) ?_
  rw [State.pushEntry, hadvance, cleanUnits_parts, hbytes]

theorem putEvent (h : LoaderKept s t) (d q : Nat) (x : List Byte) : LoaderKept s (t.putEvent d q x) := by
  unfold State.putEvent
  exact ite (h.withEvPend _) (ite ((h.holdAccess _ _ _).withEvPend _) (h.pushEntry d q x))

theorem postEvent (h : LoaderKept s t) (scope : Option Nat) (d kind source : Nat) (x : List Byte) :
    LoaderKept s (t.postEvent scope d kind source x) := by
  unfold State.postEvent
  exact ite ((h.logFree _ _).putEvent _ _ _) ((h.logFree _ _).dropEvent d)

/-! ## Interrupts and access errors (10 R245, R246) -/

theorem fireVector (h : LoaderKept s t) (v : Nat) : LoaderKept s (t.fireVector v) := by
  have hdata : ¬isLoaderReg (UC_MSI_DATA 0 v) := by unfold isLoaderReg UC_MSI_DATA; omega
  have hsent : ¬isLoaderReg (UC_MSI_SENT 0) := by unfold isLoaderReg; decide
  unfold State.fireVector
  exact ite h (ite ((h.withMsiFired _).setFld hdata _ _) (((h.withMsiFired _).withOut _).wr hsent _))

theorem accessError (h : LoaderKept s t) (ctx : Ctx) (a : Nat) : LoaderKept s (t.accessError ctx a) := by
  have hout {r : Nat} (hr : 0x20000041000 ≤ r) : ¬isLoaderReg r := fun hb => Nat.not_lt.mpr hr hb.2
  unfold State.accessError State.accessErrorOn State.ucErr
  exact ((((h.addFld (hout (by decide)) _ _).wr (hout (by decide)) _).sticky (hout (by decide)) (hout (by decide)) _).fireVector 0).postEvent _ _ _ _ _

/-! ## Memory errors (09 R208, R218, R222) -/

theorem writeBytes (h : LoaderKept s t) (a : Nat) (b : List Byte) : LoaderKept s (t.writeBytes a b) := by
  obtain ⟨m, hbytes⟩ := writeBytes_other t a b
  exact h.of_eq (by rw [hbytes]) (by rw [hbytes])

theorem writeExcept (h : LoaderKept s t) (a : Nat) (skip : List Nat) (b : List Byte) : LoaderKept s (t.writeExcept a skip b) := by
  obtain ⟨m, hbytes⟩ := writeExcept_other t a skip b
  exact h.of_eq (by rw [hbytes]) (by rw [hbytes])

/-- A register of an HBM controller. -/
theorem not_loaderReg_hb {a n : Nat} (h : 0x20000500000 + n * 0x10000 ≤ a) : ¬isLoaderReg a := by
  unfold isLoaderReg
  omega

theorem hbPut (h : LoaderKept s t) (n : Nat) (b : List Byte) : LoaderKept s (t.hbPut n b) := by
  have hctrl : ¬isLoaderReg (HB_LOG_CTRL n) := not_loaderReg_hb (n := n) (by unfold HB_LOG_CTRL; omega)
  have herr : ¬isLoaderReg (HB_ERR n) := not_loaderReg_hb (n := n) (by unfold HB_ERR; omega)
  have hev : ¬isLoaderReg (HB_ERR_EVENTS n) := not_loaderReg_hb (n := n) (by unfold HB_ERR_EVENTS; omega)
  unfold State.hbPut
  exact ite h (ite ((h.addFld hctrl _ _).sticky herr hev _) (((h.writeBytes _ _).cleanUnits _ _).setFld hctrl _ _))

theorem hbLog (h : LoaderKept s t) (n : Nat) (b : List Byte) : LoaderKept s (t.hbLog n b) := by
  unfold State.hbLog
  exact ite (h.withHbPend _) (ite ((h.holdAccess _ _ _).withHbPend _) (h.hbPut n b))

theorem hbRecord (h : LoaderKept s t) (n kind a : Nat) (m : Master) : LoaderKept s (t.hbRecord n kind a m) := by
  unfold State.hbRecord State.hbRecordAt
  exact ((ite (h.logFree _ _) h).withHbSeq _).hbLog _ _

theorem dataLoss (h : LoaderKept s t) (kind a : Nat) : LoaderKept s (t.dataLoss kind a) := by
  unfold State.dataLoss
  exact (h.sticky (by unfold isLoaderReg; decide) (by unfold isLoaderReg; decide) _).postEvent _ _ _ _ _

theorem ueMet (h : LoaderKept s t) (kind a : Nat) (m : Master) : LoaderKept s (t.ueMet kind a m) := by
  have herr : ¬isLoaderReg (HB_ERR (memHb a)) := not_loaderReg_hb (n := memHb a) (by unfold HB_ERR; omega)
  have hev : ¬isLoaderReg (HB_ERR_EVENTS (memHb a)) := not_loaderReg_hb (n := memHb a) (by unfold HB_ERR_EVENTS; omega)
  have hue : ¬isLoaderReg (HB_UE (memHb a)) := not_loaderReg_hb (n := memHb a) (by unfold HB_UE; omega)
  have haddr : ¬isLoaderReg (HB_ERR_ADDR (memHb a)) := not_loaderReg_hb (n := memHb a) (by unfold HB_ERR_ADDR; omega)
  unfold State.ueMet
  dsimp only
  refine ite h ((hbRecord (ite (withWelkin ?_ _) ?_) _ _ _ _).dataLoss _ _)
  all_goals exact (ite (((h.sticky herr hev _).addFld hue _ _).wr haddr _) ((h.sticky herr hev _).addFld hue _ _)).count _ _ _ _ _

theorem store (h : LoaderKept s t) (a : Nat) (b : List Byte) (m : Master) : LoaderKept s (t.store a b m).1 := by
  unfold State.store
  exact foldl ((h.writeExcept _ _ _).cleanUnits _ _) (fun u x _ hu => hu.ueMet 3 x m)

end LoaderKept

end Sys2Proof.Machine
end

section
/-! PROOFS. What the rest of the module leaves to the loader, continued: the Queue hub, power domains, watches and tiles as an activation and a slice switch
use them (02 R50, 03 R81). -/
namespace Sys2Proof.Machine

namespace LoaderKept

variable {s t : State}

/-! ## The Queue hub (10 R236 to R238) -/

theorem setHub (h : LoaderKept s t) (d : Nat) (x : HubSt) : LoaderKept s (t.setHub d x) := h.of_eq (setHub_regs t d x) (setHub_parts t d x)
theorem setQueue (h : LoaderKept s t) (d q : Nat) (x : QueueSt) : LoaderKept s (t.setQueue d q x) := h.of_eq (setQueue_regs t d q x) (setQueue_parts t d q x)
theorem setTile (h : LoaderKept s t) (n : Nat) (x : TileSt) : LoaderKept s (t.setTile n x) := h.of_eq (setTile_regs t n x) (setTile_parts t n x)

theorem launchDone (h : LoaderKept s t) (k : LaunchTrack) : LoaderKept s (t.launchDone k) := by
  unfold State.launchDone State.offerDone State.offer
  exact ite (ite (h.setHub _ _) (h.setHub _ _)) h

theorem drainHub (h : LoaderKept s t) (d p n : Nat) : LoaderKept s (t.drainHub d p n) := by
  induction n generalizing t with
  | zero => exact h
  | succ n ih =>
    refine ih (foldl h fun u e _ hu => ?_)
    split
    · exact ite (((hu.setHub _ _).addFld (by unfold isLoaderReg QH_ACCEPTED; omega) _ _).pushEntry _ _ _) hu
    · exact hu

theorem withHubStart (h : LoaderKept s t) (l : List (Nat × Nat × Nat)) : LoaderKept s { t with hubStart := l } := h.of_eq rfl rfl

theorem resetQueue (h : LoaderKept s t) (d q : Nat) : LoaderKept s (t.resetQueue d q) := by
  unfold State.resetQueue State.forgetCounts
  exact (h.withHubStart _).setQueue d q {}

theorem resetChanged (h : LoaderKept s t) (before : State) : LoaderKept s (t.resetChanged before) :=
  foldl h fun _ _ _ hu => ite hu (hu.resetQueue _ _)

/-- ENTRY_TYPE is a TC_FAULT bit of tiles (03 R57). -/
theorem entryTypeCheck (h : LoaderKept s t) (p d q : Nat) : LoaderKept s (t.entryTypeCheck p d q) := by
  unfold State.entryTypeCheck
  refine ite ?_ h
  split
  · exact h
  · exact foldl h fun u n _ hu => hu.sticky (by unfold isLoaderReg TC_FAULT; omega) (by unfold isLoaderReg TC_FAULT_EVENTS; omega) _

theorem checkEntries (h : LoaderKept s t) (p : Nat) (img : Image) : LoaderKept s (t.checkEntries p img) :=
  foldl h fun _ _ _ hu => hu.entryTypeCheck p _ _

/-! ## Power domains (17 R406 to R410) -/

theorem withPower (h : LoaderKept s t) (w : PowerSt) : LoaderKept s { t with power := w } := h.of_eq rfl rfl
theorem withPorts (h : LoaderKept s t) (l : Sparse PortSt) : LoaderKept s { t with ports := l } := h.of_eq rfl rfl

theorem lanesUp (h : LoaderKept s t) (n : Nat) : LoaderKept s (t.lanesUp n) := by
  have hlanes : ¬isLoaderReg (KL_LANES n) := by unfold isLoaderReg KL_LANES; omega
  have hstatus : ¬isLoaderReg (KL_STATUS n) := by unfold isLoaderReg KL_STATUS; omega
  unfold State.lanesUp
  exact ite h (((((h.withPorts _).setFld hlanes _ _).setFld hlanes _ _).setFld hstatus _ _).postEvent _ _ _ _ _)

theorem setLink (h : LoaderKept s t) (um st : Nat) : LoaderKept s (t.setLink um st) := by
  have hset := h.setFld (a := UC_STATUS um) (by unfold isLoaderReg UC_STATUS; omega) UC_STATUS_STATE st
  unfold State.setLink State.linkNews
  exact ite hset (hset.postEvent _ _ _ _ _)

theorem powerUpHook (h : LoaderKept s t) (i : Nat) : LoaderKept s (t.powerUpHook i) := by
  unfold State.powerUpHook
  exact ite (h.setFld (by unfold isLoaderReg HB_STATUS; omega) _ _) (ite (h.lanesUp _) (ite (h.setLink _ _) h))

/-- There are 102 domains, whose registers lie below the loader's. -/
theorem not_loaderReg_domain {i : Nat} (hi : i < 102) : ¬isLoaderReg (PD_DOM i) := by
  unfold isLoaderReg PD_DOM SI_FORCE_PASS
  omega

theorem beginMove (h : LoaderKept s t) {i : Nat} (hi : i < 102) (to_ : Nat) : LoaderKept s (t.beginMove i to_) :=
  (h.withPower _).setFld (not_loaderReg_domain hi) _ _

theorem retarget (h : LoaderKept s t) (i : Nat) : LoaderKept s (t.retarget i) := by
  unfold State.retarget
  by_cases hpresent : t.domPresent i = true
  · have hi := domPresent_lt hpresent
    have hdom := not_loaderReg_domain hi
    rw [if_neg (by rw [hpresent]; exact Bool.false_ne_true)]
    dsimp only
    have hset (dep fl img target : Nat) := (((h.setFld hdom PD_DOM_IMAGE img).setFld hdom PD_DOM_DEP dep).setFld hdom PD_DOM_FLOOR fl).setFld hdom PD_DOM_TARGET target
    refine ite (hset _ _ _ _) ?_
    split
    · exact ite (((hset _ _ _ _).powerUpHook i).beginMove hi 3) (hset _ _ _ _)
    · exact ite ((hset _ _ _ _).beginMove hi 3) (ite ((hset _ _ _ _).beginMove hi 1) (hset _ _ _ _))
    · exact hset _ _ _ _
  · rw [if_pos (by rw [Bool.not_eq_true] at hpresent; rw [hpresent]; rfl)]
    exact h

theorem retargetAll (h : LoaderKept s t) : LoaderKept s t.retargetAll := foldl h fun _ i _ hu => hu.retarget i

theorem imageUnvote (h : LoaderKept s t) (p : Nat) (keep : Nat → Bool) : LoaderKept s (t.imageUnvote p keep) := by
  unfold State.imageUnvote
  exact (h.withPower _).retargetAll

theorem voteImage (h : LoaderKept s t) (p : Nat) (img : Image) (regions : Nat) : LoaderKept s (t.voteImage p img regions) := by
  unfold State.voteImage State.imageVote
  exact ((h.imageUnvote p _).withPower _).retargetAll

/-! ## Watches, bandwidth and counters (12 R295, 16 R393, R397) -/

theorem withTally (h : LoaderKept s t) (l : TallySt) : LoaderKept s { t with tally := l } := h.of_eq rfl rfl

theorem watchLookup (h : LoaderKept s t) (w : Nat) : LoaderKept s (t.watchLookup w) := by
  have hctrl : ¬isLoaderReg (TL_WATCH_CTRL w) := by unfold isLoaderReg TL_WATCH_CTRL; omega
  unfold State.watchLookup
  dsimp only
  split
  · exact (h.withTally _).setFld hctrl _ _
  · exact (h.setFld hctrl _ _).sticky (by unfold isLoaderReg; decide) (by unfold isLoaderReg; decide) _

theorem relookWatches (h : LoaderKept s t) (p : Nat) : LoaderKept s (t.relookWatches p) := foldl h fun _ w _ hu => ite (hu.watchLookup w) hu

theorem recount (h : LoaderKept s t) (before : State) : LoaderKept s (t.recount before) := h.of_eq rfl rfl

theorem setShares (h : LoaderKept s t) (p : Nat) (l : List Share) : LoaderKept s (t.setShares p l) := h.of_eq rfl rfl

theorem withZenith (h : LoaderKept s t) (z : ZenithSt) : LoaderKept s { t with zenith := z } := h.of_eq rfl rfl

/-! ## Tiles (03 R64, R81) -/

theorem sget_filter_of_kept {α : Type} (d : Nat → α) {f : Nat × α → Bool} {n : Nat} (hf : ∀ v, f (n, v) = true) (l : Sparse α) :
    sget d (l.filter f) n = sget d l n := by
  induction l with
  | nil => rfl
  | cons e l ih =>
    obtain ⟨k, v⟩ := e
    rw [List.filter_cons]
    by_cases hk : k = n
    · subst hk
      simp [hf v, sget]
    · split
      · simp only [sget, if_neg hk, ih]
      · simp only [sget, if_neg hk, ih]

/-- The sync objects are registers of their tile. -/
theorem zeroSync (h : LoaderKept s t) (n : Nat) : LoaderKept s (t.zeroSync n) := by
  refine ((h.wr (a := TC_FLAGS0 n) (by unfold isLoaderReg TC_FLAGS0; omega) 0).wr (a := TC_FLAGS1 n) (by unfold isLoaderReg TC_FLAGS1; omega) 0).trans
    ⟨fun b hb => ?_, fun _ => rfl⟩
  refine congrArg BitVec.toNat (sget_filter_of_kept regReset (fun v => ?_) _)
  unfold isLoaderReg at hb
  have hbelow : ¬TC_COUNTER n 0 ≤ b := by unfold TC_COUNTER; omega
  simp only [hbelow, decide_false, Bool.false_and, Bool.not_false]

theorem clearEngines (h : LoaderKept s t) (n : Nat) : LoaderKept s (t.clearEngines n) := h.setTile n _

theorem freeRange (h : LoaderKept s t) (a n : Nat) : LoaderKept s (t.freeRange a n) := by
  induction n generalizing t a with
  | zero => exact h
  | succ n ih => exact ih ((h.withFree _).withMem _) (a + 1)

theorem copySound (h : LoaderKept s t) (src dst n : Nat) (m : Master) : LoaderKept s (t.copySound src dst n m) := by
  unfold State.copySound
  exact (foldl (h.of_eq (moveRange_regs t src dst n) (moveRange_parts t src dst n)) fun u x _ hu => (hu.ueMet 2 x m).freeRange _ _).cleanUnits dst n

theorem saveTile (h : LoaderKept s t) (img : Image) (n : Nat) (m : Master) : LoaderKept s (t.saveTile img n m) :=
  (((((h.copySound _ _ _ m).withMem _).cleanUnits _ _).freeRange _ _).cleanUnits _ _)

theorem restoreTile (h : LoaderKept s t) (img : Image) (n : Nat) (m : Master) : LoaderKept s (t.restoreTile img n m) := h.copySound _ _ _ m

theorem deliver (h : LoaderKept s t) (p : Nat) (c : Cluster) (l : Launch) : LoaderKept s (t.deliver p c l) := by
  have htiles := foldl (l := clusterTiles c) h fun u n _ hu => hu.setTile n ((u.tile n).take l)
  unfold State.deliver
  exact ite htiles (htiles.setPart rfl)

theorem deliverSlot (h : LoaderKept s t) (p : Nat) (e : Nat × List Byte) : LoaderKept s (t.deliverSlot p e) := by
  unfold State.deliverSlot
  exact foldl (h.of_eq rfl rfl) fun u c _ hu => hu.deliver p c _

/-! ## Reports and records (02 R52, 18 R429) -/

theorem withReport (h : LoaderKept s t) (p : Nat) (r : Option (Nat × List Byte)) : LoaderKept s (t.setPart p { t.part p with report := r }) := h.setPart rfl

theorem flushReports (h : LoaderKept s t) : LoaderKept s t.flushReports := by
  refine foldl h fun u p _ hu => ?_
  split
  · exact ite ((hu.withReport p none).store _ _ _) (hu.holdAccess _ _ _)
  · exact hu

theorem putReport (h : LoaderKept s t) (p : Nat) (b : List Byte) : LoaderKept s (t.putReport p b) := by
  unfold State.putReport
  exact ite h (ite (h.withReport p _) (h.accessError _ _))

theorem loadPolicy (h : LoaderKept s t) : LoaderKept s t.loadPolicy := by
  have hpolicy : ¬isLoaderReg SI_POLICY := by unfold isLoaderReg; decide
  have htest : ¬isLoaderReg SI_TEST_CTRL := by unfold isLoaderReg; decide
  have helect : ¬isLoaderReg ZN_ELECT := by unfold isLoaderReg; decide
  unfold State.loadPolicy
  dsimp only
  split
  · exact h.setFld hpolicy _ _
  · exact ((((h.setFld hpolicy _ _).setFld hpolicy _ _).setFld htest _ _).setFld helect _ _).setFld helect _ _

theorem settleRecords (h : LoaderKept s t) : LoaderKept s t.settleRecords := by
  unfold State.settleRecords
  exact ite h (h.withWelkin _).loadPolicy

end LoaderKept

end Sys2Proof.Machine
end

section
/-! PROOFS. The loader's commands: a partition's registers, the measurements, and what LOAD, ARM, ABORT and UNLOAD leave (02 R46, R47, R49, R53). -/
namespace Sys2Proof.Machine

/-! ## A partition's registers -/

theorem foldl_keeps {σ α β : Type} (g : σ → β) {f : σ → α → σ} (h : ∀ s x, g (f s x) = g s) (xs : List α) (s : σ) :
    g (xs.foldl f s) = g s := by
  induction xs generalizing s with
  | nil => rfl
  | cons x xs ih => rw [List.foldl_cons, ih, h]

theorem evAborts_ok : evAborts.ok := by unfold Fld.ok; decide
theorem stage_ok : SI_STATUS_STAGE.ok := by unfold Fld.ok; decide

theorem isLoaderReg_status (p : Fin 8) : isLoaderReg (SI_STATUS p) := by unfold isLoaderReg SI_STATUS SI_FORCE_PASS; omega
theorem isLoaderReg_events (p : Fin 8) : isLoaderReg (SI_EVENTS p) := by unfold isLoaderReg SI_EVENTS SI_FORCE_PASS; omega
theorem isLoaderReg_measStaged (p : Fin 8) {i : Nat} (hi : i < 8) : isLoaderReg (SI_MEAS_STAGED p i) := by
  unfold isLoaderReg SI_MEAS_STAGED SI_FORCE_PASS; omega

theorem status_ne_events (p q : Nat) : SI_STATUS p ≠ SI_EVENTS q := by unfold SI_STATUS SI_EVENTS; omega
theorem status_ne_actTime (p q : Nat) : SI_STATUS p ≠ SI_ACT_TIME q := by unfold SI_STATUS SI_ACT_TIME; omega
theorem status_ne_measStaged (p i : Nat) (hi : i < 8) : SI_STATUS p ≠ SI_MEAS_STAGED p i := by unfold SI_STATUS SI_MEAS_STAGED; omega
theorem events_ne_measStaged (p i : Nat) (hi : i < 8) : SI_EVENTS p ≠ SI_MEAS_STAGED p i := by unfold SI_EVENTS SI_MEAS_STAGED; omega
theorem measStaged_injective (p : Nat) : Function.Injective (SI_MEAS_STAGED p) := fun i j h => by unfold SI_MEAS_STAGED at h; omega

section
variable {s t : State}

theorem stage_of_rd {p : Nat} (h : t.rd (SI_STATUS p) = s.rd (SI_STATUS p)) : t.stage p = s.stage p := fld_of_rd h _

theorem isActive_of_rd {p : Nat} (h : t.rd (SI_STATUS p) = s.rd (SI_STATUS p)) : t.isActive p = s.isActive p := by
  rw [State.isActive, State.isActive, State.flag, State.flag, fld_of_rd h]

theorem stage_setStage (s : State) (p : Nat) {v : Nat} (hv : v < 8) : (s.setStage p v).stage p = v :=
  (fld_setFld_same s _ _ v stage_ok).trans (Nat.mod_eq_of_lt hv)

theorem rd_setStage_ne (s : State) {p b : Nat} (v : Nat) (h : b ≠ SI_STATUS p) : (s.setStage p v).rd b = s.rd b := rd_setFld_ne s _ v h

@[simp] theorem addFld_parts (s : State) (a : Nat) (f : Fld) (k : Nat) : (s.addFld a f k).parts = s.parts := (rfl)
@[simp] theorem setStage_parts (s : State) (p v : Nat) : (s.setStage p v).parts = s.parts := (rfl)
@[simp] theorem setStage_mem (s : State) (p v : Nat) : (s.setStage p v).mem = s.mem := (rfl)

/-- What is no traffic stands in the core. -/
theorem field_of_core {β : Type} (g : PartSt → β) {x y : PartSt} (h : x.core = y.core) (hg : ∀ ps, g ps.core = g ps := by intros; rfl) : g x = g y := by
  rw [← hg, h, hg]

/-! ## A measurement -/

/-- Each register of a run of writes reads what was written there. -/
theorem rd_foldl_wr {reg : Nat → Nat} (val : Nat → Nat) (hinj : Function.Injective reg) (s : State) {n i : Nat} (hi : i < n) :
    ((List.range n).foldl (fun s i => s.wr (reg i) (val i)) s).rd (reg i) = val i % 2 ^ 64 := by
  induction n with
  | zero => omega
  | succ n ih =>
    rw [List.range_succ, List.foldl_append, List.foldl_cons, List.foldl_nil]
    by_cases hin : i = n
    · rw [hin, rd_wr_same]
    · rw [rd_wr_ne _ _ (fun h => hin (hinj h)), ih (by omega)]

theorem rd_setMeas (s : State) {reg : Nat → Nat} (hinj : Function.Injective reg) (m : BitVec 512) {i : Nat} (hi : i < 8) :
    (s.setMeas reg m).rd (reg i) = m.toNat / 2 ^ (64 * i) % 2 ^ 64 := rd_foldl_wr _ hinj s hi

theorem rd_setMeas_zero (s : State) {reg : Nat → Nat} (hinj : Function.Injective reg) {i : Nat} (hi : i < 8) : (s.setMeas reg 0).rd (reg i) = 0 := by
  have hzero : (0 : BitVec 512).toNat = 0 := BitVec.toNat_zero
  rw [rd_setMeas s hinj 0 hi, hzero, Nat.zero_div, Nat.zero_mod]

theorem rd_setMeas_ne (s : State) {reg : Nat → Nat} (m : BitVec 512) {b : Nat} (h : ∀ i < 8, b ≠ reg i) : (s.setMeas reg m).rd b = s.rd b :=
  foldl_keeps_rd _ (fun u i hi => rd_wr_ne u _ (h i (List.mem_range.mp hi))) s

@[simp] theorem setMeas_parts (s : State) (reg : Nat → Nat) (m : BitVec 512) : (s.setMeas reg m).parts = s.parts :=
  foldl_keeps State.parts (f := fun u i => u.wr (reg i) _) (fun _ _ => rfl) _ s
@[simp] theorem setMeas_mem (s : State) (reg : Nat → Nat) (m : BitVec 512) : (s.setMeas reg m).mem = s.mem :=
  foldl_keeps State.mem (f := fun u i => u.wr (reg i) _) (fun _ _ => rfl) _ s

/-! ## Records that waited -/

theorem loadPolicy_mem (s : State) : s.loadPolicy.mem = s.mem := by
  unfold State.loadPolicy
  dsimp only
  split <;> rfl

theorem settleRecords_mem (s : State) : s.settleRecords.mem = s.mem := by
  unfold State.settleRecords
  split
  · rfl
  · exact loadPolicy_mem _

/-! ## The instant of T_act (02 R49) -/

theorem dvd_nextMultiple (t len : Nat) : len ∣ nextMultiple t len := Nat.dvd_mul_left _ _

theorem le_nextMultiple (t : Nat) {len : Nat} (h : 0 < len) : t ≤ nextMultiple t len := by
  have hdiv := Nat.div_add_mod (t + len - 1) len
  have hmod := Nat.mod_lt (t + len - 1) h
  rw [nextMultiple, Nat.mul_comm]
  omega

/-- T_act is a multiple of the frame, at least 10 µs ahead and not before SI_ACT_NOT_BEFORE. -/
theorem actTime_spec {p : Nat} {frameUs t : Nat} {activeUs : Option Nat} (h : s.actTime p frameUs activeUs = some t) (hframe : 0 < frameUs)
    (hactive : ∀ a, activeUs = some a → 0 < a) : t % (frameUs * 1000) = 0 ∧ s.zt + 10000 ≤ t ∧ s.rd (SI_ACT_NOT_BEFORE p) ≤ t := by
  have hcommon (len : Nat) (hdvd : frameUs * 1000 ∣ len) (hpos : 0 < len)
      (hlen : (if 1000000000 < len then none else some (nextMultiple (max (s.rd (SI_ACT_NOT_BEFORE p)) (s.zt + 10000)) len)) = some t) :
      t % (frameUs * 1000) = 0 ∧ s.zt + 10000 ≤ t ∧ s.rd (SI_ACT_NOT_BEFORE p) ≤ t := by
    split at hlen
    · cases hlen
    · cases hlen
      have hle := le_nextMultiple (max (s.rd (SI_ACT_NOT_BEFORE p)) (s.zt + 10000)) hpos
      exact ⟨Nat.mod_eq_zero_of_dvd (hdvd.trans (dvd_nextMultiple _ _)), (le_max_right _ _).trans hle, (le_max_left _ _).trans hle⟩
  cases activeUs with
  | none => exact hcommon (frameUs * 1000) (dvd_refl _) (by omega) h
  | some a =>
    have ha := hactive a rfl
    exact hcommon _ (Nat.dvd_lcm_left _ _) (Nat.lcm_pos (by omega) (by omega)) h

/-! ## An image armed (02 R41, R49) -/

@[simp] theorem writeRouting_mem (s : State) (p : Nat) (img : Image) : (s.writeRouting p img).mem = s.mem := by
  unfold State.writeRouting
  split <;> rfl

theorem writeRouting_staged (s : State) (p : Nat) (img : Image) : ((s.writeRouting p img).part p).staged = (s.part p).staged := by
  unfold State.writeRouting
  split
  · rfl
  · dsimp only
    rw [part_setPart_same]

/-- What arming leaves: STAGE ARMED, T_act, and whether it is a removal. -/
theorem armed_spec (s : State) (p : Nat) {t : Nat} (ht : t < 2 ^ 64) (removal : Bool) :
    (s.armed p t removal).stage p = 3 ∧ (s.armed p t removal).rd (SI_ACT_TIME p) = t ∧
    (s.armed p t removal).part p = { s.part p with unloading := removal } ∧ (s.armed p t removal).mem = s.mem := by
  refine ⟨stage_setStage _ p (by decide), ?_, ?_, rfl⟩
  · exact (rd_setFld_ne _ _ _ (status_ne_actTime p p).symm).trans ((rd_wr_same _ _ _).trans (Nat.mod_eq_of_lt ht))
  · exact part_setPart_same s p _

end

/-! ## The rows -/

section
variable (p : Fin 8) (s : State) (ctx : Ctx)

theorem exec_load : exec (.load ctx p) s = execLoad ctx p s := (rfl)
theorem exec_arm : exec (.arm ctx p) s = execArm ctx p s := (rfl)
theorem exec_abortImage : exec (.abortImage ctx p) s = execAbortImage ctx p s := (rfl)
theorem exec_unload : exec (.unload ctx p) s = execUnload ctx p s := (rfl)
theorem exec_loadCheckDone : exec (.loadCheckDone p) s = execLoadCheckDone p s := (rfl)

/-- A context that may not write the group. -/
theorem loader_denied (h : siWriter ctx p = false) :
    ∀ i ∈ [Instr.load ctx p, .arm ctx p, .abortImage ctx p, .unload ctx p], exec i s = .next (s.accessError ctx (SI_CTRL p)) := by
  have hnot : ¬siWriter ctx p = true := by rw [h]; exact Bool.false_ne_true
  simp only [List.mem_cons, List.not_mem_nil, or_false]
  rintro i (rfl | rfl | rfl | rfl)
  · rw [exec_load, execLoad, if_neg hnot]
  · rw [exec_arm, execArm, if_neg hnot]
  · rw [exec_abortImage, execAbortImage, if_neg hnot]
  · rw [exec_unload, execUnload, if_neg hnot]

/-- Neither an epoch switch nor ACQUIRE stands in the way of ARM. -/
theorem arm_free (hepoch : s.fld (RT_EPOCH_STATE p) RT_EPOCH_STATE_STATE = 0) (hzn : s.fld ZN_STATUS ZN_STATUS_STATE ≠ 1) :
    ¬(s.fld (RT_EPOCH_STATE p) RT_EPOCH_STATE_STATE ≠ 0 ∨ s.fld ZN_STATUS ZN_STATUS_STATE = 1) := by
  rintro (h | h) <;> contradiction

section
variable (hctx : siWriter ctx p = true)
include hctx

theorem exec_load_of_writer : exec (.load ctx p) s = .next (s.loadImage ctx p) := by rw [exec_load, execLoad, if_pos hctx]
theorem exec_arm_of_writer : exec (.arm ctx p) s = .next (s.armImage p) := by rw [exec_arm, execArm, if_pos hctx]
theorem exec_abort_of_writer : exec (.abortImage ctx p) s = .next (s.abortStaged p) := by rw [exec_abortImage, execAbortImage, if_pos hctx]
theorem exec_unload_of_writer : exec (.unload ctx p) s = .next (s.unloadImage p) := by rw [exec_unload, execUnload, if_pos hctx]

/-! ### LOAD -/

theorem load_accepted (hstage : s.stage p = 0) (h0 : s.fuses.lifecycle ≠ 0) (h5 : s.fuses.lifecycle ≠ 5) :
    Gives (.load ctx p) s (fun s' => s'.stage p = 1 ∧ (s'.part p).loadAt = (s.fld (SI_SRC p) SI_SRC_ADDR, s.fld (SI_LEN p) SI_LEN_LEN) ∧
      (s'.part p).active = (s.part p).active ∧ s'.mem = s.mem) := by
  refine gives_of_exec (exec_load_of_writer p s ctx hctx) ?_
  rw [State.loadImage, if_neg (by rintro (h | h | h) <;> contradiction)]
  refine ⟨(stage_of_rd (rd_of_regs (setPart_regs _ _ _) _)).trans (stage_setStage s p (by decide)), ?_, ?_, rfl⟩
  · rw [part_setPart_same]
  · rw [part_setPart_same]

theorem load_refused (h : s.stage p ≠ 0 ∨ s.fuses.lifecycle = 0 ∨ s.fuses.lifecycle = 5) :
    exec (.load ctx p) s = .next (s.refuseImage p (Refuse.head rcState)) := by
  rw [exec_load_of_writer p s ctx hctx, State.loadImage, if_pos h]

/-! ### ARM -/

theorem arm_accepted {img : Image} {t : Nat} (hstage : s.stage p = 2) (hstaged : (s.part p).staged = some img)
    (hepoch : s.fld (RT_EPOCH_STATE p) RT_EPOCH_STATE_STATE = 0) (hzn : s.fld ZN_STATUS ZN_STATUS_STATE ≠ 1) (hconflict : s.armConflict p img = none)
    (htime : s.actTime p img.head.frameUs ((s.part p).active.map (·.head.frameUs)) = some t) (ht : t < 2 ^ 64) (hframe : 0 < img.head.frameUs)
    (hold : ∀ old : Image, (s.part p).active = some old → 0 < old.head.frameUs) :
    Gives (.arm ctx p) s (fun s' => s'.stage p = 3 ∧ s'.rd (SI_ACT_TIME p) = t ∧ (s'.part p).staged = some img ∧ (s'.part p).unloading = false ∧
      t % (img.head.frameUs * 1000) = 0 ∧ s.zt + 10000 ≤ t ∧ s.rd (SI_ACT_NOT_BEFORE p) ≤ t ∧ s'.mem = s.mem) := by
  have harm : s.armImage p = (s.writeRouting p img).armed p t false := by
    simp only [State.armImage, hstage, beq_self_eq_true, hstaged, if_neg (arm_free p s hepoch hzn), hconflict, htime]
  refine gives_of_exec ((exec_arm_of_writer p s ctx hctx).trans (congrArg Host.Outcome.next harm)) ?_
  have hactive : ∀ a, (s.part p).active.map (·.head.frameUs) = some a → 0 < a := by
    rintro a ha
    obtain ⟨old, hactive, rfl⟩ := Option.map_eq_some_iff.mp ha
    exact hold old hactive
  obtain ⟨hmod, hahead, hafter⟩ := actTime_spec htime hframe hactive
  obtain ⟨hstage', htime', hpart', hmem'⟩ := armed_spec (s.writeRouting p img) p ht false
  rw [hpart']
  exact ⟨hstage', htime', (writeRouting_staged s p img).trans hstaged, rfl, hmod, hahead, hafter, hmem'.trans (writeRouting_mem s p img)⟩

theorem arm_conflict {img : Image} {r : Refuse} (hstage : s.stage p = 2) (hstaged : (s.part p).staged = some img)
    (hepoch : s.fld (RT_EPOCH_STATE p) RT_EPOCH_STATE_STATE = 0) (hzn : s.fld ZN_STATUS ZN_STATUS_STATE ≠ 1) (hconflict : s.armConflict p img = some r) :
    exec (.arm ctx p) s = .next (s.refuseImage p r) := by
  simp only [exec_arm_of_writer p s ctx hctx, State.armImage, hstage, beq_self_eq_true, hstaged, if_neg (arm_free p s hepoch hzn), hconflict]

theorem arm_refused (hstage : s.stage p ≠ 2) : exec (.arm ctx p) s = .next (s.refuseImage p (Refuse.head rcState)) := by
  rw [exec_arm_of_writer p s ctx hctx, State.armImage, beq_false_of_ne hstage]

/-! ### ABORT -/

theorem abort_accepted (h : s.stage p = 2 ∨ (s.stage p = 3 ∧ s.zt < s.rd (SI_ACT_TIME p))) :
    Gives (.abortImage ctx p) s (fun s' => s'.stage p = 0 ∧ (s'.part p).staged = none ∧ (∀ i < 8, s'.rd (SI_MEAS_STAGED p i) = 0) ∧
      s'.fld (SI_EVENTS p) evAborts = (s.fld (SI_EVENTS p) evAborts + 1) % 2 ^ 16 ∧ s'.mem = s.mem) := by
  refine gives_of_exec (exec_abort_of_writer p s ctx hctx) ?_
  rw [State.abortStaged, if_pos h]
  generalize hdropped : s.setPart p { s.part p with staged := none, unloading := false, newRoutes := none } = u
  have hkept : LoaderKept (((u.setStage p 0).setMeas (SI_MEAS_STAGED p) 0).addFld (SI_EVENTS p) evAborts 1)
      (((u.setStage p 0).setMeas (SI_MEAS_STAGED p) 0).addFld (SI_EVENTS p) evAborts 1).settleRecords := (LoaderKept.refl _).settleRecords
  have hmeas {b : Nat} (hb : ∀ i < 8, b ≠ SI_MEAS_STAGED p i) : ((u.setStage p 0).setMeas (SI_MEAS_STAGED p) 0).rd b = (u.setStage p 0).rd b :=
    rd_setMeas_ne _ _ hb
  refine ⟨?_, ?_, fun i hi => ?_, ?_, ?_⟩
  · refine (stage_of_rd ?_).trans (stage_setStage u p (v := 0) (by decide))
    rw [hkept.rd _ (isLoaderReg_status p), rd_addFld_ne _ _ _ (status_ne_events p p), hmeas (status_ne_measStaged p)]
  · rw [field_of_core PartSt.staged (hkept.core p), part_congr (addFld_parts _ _ _ _), part_congr (setMeas_parts _ _ _), part_congr (setStage_parts _ _ _), ← hdropped,
      part_setPart_same]
  · rw [hkept.rd _ (isLoaderReg_measStaged p hi), rd_addFld_ne _ _ _ (events_ne_measStaged p i hi).symm, rd_setMeas_zero _ (measStaged_injective p) hi]
  · rw [fld_of_rd (hkept.rd _ (isLoaderReg_events p)), fld_addFld_same _ _ _ _ evAborts_ok, fld_of_rd (hmeas (events_ne_measStaged p)),
      fld_of_rd (rd_setStage_ne u _ (status_ne_events p p).symm), ← hdropped]
    rfl
  · rw [settleRecords_mem, addFld_mem, setMeas_mem, setStage_mem, ← hdropped, setPart_mem]

theorem abort_refused (h2 : s.stage p ≠ 2) (h3 : s.stage p ≠ 3 ∨ s.rd (SI_ACT_TIME p) ≤ s.zt) :
    exec (.abortImage ctx p) s = .next (s.refuseImage p (Refuse.head rcState)) := by
  have hlate : ¬(s.stage p = 2 ∨ (s.stage p = 3 ∧ s.zt < s.rd (SI_ACT_TIME p))) := by omega
  rw [exec_abort_of_writer p s ctx hctx, State.abortStaged, if_neg hlate]

/-! ### UNLOAD -/

theorem unload_accepted {img : Image} {t : Nat} (hstage : s.stage p = 0) (hactive : s.isActive p = true) (himg : (s.part p).active = some img)
    (htime : s.actTime p img.head.frameUs none = some t) (ht : t < 2 ^ 64) :
    Gives (.unload ctx p) s (fun s' => s'.stage p = 3 ∧ s'.rd (SI_ACT_TIME p) = t ∧ (s'.part p).unloading = true ∧ s'.mem = s.mem) := by
  refine gives_of_exec (s' := s.armed p t true) ?_ ?_
  · simp only [exec_unload_of_writer p s ctx hctx, State.unloadImage, hstage, beq_self_eq_true, hactive, Bool.and_self, himg, htime]
  · obtain ⟨hstage', htime', hpart', hmem'⟩ := armed_spec s p ht true
    rw [hpart']
    exact ⟨hstage', htime', rfl, hmem'⟩

theorem unload_refused (h : s.stage p ≠ 0 ∨ s.isActive p = false) : exec (.unload ctx p) s = .next (s.refuseImage p (Refuse.head rcState)) := by
  have hnone : (s.stage p == 0 && s.isActive p) = false := by
    obtain h | h := h
    · rw [beq_false_of_ne h, Bool.false_and]
    · rw [h, Bool.and_false]
  rw [exec_unload_of_writer p s ctx hctx, State.unloadImage, hnone]

end

/-! ### LOAD_CHECK_DONE -/

/-- The end of a check by its judgement: the image staged with its measurement, or the LOAD refused. -/
def State.loadChecked (s : State) (p : Nat) : Except Refuse Image → State
  | .ok img => ((s.setPart p { s.part p with staged := some img, unloading := false }).setStage p 2).setMeas (SI_MEAS_STAGED p) img.measurement
  | .error r => s.loadRefused p r

theorem loadChecked_good (s : State) (p : Nat) (img : Image) : (s.loadChecked p (.ok img)).stage p = 2 ∧
    ((s.loadChecked p (.ok img)).part p).staged = some img ∧
    (∀ i < 8, (s.loadChecked p (.ok img)).rd (SI_MEAS_STAGED p i) = img.measurement.toNat / 2 ^ (64 * i) % 2 ^ 64) ∧
    (s.loadChecked p (.ok img)).mem = s.mem := by
  rw [State.loadChecked]
  refine ⟨?_, ?_, fun i hi => rd_setMeas _ (measStaged_injective p) _ hi, ?_⟩
  · exact (stage_of_rd (rd_setMeas_ne _ _ (status_ne_measStaged p))).trans (stage_setStage _ p (by decide))
  · rw [part_congr (setMeas_parts _ _ _), part_congr (setStage_parts _ _ _), part_setPart_same]
  · rw [setMeas_mem, setStage_mem, setPart_mem]

section
variable {src len : Nat} (hstage : s.stage p = 1) (hat : (s.part p).loadAt = (src, len)) (hreads : s.loaderReads (s.part p).loadCtx src len = true)
  (halign : src % 8 = 0) (hlen : len ≤ 0x10000000) (hon : s.memOn src len = true) (hsound : s.firstBad src len = none)
include hstage hat hreads halign hlen hon hsound

theorem loadCheckDone_judged : exec (.loadCheckDone p) s = .next ((s.hbRead src len { part := some p.val }).loadChecked p
    ((s.hbRead src len { part := some p.val }).judge p src len)) := by
  have hshape : ¬(src % 8 ≠ 0 ∨ 0x10000000 < len) := by omega
  rw [exec_loadCheckDone, execLoadCheckDone, hat]
  dsimp only
  rw [if_neg (not_not.mpr hstage), hreads, if_neg (by decide), if_neg hshape, if_neg (by rw [hon]; decide), hsound]
  dsimp only
  cases (s.hbRead src len { part := some p.val }).judge p src len with
  | error r => rfl
  | ok img => rfl

theorem loadCheckDone_good {img : Image} (hjudge : (s.hbRead src len { part := some p.val }).judge p src len = .ok img) :
    Gives (.loadCheckDone p) s (fun s' => s'.stage p = 2 ∧ (s'.part p).staged = some img ∧
      (∀ i < 8, s'.rd (SI_MEAS_STAGED p i) = img.measurement.toNat / 2 ^ (64 * i) % 2 ^ 64) ∧ s'.mem = (s.hbRead src len { part := some p.val }).mem) := by
  have hexec := loadCheckDone_judged p s hstage hat hreads halign hlen hon hsound
  rw [hjudge] at hexec
  exact gives_of_exec hexec (loadChecked_good _ p img)

theorem loadCheckDone_bad {r : Refuse} (hjudge : (s.hbRead src len { part := some p.val }).judge p src len = .error r) :
    exec (.loadCheckDone p) s = .next ((s.hbRead src len { part := some p.val }).loadRefused p r) := by
  rw [loadCheckDone_judged p s hstage hat hreads halign hlen hon hsound, hjudge, State.loadChecked]

end

theorem loadCheckDone_denied (hstage : s.stage p = 1) (hreads : s.loaderReads (s.part p).loadCtx (s.part p).loadAt.1 (s.part p).loadAt.2 = false) :
    exec (.loadCheckDone p) s = .next (s.loadRefused p (Refuse.head rcSourceAccess)) := by
  rw [exec_loadCheckDone, execLoadCheckDone]
  dsimp only
  rw [if_neg (not_not.mpr hstage), hreads, if_pos (by decide)]

/-! ### FORCE_PASS (06 R141) -/

theorem exec_forcePass (v : Word) : exec (.forcePass ctx v) s = .next (s.forcePass ctx v.toNat) := (rfl)

theorem forcePass_of_writer (hctx : ctx = .welkin ∨ ctx = .library) (v : Nat) : s.forcePass ctx v =
    if s.imageInForce then s.addFld SI_FORCE_PASS SI_FORCE_PASS_REFUSED 1 else s.setFld SI_FORCE_PASS SI_FORCE_PASS_MODE (bits v 1 0) := by
  obtain rfl | rfl := hctx
  · rfl
  · rfl

theorem forcePass_accepted (hctx : ctx = .welkin ∨ ctx = .library) (hforce : s.imageInForce = false) (v : Word) :
    Gives (.forcePass ctx v) s (fun s' => s'.fld SI_FORCE_PASS SI_FORCE_PASS_MODE = bits v.toNat 1 0 ∧ s'.mem = s.mem ∧ s'.parts = s.parts) := by
  refine gives_of_exec (exec_forcePass s ctx v) ?_
  rw [forcePass_of_writer s ctx hctx, if_neg (by rw [hforce]; exact Bool.false_ne_true)]
  exact ⟨(fld_setFld_same _ _ _ _ (by unfold Fld.ok; decide)).trans (Nat.mod_mod _ _), rfl, rfl⟩

theorem forcePass_refused (hctx : ctx = .welkin ∨ ctx = .library) (hforce : s.imageInForce = true) (v : Word) :
    Gives (.forcePass ctx v) s (fun s' => s'.fld SI_FORCE_PASS SI_FORCE_PASS_MODE = s.fld SI_FORCE_PASS SI_FORCE_PASS_MODE ∧
      s'.fld SI_FORCE_PASS SI_FORCE_PASS_REFUSED = (s.fld SI_FORCE_PASS SI_FORCE_PASS_REFUSED + 1) % 2 ^ 32) := by
  have hok : SI_FORCE_PASS_REFUSED.ok := by unfold Fld.ok; decide
  refine gives_of_exec (exec_forcePass s ctx v) ?_
  rw [forcePass_of_writer s ctx hctx, if_pos hforce]
  exact ⟨fld_addFld_other _ _ _ _ _ hok (by decide), fld_addFld_same _ _ _ _ hok⟩

theorem forcePass_denied (hw : ctx ≠ .welkin) (hl : ctx ≠ .library) (v : Word) : exec (.forcePass ctx v) s = .next (s.accessError ctx SI_FORCE_PASS) := by
  rw [exec_forcePass]
  cases ctx with
  | welkin => exact absurd rfl hw
  | library => exact absurd rfl hl
  | _ => rfl

end

end Sys2Proof.Machine
end

section
/-! PROOFS. The switch of an activation and of an unload: what step 2 leaves of the launches, and what steps 4 and 5 install or remove (02 R50). -/
namespace Sys2Proof.Machine

/-! ## Step 2 -/

/-- IMAGE_CHANGED is not a stopping status, so such an end changes the tile alone. -/
theorem endCmd_imageChanged_parts (s : State) (t q : Nat) (c : Cmd) : (s.endCmd t q c stImageChanged 0 0).parts = s.parts := by
  unfold State.endCmd
  rw [if_neg (by decide)]
  exact setTile_parts _ _ _

theorem switchTile_parts (s : State) (t : Nat) : (s.switchTile t).1.parts = s.parts := by
  have hqueue (u : State) (q : Nat) (l : List Cmd) : (l.foldl (fun u c => u.endCmd t q c stImageChanged 0 0) u).parts = u.parts :=
    foldl_keeps State.parts (f := fun u c => u.endCmd t q c stImageChanged 0 0) (fun v c => endCmd_imageChanged_parts v t q c) l u
  have hqueues (u : State) (l : List (Nat × List Cmd)) : (l.foldl (fun u e => e.2.foldl (fun u c => u.endCmd t e.1 c stImageChanged 0 0) u) u).parts = u.parts :=
    foldl_keeps State.parts (f := fun u e => e.2.foldl (fun u c => u.endCmd t e.1 c stImageChanged 0 0) u) (fun v e => hqueue v e.1 e.2) l u
  unfold State.switchTile
  dsimp only
  rw [hqueue, hqueues, setTile_parts]

/-- A partition's launches are followed no further where they are abandoned, and no further launch is delivered. -/
theorem beginSwitch_spec (s : State) (p : Nat) : (s.beginSwitch p).stage p = 4 ∧ ((s.beginSwitch p).part p).noDeliver = true ∧
    ((s.beginSwitch p).part p).sliceLaunch = [] ∧
    ((s.beginSwitch p).part p).tracks = (s.part p).tracks.filter (fun k => !s.trackAbandoned (s.part p) k) ∧
    ((s.beginSwitch p).part p).newMap = (s.part p).newMap := by
  unfold State.beginSwitch
  dsimp only
  generalize hmarked : s.setPart p _ = u
  have hmark : (u.part p).noDeliver = true ∧ (u.part p).sliceLaunch = [] ∧
      (u.part p).tracks = (s.part p).tracks.filter (fun k => !s.trackAbandoned (s.part p) k) ∧ (u.part p).newMap = (s.part p).newMap := by
    rw [← hmarked, part_setPart_same]
    exact ⟨rfl, rfl, rfl, rfl⟩
  have hparts (l : List Nat) : (l.foldl (fun (a : State × Nat) t => ((a.1.switchTile t).1, a.2 + (a.1.switchTile t).2)) (u, 0)).1.parts = u.parts :=
    foldl_keeps (fun a : State × Nat => a.1.parts) (f := fun a t => ((a.1.switchTile t).1, a.2 + (a.1.switchTile t).2)) (fun a t => switchTile_parts a.1 t) l (u, 0)
  refine ⟨stage_setStage _ p (by decide), ?_⟩
  rw [part_congr (setStage_parts _ _ _), part_setPart_same, part_congr (hparts _)]
  exact hmark

section
variable (p : Fin 8) (s : State)

theorem exec_activation : exec (.activation p) s = execActivation p s := (rfl)
theorem exec_unloadSwitch : exec (.unloadSwitch p) s = execUnloadSwitch p s := (rfl)

/-- Before T_act nothing happens. -/
theorem activation_early (h : s.zt < s.rd (SI_ACT_TIME p)) : exec (.activation p) s = .next s := by
  rw [exec_activation, execActivation]
  dsimp only
  rw [decide_eq_false (Nat.not_le.mpr h), Bool.and_false, Bool.false_and]

section
variable {img : Image} (hstage : s.stage p = 3) (hload : (s.part p).unloading = false) (hstop : s.stopHolds (some p.val) = false)
  (hdue : s.rd (SI_ACT_TIME p) ≤ s.zt) (hstaged : (s.part p).staged = some img)
include hstage hload hstop hdue

/-- A loaded image's instant has come. -/
theorem activation_due : (s.stage p == 3 && !(s.part p).unloading && decide (s.rd (SI_ACT_TIME p) ≤ s.zt) && !s.stopHolds (some p.val)) = true := by
  rw [hstage, hload, hstop, decide_eq_true hdue]
  rfl

include hstaged

theorem activation_switches {f : Formed} (hmap : s.formMap p img = .ok f) (hphys : s.physConflict p img = none)
    (hhalo : s.areaHaloBad p img = false) : Gives (.activation p) s (fun s' => s'.stage p = 4 ∧ (s'.part p).noDeliver = true ∧
      (s'.part p).sliceLaunch = [] ∧ (s'.part p).tracks = (s.part p).tracks.filter (fun k => !s.trackAbandoned (s.part p) k) ∧ (s'.part p).newMap = f.map) := by
  refine gives_of_exec (s' := (s.setPart p { s.part p with
    newRegions := f.regions, newMap := f.map, subs := f.subs, newSlice := f.slice, newSlots := f.slots, newHomes := f.homes }).beginSwitch p) ?_ ?_
  · rw [exec_activation, execActivation]
    dsimp only
    split
    · next hsome =>
      cases hsome.symm.trans hstaged
      rw [hmap, hphys, hhalo]
    · next hnot => exact absurd hstaged (hnot img (activation_due p s hstage hload hstop hdue))
  · obtain ⟨hstage', hdeliver, hslice, htracks, hnew⟩ := beginSwitch_spec (s.setPart p { s.part p with
      newRegions := f.regions, newMap := f.map, subs := f.subs, newSlice := f.slice, newSlots := f.slots, newHomes := f.homes }) p
    rw [part_setPart_same] at htracks hnew
    exact ⟨hstage', hdeliver, hslice, htracks, hnew⟩

theorem activation_refused {r : Refuse} (hmap : s.formMap p img = .error r) :
    exec (.activation p) s = .next ((s.setStage p 2).refuseImage p r).settleRecords := by
  rw [exec_activation, execActivation]
  dsimp only
  split
  · next hsome =>
    cases hsome.symm.trans hstaged
    rw [hmap]
  · next hnot => exact absurd hstaged (hnot img (activation_due p s hstage hload hstop hdue))

end

theorem unloadSwitch_switches (hstage : s.stage p = 3) (hunload : (s.part p).unloading = true) (hstop : s.stopHolds (some p.val) = false)
    (hdue : s.rd (SI_ACT_TIME p) ≤ s.zt) : Gives (.unloadSwitch p) s (fun s' => s'.stage p = 4 ∧ (s'.part p).noDeliver = true ∧
      (s'.part p).tracks = (s.part p).tracks.filter (fun k => !s.trackAbandoned (s.part p) k)) := by
  refine gives_of_exec (s' := s.beginSwitch p) (by rw [exec_unloadSwitch, execUnloadSwitch, if_pos ⟨hstage, hunload, hdue, hstop⟩]) ?_
  obtain ⟨hstage', hdeliver, _, htracks, _⟩ := beginSwitch_spec s p
  exact ⟨hstage', hdeliver, htracks⟩

theorem unloadSwitch_early (h : s.zt < s.rd (SI_ACT_TIME p)) : exec (.unloadSwitch p) s = .next s := by
  rw [exec_unloadSwitch, execUnloadSwitch]
  exact if_neg fun hall => Nat.not_le.mpr h hall.2.2.1

end

/-! ## Steps 4 and 5 -/

/-- A switch of a partition under way: what its partition holds beside its traffic, with its count of events as it was. -/
structure Switching (p : Nat) (x : PartSt) (s t : State) : Prop where
  events : t.rd (SI_EVENTS p) = s.rd (SI_EVENTS p)
  core : (t.part p).core = x.core

namespace Switching

variable {p : Fin 8} {x : PartSt} {s t u : State}

theorem kept (h : Switching p x s t) (h' : LoaderKept t u) : Switching p x s u :=
  ⟨(h'.rd _ (isLoaderReg_events p)).trans h.events, (h'.core p).trans h.core⟩

theorem keeps (h : Switching p x s t) (hrd : u.rd (SI_EVENTS p) = t.rd (SI_EVENTS p)) (hparts : u.parts = t.parts) : Switching p x s u :=
  ⟨hrd.trans h.events, by rw [part_congr hparts, h.core]⟩

theorem setPart (h : Switching p x s t) (y : PartSt) : Switching p y s (t.setPart p y) :=
  ⟨(rd_of_regs (setPart_regs _ _ _) _).trans h.events, by rw [part_setPart_same]⟩

theorem setFld (h : Switching p x s t) {a : Nat} (ha : SI_EVENTS p ≠ a) (f : Fld) (v : Nat) : Switching p x s (t.setFld a f v) :=
  h.keeps (rd_setFld_ne _ _ _ ha) (wr_parts _ _ _)

end Switching

section
variable (s : State) (p : Fin 8)

theorem events_ne_status : SI_EVENTS p ≠ SI_STATUS p := (status_ne_events p p).symm
theorem events_ne_discards : SI_EVENTS p ≠ SI_DISCARDS p := by unfold SI_EVENTS SI_DISCARDS; omega
theorem forcePass_ne_discards : SI_FORCE_PASS ≠ SI_DISCARDS p := by unfold SI_FORCE_PASS SI_DISCARDS; omega
theorem events_ne_actDone : SI_EVENTS p ≠ SI_ACT_DONE p := by unfold SI_EVENTS SI_ACT_DONE; omega
theorem status_ne_actDone : SI_STATUS p ≠ SI_ACT_DONE p := by unfold SI_STATUS SI_ACT_DONE; omega
theorem events_ne_measActive (i : Nat) (_ : i < 8) : SI_EVENTS p ≠ SI_MEAS_ACTIVE p i := by unfold SI_EVENTS SI_MEAS_ACTIVE; omega
theorem status_ne_measActive (i : Nat) (_ : i < 8) : SI_STATUS p ≠ SI_MEAS_ACTIVE p i := by unfold SI_STATUS SI_MEAS_ACTIVE; omega

/-- The records of step 4 are the hub's. -/
theorem switchRecords_kept : LoaderKept s (s.switchRecords p) := by
  have hdrain {u : State} (hu : LoaderKept s u) (n : Nat) : LoaderKept s ((List.range 2).foldl (fun u d => u.drainHub d p n) u) :=
    hu.foldl fun _ d _ h => h.drainHub d p n
  unfold State.switchRecords
  exact (hdrain (LoaderKept.foldl (hdrain (LoaderKept.refl s) 4) fun _ k _ h => h.launchDone k) _).setPart rfl

/-- Discarded entries are counted in SI_DISCARDS. -/
theorem rd_dropStreams_ne {b : Nat} (h : b ≠ SI_DISCARDS p) : (s.dropStreams p).rd b = s.rd b := by
  unfold State.dropStreams
  exact (rd_of_regs (setPart_regs _ _ _) b).trans ((rd_addFld_ne _ _ _ h).trans (rd_addFld_ne _ _ _ h))

theorem dropStreams_core : ((s.dropStreams p).part p).core = (s.part p).core := by
  unfold State.dropStreams
  dsimp only
  rw [part_setPart_same]
  rfl

/-- What the hub still held is recorded and the stream entries are dropped, under the image that leaves. -/
theorem switching_dropped : Switching p (s.part p) s ((s.switchRecords p).dropStreams p) := by
  have hkept := switchRecords_kept s p
  exact ⟨(rd_dropStreams_ne _ p (events_ne_discards p)).trans (hkept.rd _ (isLoaderReg_events p)), (dropStreams_core _ p).trans (hkept.core p)⟩

/-- SI_EVENTS has no RWL field, so an image writes nothing there. -/
theorem rwlMask_events {q regions m : Nat} (h : rwlMask q regions (SI_EVENTS p) = some m) : m = 0 := by
  have hrow : ∀ p : Fin 8, (rowOf (SI_EVENTS p)).map (fun r => r.fields.all (fun f => f.2 != .rwl)) = some true := by decide
  obtain ⟨r, hr, hfields⟩ := Option.map_eq_some_iff.mp (hrow p)
  have hfold (l : List (Fld × Acc)) (hl : l.all (fun f => f.2 != .rwl) = true) :
      l.foldl (fun m f => if f.2 = .rwl then m + (2 ^ (f.1.hi + 1 - f.1.lo) - 1) * 2 ^ f.1.lo else m) 0 = 0 := by
    induction l with
    | nil => rfl
    | cons f l ih =>
      rw [List.all_cons, Bool.and_eq_true, bne_iff_ne] at hl
      rw [List.foldl_cons, if_neg hl.1, ih hl.2]
  unfold rwlMask at h
  rw [hr] at h
  obtain ⟨_, hmask⟩ := Option.ite_none_right_eq_some.mp h
  exact (Option.some.inj hmask).symm.trans (hfold r.fields hfields)

/-- The RWL values of an image leave the count of events. -/
theorem Switching.writeRwl {p : Fin 8} {x : PartSt} {s t : State} (h : Switching p x s t) (img : Image) : Switching p x s (t.writeRwl p img) := by
  have hslots : LoaderKept t ((List.range 4).foldl (fun u k => u.setFld (ZN_FRAME_SIG p k) ZN_FRAME_SIG_ENABLE 0) t) :=
    (LoaderKept.refl t).foldl fun _ k hk hu => hu.setFld (by
      have := List.mem_range.mp hk
      unfold isLoaderReg ZN_FRAME_SIG SI_FORCE_PASS
      omega) _ _
  unfold State.writeRwl
  refine (h.kept hslots).keeps (foldl_keeps_rd _ (fun u v _ => ?_) _) (foldl_keeps State.parts (fun u v => ?_) _ _)
  · split
    · next m hmask =>
      by_cases hv : SI_EVENTS p = v.1
      · rw [← hv] at hmask
        rw [← hv, rwlMask_events p hmask, rd_wr_same, Nat.sub_zero, Nat.and_two_pow_sub_one_eq_mod, Nat.and_zero, Nat.or_zero, Nat.mod_mod,
          Nat.mod_eq_of_lt (rd_lt _ _)]
      · exact rd_wr_ne _ _ hv
    · rfl
  · split <;> rfl

/-- Step 5's registers. -/
theorem switchDone_spec (active : Bool) (slice : Nat) (m : BitVec 512) : (s.switchDone p active slice m).stage p = 0 ∧
    (s.switchDone p active slice m).isActive p = active ∧ (s.switchDone p active slice m).rd (SI_EVENTS p) = s.rd (SI_EVENTS p) ∧
    (s.switchDone p active slice m).parts = s.parts := by
  have hslice : SI_STATUS_SLICE.ok := by unfold Fld.ok; decide
  have hactive : SI_STATUS_ACTIVE.ok := by unfold Fld.ok; decide
  generalize hu : ((s.setStage p 0).setFld (SI_STATUS p) SI_STATUS_ACTIVE (b2n active)).setFld (SI_STATUS p) SI_STATUS_SLICE slice = u
  have hdone : s.switchDone p active slice m = (u.wr (SI_ACT_DONE p) u.zt).setMeas (SI_MEAS_ACTIVE p) m := by rw [← hu]; rfl
  have hstatus : (s.switchDone p active slice m).rd (SI_STATUS p) = u.rd (SI_STATUS p) := by
    rw [hdone, rd_setMeas_ne _ _ (status_ne_measActive p), rd_wr_ne _ _ (status_ne_actDone p)]
  refine ⟨?_, ?_, ?_, ?_⟩
  · rw [stage_of_rd hstatus, State.stage, ← hu, fld_setFld_other _ _ _ _ _ hslice (by decide), fld_setFld_other _ _ _ _ _ hactive (by decide)]
    exact stage_setStage s p (by decide)
  · rw [isActive_of_rd hstatus, State.isActive, State.flag, ← hu, fld_setFld_other _ _ _ _ _ hslice (by decide), fld_setFld_same _ _ _ _ hactive]
    cases active <;> rfl
  · rw [hdone, rd_setMeas_ne _ _ (events_ne_measActive p), rd_wr_ne _ _ (events_ne_actDone p), ← hu, rd_setFld_ne _ _ _ (events_ne_status p),
      rd_setFld_ne _ _ _ (events_ne_status p), rd_setStage_ne _ _ (events_ne_status p)]
  · rw [hdone, setMeas_parts, ← hu]
    rfl

/-- The new image is installed with its forced passes, and its registers are locked. -/
theorem installImage_switching (img : Image) : ∃ x : PartSt, x.active = some (img.withPass (s.fld SI_FORCE_PASS SI_FORCE_PASS_MODE)) ∧
    x.staged = none ∧ x.locked = true ∧ Switching p x s (s.installImage p img) := by
  have hpass : ((s.switchRecords p).dropStreams p).fld SI_FORCE_PASS SI_FORCE_PASS_MODE = s.fld SI_FORCE_PASS SI_FORCE_PASS_MODE :=
    fld_of_rd ((rd_dropStreams_ne _ p (forcePass_ne_discards p)).trans ((switchRecords_kept s p).rd _ (by unfold isLoaderReg; decide))) _
  unfold State.installImage
  extract_lets old oldTiles dropped ps new installed sliced cleared configured changed n zenith framed
  have hinstalled : Switching p _ s installed := (switching_dropped s p).setPart _
  have hsliced := hinstalled.setFld (events_ne_status p) SI_STATUS_SLICE ps.newSlice
  have hcleared : Switching p _ s cleared := hsliced.kept ((LoaderKept.refl sliced).foldl fun _ t _ hu => (hu.zeroSync t).clearEngines t)
  have hconfigured : LoaderKept (cleared.writeRwl p new) configured :=
    ((LoaderKept.refl _).setShares p _).setFld (by unfold isLoaderReg RT_EPOCH_STATE; omega) _ _
  have hframed : LoaderKept configured framed := (((LoaderKept.refl configured).resetChanged old).recount old).withZenith _
  refine ⟨_, ?_, ?_, ?_, ((hcleared.writeRwl new).kept hconfigured).kept ((hframed.relookWatches p).voteImage p new _)⟩
  · exact congrArg (fun f => some (img.withPass f)) hpass
  · rfl
  · rfl

/-- The old image is removed, with what it reserved. -/
theorem removeImage_switching {x : PartSt} {t : State} (h : Switching p x s t) : ∃ y : PartSt, y.active = none ∧ Switching p y s (t.removeImage p) := by
  unfold State.removeImage
  extract_lets old zeroed ps removed changed
  have hzeroed : Switching p x s zeroed := h.kept ((LoaderKept.refl t).foldl fun _ n _ hu => hu.zeroSync n)
  have hremoved : Switching p _ s removed := hzeroed.setPart _
  have hchanged : LoaderKept removed changed := ((LoaderKept.refl removed).resetChanged old).recount old
  refine ⟨_, ?_, hremoved.kept (((hchanged.setShares p []).relookWatches p).imageUnvote p _)⟩
  rfl

/-! ### The rows -/

theorem exec_activationDone : exec (.activationDone p) s = execActivationDone p s := (rfl)
theorem exec_unloadDone : exec (.unloadDone p) s = execUnloadDone p s := (rfl)

/-- What stands after the registers of step 5 and a count of the switch. -/
theorem switch_ends {x : PartSt} {u v w : State} (h : Switching p x s u) {active : Bool} {slice : Nat} {m : BitVec 512} {f : Fld} (hf : f.ok)
    (hstatus : v.rd (SI_STATUS p) = (u.switchDone p active slice m).rd (SI_STATUS p))
    (hevents : v.rd (SI_EVENTS p) = (u.switchDone p active slice m).rd (SI_EVENTS p)) (hparts : v.parts = (u.switchDone p active slice m).parts)
    (hend : LoaderKept (v.addFld (SI_EVENTS p) f 1) w) : w.stage p = 0 ∧ w.isActive p = active ∧ (w.part p).core = x.core ∧
      w.fld (SI_EVENTS p) f = (s.fld (SI_EVENTS p) f + 1) % 2 ^ (f.hi + 1 - f.lo) := by
  obtain ⟨hstage, hactive, hcount, hsame⟩ := switchDone_spec u p active slice m
  have hw : w.rd (SI_STATUS p) = (u.switchDone p active slice m).rd (SI_STATUS p) :=
    (hend.rd _ (isLoaderReg_status p)).trans ((rd_addFld_ne _ _ _ (status_ne_events p p)).trans hstatus)
  refine ⟨(stage_of_rd hw).trans hstage, (isActive_of_rd hw).trans hactive, ?_, ?_⟩
  · rw [hend.core, part_congr (addFld_parts _ _ _ _), part_congr hparts, part_congr hsame, h.core]
  · rw [fld_of_rd (hend.rd _ (isLoaderReg_events p)), fld_addFld_same _ _ _ _ hf, fld_of_rd hevents, fld_of_rd hcount, fld_of_rd h.events]

section
variable {img : Image} (hstage : s.stage p = 4) (hquiet : s.switchQuiet p = true)
include hstage hquiet

theorem activationDone_installs (hload : (s.part p).unloading = false) (hstaged : (s.part p).staged = some img) :
    Gives (.activationDone p) s (fun s' => s'.stage p = 0 ∧ s'.isActive p = true ∧
      (s'.part p).active = some (img.withPass (s.fld SI_FORCE_PASS SI_FORCE_PASS_MODE)) ∧ (s'.part p).staged = none ∧ (s'.part p).locked = true ∧
      s'.fld (SI_EVENTS p) evActivations = (s.fld (SI_EVENTS p) evActivations + 1) % 2 ^ 16) := by
  have hgo : (s.stage p == 4 && !(s.part p).unloading && s.switchQuiet p) = true := by
    rw [hstage, hload, hquiet]
    rfl
  obtain ⟨x, hactive, hnone, hlocked, hswitch⟩ := installImage_switching s p img
  generalize hinstalled : s.installImage p img = u at hswitch
  generalize hdone : (u.switchDone p true (u.part p).newSlice img.measurement).setMeas (SI_MEAS_STAGED p) 0 = v
  obtain ⟨report, hexec⟩ : ∃ report, exec (.activationDone p) s =
      .next (((((v.addFld (SI_EVENTS p) evActivations 1).putReport p report).checkEntries p img).flushReports).fireVector (2 + p)).settleRecords := by
    rw [exec_activationDone, execActivationDone]
    split
    · next hsome =>
      cases hsome.symm.trans hstaged
      subst hinstalled hdone
      exact ⟨_, rfl⟩
    · next hnot => exact absurd hstaged (hnot img hgo)
  have hend := ((((LoaderKept.refl (v.addFld (SI_EVENTS p) evActivations 1)).putReport p report).checkEntries p img).flushReports.fireVector (2 + p)).settleRecords
  obtain ⟨hstage', hactive', hcore, hcount⟩ := switch_ends s p hswitch (f := evActivations) (by unfold Fld.ok; decide)
    (by rw [← hdone]; exact rd_setMeas_ne _ _ (status_ne_measStaged p)) (by rw [← hdone]; exact rd_setMeas_ne _ _ (events_ne_measStaged p))
    (by rw [← hdone]; exact setMeas_parts _ _ _) hend
  exact gives_of_exec hexec ⟨hstage', hactive', (field_of_core PartSt.active hcore).trans hactive, (field_of_core PartSt.staged hcore).trans hnone,
    (field_of_core PartSt.locked hcore).trans hlocked, hcount⟩

theorem unloadDone_removes (hunload : (s.part p).unloading = true) (himg : (s.part p).active = some img) :
    Gives (.unloadDone p) s (fun s' => s'.stage p = 0 ∧ s'.isActive p = false ∧ (s'.part p).active = none ∧
      s'.fld (SI_EVENTS p) evUnloads = (s.fld (SI_EVENTS p) evUnloads + 1) % 2 ^ 16) := by
  have hgo : (s.stage p == 4 && (s.part p).unloading && s.switchQuiet p) = true := by
    rw [hstage, hunload, hquiet]
    rfl
  have hdropped := switching_dropped s p
  obtain ⟨report, hexec⟩ : ∃ report, exec (.unloadDone p) s =
      .next (((((((s.switchRecords p).dropStreams p).putReport p report).removeImage p).switchDone p false 1 0).addFld
        (SI_EVENTS p) evUnloads 1).flushReports.fireVector (2 + p)).settleRecords := by
    rw [exec_unloadDone, execUnloadDone]
    split
    · next hsome =>
      cases hsome.symm.trans himg
      exact ⟨_, rfl⟩
    · next hnot => exact absurd himg (hnot img hgo)
  obtain ⟨x, hactive, hswitch⟩ := removeImage_switching s p (hdropped.kept ((LoaderKept.refl _).putReport p report))
  generalize (((s.switchRecords p).dropStreams p).putReport p report).removeImage p = u at hswitch hexec
  obtain ⟨hstage', hactive', hcore, hcount⟩ := switch_ends s p hswitch (f := evUnloads) (by unfold Fld.ok; decide) rfl rfl rfl
    (((LoaderKept.refl ((u.switchDone p false 1 0).addFld (SI_EVENTS p) evUnloads 1)).flushReports.fireVector (2 + p)).settleRecords)
  exact gives_of_exec hexec ⟨hstage', hactive', (field_of_core PartSt.active hcore).trans hactive, hcount⟩

end

end

end Sys2Proof.Machine
end

section
/-! PROOFS. SLICE_SWITCH, TOKEN_LOOP, and the statement about the loader (03 R81; 13 R330; 02 R46 to R53). -/
namespace Sys2Proof.Machine

/-! ## SLICE_SWITCH -/

section
variable (p : Fin 8) (s : State)

/-- Tile memory moves; of what the loader holds only the resident slot changes. -/
theorem swapSlot_part (img : Image) (k : Nat) : (s.swapSlot p img k).part p = { s.part p with resident := k } := part_setPart_same _ _ _

theorem exec_sliceSwitch : exec (.sliceSwitch p) s = execSliceSwitch p s := (rfl)

section
variable {img : Image} (himg : (s.part p).active = some img) (hsliced : s.sliced p = true) (hlaunch : (s.part p).sliceLaunch ≠ [])
  (hended : ∀ k ∈ (s.part p).tracks, k.tiles = []) (hdeliver : (s.part p).noDeliver = false) (hstop : s.stopHolds (some p.val) = false)
  (hon : ∀ t ∈ imageTiles img, s.memOn (backingBase img (imageTiles img) t) 0x101000 = true)
include himg hsliced hlaunch hended hdeliver hstop hon

/-- Every tile of the resident slot has ended and the backing memory is ON: the next slot is taken, or after the last slot 0. -/
theorem exec_sliceSwitch_ready : exec (.sliceSwitch p) s =
    if (s.part p).resident + 1 < s.fld (SI_STATUS p) SI_STATUS_SLICE then
      .next ((s.part p).sliceLaunch.foldl (fun s e => s.deliverSlot p e) (s.swapSlot p img ((s.part p).resident + 1)))
    else
      .next (((s.part p).tracks.foldl (fun s t => s.launchDone t) (s.swapSlot p img 0)).setPart p
        { ((s.part p).tracks.foldl (fun s t => s.launchDone t) (s.swapSlot p img 0)).part p with tracks := [], sliceLaunch := [] }) := by
  have hgo : (s.sliced p && !(s.part p).sliceLaunch.isEmpty && (s.part p).tracks.all (fun k => k.tiles.isEmpty) && !(s.part p).noDeliver &&
      !s.stopHolds (some p.val)) = true := by
    have hall : (s.part p).tracks.all (fun k => k.tiles.isEmpty) = true :=
      List.all_eq_true.mpr fun k hk => List.isEmpty_iff.mpr (hended k hk)
    have hsome : (s.part p).sliceLaunch.isEmpty = false := by rw [List.isEmpty_eq_false_iff]; exact hlaunch
    rw [hsliced, hsome, hall, hdeliver, hstop]
    rfl
  have harea : ((imageTiles img).map (fun t => backingBase img (imageTiles img) t)).find? (fun a => !s.memOn a 0x101000) = none := by
    rw [List.find?_eq_none]
    intro a ha
    obtain ⟨t, ht, rfl⟩ := List.mem_map.mp ha
    rw [hon t ht]
    decide
  rw [exec_sliceSwitch, execSliceSwitch]
  dsimp only
  split
  · next hnone => cases hnone.symm.trans himg
  · next hsome =>
    cases hsome.symm.trans himg
    rw [hgo, if_neg (by decide), harea]

theorem sliceSwitch_next (hmore : (s.part p).resident + 1 < s.fld (SI_STATUS p) SI_STATUS_SLICE) :
    Gives (.sliceSwitch p) s (fun s' => (s'.part p).resident = (s.part p).resident + 1 ∧ (s'.part p).sliceLaunch = (s.part p).sliceLaunch) := by
  have hexec := exec_sliceSwitch_ready p s himg hsliced hlaunch hended hdeliver hstop hon
  rw [if_pos hmore] at hexec
  have hkept := (LoaderKept.refl (s.swapSlot p img ((s.part p).resident + 1))).foldl (l := (s.part p).sliceLaunch)
    (f := fun s e => s.deliverSlot p e) fun u e _ hu => hu.deliverSlot p e
  refine gives_of_exec hexec ⟨?_, ?_⟩
  · rw [field_of_core PartSt.resident (hkept.core p), swapSlot_part]
  · rw [field_of_core PartSt.sliceLaunch (hkept.core p), swapSlot_part]

theorem sliceSwitch_last (hlast : s.fld (SI_STATUS p) SI_STATUS_SLICE ≤ (s.part p).resident + 1) :
    Gives (.sliceSwitch p) s (fun s' => (s'.part p).resident = 0 ∧ (s'.part p).sliceLaunch = [] ∧ (s'.part p).tracks = []) := by
  have hexec := exec_sliceSwitch_ready p s himg hsliced hlaunch hended hdeliver hstop hon
  rw [if_neg (Nat.not_lt.mpr hlast)] at hexec
  have hkept := (LoaderKept.refl (s.swapSlot p img 0)).foldl (l := (s.part p).tracks) (f := fun s k => s.launchDone k) fun u k _ hu => hu.launchDone k
  refine gives_of_exec hexec ?_
  rw [part_setPart_same]
  exact ⟨(field_of_core PartSt.resident (hkept.core p)).trans (by rw [swapSlot_part]), rfl, rfl⟩

end

end

/-! ## TOKEN_LOOP -/

section
variable {s : State} {t : Nat} {c : Cmd}

/-- A CALL whose block can be read goes on from the state that read it. -/
theorem enterCall_of_ready (h : s.argsReady t c) (body : State → List Byte → State) : s.enterCall t c body = body (s.argState t c) (s.argBytes t c) := by
  obtain ⟨howned, hon, hsound⟩ := h
  simp only [State.enterCall, howned, hon, hsound, Bool.true_eq_false, if_false]
  rfl

/-- A block that R330 allows begins the loop. -/
theorem loopEnter_good {b : List Byte} {a : LoopArgs} (ha : a = loopArgs b) (hok : loopOk (callLen c.w) b = true)
    (hlaunch : s.owns c.part a.launch 64 = true) (hout : s.owns c.part a.outAddr a.outLen = true)
    (hin : s.queueOwner (bits a.inQueue 14 14) (bits a.inQueue 13 0) = some c.part) (hentry : s.queueOwner (tileDie t) a.entryQueue = some c.part)
    (hty : (s.queue (tileDie t) a.entryQueue).ty = 0) (hrole : (s.queue (tileDie t) a.entryQueue).role = 0)
    (hhost : a.last = true → a.hostQueue ≠ 0xFFFF → s.queueOwner (bits a.hostQueue 14 14) (bits a.hostQueue 13 0) = some c.part) :
    s.loopEnter t c b = s.beginRoutine t 0xE [(s.queue (bits a.inQueue 14 14) (bits a.inQueue 13 0)).cons, 0, 0, 0, leNat b] := by
  subst ha
  have hlast : ((loopArgs b).last && (loopArgs b).hostQueue != 0xFFFF &&
      s.queueOwner (bits (loopArgs b).hostQueue 14 14) (bits (loopArgs b).hostQueue 13 0) != some c.part) = false := by
    cases hl : (loopArgs b).last with
    | false => rfl
    | true =>
      by_cases hq : (loopArgs b).hostQueue = 0xFFFF
      · rw [hq]; rfl
      · rw [hhost hl hq, bne_self_eq_false, Bool.and_false]
  unfold State.loopEnter
  dsimp only
  rw [if_neg]
  rw [hok, hlaunch, hout, hin, hentry, hty, hrole, hlast, bne_self_eq_false]
  decide

theorem syncLog_fresh (hlogs : s.syncLogs t = []) (k : Nat) : s.syncLog t (128 + k) = ⟨128 + k, s.counter t k, s.counter t k, []⟩ := by
  simp [State.syncLog, hlogs, State.syncValue]

theorem countsTo_fresh (hlogs : s.syncLogs t = []) {k : Nat} (hpos : 0 < s.counter t k) : s.countsTo t k 1 = true := by
  rw [State.countsTo, syncLog_fresh hlogs]
  exact Bool.and_eq_true_iff.mpr ⟨decide_eq_true hpos, decide_eq_true hpos⟩

theorem takeCount_mem (s : State) (t k n : Nat) : (s.takeCount t k n).mem = s.mem := by
  simp only [State.takeCount, State.takeObject, State.setSyncValue, Nat.not_lt.mpr (Nat.le_add_right 128 k), if_false]
  exact (setFld_mem _ _ _ _).trans rfl

/-- A take of one from a counter that the cycle has not touched. -/
theorem counter_takeCount (hlogs : s.syncLogs t = []) {k : Nat} (hpos : 0 < s.counter t k) : (s.takeCount t k 1).counter t k = s.counter t k - 1 := by
  have hlt : s.counter t k < 2 ^ 32 := Nat.mod_lt _ (by decide)
  have hset (u : State) (v : Nat) : (u.setSyncValue t (128 + k) v).counter t k = v % 2 ^ 32 := by
    simp only [State.setSyncValue, Nat.not_lt.mpr (Nat.le_add_right 128 k), if_false, Nat.add_sub_cancel_left]
    exact fld_setFld_same u _ _ _ (by unfold Fld.ok; decide)
  simp only [State.takeCount, State.takeObject, syncLog_fresh hlogs, List.foldl_nil, hset]
  omega

end

section
variable (t : Fin 2048) (s : State) (c : Cmd) (n : BitVec 16)

theorem exec_tokenLoop : exec (.tokenLoop t n) s = execTokenLoop t n s := (rfl)

theorem tokenLoop_begins {b : List Byte} {s1 : State} {a : LoopArgs} (hs1 : s1 = s.argState t c) (hb : b = s.argBytes t c) (ha : a = loopArgs b)
    (hhead : s.callHead t 0xE = some c) (hready : s.argsReady t c) (hok : loopOk (callLen c.w) b = true) (hlaunch : s1.owns c.part a.launch 64 = true)
    (hout : s1.owns c.part a.outAddr a.outLen = true) (hin : s1.queueOwner (bits a.inQueue 14 14) (bits a.inQueue 13 0) = some c.part)
    (hentry : s1.queueOwner (tileDie t) a.entryQueue = some c.part) (hty : (s1.queue (tileDie t) a.entryQueue).ty = 0)
    (hrole : (s1.queue (tileDie t) a.entryQueue).role = 0)
    (hhost : a.last = true → a.hostQueue ≠ 0xFFFF → s1.queueOwner (bits a.hostQueue 14 14) (bits a.hostQueue 13 0) = some c.part) :
    Gives (.tokenLoop t n) s (fun s' => ((s'.tile t).routine.map (fun k => (k.number, k.phase))) = some (14, 0) ∧ s'.mem = s1.mem) := by
  have hexec : exec (.tokenLoop t n) s = .next (s1.loopEnter t c b) := by
    rw [exec_tokenLoop, execTokenLoop, hhead]
    exact congrArg Host.Outcome.next ((enterCall_of_ready hready _).trans (by rw [hs1, hb]))
  rw [loopEnter_good ha hok hlaunch hout hin hentry hty hrole hhost] at hexec
  refine gives_of_exec hexec ⟨?_, setTile_mem _ _ _⟩
  rw [State.beginRoutine, tile_setTile_same]
  rfl

section
variable {k : Routine} {a : LoopArgs} (hhead : s.callHead t 0xE = none) (hrun : s.running t 0xE = some (c, k)) (hfailed : k.failed = none)
  (hphase : k.phase = 2) (hlib : k.libFail = none) (hidle : s.libIdle t k = true) (ha : a = loopArgs (leBytes 64 (k.vals.getD 4 0)))
include hhead hrun hfailed hphase hlib hidle ha

/-- In phase 2 the loop waits for its done counter. -/
theorem exec_tokenLoop_waiting : exec (.tokenLoop t n) s = .next (if !s.countsTo t a.doneCounter 1 then s
    else (s.takeCount t a.doneCounter 1).loopTo t k 3 (k.vals.getD 0 0) (k.vals.getD 1 0) (k.vals.getD 2 0) 0) := by
  rw [exec_tokenLoop, execTokenLoop, hhead, hrun]
  dsimp only
  rw [State.routineStep, hfailed]
  dsimp only
  rw [State.libFailed, hlib]
  dsimp only
  rw [if_pos hidle, hphase, ha]
  rfl

theorem tokenLoop_waits (hcount : s.countsTo t a.doneCounter 1 = false) : exec (.tokenLoop t n) s = .next s := by
  rw [exec_tokenLoop_waiting t s c n hhead hrun hfailed hphase hlib hidle ha, hcount]
  rfl

theorem tokenLoop_takes (hlogs : s.syncLogs t = []) (hpos : 0 < s.counter t a.doneCounter) :
    Gives (.tokenLoop t n) s (fun s' => s'.counter t a.doneCounter = s.counter t a.doneCounter - 1 ∧
      ((s'.tile t).routine.map (·.phase)) = some 3 ∧ s'.mem = s.mem) := by
  have hexec := exec_tokenLoop_waiting t s c n hhead hrun hfailed hphase hlib hidle ha
  rw [countsTo_fresh hlogs hpos] at hexec
  refine gives_of_exec hexec ⟨?_, ?_, takeCount_mem s t a.doneCounter 1⟩
  · exact (fld_of_rd (rd_of_regs (setTile_regs _ _ _) _) _).trans (counter_takeCount hlogs hpos)
  · exact congrArg (fun x : TileSt => x.routine.map (·.phase)) (tile_setTile_same _ _ _)

end

end

/-- Settles O59, row by row. By log entry 21 a LOAD checks SI_SRC and SI_LEN as they stood when it was written, and ABORT zeroes SI_MEAS_STAGED. -/
theorem imagesAreLoadedArmedAndSwitched : Obligations.ImagesAreLoadedArmedAndSwitched := by
  unfold Obligations.ImagesAreLoadedArmedAndSwitched
  refine fun p s => ⟨fun ctx hctx => loader_denied p s ctx hctx, fun ctx hctx => ⟨?_, ?_, ?_, ?_, ?_, ?_, ?_, ?_, ?_⟩, ?_, ?_, ?_, ?_, ?_, ?_, ?_, ?_⟩
  · exact load_accepted p s ctx hctx
  · exact load_refused p s ctx hctx
  · intro img t hstage hstaged hepoch hzn hconflict htime ht hframe hold
    exact arm_accepted p s ctx hctx hstage hstaged hepoch hzn hconflict htime ht hframe hold
  · intro img r hstage hstaged hepoch hzn hconflict
    exact arm_conflict p s ctx hctx hstage hstaged hepoch hzn hconflict
  · exact arm_refused p s ctx hctx
  · exact abort_accepted p s ctx hctx
  · exact abort_refused p s ctx hctx
  · intro img t hstage hactive himg htime ht
    exact unload_accepted p s ctx hctx hstage hactive himg htime ht
  · exact unload_refused p s ctx hctx
  · rintro src len s1 hstage hat rfl hreads halign hlen hon hsound
    exact ⟨fun img hjudge => loadCheckDone_good p s hstage hat hreads halign hlen hon hsound hjudge,
      fun r hjudge => loadCheckDone_bad p s hstage hat hreads halign hlen hon hsound hjudge⟩
  · exact loadCheckDone_denied p s
  · intro img hstage hload hstop hstaged
    exact ⟨fun f hmap hphys hhalo hdue => activation_switches p s hstage hload hstop hdue hstaged hmap hphys hhalo,
      fun r hmap hdue => activation_refused p s hstage hload hstop hdue hstaged hmap, activation_early p s⟩
  · exact fun hstage hunload hstop => ⟨unloadSwitch_switches p s hstage hunload hstop, unloadSwitch_early p s⟩
  · exact fun img hstage hquiet => ⟨activationDone_installs s p hstage hquiet, unloadDone_removes s p hstage hquiet⟩
  · exact fun ctx v => ⟨fun hctx hforce => forcePass_accepted s ctx hctx hforce v, fun hctx hforce => forcePass_refused s ctx hctx hforce v,
      fun hw hl => forcePass_denied s ctx hw hl v⟩
  · intro img himg hsliced hlaunch hended hdeliver hstop hon
    exact ⟨sliceSwitch_next p s himg hsliced hlaunch hended hdeliver hstop hon, sliceSwitch_last p s himg hsliced hlaunch hended hdeliver hstop hon⟩
  · intro t c n
    refine ⟨fun b s1 a hs1 hb ha hhead hready hok hlaunch hout hin hentry hty hrole hhost =>
        tokenLoop_begins t s c n hs1 hb ha hhead hready hok hlaunch hout hin hentry hty hrole hhost,
      fun k a hhead hrun hfailed hphase hlib hidle ha => ⟨tokenLoop_waits t s c n hhead hrun hfailed hphase hlib hidle ha, fun hlogs hpos _ =>
        tokenLoop_takes t s c n hhead hrun hfailed hphase hlib hidle ha hlogs hpos⟩⟩

end Sys2Proof.Machine
end

section
/-! PROOFS. The signal operations (03 R62): what each of them makes of its own sync object, and what it leaves to the others. -/
namespace Sys2Proof.Machine

/-! ## Flags and counters of a tile -/

theorem bit_eq_bits (x i : Nat) : bit x i = (bits x i i == 1) := by
  rw [bit, bits, Nat.add_sub_cancel_left, Nat.pow_one]

/-- The register that holds a flag, and its place there (03 R61). -/
def flagReg (t k : Nat) : Nat := if k < 64 then TC_FLAGS0 t else TC_FLAGS1 t
def flagFld (k : Nat) : Fld := ⟨k % 64, k % 64⟩

theorem flagFld_ok (k : Nat) : (flagFld k).ok := ⟨Nat.le_refl _, Nat.mod_lt _ (by decide)⟩

/-- Two flags lie in two registers, or apart in one. -/
theorem flag_apart (t : Nat) {j k : Nat} (hj : j < 128) (hk : k < 128) (h : j ≠ k) :
    flagReg t j ≠ flagReg t k ∨ flagReg t j = flagReg t k ∧ (flagFld k).apart (flagFld j) := by
  unfold flagReg flagFld Fld.apart TC_FLAGS0 TC_FLAGS1
  dsimp only
  split <;> split <;> omega

section
variable (s : State) (t : Nat)

theorem syncFlag_eq_flag {k : Nat} (hk : k < 128) : s.syncFlag t k = s.flag (flagReg t k) (flagFld k) := by
  unfold State.syncFlag flagReg flagFld State.flag State.fld
  split
  · rw [bit_eq_bits, Nat.mod_eq_of_lt ‹k < 64›]
  · rw [bit_eq_bits, show k % 64 = k - 64 by omega]

theorem setSyncFlag_eq_setFld {k : Nat} (hk : k < 128) (b : Bool) : s.setSyncFlag t k b = s.setFld (flagReg t k) (flagFld k) (b2n b) := by
  unfold State.setSyncFlag flagReg flagFld
  split
  · rw [Nat.mod_eq_of_lt ‹k < 64›]
  · rw [show k % 64 = k - 64 by omega]

theorem syncFlag_setSyncFlag_same {k : Nat} (hk : k < 128) (b : Bool) : (s.setSyncFlag t k b).syncFlag t k = b := by
  have hone : (flagFld k).hi + 1 - (flagFld k).lo = 1 := Nat.add_sub_cancel_left _ _
  rw [syncFlag_eq_flag _ t hk, setSyncFlag_eq_setFld s t hk, State.flag, fld_setFld_same s _ _ _ (flagFld_ok k), hone]
  cases b <;> rfl

theorem syncFlag_setSyncFlag_ne {j k : Nat} (hj : j < 128) (hk : k < 128) (h : j ≠ k) (b : Bool) :
    (s.setSyncFlag t k b).syncFlag t j = s.syncFlag t j := by
  rw [syncFlag_eq_flag _ t hj, syncFlag_eq_flag _ t hj, setSyncFlag_eq_setFld s t hk, State.flag, State.flag]
  obtain hreg | ⟨hreg, hbit⟩ := flag_apart t hj hk h
  · rw [fld_setFld_ne s _ _ _ hreg]
  · rw [hreg, fld_setFld_other s _ _ _ _ (flagFld_ok k) hbit]

variable {s t}

/-- A flag is read off its register. -/
theorem syncFlag_of_rd {u : State} {k : Nat} (hk : k < 128) (h : u.rd (flagReg t k) = s.rd (flagReg t k)) : u.syncFlag t k = s.syncFlag t k := by
  rw [syncFlag_eq_flag u t hk, syncFlag_eq_flag s t hk, State.flag, State.flag, fld_of_rd h]

end

theorem counterReg_ne_flagReg (t j k : Nat) : TC_COUNTER t j ≠ flagReg t k := by
  unfold flagReg TC_COUNTER TC_FLAGS0 TC_FLAGS1
  split <;> omega

theorem flagReg_ne_fault (t k : Nat) : flagReg t k ≠ TC_FAULT t ∧ flagReg t k ≠ TC_FAULT_EVENTS t := by
  unfold flagReg TC_FAULT TC_FAULT_EVENTS TC_FLAGS0 TC_FLAGS1
  split <;> omega

theorem counterReg_ne_fault (t k : Nat) : TC_COUNTER t k ≠ TC_FAULT t ∧ TC_COUNTER t k ≠ TC_FAULT_EVENTS t := by
  unfold TC_COUNTER TC_FAULT TC_FAULT_EVENTS
  omega

theorem counterReg_ne (t : Nat) {j k : Nat} (h : j ≠ k) : TC_COUNTER t j ≠ TC_COUNTER t k := by
  unfold TC_COUNTER
  omega

/-! ## Operations -/

section
variable (s : State) (t k v : Nat)

/-- Registers other than the counter and the fault bits stay where a counter is set. -/
theorem rd_setCounterWrap_ne {b : Nat} (wraps : Prop) [Decidable wraps] (hcounter : b ≠ TC_COUNTER t k) (hfault : b ≠ TC_FAULT t)
    (hevents : b ≠ TC_FAULT_EVENTS t) : (s.setCounterWrap t k v wraps).rd b = s.rd b := by
  unfold State.setCounterWrap
  split
  · rw [State.tcFault, rd_sticky_ne _ _ hfault hevents, State.setCounter, rd_setFld_ne _ _ _ hcounter]
  · rw [State.setCounter, rd_setFld_ne _ _ _ hcounter]

theorem syncWrap_of_wraps {wraps : Prop} [Decidable wraps] (h : wraps) :
    (s.setCounterWrap t k v wraps).flag (TC_FAULT t) TC_FAULT_SYNC_WRAP = true := by
  rw [State.setCounterWrap, if_pos h, State.tcFault, State.flag,
    sticky_set _ _ _ _ (by unfold Fld.ok; decide) (by unfold TC_FAULT TC_FAULT_EVENTS; omega)]
  rfl

theorem fault_of_not_wraps {wraps : Prop} [Decidable wraps] (h : ¬wraps) : (s.setCounterWrap t k v wraps).rd (TC_FAULT t) = s.rd (TC_FAULT t) := by
  rw [State.setCounterWrap, if_neg h, State.setCounter, rd_setFld_ne _ _ _ (counterReg_ne_fault t k).1.symm]

/-- An operation does nothing, or sets its flag or its counter. -/
theorem doUpdate_cases (op : Nat) : s.doUpdate t k op v = s ∨ (∃ b, s.doUpdate t k op v = s.setSyncFlag t k b) ∨
    ∃ x wraps, ∃ _ : Decidable wraps, s.doUpdate t k op v = s.setCounterWrap t k x wraps := by
  unfold State.doUpdate
  split
  · exact .inr (.inl ⟨true, rfl⟩)
  · split
    · exact .inr (.inl ⟨false, rfl⟩)
    · split
      · exact .inr (.inr ⟨_, _, inferInstance, rfl⟩)
      · split
        · exact .inr (.inr ⟨_, _, inferInstance, rfl⟩)
        · split
          · exact .inr (.inr ⟨v, False, inferInstance, rfl⟩)
          · exact .inl rfl

/-- The tile's other counters and flags stay. -/
theorem doUpdate_others (op : Nat) {j : Nat} (hj : j < 128) (hk : k < 128) (h : j ≠ k) :
    (s.doUpdate t k op v).counter t j = s.counter t j ∧ (s.doUpdate t k op v).syncFlag t j = s.syncFlag t j := by
  obtain heq | ⟨b, heq⟩ | ⟨x, wraps, _, heq⟩ := doUpdate_cases s t k v op
  · rw [heq]
    exact ⟨rfl, rfl⟩
  · rw [heq]
    refine ⟨?_, syncFlag_setSyncFlag_ne s t hj hk h b⟩
    rw [setSyncFlag_eq_setFld s t hk]
    exact fld_setFld_ne s _ _ _ (counterReg_ne_flagReg t j k)
  · rw [heq]
    exact ⟨fld_of_rd (rd_setCounterWrap_ne s t k x _ (counterReg_ne t h) (counterReg_ne_fault t j).1 (counterReg_ne_fault t j).2) _,
      syncFlag_of_rd hj (rd_setCounterWrap_ne s t k x _ (counterReg_ne_flagReg t k j).symm (flagReg_ne_fault t j).1 (flagReg_ne_fault t j).2)⟩

theorem doUpdate_flagSet : s.doUpdate t k 1 v = s.setSyncFlag t k true := (rfl)
theorem doUpdate_flagClear : s.doUpdate t k 2 v = s.setSyncFlag t k false := (rfl)
theorem doUpdate_add : s.doUpdate t k 3 v = s.setCounterWrap t k ((s.counter t k + v) % 2 ^ 32) (s.counter t k + v ≥ 2 ^ 32) := (rfl)
theorem doUpdate_sub : s.doUpdate t k 4 v = s.setCounterWrap t k ((s.counter t k + 2 ^ 32 - v) % 2 ^ 32) (s.counter t k < v) := (rfl)
theorem doUpdate_write : s.doUpdate t k 5 v = s.setCounter t k v := (rfl)

end

theorem applyUpdate_none (s : State) (t obj v : Nat) : s.applyUpdate t obj 0 v = s := (rfl)

/-- Settles O11: each operation by the lemma on what it sets, read off the registers, which the cycle's log of updates is no part of. -/
theorem signalOperations : Obligations.SignalOperations := by
  unfold Obligations.SignalOperations
  intro s t obj v k
  have hk : k < 128 := Nat.mod_lt _ (by decide)
  have hv : (v : Nat) % 2 ^ 32 = v := Nat.mod_eq_of_lt (Nat.lt_trans v.isLt (by decide))
  have hrd (op a : Nat) : (s.notedUpdate t obj op v).rd a = s.rd a := rd_of_regs (notedUpdate_regs s _ _ _ _) a
  have hcounter (op j : Nat) : (s.notedUpdate t obj op v).counter t j = s.counter t j := fld_of_rd (hrd op _) _
  have hflag (op j : Nat) (hj : j < 128) : (s.notedUpdate t obj op v).syncFlag t j = s.syncFlag t j := syncFlag_of_rd hj (hrd op _)
  have heq (op : Nat) : s.applyUpdate t obj op v = (s.notedUpdate t obj op v).doUpdate t k op v := applyUpdate_eq s t obj op v
  refine ⟨applyUpdate_none s t obj v, ?_, ?_, ?_, ?_, ?_, fun h => ?_, fun h => ?_, fun h => ?_, fun h => ?_,
    fun op => ⟨applyUpdate_tiles s _ _ _ _, applyUpdate_mem s _ _ _ _, fun j hj => ?_⟩⟩
  · rw [heq, doUpdate_flagSet, syncFlag_setSyncFlag_same _ _ hk]
  · rw [heq, doUpdate_flagClear, syncFlag_setSyncFlag_same _ _ hk]
  · rw [heq, doUpdate_add, counter_setCounterWrap, hcounter, Nat.mod_mod]
  · rw [heq, doUpdate_sub, counter_setCounterWrap, hcounter, Nat.mod_mod]
  · rw [heq, doUpdate_write, State.counter, State.setCounter, fld_setFld_same _ _ _ _ (by unfold Fld.ok; decide)]
    exact hv
  · rw [heq, doUpdate_add, syncWrap_of_wraps]
    rw [hcounter]
    exact h
  · rw [heq, doUpdate_sub, syncWrap_of_wraps]
    rw [hcounter]
    exact h
  · rw [heq, doUpdate_add, fault_of_not_wraps, hrd]
    rw [hcounter]
    exact Nat.not_le.mpr h
  · rw [heq, doUpdate_sub, fault_of_not_wraps, hrd]
    rw [hcounter]
    exact Nat.not_lt.mpr h
  · obtain ⟨hc, hf⟩ := doUpdate_others (s.notedUpdate t obj op v) t k v op j.isLt hk hj
    rw [heq, hc, hf, hcounter, hflag op j j.isLt]
    exact ⟨rfl, rfl⟩

end Sys2Proof.Machine
end

section
/-! PROOFS. What reports, counts and memory accesses leave alone (09 R208, R222, 10 R235, 16 R385, R394 to R400, 17 R411): beside registers, memory, hardware
queues and what waits to be written, the module stands as it did; its tiles and the hub's records among them. Equations that hold by unfolding end in (rfl),
so that simp rewrites by their proofs. -/
namespace Sys2Proof.Machine

/-- A state without what reports, counts, memory accesses and sync updates change. -/
def State.still (s : State) : State :=
  { s with regs := [], mem := [], ue := [], free := 0, queues := [], hubStart := [], sigNet := [], sync := [], hbSeq := [], tally := {}, welkin := {},
           waits := [], lcCount := [], lcWin := [], hbPend := [], evPend := [] }

section
variable {s u : State} (h : u.still = s.still)
include h

theorem tiles_of_still : u.tiles = s.tiles := (congrArg State.tiles h :)
theorem hubs_of_still : u.hubs = s.hubs := (congrArg State.hubs h :)
theorem fuses_of_still : u.fuses = s.fuses := (congrArg State.fuses h :)
theorem zt_of_still : u.zt = s.zt := (congrArg State.zt h :)

theorem tile_of_still (t : Nat) : u.tile t = s.tile t := by rw [State.tile, State.tile, tiles_of_still h]

theorem heldRecs_of_still (d ix : Nat) : u.heldRecs d ix = s.heldRecs d ix := by
  rw [State.heldRecs, State.heldRecs, State.hub, State.hub, hubs_of_still h]

end

/-- A choice between two states that stand alike. -/
theorem ite_still {c : Prop} [Decidable c] {s t u : State} (ht : t.still = s.still) (hu : u.still = s.still) :
    (if c then t else u).still = s.still := by
  split
  · exact ht
  · exact hu

theorem foldl_still {α : Type} {f : State → α → State} (h : ∀ s x, (f s x).still = s.still) (xs : List α) (s : State) :
    (xs.foldl f s).still = s.still := foldl_keeps State.still h xs s

section
variable (s : State)

/-! ## Registers, counts and waits -/

@[simp] theorem wr_still (a v : Nat) : (s.wr a v).still = s.still := (rfl)
@[simp] theorem setFld_still (a : Nat) (f : Fld) (v : Nat) : (s.setFld a f v).still = s.still := (rfl)
@[simp] theorem addFld_still (a : Nat) (f : Fld) (k : Nat) : (s.addFld a f k).still = s.still := by rw [State.addFld, setFld_still]
@[simp] theorem sticky_still (e : Nat) (f : Fld) (ev : Nat) : (s.sticky e f ev).still = s.still := by
  rw [State.sticky, addFld_still, setFld_still]
@[simp] theorem tcFault_still (t : Nat) (f : Fld) : (s.tcFault t f).still = s.still := by rw [State.tcFault, sticky_still]
@[simp] theorem count_still (kind inst ev k : Nat) (x : Attr) : (s.count kind inst ev k x).still = s.still := (rfl)

theorem withTally_still (l : TallySt) : State.still { s with tally := l } = s.still := (rfl)
theorem withWelkin_still (w : WelkinSt) : State.still { s with welkin := w } = s.still := (rfl)
theorem withFree_still (n : Nat) : State.still { s with free := n } = s.still := (rfl)
theorem withHubStart_still (l : List (Nat × Nat × Nat)) : State.still { s with hubStart := l } = s.still := (rfl)
theorem withEvPend_still (l : List (Nat × Nat × List Byte)) : State.still { s with evPend := l } = s.still := (rfl)
theorem withHbPend_still (l : List (Nat × List Byte)) : State.still { s with hbPend := l } = s.still := (rfl)
theorem withHbSeq_still (q : Sparse Nat) : State.still { s with hbSeq := q } = s.still := (rfl)

@[simp] theorem holdAccess_still (who a : Nat) (x : Attr) : (s.holdAccess who a x).still = s.still := by
  obtain ⟨_, _, _, hother⟩ := holdAccess_other s who a x
  rw [hother]
  rfl

/-! ## Memory -/

@[simp] theorem cleanUnits_still (a n : Nat) : (s.cleanUnits a n).still = s.still := (rfl)
@[simp] theorem writeBytes_still (a : Nat) (b : List Byte) : (s.writeBytes a b).still = s.still := by
  obtain ⟨_, hother⟩ := writeBytes_other s a b
  rw [hother]
  rfl
@[simp] theorem writeExcept_still (a : Nat) (skip : List Nat) (b : List Byte) : (s.writeExcept a skip b).still = s.still := by
  obtain ⟨_, hother⟩ := writeExcept_other s a skip b
  rw [hother]
  rfl

/-! ## Events (10 R235, 18 R427) -/

@[simp] theorem logEntry_still (code sev : Nat) (b : List Byte) : (s.logEntry code sev b).still = s.still := by
  simp only [State.logEntry, apply_ite State.still, sticky_still, addFld_still, withWelkin_still, ite_self]
@[simp] theorem logFree_still (code : Nat) (b : List Byte) : (s.logFree code b).still = s.still := by
  simp only [State.logFree, State.fresh, logEntry_still, withFree_still]
@[simp] theorem noteCounts_still (d q : Nat) : (s.noteCounts d q).still = s.still := by
  simp only [State.noteCounts, apply_ite State.still, withHubStart_still, ite_self]
@[simp] theorem setQueue_still (d q : Nat) (x : QueueSt) : (s.setQueue d q x).still = s.still := (rfl)
@[simp] theorem sendSig_still (g : Sig) : (s.sendSig g).still = s.still := (rfl)
@[simp] theorem advanceProd_still (d q k : Nat) : (s.advanceProd d q k).still = s.still := by
  simp only [State.advanceProd, apply_ite State.still, sendSig_still, setQueue_still, noteCounts_still, ite_self]
@[simp] theorem pushEntry_still (d q : Nat) (b : List Byte) : (s.pushEntry d q b).still = s.still := by
  rw [State.pushEntry, advanceProd_still, cleanUnits_still, writeBytes_still]
@[simp] theorem dropEvent_still (d : Nat) : (s.dropEvent d).still = s.still := by rw [State.dropEvent, addFld_still, sticky_still]
@[simp] theorem putEvent_still (d q : Nat) (b : List Byte) : (s.putEvent d q b).still = s.still := by
  simp only [State.putEvent, apply_ite State.still, withEvPend_still, holdAccess_still, pushEntry_still, ite_self]
@[simp] theorem postEvent_still (scope : Option Nat) (d kind source : Nat) (b : List Byte) : (s.postEvent scope d kind source b).still = s.still := by
  simp only [State.postEvent, apply_ite State.still, putEvent_still, dropEvent_still, logFree_still, ite_self]

/-! ## Uncorrectable errors and checked writes (09 R208, R218, R222) -/

@[simp] theorem hbPut_still (n : Nat) (b : List Byte) : (s.hbPut n b).still = s.still := by
  simp only [State.hbPut, apply_ite State.still, sticky_still, addFld_still, setFld_still, cleanUnits_still, writeBytes_still, ite_self]
@[simp] theorem hbLog_still (n : Nat) (b : List Byte) : (s.hbLog n b).still = s.still := by
  simp only [State.hbLog, apply_ite State.still, withHbPend_still, holdAccess_still, hbPut_still, ite_self]
@[simp] theorem hbRecord_still (n kind a : Nat) (m : Master) : (s.hbRecord n kind a m).still = s.still := by
  rw [State.hbRecord, State.hbRecordAt, hbLog_still, withHbSeq_still, apply_ite State.still, logFree_still, ite_self]
@[simp] theorem dataLoss_still (kind a : Nat) : (s.dataLoss kind a).still = s.still := by rw [State.dataLoss, postEvent_still, sticky_still]
@[simp] theorem notedError_still (what which : Nat) : (s.notedError what which).still = s.still := (rfl)
@[simp] theorem ueMet_still (kind a : Nat) (m : Master) : (s.ueMet kind a m).still = s.still := by
  simp only [State.ueMet, apply_ite State.still, dataLoss_still, hbRecord_still, notedError_still, count_still, wr_still, addFld_still, sticky_still,
    ite_self]
@[simp] theorem store_still (a : Nat) (b : List Byte) (m : Master) : (s.store a b m).1.still = s.still :=
  (foldl_still (fun s u => ueMet_still s 3 u m) _ _).trans (by rw [cleanUnits_still, writeExcept_still])

/-! ## Accesses counted (09 R215, 16 R388) -/

@[simp] theorem hbCount_still (ev a n : Nat) (x : Attr) : (s.hbCount ev a n x).still = s.still := by
  obtain ⟨_, hother⟩ := hbCount_other s ev a n x
  rw [hother]
  rfl
theorem withWindow_still (c w : Sparse Nat) : State.still { s with lcCount := c, lcWin := w } = s.still := (rfl)
@[simp] theorem lcAll_still (a n : Nat) (x : Attr) : (s.lcAll a n x).still = s.still := by
  simp only [State.lcAll, State.lcUse, apply_ite State.still, count_still, addFld_still, setFld_still, withWindow_still, ite_self]
@[simp] theorem lcRead_still (a n : Nat) (x : Attr) : (s.lcRead a n x).still = s.still := by
  rw [State.lcRead, lcAll_still, hbCount_still, hbCount_still]
@[simp] theorem hbRead_still (a n : Nat) (x : Attr) : (s.hbRead a n x).still = s.still := by
  simp only [State.hbRead, apply_ite State.still, lcRead_still, hbCount_still, ite_self]
@[simp] theorem hbWrite_still (a n : Nat) (x : Attr) : (s.hbWrite a n x).still = s.still :=
  (foldl_still (fun s e => by simp only [hbCount_still, apply_ite State.still, lcAll_still, ite_self]) _ _).trans
    (by simp only [apply_ite State.still, lcAll_still, hbCount_still, ite_self])

/-! ## Trace records and watches (16 R394 to R400) -/

@[simp] theorem tallyWritten_still (w : TallyWrite) : (s.tallyWritten w).still = s.still := by
  simp only [State.tallyWritten, apply_ite State.still, setFld_still, store_still, hbWrite_still, ite_self]

theorem tallyFlushList_still (kept l : List TallyWrite) : (s.tallyFlushList kept l).still = s.still := by
  induction l generalizing s kept with
  | nil => rfl
  | cons w l ih => simp only [State.tallyFlushList, apply_ite State.still, ih, tallyWritten_still, holdAccess_still, ite_self]

@[simp] theorem tallyPut_still (w : TallyWrite) : (s.tallyPut w).still = s.still := by
  simp only [State.tallyPut, State.tallyFlush, apply_ite State.still, tallyFlushList_still, withTally_still, ite_self]
@[simp] theorem traceDropped_still (d k : Nat) : (s.traceDropped d k).still = s.still := by
  simp only [State.traceDropped, apply_ite State.still, addFld_still, setFld_still, ite_self]
@[simp] theorem trace_still (r : TraceRec) : (s.trace r).still = s.still := by
  simp only [State.trace, apply_ite State.still, traceDropped_still, tallyPut_still, withTally_still, ite_self]

@[simp] theorem debugPut_still (r : List Byte) : (s.debugPut r).still = s.still := by
  simp only [State.debugPut, apply_ite State.still, tallyPut_still, sticky_still, ite_self]

@[simp] theorem dumpRead_still (a n : Nat) : (s.dumpRead a n).1.still = s.still :=
  (foldl_keeps (fun r : State × List Byte => r.1.still) (fun r u => by simp only [State.fresh, withFree_still, ueMet_still]) _ _).trans
    (hbRead_still s a n tallyAttr)

@[simp] theorem watchOne_still (p step : Nat) (wrote : List (Nat × Nat)) (x : DumpOf) (w : Nat) : (s.watchOne p step wrote x w).still = s.still := by
  unfold State.watchOne
  split
  · rfl
  · simp only [apply_ite State.still, setFld_still, debugPut_still, dumpRead_still, ite_self]

@[simp] theorem watchWrite_still (p step : Nat) (wrote : List (Nat × Nat)) (x : DumpOf) : (s.watchWrite p step wrote x).still = s.still := by
  simp only [State.watchWrite, apply_ite State.still, foldl_still (fun s w => watchOne_still s p step wrote x w), ite_self]

/-! ## Signals (03 R62, R66) -/

@[simp] theorem applyUpdate_still (t obj op value : Nat) : (s.applyUpdate t obj op value).still = s.still := by
  obtain ⟨_, _, hother⟩ := applyUpdate_other s t obj op value
  rw [hother]
  rfl

@[simp] theorem signal_still (t : Nat) (c : Cmd) : (s.signal t c).still = s.still := by
  simp only [State.signal, apply_ite State.still, applyUpdate_still, sendSig_still, ite_self]

end

end Sys2Proof.Machine
end

section
/-! PROOFS. The end of a command (03 R57, R67, R77, 10 R236): what its completion leaves to the tile, which records the hub then holds, and what the end of a
launch and the next launch change. -/
namespace Sys2Proof.Machine

/-! ## Tiles -/

theorem tile_setTile (s : State) (t u : Nat) (x : TileSt) : (s.setTile t x).tile u = if u = t then x else s.tile u := sget_sset _ _ _ _ _

theorem tile_setTile_ne (s : State) {t u : Nat} (x : TileSt) (h : u ≠ t) : (s.setTile t x).tile u = s.tile u := by rw [tile_setTile, if_neg h]

theorem tile_congr {s u : State} (h : u.tiles = s.tiles) (t : Nat) : u.tile t = s.tile t := by rw [State.tile, State.tile, h]

/-- What a tile's new state leaves as it is, every tile keeps. -/
theorem tile_setTile_keeps {β : Type} (g : TileSt → β) {s : State} {t : Nat} {x : TileSt} (h : g x = g (s.tile t)) (u : Nat) :
    g ((s.setTile t x).tile u) = g (s.tile u) := by
  rw [tile_setTile]
  split
  · rw [h, ‹u = t›]
  · rfl

/-- A tile's queues, in-line command, engines, ended commands and stops: its state without launches, counts and a routine's own state. -/
def TileSt.work (x : TileSt) : TileSt :=
  { x with launch := none, next := none, wordIx := 0, fetched := none, routine := none, xsr := {}, vuPend := none, halo := [], haloHold := none
           haloOut := [], flight := [], slotAt := [], wordAt := 0, slotTaken := 0 }

section
variable {x y : TileSt} (h : x.work = y.work)
include h

theorem queues_of_work : x.queues = y.queues := (congrArg TileSt.queues h :)
theorem inl_of_work : x.inl = y.inl := (congrArg TileSt.inl h :)
theorem ended_of_work : x.ended = y.ended := (congrArg TileSt.ended h :)
theorem stopped_of_work : x.stopped = y.stopped := (congrArg TileSt.stopped h :)

end

theorem noteRoutine_work (x : TileSt) (c : Cmd) (status : Nat) : (x.noteRoutine c status).work = x.work := by
  unfold TileSt.noteRoutine
  split
  · split <;> rfl
  · rfl

theorem noteRoutine_fetched (x : TileSt) (c : Cmd) (status : Nat) : (x.noteRoutine c status).fetched = x.fetched := by
  unfold TileSt.noteRoutine
  split
  · split <;> rfl
  · rfl

theorem issued_work (x : TileSt) (c : Cmd) (cycle : Nat) : (x.issued c cycle).work = x.work := (rfl)

theorem haloCount_work (x : TileSt) (m : HaloMsg) : (x.haloCount m).work = x.work := by
  unfold TileSt.haloCount
  split
  · rfl
  · split
    · rfl
    · split
      · rfl
      · split
        · rfl
        · split <;> rfl

/-! ## Records that the hub holds (10 R236) -/

section
variable (s : State)

theorem heldRecs_setHub (d e ix : Nat) (x : HubSt) : (s.setHub d x).heldRecs e ix = if e = d then sget (fun _ => []) x.held ix else s.heldRecs e ix := by
  rw [State.heldRecs, State.heldRecs, State.hub, State.setHub, sget_sset, State.hub]
  split <;> rfl

theorem heldRecs_offer_same (d ix : Nat) (r : CompRec) : (s.offer d ix r).heldRecs d ix = s.heldRecs d ix ++ [r] := by
  rw [State.offer, heldRecs_setHub, if_pos rfl]
  exact sget_sset_same _ _ _ _

theorem heldRecs_offer_ne {d e ix iy : Nat} (r : CompRec) (h : iy ≠ ix) : (s.offer d ix r).heldRecs e iy = s.heldRecs e iy := by
  rw [State.offer, heldRecs_setHub]
  split
  · rw [‹e = d›]
    exact sget_sset_ne _ _ _ h
  · rfl

/-- A source of records is not the one of LAUNCH_DONE. -/
theorem sourceIx_ne_launchDone (t : Nat) {q : Nat} (hq : q < 8) : sourceIx t q ≠ 8192 := by
  unfold sourceIx
  omega

/-! ## The end of a launch (03 R57) -/

theorem launchDone_other (k : LaunchTrack) : ∃ h, s.launchDone k = { s with hubs := h } := by
  unfold State.launchDone State.offerDone State.offer
  split
  · split
    · exact ⟨_, rfl⟩
    · exact ⟨_, rfl⟩
  · exact ⟨s.hubs, rfl⟩

theorem heldRecs_launchDone (k : LaunchTrack) (d : Nat) {ix : Nat} (h : ix ≠ 8192) : (s.launchDone k).heldRecs d ix = s.heldRecs d ix := by
  unfold State.launchDone State.offerDone
  split
  · split
    · exact heldRecs_offer_ne s _ h
    · rw [heldRecs_setHub]
      split
      · rw [‹d = k.die›]
        rfl
      · rfl
  · rfl

theorem launchDones_other (l : List LaunchTrack) : ∃ h, l.foldl (fun s k => s.launchDone k) s = { s with hubs := h } := by
  induction l generalizing s with
  | nil => exact ⟨s.hubs, rfl⟩
  | cons k l ih =>
    obtain ⟨h, hk⟩ := launchDone_other s k
    obtain ⟨h', hl⟩ := ih (s.launchDone k)
    exact ⟨h', by rw [List.foldl_cons, hl, hk]⟩

/-- A tile's last work of a launch changes the launches followed and the hub's records alone. -/
theorem checkFinished_other (t id : Nat) (abandoned : Bool) : ∃ p h, s.checkFinished t id abandoned = { s with parts := p, hubs := h } := by
  unfold State.checkFinished State.tileFinished
  split
  · exact ⟨s.parts, s.hubs, rfl⟩
  · split
    · exact ⟨s.parts, s.hubs, rfl⟩
    · rename_i p _
      obtain ⟨h, hdone⟩ := launchDones_other (s.setPart p _) _
      exact ⟨_, h, hdone⟩

@[simp] theorem checkFinished_tiles (t id : Nat) (abandoned : Bool) : (s.checkFinished t id abandoned).tiles = s.tiles := by
  obtain ⟨_, _, hother⟩ := checkFinished_other s t id abandoned
  rw [hother]
@[simp] theorem checkFinished_mem (t id : Nat) (abandoned : Bool) : (s.checkFinished t id abandoned).mem = s.mem := by
  obtain ⟨_, _, hother⟩ := checkFinished_other s t id abandoned
  rw [hother]
@[simp] theorem checkFinished_zt (t id : Nat) (abandoned : Bool) : (s.checkFinished t id abandoned).zt = s.zt := by
  obtain ⟨_, _, hother⟩ := checkFinished_other s t id abandoned
  rw [hother]

/-- It offers no record but LAUNCH_DONE. -/
theorem heldRecs_checkFinished (t id : Nat) (abandoned : Bool) (d : Nat) {ix : Nat} (h : ix ≠ 8192) :
    (s.checkFinished t id abandoned).heldRecs d ix = s.heldRecs d ix := by
  unfold State.checkFinished State.tileFinished
  split
  · rfl
  · split
    · rfl
    · exact foldl_keeps (fun u : State => u.heldRecs d ix) (fun u k => heldRecs_launchDone u k d h) _ _

/-! ## The next launch (03 R59) -/

/-- A tile whose buffered launch becomes the running one. -/
def TileSt.turned (x : TileSt) : TileSt := { x with launch := x.next, next := none, wordIx := 0, fetched := none }

/-- The running launch goes on, or the buffered one begins and the end of the one before is looked at. -/
theorem nextLaunch_cases (t : Nat) :
    s.nextLaunch t = s ∨ ∃ id, s.nextLaunch t = (s.setTile t (s.tile t).turned).checkFinished t id false := by
  unfold State.nextLaunch
  dsimp only
  split
  · exact .inl rfl
  · split
    · exact .inl rfl
    · exact .inr ⟨_, rfl⟩

theorem nextLaunch_work (t u : Nat) : ((s.nextLaunch t).tile u).work = (s.tile u).work := by
  obtain heq | ⟨id, heq⟩ := nextLaunch_cases s t
  · rw [heq]
  · rw [heq, tile_congr (checkFinished_tiles _ _ _ _)]
    exact tile_setTile_keeps TileSt.work (x := (s.tile t).turned) rfl u

/-- No word comes into hand. -/
theorem nextLaunch_fetched {t : Nat} (h : (s.tile t).fetched = none) : ((s.nextLaunch t).tile t).fetched = none := by
  obtain heq | ⟨id, heq⟩ := nextLaunch_cases s t
  · rw [heq, h]
  · rw [heq, tile_congr (checkFinished_tiles _ _ _ _), tile_setTile_same]
    rfl

theorem heldRecs_nextLaunch (t d : Nat) {ix : Nat} (h : ix ≠ 8192) : (s.nextLaunch t).heldRecs d ix = s.heldRecs d ix := by
  obtain heq | ⟨id, heq⟩ := nextLaunch_cases s t
  · rw [heq]
  · rw [heq, heldRecs_checkFinished _ _ _ _ _ h]
    rfl

end

/-! ## A tile's books (07 R163, 16 R385, R387) -/

/-- A later state whose tiles hold the same work: only what the tiles count, and the counters, differ. -/
structure Booked (s u : State) : Prop where
  other : ∃ l k, u = { s with tiles := l, tally := k }
  work : ∀ t, (u.tile t).work = (s.tile t).work

namespace Booked

variable {s u v : State}

theorem refl (s : State) : Booked s s := ⟨⟨s.tiles, s.tally, rfl⟩, fun _ => rfl⟩

theorem setTile (h : Booked s u) {t : Nat} {x : TileSt} (hx : x.work = (u.tile t).work) : Booked s (u.setTile t x) := by
  obtain ⟨⟨l, k, hother⟩, hwork⟩ := h
  exact ⟨⟨_, k, by rw [State.setTile, hother]⟩, fun n => (tile_setTile_keeps TileSt.work hx n).trans (hwork n)⟩

theorem count (h : Booked s u) (kind inst ev k : Nat) (x : Attr) : Booked s (u.count kind inst ev k x) := by
  obtain ⟨⟨l, k', hother⟩, hwork⟩ := h
  exact ⟨⟨l, _, by rw [State.count, hother]⟩, hwork⟩

theorem ite {c : Prop} [Decidable c] (hu : Booked s u) (hv : Booked s v) : Booked s (if c then u else v) := by
  split
  · exact hu
  · exact hv

theorem slotMark (h : Booked s u) (t q : Nat) : Booked s (u.slotMark t q) := h.setTile (by rfl)

theorem slotEnd (h : Booked s u) (t q : Nat) (c : Cmd) (status : Nat) : Booked s (u.slotEnd t q c status) := by
  have hflown : Booked s (u.setTile t ((u.tile t).setFlying q (((u.tile t).flying q).erase c))) := h.setTile (by rfl)
  unfold State.slotEnd
  exact ite ((ite hflown (hflown.count _ _ _ _ _)).slotMark t q) hflown

theorem haloCount (h : Booked s u) (t : Nat) (m : HaloMsg) : Booked s (u.haloCount t m) := by
  unfold State.haloCount
  exact ite (h.setTile (haloCount_work _ _)) h

theorem vuCommit (h : Booked s u) (t : Nat) (e : Ended) : Booked s (u.vuCommit t e) := by
  unfold State.vuCommit
  split
  · exact h
  · rename_i v _
    have htaken : Booked s (u.setTile t { u.tile t with vuPend := none, xsr := if e.status = stOk then v.xsr.getD (u.tile t).xsr else (u.tile t).xsr }) :=
      h.setTile (by rfl)
    have hcounted := ite (c := v.nonfinite = 0) htaken (htaken.count 0 t 0x07 v.nonfinite e.cmd.attr)
    exact ite htaken (ite hcounted (hcounted.haloCount t _))

end Booked

/-! ## Completion (03 R67, R77) -/

section
variable (s : State)

/-- The command's counts are taken. -/
def State.endCounted (s : State) (t : Nat) (e : Ended) : State :=
  ((if e.q = 4 then s.vuCommit t e else s).count 0 t (if e.status = stOk then 0x01 else 0x02) 1 e.cmd.attr).slotEnd t e.q e.cmd e.status

/-- Its record is offered where one is due (10 R236). -/
def State.endRecorded (s : State) (t : Nat) (e : Ended) : State :=
  if e.status = stOk ∧ wNotify e.cmd.w = false then s
  else s.offer (tileDie t) (sourceIx t e.q) ⟨e.cmd.cq, e.cmd.part,
    recordBytes t e.q e.status (wLayerOp e.cmd.w) s.zt e.cmd.seq e.cmd.index e.detail, e.cmd.priv⟩

/-- Its end is traced, its writes watched, its signal applied. -/
def State.endTold (s : State) (t : Nat) (e : Ended) : State :=
  let s := s.trace (e.cmd.traceRec t e.q 2 e.status)
  let s := if e.watched then s.watchWrite e.cmd.part e.cmd.step e.wrote (e.dumpOf t) else s
  if e.status = stOk then s.signal t e.cmd else s

/-- A routine learns of its command's failure. -/
def State.endNoted (s : State) (t : Nat) (e : Ended) : State := s.setTile t ((s.tile t).noteRoutine e.cmd e.status)

theorem complete_eq (t : Nat) (e : Ended) :
    s.complete t e = ((((s.endCounted t e).endRecorded t e).endTold t e).endNoted t e).checkFinished t e.cmd.launch false := (rfl)

theorem endTold_still (t : Nat) (e : Ended) : (s.endTold t e).still = s.still := by
  simp only [State.endTold, apply_ite State.still, signal_still, watchWrite_still, trace_still, ite_self]

theorem endCounted_booked (t : Nat) (e : Ended) : Booked s (s.endCounted t e) :=
  ((((Booked.refl s).vuCommit t e).ite (Booked.refl s)).count _ _ _ _ _).slotEnd _ _ _ _

theorem endRecorded_tiles (t : Nat) (e : Ended) : (s.endRecorded t e).tiles = s.tiles := by
  unfold State.endRecorded
  split <;> rfl

/-- A completion leaves a tile's queues, ended commands and stops as they are. -/
theorem complete_work (t : Nat) (e : Ended) (u : Nat) : ((s.complete t e).tile u).work = (s.tile u).work := by
  rw [complete_eq, tile_congr (checkFinished_tiles _ _ _ _), State.endNoted, tile_setTile_keeps TileSt.work (noteRoutine_work _ _ _),
    tile_of_still (endTold_still _ t e), tile_congr (endRecorded_tiles _ t e), (endCounted_booked s t e).work]

/-- The record of an ended command, where one is due (R77, 10 R236). -/
def Ended.records (e : Ended) (t zt : Nat) : List CompRec :=
  if e.silent then [] else [⟨e.cmd.cq, e.cmd.part,
    recordBytes t e.q e.status (wLayerOp e.cmd.w) zt e.cmd.seq e.cmd.index e.detail, e.cmd.priv⟩]

theorem silent_iff (e : Ended) : e.silent = true ↔ e.status = stOk ∧ wNotify e.cmd.w = false := by
  rw [Ended.silent, Bool.and_eq_true, beq_iff_eq, Bool.not_eq_true']

/-- A completion offers its record to its queue's source. -/
theorem heldRecs_complete (t : Nat) (e : Ended) (hq : e.q < 8) :
    (s.complete t e).heldRecs (tileDie t) (sourceIx t e.q) = s.heldRecs (tileDie t) (sourceIx t e.q) ++ e.records t s.zt := by
  obtain ⟨l, k, hcounted⟩ := (endCounted_booked s t e).other
  have hzt : (s.endCounted t e).zt = s.zt := by rw [hcounted]
  have hheld : (s.endCounted t e).heldRecs (tileDie t) (sourceIx t e.q) = s.heldRecs (tileDie t) (sourceIx t e.q) := by rw [hcounted]; rfl
  have hnoted (u : State) : (u.endNoted t e).heldRecs (tileDie t) (sourceIx t e.q) = u.heldRecs (tileDie t) (sourceIx t e.q) := (rfl)
  rw [complete_eq, heldRecs_checkFinished _ _ _ _ _ (sourceIx_ne_launchDone t hq), hnoted, heldRecs_of_still (endTold_still _ t e), Ended.records,
    State.endRecorded]
  split
  · rw [hheld, if_pos ((silent_iff e).mpr ‹_›), List.append_nil]
  · rw [heldRecs_offer_same, hheld, hzt, if_neg (mt (silent_iff e).mp ‹_›)]

end

/-! ## COMPLETION -/

theorem exec_completion (t : Fin 2048) (q : Fin 8) (s : State) : exec (.completion t q) s = execCompletion t q s := (rfl)

/-- Settles O10: the command is taken from the ended ones, and the rest is what a completion leaves and offers. -/
theorem completionOffersItsRecord : Obligations.CompletionOffersItsRecord := by
  unfold Obligations.CompletionOffersItsRecord
  intro t q s e hfind hruns hplace hahead
  have hq : e.q = q.val := beq_iff_eq.mp (List.find?_some (p := fun x : Ended => x.q == q.val) hfind)
  have hexec : exec (.completion t q) s = .next ((s.setTile t { s.tile t with ended := (s.tile t).ended.erase e }).complete t e) := by
    rw [exec_completion, execCompletion, hfind]
    exact if_pos ⟨hruns, .inr hplace, hahead⟩
  refine gives_of_exec hexec ⟨?_, ?_⟩
  · rw [ended_of_work (complete_work _ t e t), tile_setTile_same]
  · rw [← hq, heldRecs_complete _ t e (by omega)]
    rfl

end Sys2Proof.Machine
end

section
/-! PROOFS. Launches and words (03 R55 to R59, R63; 10 R233): LAUNCH_DELIVERY, COMMAND_FETCH and COMMAND_ISSUE. -/
namespace Sys2Proof.Machine

/-! ## Memory read by the control core (09 R213, R215) -/

/-- Bytes lie where they lay after whatever leaves memory, the partitions and the loader's registers. -/
theorem byte_of_loaderKept {s u : State} (h : LoaderKept s u) (hmem : u.mem = s.mem) (hfuses : u.fuses = s.fuses) (a : Nat) : u.byte a = s.byte a := by
  have hresolve : u.resolve a = s.resolve a := by
    have hactive (q : Nat) : (u.part q).active = (s.part q).active := field_of_core PartSt.active (h.core q)
    have hslots (q : Nat) : (u.part q).slots = (s.part q).slots := field_of_core PartSt.slots (h.core q)
    have hresident (q : Nat) : (u.part q).resident = (s.part q).resident := field_of_core PartSt.resident (h.core q)
    simp only [State.resolve, tileOwner_of_core h.core, hactive, hslots, hresident]
    cases howner : s.tileOwner (sramTile a) with
    | none => rfl
    | some p =>
      have hp : p < 8 := List.mem_range.mp (List.mem_of_find?_eq_some howner)
      dsimp only
      rw [fld_of_rd (h.rd _ (isLoaderReg_status ⟨p, hp⟩))]
  rw [State.byte, State.byte, tilePresent_of_core h.core hfuses, hresolve, hmem]

theorem readBytes_length (s : State) (a n : Nat) : (s.readBytes a n).length = n := by
  induction n generalizing a with
  | zero => rfl
  | succ n ih => rw [State.readBytes, List.length_cons, ih]

theorem readBytes_congr_range {s u : State} {a n : Nat} (h : ∀ k < n, u.byte (a + k) = s.byte (a + k)) : u.readBytes a n = s.readBytes a n := by
  induction n generalizing a with
  | zero => rfl
  | succ n ih =>
    rw [State.readBytes, State.readBytes, show u.byte a = s.byte a from h 0 (Nat.succ_pos n)]
    refine congrArg _ (ih fun k hk => ?_)
    rw [Nat.add_assoc, Nat.add_comm 1]
    exact h (k + 1) (Nat.succ_lt_succ hk)

theorem readBytes_congr {s u : State} (h : ∀ a, u.byte a = s.byte a) (a n : Nat) : u.readBytes a n = s.readBytes a n :=
  readBytes_congr_range fun _ _ => h _

theorem readNat_congr {s u : State} (h : ∀ a, u.byte a = s.byte a) (a n : Nat) : u.readNat a n = s.readNat a n := by
  rw [State.readNat, State.readNat, readBytes_congr h]

theorem LoaderKept.hbCount {s t : State} (h : LoaderKept s t) (ev a n : Nat) (x : Attr) : LoaderKept s (t.hbCount ev a n x) := by
  obtain ⟨_, hother⟩ := hbCount_other t ev a n x
  exact h.of_eq (by rw [hother]) (by rw [hother])

theorem LoaderKept.lcAll {s t : State} (h : LoaderKept s t) (a n : Nat) (x : Attr) : LoaderKept s (t.lcAll a n x) := by
  have hlc (k : Nat) : ¬isLoaderReg (HB_LC k) := not_loaderReg_hb (n := k) (by unfold HB_LC; omega)
  have herr (k : Nat) : ¬isLoaderReg (HB_ERR k) := not_loaderReg_hb (n := k) (by unfold HB_ERR; omega)
  have hev (k : Nat) : ¬isLoaderReg (HB_ERR_EVENTS k) := not_loaderReg_hb (n := k) (by unfold HB_ERR_EVENTS; omega)
  have hwindow (c w : Sparse Nat) : LoaderKept s { t with lcCount := c, lcWin := w } := h.of_eq rfl rfl
  unfold State.lcAll State.lcUse
  exact h.ite ((hwindow _ _).ite (((((hwindow _ _).addFld (hlc _) _ _).setFld (herr _) _ _).addFld (hev _) _ _).count _ _ _ _ _))

section
variable (s : State) (a n : Nat) (x : Attr)

theorem lcRead_kept : LoaderKept s (s.lcRead a n x) := ((((LoaderKept.refl s).hbCount _ _ _ _).hbCount _ _ _ _).lcAll _ _ _)

theorem lcAll_other : ∃ r k c w, s.lcAll a n x = { s with regs := r, tally := k, lcCount := c, lcWin := w } := by
  unfold State.lcAll State.lcUse
  split
  · exact ⟨s.regs, s.tally, s.lcCount, s.lcWin, rfl⟩
  · dsimp only
    split
    · exact ⟨s.regs, s.tally, _, _, rfl⟩
    · obtain ⟨_, hdemoted⟩ := addFld_other { s with lcCount := _, lcWin := _ } _ _ _
      obtain ⟨_, hsticky⟩ := setFld_other { s with regs := _, lcCount := _, lcWin := _ } _ _ _
      obtain ⟨r, hevents⟩ := addFld_other { s with regs := _, lcCount := _, lcWin := _ } _ _ _
      obtain ⟨k, hcount⟩ := count_other { s with regs := r, lcCount := _, lcWin := _ } _ _ _ _ _
      exact ⟨r, k, _, _, by rw [hdemoted, hsticky, hevents, hcount]⟩

/-- A latency-critical read changes registers and counts alone. -/
theorem lcRead_other : ∃ r k c w, s.lcRead a n x = { s with regs := r, tally := k, lcCount := c, lcWin := w } := by
  obtain ⟨k, hread⟩ := hbCount_other s 0 a n x
  obtain ⟨k', hcrit⟩ := hbCount_other { s with tally := k } 3 a n x
  obtain ⟨r, k'', c, w, hall⟩ := lcAll_other { s with tally := k' } a n x
  exact ⟨r, k'', c, w, by rw [State.lcRead, hread, hcrit, hall]⟩

@[simp] theorem lcRead_mem : (s.lcRead a n x).mem = s.mem := by
  obtain ⟨_, _, _, _, hother⟩ := lcRead_other s a n x
  rw [hother]

theorem readNat_lcRead (b m : Nat) : (s.lcRead a n x).readNat b m = s.readNat b m :=
  readNat_congr (byte_of_loaderKept (lcRead_kept s a n x) (lcRead_mem s a n x) (fuses_of_still (lcRead_still s a n x))) b m

end

/-! ## LAUNCH_DELIVERY -/

theorem take_launches (x : TileSt) (l : Launch) : l.id ∈ (x.take l).launches := by
  unfold TileSt.take TileSt.launches
  split <;> simp

/-- A control core that takes a launch, or holds it, holds it. -/
theorem launches_takes {l : Launch} (tiles : List Nat) (s : State) {t : Nat} (h : t ∈ tiles ∨ l.id ∈ (s.tile t).launches) :
    l.id ∈ ((tiles.foldl (fun s t => s.setTile t ((s.tile t).take l)) s).tile t).launches := by
  induction tiles generalizing s with
  | nil => exact h.resolve_left List.not_mem_nil
  | cons a tiles ih =>
    refine ih _ ?_
    rw [tile_setTile]
    by_cases hta : t = a
    · rw [if_pos hta]
      exact .inr (take_launches _ l)
    · rw [if_neg hta]
      exact h.imp_left fun hmem => (List.mem_cons.mp hmem).resolve_left hta

theorem launches_deliver {l : Launch} (s : State) (p : Nat) (c : Cluster) {t : Nat} (h : t ∈ clusterTiles c ∨ l.id ∈ (s.tile t).launches) :
    l.id ∈ ((s.deliver p c l).tile t).launches := by
  unfold State.deliver
  dsimp only
  split
  · exact launches_takes _ s h
  · exact launches_takes _ s h

theorem launches_delivers {l : Launch} (p : Nat) (cs : List Cluster) (s : State) {t : Nat}
    (h : (∃ c ∈ cs, t ∈ clusterTiles c) ∨ l.id ∈ (s.tile t).launches) :
    l.id ∈ ((cs.foldl (fun s c => s.deliver p c l) s).tile t).launches := by
  induction cs generalizing s with
  | nil => exact h.resolve_left fun ⟨_, hc, _⟩ => List.not_mem_nil hc
  | cons c cs ih =>
    refine ih _ ?_
    obtain ⟨d, hd, ht⟩ | hheld := h
    · obtain rfl | hd := List.mem_cons.mp hd
      · exact .inr (launches_deliver s p d (.inl ht))
      · exact .inl ⟨d, hd, ht⟩
    · exact .inr (launches_deliver s p c (.inr hheld))

/-- A delivery changes tiles and the launches followed alone. -/
theorem deliver_other (s : State) (p : Nat) (c : Cluster) (l : Launch) : ∃ x y, s.deliver p c l = { s with tiles := x, parts := y } := by
  have htakes (tiles : List Nat) : ∃ x, tiles.foldl (fun s t => s.setTile t ((s.tile t).take l)) s = { s with tiles := x } := by
    induction tiles generalizing s with
    | nil => exact ⟨s.tiles, rfl⟩
    | cons a tiles ih => exact ih (s.setTile a ((s.tile a).take l))
  obtain ⟨x, htaken⟩ := htakes (clusterTiles c)
  unfold State.deliver
  dsimp only
  rw [htaken]
  split
  · exact ⟨x, s.parts, rfl⟩
  · exact ⟨x, _, rfl⟩

theorem delivers_other (p : Nat) (l : Launch) (cs : List Cluster) (s : State) :
    ∃ x y, cs.foldl (fun s c => s.deliver p c l) s = { s with tiles := x, parts := y } := by
  induction cs generalizing s with
  | nil => exact ⟨s.tiles, s.parts, rfl⟩
  | cons c cs ih =>
    obtain ⟨x, y, hdelivered⟩ := deliver_other s p c l
    rw [List.foldl_cons, hdelivered]
    exact ih _

/-- One entry is consumed. -/
theorem queue_consume (s : State) (d q : Nat) :
    ((s.consume d q).queue d q).cons = ((s.queue d q).cons + 1) % 2 ^ 32 ∧ ((s.consume d q).queue d q).prod = (s.queue d q).prod := by
  rw [State.consume, State.queue, State.setQueue, sget_sset_same]
  exact ⟨rfl, rfl⟩

theorem queue_congr {s u : State} (h : u.queues = s.queues) (d q : Nat) : u.queue d q = s.queue d q := by rw [State.queue, State.queue, h]

theorem consume_mem (s : State) (d q : Nat) : (s.consume d q).mem = s.mem := by
  rw [State.consume, setQueue_mem, State.noteCounts, apply_ite State.mem, ite_self]

/-- The state in which a launch is delivered: its descriptor read, its entry consumed, its number taken (R59). -/
def State.launchRead (s : State) (d q a : Nat) (x : Attr) : State := { (s.lcRead a 64 x).consume d q with launchNo := s.launchNo + 1 }

theorem launchRead_queues (s : State) (d q a : Nat) (x : Attr) : (s.launchRead d q a x).queues = ((s.lcRead a 64 x).consume d q).queues := (rfl)
theorem launchRead_mem (s : State) (d q a : Nat) (x : Attr) : (s.launchRead d q a x).mem = s.mem :=
  (consume_mem (s.lcRead a 64 x) d q).trans (lcRead_mem s a 64 x)
theorem launchRead_launchNo (s : State) (d q a : Nat) (x : Attr) : (s.launchRead d q a x).launchNo = s.launchNo + 1 := (rfl)

/-- The entry read is consumed. -/
theorem queue_launchRead (s : State) (d q a : Nat) (x : Attr) :
    ((s.launchRead d q a x).queue d q).cons = ((s.queue d q).cons + 1) % 2 ^ 32 ∧ ((s.launchRead d q a x).queue d q).prod = (s.queue d q).prod := by
  obtain ⟨_, _, _, _, hread⟩ := lcRead_other s a 64 x
  have hsame : (s.lcRead a 64 x).queue d q = s.queue d q := queue_congr (by rw [hread]) d q
  rw [queue_congr (launchRead_queues s d q a x), ← hsame]
  exact queue_consume _ d q

/-- Where the partition is sliced, the launch is kept for its later slots (R81). -/
def State.launchKept (s : State) (p n : Nat) (b : List Byte) (sliced : Bool) : State :=
  if sliced then s.setPart p { s.part p with sliceLaunch := sset (fun _ => []) (s.part p).sliceLaunch n b } else s

theorem launchKept_other (s : State) (p n : Nat) (b : List Byte) (sliced : Bool) : ∃ y, s.launchKept p n b sliced = { s with parts := y } := by
  unfold State.launchKept
  split
  · exact ⟨_, rfl⟩
  · exact ⟨s.parts, rfl⟩

section
variable (d : Fin 2) (q : Fin 16384) (s : State) {p : Nat} (hdeliver : s.deliverable d q = some p)
  (hon : s.memOn ((s.queue d q).slot (s.queue d q).cons) 64 = true) (hsound : s.firstBad ((s.queue d q).slot (s.queue d q).cons) 64 = none)
include hdeliver hon hsound

/-- A queue that may deliver and whose descriptor can be read delivers its launch, with the next launch number. -/
theorem exec_launchDelivery_ready : ∃ (x : Attr) (b : List Byte) (l : Launch), l.id = s.launchNo ∧ exec (.launchDelivery d q) s =
    .next ((s.entryClusters p d q).foldl (fun s c => s.deliver p c l)
      ((s.launchRead d q ((s.queue d q).slot (s.queue d q).cons) x).launchKept p (queueNo d q) b (s.sliced p))) := by
  refine ⟨{ priv := some (s.queue d q).level, part := some p, master := some 6 },
    s.readBytes ((s.queue d q).slot (s.queue d q).cons) 64 ++ [BitVec.ofNat 8 (s.queue d q).level],
    launchOf s.launchNo (s.queue d q).level (s.readBytes ((s.queue d q).slot (s.queue d q).cons) 64), rfl, ?_⟩
  change execLaunchDelivery d q s = _
  rw [execLaunchDelivery, hdeliver]
  dsimp only
  rw [hon, if_neg (by decide), hsound]
  rfl

theorem launchDelivery_gives : Gives (.launchDelivery d q) s (fun s' =>
    (s'.queue d q).cons = ((s.queue d q).cons + 1) % 2 ^ 32 ∧ (s'.queue d q).prod = (s.queue d q).prod ∧
    s'.launchNo = s.launchNo + 1 ∧ s'.mem = s.mem ∧
    ∀ c ∈ s.entryClusters p d q, ∀ t ∈ clusterTiles c, s.launchNo ∈ (s'.tile t).launches) := by
  obtain ⟨x, b, l, hid, hexec⟩ := exec_launchDelivery_ready d q s hdeliver hon hsound
  generalize hu : (s.launchRead d q ((s.queue d q).slot (s.queue d q).cons) x).launchKept p (queueNo d q) b (s.sliced p) = u at hexec
  obtain ⟨y, hkept⟩ := launchKept_other (s.launchRead d q ((s.queue d q).slot (s.queue d q).cons) x) p (queueNo d q) b (s.sliced p)
  obtain ⟨_, _, hdelivered⟩ := delivers_other p l (s.entryClusters p d q) u
  generalize hafter : (s.entryClusters p d q).foldl (fun s c => s.deliver p c l) u = v at hexec hdelivered
  have hqueue : v.queue d q = (s.launchRead d q ((s.queue d q).slot (s.queue d q).cons) x).queue d q :=
    queue_congr (by rw [hdelivered, ← hu, hkept]) d q
  obtain ⟨hcons, hprod⟩ := queue_launchRead s d q ((s.queue d q).slot (s.queue d q).cons) x
  refine gives_of_exec hexec ⟨?_, ?_, ?_, ?_, fun c hc t ht => ?_⟩
  · rw [hqueue, hcons]
  · rw [hqueue, hprod]
  · rw [← launchRead_launchNo s d q ((s.queue d q).slot (s.queue d q).cons) x, hdelivered, ← hu, hkept]
  · rw [← launchRead_mem s d q ((s.queue d q).slot (s.queue d q).cons) x, hdelivered, ← hu, hkept]
  · rw [← hid, ← hafter]
    exact launches_delivers p _ u (.inl ⟨c, hc, ht⟩)

end

/-! ## COMMAND_FETCH -/

/-- A running launch's next word, owned, ON and sound, comes into the control core; memory and the other tiles stay. -/
theorem commandFetch_gives (t : Fin 2048) (s : State) {l : Launch} {p : Nat} (hlaunch : (s.tile t).launch = some l) (howner : s.tileOwner t = some p)
    (hruns : s.coreRuns t = true) (hinl : (s.tile t).inl = none) (hfetched : (s.tile t).fetched = none) (hgood : l.malformed = false)
    (hmore : (s.tile t).wordIx < l.words) (howned : s.firstUnowned p (s.fetchAddr t p l) 32 = none) (hon : s.memOn (s.fetchAddr t p l) 32 = true)
    (hsound : s.firstBad (s.fetchAddr t p l) 32 = none) :
    Gives (.commandFetch t) s (fun s' =>
      (s'.tile t).fetched = some (BitVec.ofNat 256 (s.readNat (s.fetchAddr t p l) 32)) ∧ s'.mem = s.mem ∧
      (∀ u : Nat, u ≠ t.val → s'.tile u = s.tile u) ∧
      s'.regs = (s.lcRead (s.fetchAddr t p l) 32 { priv := some l.priv, part := some p, master := some 0 }).regs) := by
  generalize hu : s.lcRead (s.fetchAddr t p l) 32 { priv := some l.priv, part := some p, master := some 0 } = u
  have htile (n : Nat) : u.tile n = s.tile n := by rw [← hu]; exact tile_of_still (lcRead_still _ _ _ _) n
  have hword : u.readNat (s.fetchAddr t p l) 32 = s.readNat (s.fetchAddr t p l) 32 := by rw [← hu, readNat_lcRead]
  have hexec : exec (.commandFetch t) s =
      .next (u.setTile t { u.tile t with fetched := some (BitVec.ofNat 256 (u.readNat (s.fetchAddr t p l) 32)) }) := by
    change execCommandFetch t s = _
    rw [execCommandFetch, hlaunch, howner]
    dsimp only
    rw [hruns, hinl, hfetched, if_neg (by decide), hgood, if_neg (by decide), if_neg (Nat.not_le.mpr hmore), howned]
    dsimp only
    rw [hon, if_neg (by decide), hsound, ← hu]
  refine gives_of_exec hexec ⟨?_, ?_, fun n hn => ?_, rfl⟩
  · rw [tile_setTile_same, hword]
  · rw [setTile_mem, ← hu, lcRead_mem]
  · rw [tile_setTile_ne _ _ hn, htile]

/-! ## COMMAND_ISSUE -/

section
variable (s : State) (t : Nat)

theorem wordDone_work (u : Nat) : ((s.wordDone t).tile u).work = (s.tile u).work :=
  tile_setTile_keeps TileSt.work (x := { s.tile t with fetched := none, wordIx := (s.tile t).wordIx + 1 }) rfl u

theorem wordDone_tile : (s.wordDone t).tile t = { s.tile t with fetched := none, wordIx := (s.tile t).wordIx + 1 } := tile_setTile_same _ _ _

theorem wordDone_fetched : ((s.wordDone t).tile t).fetched = none := by rw [wordDone_tile]

/-- A refusal is counted, and REFUSAL set. -/
def State.refusalCounted (c : Cmd) (status : Nat) : State :=
  let s := (s.addFld (TC_REFUSALS t) (refusalField status) 1).tcFault t TC_FAULT_REFUSAL
  let s := s.count 0 t 0x02 1 c.attr
  if c.rix.isNone then s.count 0 t 0x1E 1 c.attr else s

theorem refusalCounted_still (c : Cmd) (status : Nat) : (s.refusalCounted t c status).still = s.still := by
  simp only [State.refusalCounted, apply_ite State.still, count_still, tcFault_still, addFld_still, ite_self]

/-- The record of a refusal (R63, 10 R236). -/
def refusalRecord (t : Nat) (c : Cmd) (status zt : Nat) : CompRec :=
  ⟨c.cq, c.part, recordBytes t 6 status (wLayerOp c.w) zt c.seq c.index 0, c.priv⟩

/-- A refusal changes the tile's books alone, beside what it counts and reports. -/
theorem refuse_eq (c : Cmd) (status : Nat) : ∃ u : State, ∃ n,
    u.still = ((s.refusalCounted t c status).offer (tileDie t) (sourceIx t 6) (refusalRecord t c status (s.refusalCounted t c status).zt)).still ∧
    s.refuse t c status = u.setTile t (((u.tile t).noteRoutine c status).issued c n) :=
  ⟨((s.refusalCounted t c status).offer (tileDie t) (sourceIx t 6) (refusalRecord t c status (s.refusalCounted t c status).zt)).trace
    (c.traceRec t 6 3 status), _, trace_still _ _, rfl⟩

theorem refuse_work (c : Cmd) (status n : Nat) : ((s.refuse t c status).tile n).work = (s.tile n).work := by
  obtain ⟨u, k, hstill, heq⟩ := refuse_eq s t c status
  have htile : u.tile n = s.tile n := (tile_of_still hstill n).trans (tile_of_still (refusalCounted_still s t c status) n)
  rw [heq, tile_setTile_keeps TileSt.work ((issued_work _ _ _).trans (noteRoutine_work _ _ _)), htile]

theorem refuse_fetched (c : Cmd) (status : Nat) : ((s.refuse t c status).tile t).fetched = (s.tile t).fetched := by
  obtain ⟨u, k, hstill, heq⟩ := refuse_eq s t c status
  have htile : u.tile t = s.tile t := (tile_of_still hstill t).trans (tile_of_still (refusalCounted_still s t c status) t)
  rw [heq, tile_setTile_same]
  exact (noteRoutine_fetched _ _ _).trans (by rw [htile])

/-- A refusal offers its record to queue 6's source whatever NOTIFY says. -/
theorem heldRecs_refuse (c : Cmd) (status : Nat) : (s.refuse t c status).heldRecs (tileDie t) (sourceIx t 6) =
    s.heldRecs (tileDie t) (sourceIx t 6) ++ [refusalRecord t c status s.zt] := by
  obtain ⟨u, k, hstill, heq⟩ := refuse_eq s t c status
  have hset : (u.setTile t (((u.tile t).noteRoutine c status).issued c k)).heldRecs (tileDie t) (sourceIx t 6) = u.heldRecs (tileDie t) (sourceIx t 6) := (rfl)
  rw [heq, hset, heldRecs_of_still hstill, heldRecs_offer_same, heldRecs_of_still (refusalCounted_still s t c status),
    zt_of_still (refusalCounted_still s t c status)]

/-- A command placed is the last of its queue. -/
theorem place_tile (q : Nat) (c : Cmd) :
    (s.place t q c).tile t = ((s.tile t).setQueue q ((s.tile t).queue q ++ [c])).issued c (s.cycle t) := by
  unfold State.place
  dsimp only
  split
  · exact tile_setTile_same _ _ _
  · exact tile_setTile_same _ _ _

theorem place_queue (q : Nat) (c : Cmd) : ((s.place t q c).tile t).queue q = (s.tile t).queue q ++ [c] := by
  rw [place_tile]
  exact sget_sset_same _ _ _ _

end

theorem queue_of_work {x y : TileSt} (h : x.work = y.work) (q : Nat) : x.queue q = y.queue q := by
  rw [TileSt.queue, TileSt.queue, queues_of_work h]

section
variable (t : Fin 2048) (s : State) {l : Launch} {w : CmdWord} {p : Nat} (hlaunch : (s.tile t).launch = some l) (hword : (s.tile t).fetched = some w)
  (howner : s.tileOwner t = some p) (hruns : s.coreRuns t = true) (hinl : (s.tile t).inl = none) (hcycle : (s.tile t).wordAt ≠ s.cycle t + 1)
include hlaunch hword howner hruns hinl hcycle

/-- The word in hand is refused, begun in line, placed, or stalls (R55, R63). -/
theorem exec_commandIssue_ready : exec (.commandIssue t) s =
    if s.entryCheck p t w.toNat ≠ stOk then
      .next (((s.wordDone t).refuse t (l.cmd p (s.tile t).wordIx w) (s.entryCheck p t w.toNat)).nextLaunch t)
    else if wEngine w.toNat = 6 then .next ((s.wordDone t).setTile t
      { (s.wordDone t).tile t with inl := some (l.cmd p (s.tile t).wordIx w), started6 := false, wordAt := (s.wordDone t).cycle t + 1 })
    else if 16 ≤ (s.tile t).held (engineQueue (wEngine w.toNat)) then .next s
    else .next (((s.wordDone t).place t (engineQueue (wEngine w.toNat)) (l.cmd p (s.tile t).wordIx w)).nextLaunch t) := by
  change execCommandIssue t s = _
  rw [execCommandIssue, hlaunch, hword, howner]
  exact if_neg (by rw [hruns, hinl]; simp [hcycle])

theorem commandIssue_placed (hcheck : s.entryCheck p t w.toNat = stOk) (hengine : wEngine w.toNat ≠ 6)
    (hroom : (s.tile t).held (engineQueue (wEngine w.toNat)) < 16) :
    Gives (.commandIssue t) s (fun s' =>
      (s'.tile t).queue (engineQueue (wEngine w.toNat)) =
        (s.tile t).queue (engineQueue (wEngine w.toNat)) ++ [l.cmd p (s.tile t).wordIx w] ∧ (s'.tile t).fetched = none) := by
  have hexec := exec_commandIssue_ready t s hlaunch hword howner hruns hinl hcycle
  rw [if_neg (not_not_intro hcheck), if_neg hengine, if_neg (Nat.not_le.mpr hroom)] at hexec
  refine gives_of_exec hexec ⟨?_, nextLaunch_fetched _ ?_⟩
  · rw [queue_of_work (nextLaunch_work _ t t), place_queue, queue_of_work (wordDone_work s t t)]
  · rw [place_tile]
    exact wordDone_fetched s t

theorem commandIssue_inline (hcheck : s.entryCheck p t w.toNat = stOk) (hengine : wEngine w.toNat = 6) :
    Gives (.commandIssue t) s (fun s' => (s'.tile t).inl = some (l.cmd p (s.tile t).wordIx w) ∧ (s'.tile t).fetched = none ∧
      (s'.tile t).queues = (s.tile t).queues) := by
  have hexec := exec_commandIssue_ready t s hlaunch hword howner hruns hinl hcycle
  rw [if_neg (not_not_intro hcheck), if_pos hengine] at hexec
  refine gives_of_exec hexec ?_
  rw [tile_setTile_same]
  exact ⟨rfl, wordDone_fetched s t, (queues_of_work (wordDone_work s t t) :)⟩

theorem commandIssue_refused (hcheck : s.entryCheck p t w.toNat ≠ stOk) :
    Gives (.commandIssue t) s (fun s' =>
      (s'.tile t).queues = (s.tile t).queues ∧ (s'.tile t).inl = none ∧ (s'.tile t).fetched = none ∧
      s'.heldRecs (tileDie t) (sourceIx t 6) = s.heldRecs (tileDie t) (sourceIx t 6) ++
        [⟨l.cq, p, recordBytes t 6 (s.entryCheck p t w.toNat) (wLayerOp w.toNat) s.zt l.seq (s.tile t).wordIx 0, l.priv⟩]) := by
  have hexec := exec_commandIssue_ready t s hlaunch hword howner hruns hinl hcycle
  rw [if_pos hcheck] at hexec
  have hwork (c : Cmd) (st : Nat) : ((((s.wordDone t).refuse t c st).nextLaunch t).tile t).work = (s.tile t).work := by
    rw [nextLaunch_work, refuse_work, wordDone_work]
  refine gives_of_exec hexec ⟨queues_of_work (hwork _ _), ?_, nextLaunch_fetched _ ?_, ?_⟩
  · rw [inl_of_work (hwork _ _), hinl]
  · rw [refuse_fetched, wordDone_fetched]
  · rw [heldRecs_nextLaunch _ _ _ (sourceIx_ne_launchDone t (by decide)), heldRecs_refuse]
    rfl

end

/-- Settles O8: a launch's delivery, a word's fetch, and the two ways in which a good word is issued. -/
theorem launchesReachTheirClusters : Obligations.LaunchesReachTheirClusters := by
  unfold Obligations.LaunchesReachTheirClusters
  exact ⟨fun d q s p hdeliver hon hsound => launchDelivery_gives d q s hdeliver hon hsound,
    fun t s l p hlaunch howner hruns hinl hfetched hgood hmore howned hon hsound =>
      commandFetch_gives t s hlaunch howner hruns hinl hfetched hgood hmore howned hon hsound,
    fun t s l w p hlaunch hword howner hruns hinl hcycle hcheck hengine hroom =>
      commandIssue_placed t s hlaunch hword howner hruns hinl hcycle hcheck hengine hroom,
    fun t s l w p hlaunch hword howner hruns hinl hcycle hcheck hengine =>
      commandIssue_inline t s hlaunch hword howner hruns hinl hcycle hcheck hengine⟩

/-- Settles O9 by the refusal branch of COMMAND_ISSUE. -/
theorem refusedWordsAreCounted : Obligations.RefusedWordsAreCounted := by
  unfold Obligations.RefusedWordsAreCounted
  exact fun t s l w p hlaunch hword howner hruns hinl hcycle hcheck => commandIssue_refused t s hlaunch hword howner hruns hinl hcycle hcheck

end Sys2Proof.Machine
end

section
/-! PROOFS. RESUME, FLUSH and ENGINE_RECOVER (03 R78, R468): what each does to the stopped queues of a tile. -/
namespace Sys2Proof.Machine

/-! ## Stops -/

theorem bit_eq_testBit (x i : Nat) : bit x i = x.testBit i := by
  rw [bit, Nat.testBit_eq_decide_div_mod_eq, beq_eq_decide]

theorem bit_clear (x q r : Nat) : bit (putBits x q q 0) r = (bit x r && r != q) := by
  rw [bit_eq_testBit, bit_eq_testBit, testBit_putBits _ _ _ _ _ (Nat.le_refl q)]
  by_cases h : r = q
  · rw [h, if_pos ⟨Nat.le_refl q, Nat.le_refl q⟩, Nat.zero_testBit, bne_self_eq_false, Bool.and_false]
  · rw [if_neg (by omega), bne_iff_ne.mpr h, Bool.and_true]

/-- The stops of a mask with those of a list of queues cleared. -/
theorem bit_clears (l : List Nat) (x r : Nat) : bit (l.foldl (fun x q => putBits x q q 0) x) r = (bit x r && !l.contains r) := by
  induction l generalizing x with
  | nil => rw [List.foldl_nil, List.contains_nil, Bool.not_false, Bool.and_true]
  | cons q l ih => rw [List.foldl_cons, ih, bit_clear, List.contains_cons, Bool.not_or, Bool.and_assoc]; rfl

theorem bit_zero (i : Nat) : bit 0 i = false := by rw [bit_eq_testBit, Nat.zero_testBit]

theorem contains_stoppedOf (x : TileSt) (m : Nat) {q : Nat} (hq : q < 8) : (x.stoppedOf m).contains q = (x.isStopped q && bit m q) := by
  rw [Bool.eq_iff_iff, List.contains_iff_mem, TileSt.stoppedOf, List.mem_filter, List.mem_range, Bool.and_comm]
  exact and_iff_right hq

theorem stoppedOf_zero (x : TileSt) : x.stoppedOf 0 = [] :=
  List.filter_eq_nil_iff.mpr fun q _ => by rw [bit_zero]; exact Bool.false_ne_true

/-- A queue is stopped still unless it stood stopped and the mask names it. -/
theorem stop_released (x : TileSt) (m : Nat) {q : Nat} (hq : q < 8) :
    bit ((x.stoppedOf m).foldl (fun x q => putBits x q q 0) x.stopped) q = (x.isStopped q && !bit m q) := by
  rw [bit_clears, contains_stoppedOf x m hq]
  change (x.isStopped q && !(x.isStopped q && bit m q)) = _
  cases x.isStopped q <;> rfl

/-! ## RESUME -/

section
variable (s : State) (t : Nat)

theorem resumeQueue_tile (q : Nat) : (s.resumeQueue t q).tile t = { s.tile t with stopped := putBits (s.tile t).stopped q q 0 } := tile_setTile_same _ _ _

/-- A list of queues restarted: the tile's stops alone change. -/
theorem resumeQueues_tile (l : List Nat) : (l.foldl (fun s q => s.resumeQueue t q) s).tile t =
    { s.tile t with stopped := l.foldl (fun x q => putBits x q q 0) (s.tile t).stopped } := by
  induction l generalizing s with
  | nil => rfl
  | cons q l ih => rw [List.foldl_cons, ih, resumeQueue_tile]; rfl

theorem queueCtrl_resume (m : Nat) : s.queueCtrl t m 0 = ((s.tile t).stoppedOf m).foldl (fun s q => s.resumeQueue t q) s := by
  have hall : ((s.tile t).stoppedOf m).filter (fun q => !bit 0 q) = (s.tile t).stoppedOf m :=
    List.filter_eq_self.mpr fun q _ => by rw [bit_zero]; rfl
  rw [State.queueCtrl, stoppedOf_zero, hall]
  rfl

theorem queueCtrl_flush (m : Nat) : s.queueCtrl t 0 m = ((s.tile t).stoppedOf m).foldl (fun s q => s.flushQueue t q) s := by
  rw [State.queueCtrl, stoppedOf_zero]
  rfl

/-! ## FLUSH -/

/-- A queue's commands, ended with QUEUE_FLUSHED. -/
def flushedCmds (q zt : Nat) (l : List Cmd) : List Ended := l.map fun c => ⟨q, c, stFlushed, 0, 0, [], zt⟩

/-- A tile whose queue is flushed: the queue is empty and runs, and its commands have ended. -/
def TileSt.flushed (x : TileSt) (q zt : Nat) : TileSt :=
  { x.setQueue q [] with ended := x.ended ++ flushedCmds q zt (x.queue q), stopped := putBits x.stopped q q 0 }

/-- QUEUE_FLUSHED is not a stopping status, so such an end adds to the ended commands alone. -/
theorem endCmd_flushed (q : Nat) (c : Cmd) : s.endCmd t q c stFlushed 0 0 =
    s.setTile t { s.tile t with ended := (s.tile t).ended ++ [⟨q, c, stFlushed, 0, 0, [], s.zt⟩] } := by
  unfold State.endCmd
  rw [if_neg (by decide)]

theorem endCmds_flushed (q : Nat) (l : List Cmd) : (l.foldl (fun s c => s.endCmd t q c stFlushed 0 0) s).tile t =
    { s.tile t with ended := (s.tile t).ended ++ flushedCmds q s.zt l } := by
  induction l generalizing s with
  | nil => rw [List.foldl_nil, flushedCmds, List.map_nil, List.append_nil]
  | cons c l ih =>
    rw [List.foldl_cons, ih, endCmd_flushed, tile_setTile_same, setTile_zt, flushedCmds, flushedCmds, List.map_cons]
    dsimp only
    rw [List.append_assoc, List.singleton_append]

theorem abandon_keeps {β : Type} (g : State → β) (hg : ∀ (u : State) p x, g (u.setPart p x) = g u) (id : Nat) : g (s.abandon t id) = g s :=
  foldl_keeps g (fun u p => by
    dsimp only
    split
    · exact hg _ _ _
    · rfl) _ _

/-- The launch abandoned is no part of the tile's work. -/
theorem abandonRunning_work (u : Nat) : ((s.abandonRunning t).tile u).work = (s.tile u).work := by
  unfold State.abandonRunning
  dsimp only
  split
  · rfl
  · rename_i l _
    have habandon : (s.abandon t l.id).tiles = s.tiles := abandon_keeps s t State.tiles (fun _ _ _ => setPart_tiles _ _ _) l.id
    rw [tile_congr (checkFinished_tiles _ _ _ _), tile_setTile_keeps TileSt.work (by rw [tile_congr habandon]; rfl), tile_congr habandon]

theorem abandonRunning_keeps {β : Type} (g : State → β) (hpart : ∀ (u : State) p x, g (u.setPart p x) = g u)
    (htile : ∀ (u : State) n x, g (u.setTile n x) = g u) (hcheck : ∀ (u : State) n id b, g (u.checkFinished n id b) = g u) : g (s.abandonRunning t) = g s := by
  unfold State.abandonRunning
  dsimp only
  split
  · rfl
  · rw [hcheck, htile, abandon_keeps s t g hpart]

/-- What neither tiles nor launches are part of, a flush keeps. -/
theorem flushQueue_keeps {β : Type} (g : State → β) (hpart : ∀ (u : State) p x, g (u.setPart p x) = g u)
    (htile : ∀ (u : State) n x, g (u.setTile n x) = g u) (hcheck : ∀ (u : State) n id b, g (u.checkFinished n id b) = g u) (q : Nat) :
    g (s.flushQueue t q) = g s := by
  have hends (u : State) (l : List Cmd) : g (l.foldl (fun s c => s.endCmd t q c stFlushed 0 0) u) = g u :=
    foldl_keeps g (fun v c => by rw [endCmd_flushed, htile]) l u
  unfold State.flushQueue State.resumeQueue
  dsimp only
  rw [htile, apply_ite g, abandonRunning_keeps _ t g hpart htile hcheck, ite_self, hends, htile]

theorem flushQueue_mem (q : Nat) : (s.flushQueue t q).mem = s.mem :=
  flushQueue_keeps s t State.mem (fun _ _ _ => setPart_mem _ _ _) (fun _ _ _ => setTile_mem _ _ _) checkFinished_mem q
theorem flushQueue_zt (q : Nat) : (s.flushQueue t q).zt = s.zt :=
  flushQueue_keeps s t State.zt (fun _ _ _ => setPart_zt _ _ _) (fun _ _ _ => setTile_zt _ _ _) checkFinished_zt q

theorem flushed_work {x y : TileSt} (h : x.work = y.work) (q zt : Nat) : (x.flushed q zt).work = (y.flushed q zt).work :=
  (congrArg (fun z : TileSt => (z.flushed q zt).work) h :)

theorem flushQueue_work (q : Nat) : ((s.flushQueue t q).tile t).work = ((s.tile t).flushed q s.zt).work := by
  unfold State.flushQueue
  dsimp only
  generalize hended : ((s.tile t).queue q).foldl (fun s c => s.endCmd t q c stFlushed 0 0) (s.setTile t ((s.tile t).setQueue q [])) = u
  have hu : u.tile t = { (s.tile t).setQueue q [] with ended := (s.tile t).ended ++ flushedCmds q s.zt ((s.tile t).queue q) } := by
    rw [← hended, endCmds_flushed, tile_setTile_same]
    rfl
  have hrun (v : State) (hv : (v.tile t).work = (u.tile t).work) : ((v.resumeQueue t q).tile t).work = ((s.tile t).flushed q s.zt).work := by
    rw [resumeQueue_tile]
    refine (congrArg (fun z : TileSt => { z with stopped := putBits z.stopped q q 0 }) hv :).trans ?_
    rw [hu]
    rfl
  split
  · exact hrun _ (abandonRunning_work u t t)
  · exact hrun u rfl

theorem flushQueues_work (l : List Nat) : ((l.foldl (fun s q => s.flushQueue t q) s).tile t).work =
    (l.foldl (fun x q => x.flushed q s.zt) (s.tile t)).work := by
  have hcongr {x y : TileSt} (h : x.work = y.work) (zt : Nat) (l : List Nat) :
      (l.foldl (fun x q => x.flushed q zt) x).work = (l.foldl (fun x q => x.flushed q zt) y).work := by
    induction l generalizing x y with
    | nil => exact h
    | cons q l ih => exact ih (flushed_work h q zt)
  induction l generalizing s with
  | nil => rfl
  | cons q l ih => rw [List.foldl_cons, ih, flushQueue_zt, List.foldl_cons, hcongr (flushQueue_work s t q)]

end

/-! ## What a flush leaves in a tile -/

section
variable (x : TileSt) (zt : Nat)

theorem flushed_queue (q r : Nat) : (x.flushed q zt).queue r = if r = q then [] else x.queue r :=
  sget_sset (fun _ => ([] : List Cmd)) x.queues q r []

theorem flusheds_stopped (l : List Nat) :
    (l.foldl (fun x q => x.flushed q zt) x).stopped = l.foldl (fun y q => putBits y q q 0) x.stopped := by
  induction l generalizing x with
  | nil => rfl
  | cons q l ih => exact ih (x.flushed q zt)

theorem flusheds_queue (l : List Nat) (r : Nat) : (l.foldl (fun x q => x.flushed q zt) x).queue r = if l.contains r then [] else x.queue r := by
  induction l generalizing x with
  | nil => rfl
  | cons q l ih =>
    rw [List.foldl_cons, ih, flushed_queue, List.contains_cons]
    by_cases h : r = q
    · simp [h]
    · simp [h]

theorem flusheds_ended (l : List Nat) {e : Ended} (h : e ∈ x.ended ∨ ∃ q ∈ l, e ∈ flushedCmds q zt (x.queue q)) :
    e ∈ (l.foldl (fun x q => x.flushed q zt) x).ended := by
  induction l generalizing x with
  | nil => exact h.resolve_right fun ⟨_, hq, _⟩ => List.not_mem_nil hq
  | cons q l ih =>
    refine ih (x.flushed q zt) ?_
    obtain hold | ⟨r, hr, he⟩ := h
    · exact .inl (List.mem_append_left _ hold)
    · by_cases hrq : r = q
      · rw [hrq] at he
        exact .inl (List.mem_append_right _ he)
      · exact .inr ⟨r, (List.mem_cons.mp hr).resolve_left hrq, by rw [flushed_queue, if_neg hrq]; exact he⟩

end

/-! ## The rows -/

section
variable (ctx : Ctx) (t : Fin 2048) (m : BitVec 8) (s : State)

theorem exec_resume : exec (.resume ctx t m) s = if s.queueWriter ctx t then .next (s.queueCtrl t m.toNat 0) else .next (s.accessError ctx (TC_QCTRL t)) := (rfl)
theorem exec_flush : exec (.flush ctx t m) s = if s.queueWriter ctx t then .next (s.queueCtrl t 0 m.toNat) else .next (s.accessError ctx (TC_QCTRL t)) := (rfl)

theorem resume_gives (hctx : s.queueWriter ctx t = true) :
    Gives (.resume ctx t m) s (fun s' => s'.regs = s.regs ∧ s'.mem = s.mem ∧ (s'.tile t).queues = (s.tile t).queues ∧
      (∀ q : Fin 8, (s'.tile t).isStopped q = ((s.tile t).isStopped q && !bit m.toNat q)) ∧
      (∀ u : Nat, u ≠ t.val → s'.tile u = s.tile u)) := by
  have hkeeps {β : Type} (g : State → β) (hg : ∀ (u : State) x, g (u.setTile t x) = g u) (l : List Nat) :
      g (l.foldl (fun s q => s.resumeQueue t q) s) = g s := foldl_keeps g (fun u _ => hg u _) l s
  refine gives_of_exec (by rw [exec_resume, if_pos hctx, queueCtrl_resume]) ⟨?_, ?_, ?_, fun q => ?_, fun u hu => ?_⟩
  · exact hkeeps State.regs (fun _ _ => setTile_regs _ _ _) _
  · exact hkeeps State.mem (fun _ _ => setTile_mem _ _ _) _
  · rw [resumeQueues_tile]
  · rw [resumeQueues_tile]
    exact stop_released (s.tile t) m.toNat q.isLt
  · exact hkeeps (fun v => v.tile u) (fun v x => tile_setTile_ne v x hu) _

theorem flush_gives (hctx : s.queueWriter ctx t = true) :
    Gives (.flush ctx t m) s (fun s' => s'.mem = s.mem ∧
      (∀ q : Fin 8, (s'.tile t).isStopped q = ((s.tile t).isStopped q && !bit m.toNat q)) ∧
      (∀ q : Fin 8, (s'.tile t).queue q = if (s.tile t).isStopped q && bit m.toNat q then [] else (s.tile t).queue q) ∧
      (∀ q : Fin 8, ((s.tile t).isStopped q && bit m.toNat q) = true → ∀ c ∈ (s.tile t).queue q,
        (⟨q, c, stFlushed, 0, 0, [], s.zt⟩ : Ended) ∈ (s'.tile t).ended)) := by
  have hwork := flushQueues_work s t ((s.tile t).stoppedOf m.toNat)
  refine gives_of_exec (by rw [exec_flush, if_pos hctx, queueCtrl_flush]) ⟨?_, fun q => ?_, fun q => ?_, fun q hq c hc => ?_⟩
  · exact foldl_keeps State.mem (fun u q => flushQueue_mem u t q) _ s
  · rw [TileSt.isStopped, stopped_of_work hwork, flusheds_stopped]
    exact stop_released (s.tile t) m.toNat q.isLt
  · rw [TileSt.queue, queues_of_work hwork, ← contains_stoppedOf _ _ q.isLt]
    exact flusheds_queue _ _ _ _
  · rw [ended_of_work hwork]
    rw [← contains_stoppedOf _ _ q.isLt, List.contains_iff_mem] at hq
    exact flusheds_ended _ _ _ (.inr ⟨q, hq, List.mem_map_of_mem hc⟩)

end

/-- The whole of an argument block read as one number. -/
theorem fieldAt_argBytes (s : State) (t : Nat) (c : Cmd) : fieldAt (s.argBytes t c) 0 (callLen c.w) = (s.startInline t c).readNat (callAddr c.w) (callLen c.w) := by
  rw [fieldAt, List.drop_zero, State.argBytes, List.take_of_length_le (Nat.le_of_eq (readBytes_length _ _ _)), State.readNat]

theorem exec_engineRecover (t : Fin 2048) (s : State) : exec (.engineRecover t) s = execEngineRecover t s := (rfl)

/-- ENGINE_RECOVER with a good block acts as a write of TC_QCTRL with its value, and returns OK with the queues acted on. -/
theorem engineRecover_acts (t : Fin 2048) (s : State) {c : Cmd} (hhead : s.callHead t 0x0F = some c) (hlen : callLen c.w = 8) (hready : s.argsReady t c)
    (hvalue : (s.startInline t c).readNat (callAddr c.w) 8 < 2 ^ 16) :
    ∃ n, exec (.engineRecover t) s = .next (((s.argState t c).queueCtrl t ((s.startInline t c).readNat (callAddr c.w) 8 % 256)
      ((s.startInline t c).readNat (callAddr c.w) 8 / 256)).returnOk t c n) := by
  have hfield : fieldAt (s.argBytes t c) 0 8 = (s.startInline t c).readNat (callAddr c.w) 8 := by
    have := fieldAt_argBytes s t c
    rwa [hlen] at this
  refine ⟨(((s.argState t c).tile t).stoppedOf ((s.startInline t c).readNat (callAddr c.w) 8 % 256 |||
    (s.startInline t c).readNat (callAddr c.w) 8 / 256)).foldl (fun n q => n + 2 ^ q) 0, ?_⟩
  rw [exec_engineRecover, execEngineRecover, hhead]
  dsimp only
  rw [enterCall_of_ready hready, hfield]
  generalize (s.startInline t c).readNat (callAddr c.w) 8 = v at hvalue ⊢
  have hflush : v / 256 % 256 = v / 256 := Nat.mod_eq_of_lt (by omega)
  have hgood : ¬(callLen c.w ≠ 8 ∨ v / 2 ^ 16 ≠ 0) := by omega
  rw [if_neg hgood, hflush]

/-- Settles O13: RESUME and FLUSH by what they make of the tile, and ENGINE_RECOVER by the same operation. -/
theorem queueControlReleasesStoppedQueues : Obligations.QueueControlReleasesStoppedQueues := by
  unfold Obligations.QueueControlReleasesStoppedQueues
  refine ⟨fun ctx t m s hctx => resume_gives ctx t m s hctx, fun ctx t m s hctx => flush_gives ctx t m s hctx, fun ctx t m s hctx => ?_,
    fun t s c hhead hlen howned hon hsound hvalue => ?_⟩
  · rw [exec_resume, exec_flush, hctx, if_neg Bool.false_ne_true, if_neg Bool.false_ne_true]
    exact ⟨rfl, rfl⟩
  · have hready : s.argsReady t c := by
      rw [State.argsReady, hlen]
      exact ⟨howned, hon, hsound⟩
    obtain ⟨n, hexec⟩ := engineRecover_acts t s hhead hlen hready hvalue
    rw [State.argState, hlen] at hexec
    exact ⟨_, n, rfl, hexec⟩

end Sys2Proof.Machine
end

section
/-! PROOFS. In-line commands and CALLs (03 R69 to R71, R467): how a CALL is entered, goes on and returns, and the rows SYNC, FENCE, STAMP, NOOP and FILL. -/
namespace Sys2Proof.Machine

/-! ## The state of a running routine (03 R70) -/

section
variable {s : State} {t r : Nat} {c : Cmd} {k : Routine}

theorem routineStep_of_good (hgood : k.failed = none) (go : State → State) : s.routineStep t c k go = go s := by
  rw [State.routineStep, hgood]

theorem beginRoutine_routine {β : Type} (vals : List Nat) (f : Routine → β) :
    ((s.beginRoutine t r vals).tile t).routine.map f = some (f { number := r, inst := (s.tile t).calls, vals := vals }) := by
  rw [State.beginRoutine, tile_setTile_same]
  rfl

theorem beginRoutine_mem (vals : List Nat) : (s.beginRoutine t r vals).mem = s.mem := (rfl)
theorem beginRoutine_regs (vals : List Nat) : (s.beginRoutine t r vals).regs = s.regs := (rfl)

/-- The command that a routine issues: it carries the CALL's launch, LAYER_ID and OP_ID. -/
def Routine.cmdOf (k : Routine) (c : Cmd) (ix w : Nat) : Cmd :=
  { c with word := BitVec.ofNat 256 (putBits (putBits w 131 112 (wLayer c.w)) 143 132 (wOp c.w)), rix := some ix, rin := k.inst }

theorem issueFor_eq (h : (s.tile t).routine = some k) (q ix w : Nat) :
    s.issueFor t q c ix w = s.setTile t { (s.tile t).setQueue q ((s.tile t).queue q ++ [k.cmdOf c ix w]) with routine := some { k with issued := k.issued + 1 } } := by
  rw [State.issueFor, h]
  rfl

theorem setRoutine_tile : (s.setRoutine t k).tile t = { s.tile t with routine := some k } := tile_setTile_same _ _ _

theorem issueFor_setRoutine_mem (q ix w : Nat) : ((s.setRoutine t k).issueFor t q c ix w).mem = s.mem := by
  rw [issueFor_eq (by rw [setRoutine_tile])]
  rfl

theorem issueFor_setRoutine_regs (q ix w : Nat) : ((s.setRoutine t k).issueFor t q c ix w).regs = s.regs := by
  rw [issueFor_eq (by rw [setRoutine_tile])]
  rfl

/-- The command that a routine issues is the last of its queue. -/
theorem issueFor_setRoutine_queue (q ix w : Nat) :
    (((s.setRoutine t k).issueFor t q c ix w).tile t).queue q = (s.tile t).queue q ++ [k.cmdOf c ix w] := by
  rw [issueFor_eq (by rw [setRoutine_tile]), tile_setTile_same, setRoutine_tile]
  exact sget_sset_same _ _ _ _

theorem issueFor_setRoutine_routine (q ix w : Nat) :
    (((s.setRoutine t k).issueFor t q c ix w).tile t).routine = some { k with issued := k.issued + 1 } := by
  rw [issueFor_eq (by rw [setRoutine_tile]), tile_setTile_same]

end

/-- Outside queue 7 a queue holds its list. -/
theorem held_eq_length (x : TileSt) {q : Nat} (h : q ≠ 7) : x.held q = (x.queue q).length := by rw [TileSt.held, if_neg h, Nat.add_zero]

/-! ## The end of an in-line command (03 R69) -/

/-- After its end no command stands in line. -/
theorem endInline_ok_inl (s : State) (t : Nat) (c : Cmd) (addr detail : Nat) (wrote : List (Nat × Nat)) :
    ((s.endInline t c stOk addr detail wrote).tile t).inl = none := by
  rw [State.endInline, if_neg (by decide), inl_of_work (nextLaunch_work _ t t), inl_of_work (complete_work _ t _ t), tile_setTile_same]

section
variable (t : Fin 2048) (s : State)

theorem exec_sync : exec (.sync t) s = execSync t s := (rfl)
theorem exec_fence : exec (.fence t) s = execFence t s := (rfl)
theorem exec_stamp : exec (.stamp t) s = execStamp t s := (rfl)
theorem exec_noop : exec (.noop t) s = execNoop t s := (rfl)
theorem exec_fillRoutine : exec (.fillRoutine t) s = execFillRoutine t s := (rfl)

variable {t s} {c : Cmd}

theorem exec_sync_head (hhead : s.inlineHead t 0 = some c) : exec (.sync t) s = .next ((s.startInline t c).endInline t c stOk 0 0 []) := by
  rw [exec_sync, execSync, hhead]

theorem exec_fence_drained (hhead : s.inlineHead t 1 = some c) (hdrained : (s.startInline t c).drained t = true) :
    exec (.fence t) s = .next ((s.startInline t c).endInline t c stOk 0 0 []) := by
  rw [exec_fence, execFence, hhead]
  dsimp only
  rw [if_pos hdrained]

/-- STAMP to memory that is owned, ON and takes the store. -/
theorem exec_stamp_stored (hhead : s.inlineHead t 3 = some c) (howned : (s.startInline t c).firstUnowned c.part (stampAddr c.w) 8 = none)
    (hon : (s.startInline t c).memOn (stampAddr c.w) 8 = true) (hsound : (s.startInline t c).inFailed (stampAddr c.w) = false)
    (hstore : ((s.startInline t c).store (stampAddr c.w) (leBytes 8 (s.startInline t c).zt) (c.master 0 t)).2 = none) :
    exec (.stamp t) s = .next ((((s.startInline t c).store (stampAddr c.w) (leBytes 8 (s.startInline t c).zt) (c.master 0 t)).1.hbWrite
      (stampAddr c.w) 8 { c.attr with master := some 0 }).endInline t c stOk 0 0 [(stampAddr c.w, 8)]) := by
  rw [exec_stamp, execStamp, hhead]
  dsimp only
  rw [howned]
  dsimp only
  rw [hon, if_neg (by decide), hsound]
  generalize (s.startInline t c).store (stampAddr c.w) (leBytes 8 (s.startInline t c).zt) (c.master 0 t) = stored at hstore ⊢
  obtain ⟨u, failed⟩ := stored
  dsimp only at hstore
  rw [hstore]

theorem exec_noop_head (hhead : s.callHead t 0 = some c) (hready : s.argsReady t c) :
    exec (.noop t) s = .next ((s.argState t c).endInline t c stOk 0 ((s.argState t c).rd ID_LIBRARY % 2 ^ 48) []) := by
  rw [exec_noop, execNoop, hhead]
  dsimp only
  rw [enterCall_of_ready hready]
  rfl

/-! ## FILL (03 R467) -/

section
variable {n : Nat} (hhead : s.callHead t 1 = some c) (hready : s.argsReady t c) (hn : n = fieldAt (s.argBytes t c) 4 4)
  (hlow : 1 ≤ n) (hhigh : n ≤ 4093) (hlen : callLen c.w = 16 + 16 * n) (hzero : fieldAt (s.argBytes t c) 8 8 = 0)
include hlow hhigh hlen hzero

theorem fillBlock_ok : ¬(inRange n 1 4093 = false ∨ callLen c.w ≠ 16 + 16 * n ∨ fieldAt (s.argBytes t c) 8 8 ≠ 0) := by
  have hrange : inRange n 1 4093 = true := by rw [inRange, decide_eq_true hlow, decide_eq_true hhigh]; rfl
  simp only [hrange, hlen, hzero, Bool.true_eq_false, ne_eq, not_true_eq_false, or_self, not_false_eq_true]

include hhead hready hn

/-- With every range good the routine begins. -/
theorem exec_fillRoutine_begins
    (hranges : (fillRanges (s.argBytes t c) n).findIdx? (fun r => !(fillRangeOk r && (s.argState t c).owns c.part r.1 r.2)) = none) :
    exec (.fillRoutine t) s = .next ((s.argState t c).beginRoutine t 1
      (fieldAt (s.argBytes t c) 0 4 :: ((fillRanges (s.argBytes t c) n).map (fun r => [r.1, r.2])).flatten)) := by
  rw [exec_fillRoutine, execFillRoutine, hhead]
  dsimp only
  rw [enterCall_of_ready hready, ← hn, if_neg (fillBlock_ok hlow hhigh hlen hzero), hranges]

/-- The first bad range is named. -/
theorem exec_fillRoutine_faults {i : Nat}
    (hbad : (fillRanges (s.argBytes t c) n).findIdx? (fun r => !(fillRangeOk r && (s.argState t c).owns c.part r.1 r.2)) = some i) :
    exec (.fillRoutine t) s = .next ((s.argState t c).returnFault t c 1 i) := by
  rw [exec_fillRoutine, execFillRoutine, hhead]
  dsimp only
  rw [enterCall_of_ready hready, ← hn, if_neg (fillBlock_ok hlow hhigh hlen hzero), hbad]

end

section
variable {k : Routine} (hhead : s.callHead t 1 = none) (hrun : s.running t 1 = some (c, k)) (hgood : k.failed = none)
include hhead hrun hgood

theorem exec_fillRoutine_running : exec (.fillRoutine t) s = .next (s.fillStep t c k) := by
  rw [exec_fillRoutine, execFillRoutine, hhead, hrun]
  dsimp only
  rw [routineStep_of_good hgood]

theorem fillRoutine_done (hend : k.vals.length ≤ 1 + 2 * k.phase) (hawaits : (s.tile t).awaits k = false) :
    exec (.fillRoutine t) s = .next (s.returnOk t c 0) := by
  rw [exec_fillRoutine_running hhead hrun hgood, State.fillStep, if_pos hend, hawaits, if_neg Bool.false_ne_true]

/-- The sectors of one FILL command: what is left of the range, at most 65,535. -/
theorem fillRoutine_issues (hmore : 1 + 2 * k.phase < k.vals.length) (hleft : k.pos < k.vals.getD (2 + 2 * k.phase) 0 / 32)
    (hroom : (s.tile t).held 5 < 16) :
    Gives (.fillRoutine t) s (fun s' =>
      (s'.tile t).held 5 = (s.tile t).held 5 + 1 ∧ s'.mem = s.mem ∧
      ((s'.tile t).routine.map (·.pos)) = some (k.pos + min (k.vals.getD (2 + 2 * k.phase) 0 / 32 - k.pos) 65535)) := by
  have hexec := exec_fillRoutine_running hhead hrun hgood
  rw [State.fillStep, if_neg (Nat.not_le.mpr hmore), if_neg (Nat.not_le.mpr hleft), if_neg (Nat.not_le.mpr hroom)] at hexec
  refine gives_of_exec hexec ⟨?_, issueFor_setRoutine_mem _ _ _, ?_⟩
  · rw [held_eq_length _ (by decide), held_eq_length _ (by decide), issueFor_setRoutine_queue, List.length_append]
    rfl
  · rw [issueFor_setRoutine_routine]
    rfl

end
end

/-- Settles O12: each row from its own operation, the ends by `endInline_ok_inl`. -/
theorem inlineCommandsComplete : Obligations.InlineCommandsComplete := by
  unfold Obligations.InlineCommandsComplete
  refine ⟨fun t s c hhead => ⟨exec_sync_head hhead, endInline_ok_inl _ t c 0 0 []⟩,
    fun t s c hhead hdrained => ⟨exec_fence_drained hhead hdrained, endInline_ok_inl _ t c 0 0 []⟩,
    fun t s c hhead howned hon hsound hstore => exec_stamp_stored hhead howned hon hsound hstore,
    fun t s c hhead hready => exec_noop_head hhead hready, ?_,
    fun t s c k hhead hrun hgood => ⟨fun hend hawaits => fillRoutine_done hhead hrun hgood hend hawaits,
      fun hmore hleft hroom => fillRoutine_issues hhead hrun hgood hmore hleft hroom⟩⟩
  intro t s s1 c b n hs1 hb hn hhead hready hlow hhigh hlen hzero
  subst hs1 hb
  refine ⟨fun hranges => ?_, fun i => exec_fillRoutine_faults hhead hready hn hlow hhigh hlen hzero⟩
  have hnone : (fillRanges (s.argBytes t c) n).findIdx? (fun r => !(fillRangeOk r && (s.argState t c).owns c.part r.1 r.2)) = none := by
    refine List.findIdx?_eq_none_iff.mpr fun r hr => ?_
    obtain ⟨hok, howns⟩ := hranges r hr
    rw [hok, howns]
    rfl
  exact gives_of_exec (exec_fillRoutine_begins hhead hready hn hlow hhigh hlen hzero hnone) ⟨beginRoutine_routine _ _, beginRoutine_mem _⟩

end Sys2Proof.Machine
end

section
/-! PROOFS. The routines of the training passes (08 R189 to R193): their entries, the commands that they issue, and their returns. -/
namespace Sys2Proof.Machine

section
variable {t : Fin 2048} {s : State} {c : Cmd}

/-! ## The optimisers (08 R190) -/

section
variable {r kind : Nat} {a : OptArgs} {b : List Byte} (ha : a = optArgs b) (hok : a.ok false (callLen c.w) b = true)
  (hdescs : s.descCheck c.part (some kind) false 0 a.descs = none)
include ha hok hdescs

/-- A block that passes its checks and asks for no record begins the routine. -/
theorem optEnter_of_ungated (hgate : a.gate = false) :
    s.optEnter t r kind c b = (s.putGnorm (callAddr c.w) a).beginRoutine t r (s.optUnits a) := by
  subst ha
  rw [State.optEnter]
  dsimp only
  rw [hok, if_neg (by decide), hdescs]
  dsimp only
  rw [hgate, if_neg (by decide)]

variable (hgate : a.gate = true) (howns : s.owns c.part a.gnorm 128 = true) (hon : s.memOn a.gnorm 128 = true) (hsound : s.firstBad a.gnorm 128 = none)
  (hstep : s.readNat (a.gnorm + 0x40) 4 = c.step)
include hgate howns hon hsound hstep

/-- With GATE the step's record decides: where it saturated and FORCE is clear, nothing is issued. -/
theorem optEnter_of_gated : s.optEnter t r kind c b =
    if (s.readNat (a.gnorm + 0x48) 8 != 0 && !a.force) = true then s.returnOk t c 1
    else (s.putGnorm (callAddr c.w) a).beginRoutine t r (s.optUnits a) := by
  subst ha
  rw [State.optEnter]
  dsimp only
  rw [hok, if_neg (by decide), hdescs]
  dsimp only
  rw [hgate, if_pos rfl, howns, if_neg (by decide), hon, if_neg (by decide), hsound]
  dsimp only
  rw [if_neg (not_not_intro hstep)]

end

theorem optRoutine_head {r : Nat} (hhead : s.callHead t r = some c) (hready : s.argsReady t c) (kind : Nat) :
    s.optRoutine t r kind = (s.argState t c).optEnter t r kind c (s.argBytes t c) := by
  rw [State.optRoutine, hhead]
  dsimp only
  rw [enterCall_of_ready hready]

theorem optRoutine_running {r : Nat} {k : Routine} (hhead : s.callHead t r = none) (hrun : s.running t r = some (c, k)) (hgood : k.failed = none) (kind : Nat) :
    s.optRoutine t r kind = s.issueAnvil t c k (fun i u => anvilWord u 1 (callAddr c.w + 32 + 128 * i)) (fun s => s.returnOk t c 0) := by
  rw [State.optRoutine, hhead, hrun]
  dsimp only
  rw [routineStep_of_good hgood]

section
variable {k : Routine} (word : Nat → Nat → Nat) (done : State → State)

/-- While descriptors are left and queue 7 has room, the next command is issued. -/
theorem issueAnvil_of_more (hmore : k.pos < k.vals.length) (hroom : (s.tile t).held 7 < 16) :
    s.issueAnvil t c k word done = (s.setRoutine t { k with pos := k.pos + 1 }).issueFor t 7 c k.pos (word k.pos (k.vals.getD k.pos 0)) := by
  rw [State.issueAnvil, if_pos hmore, if_neg (Nat.not_le.mpr hroom)]

/-- Behind the last descriptor, with every command completed, the routine ends. -/
theorem issueAnvil_of_done (hend : k.vals.length ≤ k.pos) (hawaits : (s.tile t).awaits k = false) : s.issueAnvil t c k word done = done s := by
  rw [State.issueAnvil, if_neg (Nat.not_lt.mpr hend), hawaits, if_neg Bool.false_ne_true]

end

/-- The three optimisers are one routine, each with its number and its kind of group. -/
theorem exec_optimiser {i : Instr} {r kind : Nat} (h : (i, r, kind) ∈ [(Instr.optMomentum t, 3, 0), (.optAdaptive t, 4, 1), (.optSign t, 5, 2)]) :
    exec i s = .next (s.optRoutine t r kind) := by
  simp only [List.mem_cons, List.not_mem_nil, or_false, Prod.mk.injEq] at h
  obtain ⟨rfl, rfl, rfl⟩ | ⟨rfl, rfl, rfl⟩ | ⟨rfl, rfl, rfl⟩ := h
  · rfl
  · rfl
  · rfl

section
variable {i : Instr} {r kind : Nat} (hi : (i, r, kind) ∈ [(Instr.optMomentum t, 3, 0), (.optAdaptive t, 4, 1), (.optSign t, 5, 2)])
include hi

section
variable {s1 : State} {b : List Byte} (hs1 : s1 = s.argState t c) (hb : b = s.argBytes t c) (hhead : s.callHead t r = some c) (hready : s.argsReady t c)
  (hok : (optArgs b).ok false (callLen c.w) b = true) (hdescs : s1.descCheck c.part (some kind) false 0 (optArgs b).descs = none)
include hs1 hb hhead hready hok hdescs

theorem optimiser_begins
    (hgate : (optArgs b).gate = false ∨
      s1.owns c.part (optArgs b).gnorm 128 = true ∧ s1.memOn (optArgs b).gnorm 128 = true ∧ s1.firstBad (optArgs b).gnorm 128 = none ∧
      s1.readNat ((optArgs b).gnorm + 0x40) 4 = c.step ∧ (s1.readNat ((optArgs b).gnorm + 0x48) 8 = 0 ∨ (optArgs b).force = true)) :
    Gives i s (fun s' => ((s'.tile t).routine.map (fun k => (k.number, k.pos, k.vals))) = some (r, 0, s1.optUnits (optArgs b)) ∧
      s'.mem = (s1.putGnorm (callAddr c.w) (optArgs b)).mem) := by
  have henter : s1.optEnter t r kind c b = (s1.putGnorm (callAddr c.w) (optArgs b)).beginRoutine t r (s1.optUnits (optArgs b)) := by
    cases hgated : (optArgs b).gate with
    | false => exact optEnter_of_ungated rfl hok hdescs hgated
    | true =>
      obtain ⟨howns, hon, hsound, hstep, hgoes⟩ := hgate.resolve_left (by rw [hgated]; decide)
      rw [optEnter_of_gated rfl hok hdescs hgated howns hon hsound hstep, if_neg]
      obtain hzero | hforce := hgoes
      · simp [hzero]
      · simp [hforce]
  have hexec := (exec_optimiser hi).trans (congrArg Host.Outcome.next (optRoutine_head hhead hready kind))
  rw [← hs1, ← hb, henter] at hexec
  exact gives_of_exec hexec ⟨beginRoutine_routine _ _, beginRoutine_mem _⟩

theorem optimiser_held_back (hgate : (optArgs b).gate = true) (hforce : (optArgs b).force = false) (howns : s1.owns c.part (optArgs b).gnorm 128 = true)
    (hon : s1.memOn (optArgs b).gnorm 128 = true) (hsound : s1.firstBad (optArgs b).gnorm 128 = none)
    (hstep : s1.readNat ((optArgs b).gnorm + 0x40) 4 = c.step) (hsat : s1.readNat ((optArgs b).gnorm + 0x48) 8 ≠ 0) :
    exec i s = .next (s1.returnOk t c 1) := by
  have hblocked : (s1.readNat ((optArgs b).gnorm + 0x48) 8 != 0 && !(optArgs b).force) = true := by rw [bne_iff_ne.mpr hsat, hforce]; rfl
  rw [exec_optimiser hi, optRoutine_head hhead hready kind, ← hs1, ← hb, optEnter_of_gated rfl hok hdescs hgate howns hon hsound hstep, if_pos hblocked]

end

section
variable {k : Routine} (hhead : s.callHead t r = none) (hrun : s.running t r = some (c, k)) (hgood : k.failed = none)
include hhead hrun hgood

theorem optimiser_issues (hmore : k.pos < k.vals.length) (hroom : (s.tile t).held 7 < 16) :
    Gives i s (fun s' => (s'.tile t).queue 7 = (s.tile t).queue 7 ++
        [k.cmdOf c k.pos (anvilWord (k.vals.getD k.pos 0) 1 (callAddr c.w + 32 + 128 * k.pos))] ∧
      s'.mem = s.mem ∧ s'.regs = s.regs) := by
  have hexec := exec_optimiser (s := s) hi
  rw [optRoutine_running hhead hrun hgood, issueAnvil_of_more _ _ hmore hroom] at hexec
  exact gives_of_exec hexec ⟨issueFor_setRoutine_queue _ _ _, issueFor_setRoutine_mem _ _ _, issueFor_setRoutine_regs _ _ _⟩

theorem optimiser_returns (hend : k.vals.length ≤ k.pos) (hawaits : (s.tile t).awaits k = false) : exec i s = .next (s.returnOk t c 0) := by
  rw [exec_optimiser hi, optRoutine_running hhead hrun hgood, issueAnvil_of_done _ _ hend hawaits]

end
end

/-! ## GRAD_NORM (08 R191) -/

/-- A good block, owned and in sound memory that is ON, begins with empty sums. -/
theorem normEnter_good {a : OptArgs} {b : List Byte} (ha : a = optArgs b) (hok : a.ok false (callLen c.w) b = true) (hhalo : s.haloOn c.part = true)
    (hdescs : s.descCheck c.part none false 0 a.descs = none) (howns : s.owns c.part a.gnorm 0x280 = true) (hsound : s.firstFailed a.gnorm 0x280 = none)
    (hon : s.memOn a.gnorm 0x280 = true) : s.normEnter t c b =
      ((s.normSlots a.gnorm).foldl (fun s x => (s.writeBytes x (zeros 64)).cleanUnits x 64) s).beginRoutine t 6 (s.optUnits a) := by
  subst ha
  rw [State.normEnter, hok, if_neg (by decide), hhalo, if_neg (by decide), hdescs]
  dsimp only
  rw [howns, if_neg (by decide), hsound, hon]

section
variable (others : BitVec 512 × Nat × Nat)

theorem exec_gradNorm : exec (.gradNorm t others) s = execGradNorm t others s := (rfl)

theorem gradNorm_begins {s1 : State} {b : List Byte} (hs1 : s1 = s.argState t c) (hb : b = s.argBytes t c) (hhead : s.callHead t 6 = some c)
    (hready : s.argsReady t c) (hok : (optArgs b).ok false (callLen c.w) b = true) (hhalo : s1.haloOn c.part = true)
    (hdescs : s1.descCheck c.part none false 0 (optArgs b).descs = none) (howns : s1.owns c.part (optArgs b).gnorm 0x280 = true)
    (hsound : s1.firstFailed (optArgs b).gnorm 0x280 = none) (hon : s1.memOn (optArgs b).gnorm 0x280 = true) :
    Gives (.gradNorm t others) s (fun s' => ((s'.tile t).routine.map (fun k => (k.number, k.pos))) = some (6, 0) ∧ s'.regs = s1.regs) := by
  have hexec : exec (.gradNorm t others) s = .next ((s.argState t c).normEnter t c (s.argBytes t c)) := by
    rw [exec_gradNorm, execGradNorm, hhead]
    dsimp only
    rw [enterCall_of_ready hready]
  rw [← hs1, ← hb, normEnter_good rfl hok hhalo hdescs howns hsound hon] at hexec
  refine gives_of_exec hexec ⟨beginRoutine_routine _ _, ?_⟩
  rw [beginRoutine_regs]
  exact foldl_keeps State.regs (fun u x => by rw [cleanUnits_regs, writeBytes_regs]) _ _

theorem gradNorm_ends {k : Routine} (hhead : s.callHead t 6 = none) (hrun : s.running t 6 = some (c, k)) (hgood : k.failed = none)
    (hend : k.vals.length ≤ k.pos) (hawaits : (s.tile t).awaits k = false) :
    exec (.gradNorm t others) s = .next (s.normFinish t c (optArgs (s.readBytes (callAddr c.w) 32)).gnorm
      (optArgs (s.readBytes (callAddr c.w) 32)).axes others) := by
  rw [exec_gradNorm, execGradNorm, hhead, hrun]
  dsimp only
  rw [routineStep_of_good hgood, issueAnvil_of_done _ _ hend hawaits]

end

/-! ## STEP_RERUN (08 R192) -/

theorem exec_stepRerun : exec (.stepRerun t) s = execStepRerun t s := (rfl)

theorem stepRerun_works {s1 : State} {b : List Byte} (hs1 : s1 = s.argState t c) (hb : b = s.argBytes t c) (hhead : s.callHead t 7 = some c)
    (hready : s.argsReady t c) (hok : (optArgs b).ok true (callLen c.w) b = true) (hhalo : s1.haloOn c.part = true)
    (hdescs : s1.descCheck c.part none true 0 (optArgs b).descs = none) : exec (.stepRerun t) s = .next (s1.rerunWork t c (optArgs b)) := by
  rw [exec_stepRerun, execStepRerun, hhead]
  dsimp only
  rw [enterCall_of_ready hready, ← hs1, ← hb, hok, if_neg (by decide), hhalo, if_neg (by decide), hdescs]

/-! ## RECOMPUTE (08 R193) -/

theorem exec_recompute : exec (.recompute t) s = execRecompute t s := (rfl)

theorem recompute_begins {s1 : State} {b : List Byte} (hs1 : s1 = s.argState t c) (hb : b = s.argBytes t c) (hhead : s.callHead t 2 = some c)
    (hready : s.argsReady t c) (hok : recomputeOk (callLen c.w) b = true) :
    Gives (.recompute t) s (fun s' => ((s'.tile t).routine.map (fun k => (k.number, k.pos))) = some (2, 0) ∧ s'.mem = s1.mem) := by
  have hexec : exec (.recompute t) s = .next (s1.beginRoutine t 2 [fieldAt b 0 8, fieldAt b 8 4, fieldAt b 12 4, fieldAt b 16 4]) := by
    rw [exec_recompute, execRecompute, hhead]
    dsimp only
    rw [enterCall_of_ready hready, ← hs1, ← hb, if_pos hok]
  exact gives_of_exec hexec ⟨beginRoutine_routine _ _, beginRoutine_mem _⟩

theorem recompCmd_phase (k : Routine) (n w : Nat) : recompCmd c { k with phase := n } w = recompCmd c k w := (rfl)

/-- A word already read, which the segment may hold, is issued. -/
theorem recompStep_issues {k : Routine} {a w : Nat} (hmore : k.pos < k.vals.getD 1 0) (ha : a = k.vals.getD 0 0 + 32 * k.pos) (howned : s.firstUnowned c.part a 32 = none)
    (hon : s.memOn a 32 = true) (hsound : s.firstBad a 32 = none) (hw : w = s.readNat a 32)
    (hallowed : s.recompDenied c.part (k.vals.getD 2 0) (k.vals.getD 3 0) w = none) (hread : 1 ≤ k.phase) (hplace : s.placeFree t 6 = true) :
    s.recompStep t c k = s.recompIssue t { k with phase := max 1 k.phase } (recompCmd c k w) := by
  rw [State.recompStep]
  dsimp only
  rw [if_neg (Nat.not_le.mpr hmore), ← ha, howned]
  dsimp only
  rw [hon, if_neg (by decide), hsound]
  dsimp only
  rw [← hw, hallowed]
  dsimp only
  rw [if_neg (Nat.ne_of_gt hread), if_pos hplace, recompCmd_phase]

section
variable {k : Routine} (hhead : s.callHead t 2 = none) (hrun : s.running t 2 = some (c, k)) (hgood : k.failed = none)
include hhead hrun hgood

theorem exec_recompute_running : exec (.recompute t) s = .next (s.recompStep t c k) := by
  rw [exec_recompute, execRecompute, hhead, hrun]
  dsimp only
  rw [routineStep_of_good hgood]

theorem recompute_issues {a w : Nat} (hmore : k.pos < k.vals.getD 1 0) (ha : a = k.vals.getD 0 0 + 32 * k.pos) (howned : s.firstUnowned c.part a 32 = none)
    (hon : s.memOn a 32 = true) (hsound : s.firstBad a 32 = none) (hw : w = s.readNat a 32)
    (hallowed : s.recompDenied c.part (k.vals.getD 2 0) (k.vals.getD 3 0) w = none) (hread : 1 ≤ k.phase) (hplace : s.placeFree t 6 = true)
    (hcheck : s.entryCheck c.part t (recompCmd c k w).w = stOk) (hengine : wEngine (recompCmd c k w).w ≠ 6)
    (hroom : (s.tile t).held (wEngine (recompCmd c k w).w) < 16) :
    exec (.recompute t) s = .next ((s.place t (wEngine (recompCmd c k w).w) (recompCmd c k w)).recompNext t) := by
  have hpart : (recompCmd c k w).part = c.part := rfl
  rw [exec_recompute_running hhead hrun hgood, recompStep_issues hmore ha howned hon hsound hw hallowed hread hplace, State.recompIssue,
    hpart, if_neg (not_not_intro hcheck), if_neg hengine, if_neg (Nat.not_le.mpr hroom)]

theorem recompute_returns (hend : k.vals.getD 1 0 ≤ k.pos) (hawaits : (s.tile t).awaits k = false) : exec (.recompute t) s = .next (s.returnOk t c 0) := by
  rw [exec_recompute_running hhead hrun hgood, State.recompStep,
    if_pos hend, hawaits, if_neg Bool.false_ne_true]

end
end

/-- Settles O27: one lemma for each entry, issue and return; the three optimisers are one routine. -/
theorem trainingRoutinesRun : Obligations.TrainingRoutinesRun := by
  unfold Obligations.TrainingRoutinesRun
  intro t s s1 c b others hs1 hb
  refine ⟨fun i r kind hi => ⟨optimiser_begins hi hs1 hb, optimiser_held_back hi hs1 hb, fun k => optimiser_issues hi, fun k => optimiser_returns hi⟩,
    gradNorm_begins others hs1 hb, fun k => gradNorm_ends others, stepRerun_works hs1 hb, recompute_begins hs1 hb, fun k a w => ?_, fun k => recompute_returns⟩
  exact fun hhead hrun hgood => recompute_issues hhead hrun hgood

end Sys2Proof.Machine
end

section
/-! PROOFS. The routines of the failure paths (15 R369 to R379): their entries, their last actions, and STEP_REPLAY's comparison. -/
namespace Sys2Proof.Machine

section
variable {t : Fin 2048} {s : State} {c : Cmd}

/-! ## What the routines share (15 R379) -/

/-- With nothing under way and no operation failed, a routine goes on. -/
theorem libFailed_of_good {k : Routine} (hlib : k.libFail = none) (hidle : s.libIdle t k = true) (code : Nat) (go : State → State) :
    s.libFailed t c k code go = go s := by
  rw [State.libFailed, hlib]
  dsimp only
  rw [if_pos hidle]

/-- A write of the library to memory that is ON and takes the store. -/
theorem libStore_of_good {a : Nat} {b : List Byte} (hon : s.memOn a b.length = true) (hstore : (s.store a b (c.master 0 t)).2 = none) (next : State → State) :
    s.libStore t c a b next = next ((s.store a b (c.master 0 t)).1.hbWrite a b.length { c.attr with master := some 0 }) := by
  rw [State.libStore, hon, if_neg (by decide)]
  generalize s.store a b (c.master 0 t) = stored at hstore ⊢
  obtain ⟨u, failed⟩ := stored
  dsimp only at hstore
  rw [hstore]

/-! ## PARITY_UPDATE (15 R371) -/

/-- A good block begins the routine where a unit serves each area and the staging area. -/
theorem parityEnter_good {a : ParityArgs} {b : List Byte} (ha : a = parityArgs b) (hlen : callLen c.w = 64 + 16 * fieldAt b 0 2) (hbad : a.bad b = none)
    (howned : s.parityUnowned c.part a = none) (hring : s.ringFits a = true) : s.parityEnter t c b =
      if [(a.area0, a.stripe), (a.area1, a.stripe), (a.stage, (a.k - 1) * a.chunk)].any (fun e => (s.unitServing e.1 e.2).isNone) then
        s.returnFault t c 0x12 0
      else s.beginRoutine t 8 [leNat b, callLen c.w] := by
  subst ha
  rw [State.parityEnter, if_neg (not_not_intro hlen), hbad, howned]
  dsimp only
  rw [hring, if_neg (by decide)]

theorem exec_parityUpdate : exec (.parityUpdate t) s = execParityUpdate t s := (rfl)

section
variable {s1 : State} {b : List Byte} (hs1 : s1 = s.argState t c) (hb : b = s.argBytes t c) (hhead : s.callHead t 8 = some c) (hready : s.argsReady t c)
  (hlen : callLen c.w = 64 + 16 * fieldAt b 0 2) (hbad : (parityArgs b).bad b = none) (howned : s1.parityUnowned c.part (parityArgs b) = none)
  (hring : s1.ringFits (parityArgs b) = true)
include hs1 hb hhead hready hlen hbad howned hring

theorem exec_parityUpdate_head : exec (.parityUpdate t) s = .next (
    if [((parityArgs b).area0, (parityArgs b).stripe), ((parityArgs b).area1, (parityArgs b).stripe),
        ((parityArgs b).stage, ((parityArgs b).k - 1) * (parityArgs b).chunk)].any (fun e => (s1.unitServing e.1 e.2).isNone) then s1.returnFault t c 0x12 0
    else s1.beginRoutine t 8 [leNat b, callLen c.w]) := by
  rw [exec_parityUpdate, execParityUpdate, hhead]
  dsimp only
  rw [enterCall_of_ready hready, ← hs1, ← hb, parityEnter_good rfl hlen hbad howned hring]

theorem parityUpdate_begins (hunits : ∀ e ∈ [((parityArgs b).area0, (parityArgs b).stripe), ((parityArgs b).area1, (parityArgs b).stripe),
      ((parityArgs b).stage, ((parityArgs b).k - 1) * (parityArgs b).chunk)], (s1.unitServing e.1 e.2).isSome = true) :
    Gives (.parityUpdate t) s (fun s' => ((s'.tile t).routine.map (fun k => (k.number, k.pos))) = some (8, 0) ∧ s'.mem = s1.mem) := by
  have hexec := exec_parityUpdate_head hs1 hb hhead hready hlen hbad howned hring
  rw [if_neg] at hexec
  · exact gives_of_exec hexec ⟨beginRoutine_routine _ _, beginRoutine_mem _⟩
  · rw [List.any_eq_true]
    rintro ⟨e, he, hnone⟩
    exact Option.not_isSome_iff_eq_none.mpr (Option.isNone_iff_eq_none.mp hnone) (hunits e he)

theorem parityUpdate_unserved (hunit : s1.unitServing (parityArgs b).stage (((parityArgs b).k - 1) * (parityArgs b).chunk) = none) :
    exec (.parityUpdate t) s = .next (s1.returnFault t c 0x12 0) := by
  rw [exec_parityUpdate_head hs1 hb hhead hready hlen hbad howned hring, if_pos]
  rw [List.any_eq_true]
  exact ⟨_, List.mem_of_getLast? rfl, Option.isNone_iff_eq_none.mpr hunit⟩

end

/-- Behind its last chunk PARITY_UPDATE writes its record. -/
theorem parityUpdate_ends {k : Routine} {a : ParityArgs} (hhead : s.callHead t 8 = none) (hrun : s.running t 8 = some (c, k)) (hgood : k.failed = none)
    (hlib : k.libFail = none) (hidle : s.libIdle t k = true) (ha : a = parityArgs (leBytes (k.vals.getD 1 0) (k.vals.getD 0 0)))
    (hend : a.stripe / a.chunk ≤ k.pos / (a.k + 1)) : exec (.parityUpdate t) s = .next (s.parityDone t c a) := by
  rw [exec_parityUpdate, execParityUpdate, hhead, hrun]
  dsimp only
  rw [routineStep_of_good hgood, libFailed_of_good hlib hidle, State.parityStep, ← ha, if_pos hend]

/-! ## REBUILD (15 R373) -/

theorem exec_rebuild : exec (.rebuild t) s = execRebuild t s := (rfl)

section
variable {pa n : Nat} {b pb : List Byte} (hlen : callLen c.w = 32) (hpa : pa = fieldAt b 0x10 8) (hspace : pa < 2 ^ 48) (hn : n = 64 + 16 * s.readNat pa 2)
  (hpb : pb = s.readBytes pa n) (howns64 : s.owns c.part pa 64 = true) (hon64 : s.memOn pa 64 = true) (hsound64 : s.firstBad pa 64 = none)
  (howns : s.owns c.part pa n = true) (hon : s.memOn pa n = true) (hsound : s.firstBad pa n = none) (hbad : (parityArgs pb).bad pb = none)
  (howned : s.parityUnowned c.part (parityArgs pb) = none) (hring : s.ringFits (parityArgs pb) = true)
  (hok : s.rebuildOk c.part (rebuildArgs b) (parityArgs pb) b = true)
  (hstage : (s.unitServing (parityArgs pb).stage (((parityArgs pb).k - 1) * (parityArgs pb).chunk)).isSome = true)
  (htarget : (rebuildArgs b).member = true → (s.unitServing (rebuildArgs b).target (parityArgs pb).len).isSome = true)
include hlen hpa hspace hn hpb howns64 hon64 hsound64 howns hon hsound hbad howned hring hok hstage htarget

/-- A good block, with the PARITY_UPDATE block that it names readable and good, begins the routine. -/
theorem rebuildEnter_good : s.rebuildEnter t c b = s.beginRoutine t 0xA [leNat b, leNat pb, n, 0] := by
  have hblock : ¬(callLen c.w ≠ 32 ∨ 2 ^ 48 ≤ pa ∨ s.owns c.part pa 64 = false) := by
    rw [howns64]
    simp only [hlen, Bool.true_eq_false, or_false]
    omega
  have hunits : ¬((s.unitServing (parityArgs pb).stage (((parityArgs pb).k - 1) * (parityArgs pb).chunk)).isNone ||
      ((rebuildArgs b).member && (s.unitServing (rebuildArgs b).target (parityArgs pb).len).isNone)) = true := by
    rw [Bool.or_eq_true, Bool.and_eq_true, ← Option.not_isSome, ← Option.not_isSome, hstage]
    rintro (hfalse | ⟨hmember, hfalse⟩)
    · exact absurd hfalse (by decide)
    · rw [htarget hmember] at hfalse
      exact absurd hfalse (by decide)
  rw [State.rebuildEnter]
  dsimp only
  rw [← hpa, if_neg hblock, hon64, if_neg (by decide), hsound64]
  dsimp only
  rw [← hn, howns, if_neg (by decide), hon, if_neg (by decide), hsound]
  dsimp only
  rw [← hpb, hbad, howned]
  dsimp only
  rw [hring, hok, if_neg (by decide), if_neg hunits]

end

theorem exec_rebuild_head (hhead : s.callHead t 0xA = some c) (hready : s.argsReady t c) :
    exec (.rebuild t) s = .next ((s.argState t c).rebuildEnter t c (s.argBytes t c)) := by
  rw [exec_rebuild, execRebuild, hhead]
  dsimp only
  rw [enterCall_of_ready hready]

/-- Behind its last page REBUILD returns. -/
theorem rebuild_returns {k : Routine} {r : RebuildArgs} {a : ParityArgs} (hhead : s.callHead t 0xA = none) (hrun : s.running t 0xA = some (c, k))
    (hgood : k.failed = none) (hlib : k.libFail = none) (hidle : s.libIdle t k = true) (hr : r = rebuildArgs (leBytes 32 (k.vals.getD 0 0)))
    (ha : a = parityArgs (leBytes (k.vals.getD 2 0) (k.vals.getD 1 0))) (hread : (r.readers a).length < k.pos)
    (hend : r.pages a ≤ (k.pos - (r.readers a).length - 1) / (2 * a.k - 2)) : exec (.rebuild t) s = .next (s.returnOk t c 0) := by
  rw [exec_rebuild, execRebuild, hhead, hrun]
  dsimp only
  rw [routineStep_of_good hgood, libFailed_of_good hlib hidle, State.rebuildStep, ← hr, ← ha]
  dsimp only
  rw [if_neg (Nat.lt_asymm hread), if_neg (Nat.ne_of_gt hread), if_pos hend]

/-! ## SNAPSHOT (15 R375 to R377) -/

/-- SAVE, SEAL and RESTORE are one routine, each for its OP. -/
theorem exec_snapshot {i : Instr} {op : Nat} (h : (i, op) ∈ [(Instr.save t, 0), (.seal t, 1), (.restore t, 2)]) : exec i s = .next (s.snapshot t op) := by
  simp only [List.mem_cons, List.not_mem_nil, or_false, Prod.mk.injEq] at h
  obtain ⟨rfl, rfl⟩ | ⟨rfl, rfl⟩ | ⟨rfl, rfl⟩ := h
  · rfl
  · rfl
  · rfl

theorem snapshot_head {op : Nat} (hhead : s.callHead t 9 = some c) (hready : s.argsReady t c) (hop : (s.byte (callAddr c.w)).toNat = op) :
    s.snapshot t op = (s.argState t c).snapEnter t c (s.argBytes t c) := by
  rw [State.snapshot, hhead]
  dsimp only
  rw [if_neg (fun h => h.1 hop), enterCall_of_ready hready]

theorem snapshot_running {op : Nat} {k : Routine} {a : SnapArgs} (hhead : s.callHead t 9 = none) (hrun : s.running t 9 = some (c, k)) (hgood : k.failed = none)
    (ha : a = snapArgs (leBytes (k.vals.getD 1 0) (k.vals.getD 0 0))) (hop : a.op = op) :
    s.snapshot t op = s.snapStep t c k a := by
  rw [State.snapshot, hhead, hrun]
  dsimp only
  rw [← ha, if_pos hop, routineStep_of_good hgood]

section
variable {k : Routine} {a : SnapArgs} (hphase : k.phase = 0)
include hphase

/-- Behind the last transfer the routine returns. -/
theorem snapStep_of_end (hend : a.plan.length ≤ k.pos) : s.snapStep t c k a = s.returnOk t c 0 := by
  rw [State.snapStep, hphase, if_neg (by decide), List.getElem?_eq_none hend]

theorem snapStep_of_more {m : Nat × Nat × Nat × Nat} (hmore : a.plan[k.pos]? = some m) :
    s.snapStep t c k a = s.snapPost t k a (a.op == 2) m.1 m.2.1 m.2.2.1 := by
  rw [State.snapStep, hphase, if_neg (by decide), hmore]

end

/-- SEAL's local work on ranges that are ON and sound, with the record of its step. -/
theorem sealWork_good {a : SnapArgs} (hon : s.offOf [(a.header, 4096), (a.loss, 64), (a.gnorm, 128)] = none)
    (hsound : s.badOf [(a.header, 4096), (a.loss, 64), (a.gnorm, 128)] = none) (hstep : s.readNat (a.gnorm + 0x40) 4 = a.step) (go : State → State) :
    s.sealWork t c a go =
      s.libStore t c a.header (sealHeader (s.readBytes a.header 4096) (s.readBytes a.loss 64) (s.readBytes a.gnorm 64)) go := by
  rw [State.sealWork, hon, hsound]
  dsimp only
  rw [if_neg (not_not_intro hstep)]

/-- A good block begins the routine: for SAVE behind the header's write, for SEAL behind its local work. -/
theorem snapEnter_good {a : SnapArgs} {b : List Byte} (ha : a = snapArgs b) (hlen : callLen c.w = 64 + 16 * fieldAt b 6 2)
    (hbad : a.bad b = none) (howned : s.snapUnowned c.part (tileDie t) a = none)
    (hsave : a.op = 0 → s.memOn a.header (s.snapHeader c.part a).length = true ∧ (s.store a.header (s.snapHeader c.part a) (c.master 0 t)).2 = none)
    (hseal : a.op = 1 → s.offOf [(a.header, 4096), (a.loss, 64), (a.gnorm, 128)] = none ∧ s.badOf [(a.header, 4096), (a.loss, 64), (a.gnorm, 128)] = none ∧
      s.readNat (a.gnorm + 0x40) 4 = a.step ∧
      s.memOn a.header (sealHeader (s.readBytes a.header 4096) (s.readBytes a.loss 64) (s.readBytes a.gnorm 64)).length = true ∧
      (s.store a.header (sealHeader (s.readBytes a.header 4096) (s.readBytes a.loss 64) (s.readBytes a.gnorm 64)) (c.master 0 t)).2 = none) :
    ∃ u : State, s.snapEnter t c b = u.beginRoutine t 9 [leNat b, callLen c.w, 0, 0] := by
  subst ha
  rw [State.snapEnter, if_neg (not_not_intro hlen), hbad, howned]
  dsimp only
  split
  · obtain ⟨hon, hstore⟩ := hsave ‹_›
    exact ⟨_, libStore_of_good hon hstore _⟩
  · obtain ⟨hon, hsound, hstep, honHeader, hstore⟩ := hseal ‹_›
    exact ⟨_, (sealWork_good hon hsound hstep _).trans (libStore_of_good honHeader hstore _)⟩
  · exact ⟨s, rfl⟩

/-! ## STEP_REPLAY (15 R378) -/

theorem exec_stepReplay : exec (.stepReplay t) s = execStepReplay t s := (rfl)

/-- A good block compares LOSS, then GNORM_SQ, with the header's. -/
theorem stepReplay_compares {s1 : State} {b : List Byte} {h l g : Nat} (hs1 : s1 = s.argState t c) (hb : b = s.argBytes t c)
    (hhead : s.callHead t 0xB = some c) (hready : s.argsReady t c) (hh : h = fieldAt b 0 8) (hl : l = fieldAt b 8 8) (hg : g = fieldAt b 0x10 8)
    (hblock : ¬(callLen c.w ≠ 32 ∨ fieldAt b 0x18 8 ≠ 0 ∨ h % 4096 ≠ 0 ∨ g % 64 ≠ 0 ∨ 2 ^ 48 ≤ h ∨ 2 ^ 48 ≤ l ∨ 2 ^ 48 ≤ g ∨
      (s1.unownedOf c.part [(h, 4096), (l, 64), (g, 128)]).isSome = true))
    (hon : s1.offOf [(h, 4096), (l, 64), (g, 128)] = none) (hsound : s1.badOf [(h, 4096), (l, 64), (g, 128)] = none)
    (hstep : s1.readNat (g + 0x40) 4 = s1.readNat (h + 0x18) 8) :
    exec (.stepReplay t) s = .next (s1.returnOk t c (if s1.readBytes l 64 ≠ s1.readBytes (h + 0x40) 64 then 1
      else if s1.readBytes g 64 ≠ s1.readBytes (h + 0x80) 64 then 2 else 0)) := by
  rw [exec_stepReplay, execStepReplay, hhead]
  dsimp only
  rw [enterCall_of_ready hready, ← hs1, ← hb, ← hh, ← hl, ← hg, if_neg hblock, hon, hsound]
  dsimp only
  rw [if_neg (not_not_intro hstep), apply_ite (s1.returnOk t c), apply_ite (s1.returnOk t c)]

end

/-- Settles O29: one lemma for each entry, end and action; SAVE, SEAL and RESTORE are one routine. -/
theorem recoveryRoutinesRun : Obligations.RecoveryRoutinesRun := by
  unfold Obligations.RecoveryRoutinesRun
  intro t s s1 c b hs1 hb
  refine ⟨fun hhead hready hlen hbad howned hring => ⟨parityUpdate_begins hs1 hb hhead hready hlen hbad howned hring,
      parityUpdate_unserved hs1 hb hhead hready hlen hbad howned hring⟩, fun k a => parityUpdate_ends, ?_, fun k r a => rebuild_returns,
    fun i op hi => ⟨?_, ?_, ?_⟩, ?_⟩
  · intro pa n pb hhead hready hlen hpa hspace hn hpb howns64 hon64 hsound64 howns hon hsound hbad howned hring hok hstage htarget
    have hexec := exec_rebuild_head hhead hready
    rw [← hs1, ← hb, rebuildEnter_good hlen hpa hspace hn hpb howns64 hon64 hsound64 howns hon hsound hbad howned hring hok hstage htarget] at hexec
    exact gives_of_exec hexec ⟨beginRoutine_routine _ _, beginRoutine_mem _⟩
  · intro hhead hready _ hbyte hop hlen hbad howned hsave hseal
    obtain ⟨u, henter⟩ := snapEnter_good (s := s1) (t := t) rfl hlen hbad howned (fun h => hsave (hop ▸ h)) (fun h => hseal (hop ▸ h))
    have hexec := exec_snapshot (s := s) hi
    rw [snapshot_head hhead hready hbyte, ← hs1, ← hb, henter] at hexec
    exact gives_of_exec hexec (beginRoutine_routine _ _)
  · intro k a hhead hrun hgood ha hop hphase hend
    rw [exec_snapshot hi, snapshot_running hhead hrun hgood ha hop, snapStep_of_end hphase hend]
  · intro k a m hhead hrun hgood ha hop hphase hmore
    rw [exec_snapshot hi, snapshot_running hhead hrun hgood ha hop, snapStep_of_more hphase hmore]
  · intro h l g hhead hready hh hl hg hlen hzero hpage hline hhs hls hgs howned hon hsound hstep
    refine stepReplay_compares hs1 hb hhead hready hh hl hg ?_ hon hsound hstep
    rw [howned]
    simp only [Option.isSome_none, Bool.false_eq_true, or_false]
    omega

end Sys2Proof.Machine
end

section
/-! PROOFS. COPY and FILL of the tile DMA (03 R72, R73): memory whose cells move, memory written sector by sector, and the two rows. -/
namespace Sys2Proof.Machine

/-! ## Cells of memory that move (00 R9) -/

section
variable {α : Type} (d : Nat → α)

theorem sget_append_of_absent_left {l : Sparse α} {n : Nat} (h : ∀ c ∈ l, c.1 ≠ n) (m : Sparse α) : sget d (l ++ m) n = sget d m n := by
  induction l with
  | nil => rfl
  | cons c l ih =>
    rw [List.cons_append, sget, if_neg (h c List.mem_cons_self), ih fun e he => h e (List.mem_cons_of_mem _ he)]

theorem sget_of_absent {l : Sparse α} {n : Nat} (h : ∀ c ∈ l, c.1 ≠ n) : sget d l n = d n := by
  rw [← List.append_nil l, sget_append_of_absent_left d h, sget_nil]

theorem sget_append_of_absent_right (l : Sparse α) {m : Sparse α} {n : Nat} (h : ∀ c ∈ m, c.1 ≠ n) : sget d (l ++ m) n = sget d l n := by
  induction l with
  | nil => exact sget_of_absent d h
  | cons c l ih => rw [List.cons_append, sget, sget, ih]

end

section
variable (m : List Host.Cell) (a n : Nat) {new : List Host.Cell} (hnew : ∀ c ∈ new, a ≤ c.1 ∧ c.1 < a + n)

include hnew in
/-- Outside the range replaced, a cell stays. -/
theorem sget_cellsReplace_outside {x : Nat} (hx : x < a ∨ a + n ≤ x) : sget memDefault (cellsReplace m a n new) x = sget memDefault m x := by
  have hbelow (hlow : x < a) : sget memDefault (cellsReplace m a n new) x = sget memDefault m x := by
    rw [cellsReplace, sget_append_of_absent_right, sget_append_of_absent_right, LoaderKept.sget_filter_of_kept]
    · exact fun _ => decide_eq_true hlow
    · exact fun c hc => by have := hnew c hc; omega
    · exact fun c hc => by have := of_decide_eq_true (List.mem_filter.mp hc).2; omega
  have habove (hhigh : a + n ≤ x) : sget memDefault (cellsReplace m a n new) x = sget memDefault m x := by
    rw [cellsReplace, sget_append_of_absent_left, LoaderKept.sget_filter_of_kept]
    · exact fun _ => decide_eq_true hhigh
    · intro c hc
      obtain hc | hc := List.mem_append.mp hc
      · have := of_decide_eq_true (List.mem_filter.mp hc).2
        omega
      · have := hnew c hc
        omega
  exact hx.elim hbelow habove

/-- Within it, the new cells stand. -/
theorem sget_cellsReplace_inside {x : Nat} (hlow : a ≤ x) (hhigh : x < a + n) : sget memDefault (cellsReplace m a n new) x = sget memDefault new x := by
  rw [cellsReplace, sget_append_of_absent_right, sget_append_of_absent_left]
  · exact fun c hc => by have := of_decide_eq_true (List.mem_filter.mp hc).2; omega
  · exact fun c hc => by have := of_decide_eq_true (List.mem_filter.mp hc).2; omega

variable (src dst : Nat)

theorem cellsMoved_within : ∀ c ∈ cellsMoved m src n dst, dst ≤ c.1 ∧ c.1 < dst + n := by
  intro c hc
  obtain ⟨e, he, rfl⟩ := List.mem_map.mp hc
  have hrange := (List.mem_filter.mp he).2
  rw [Bool.and_eq_true, decide_eq_true_eq, decide_eq_true_eq] at hrange
  dsimp only
  omega

theorem sget_cellsMoved {k : Nat} (hk : k < n) : sget memDefault (cellsMoved m src n dst) (dst + k) = sget memDefault m (src + k) := by
  have hmap (l : List Host.Cell) (hl : ∀ c ∈ l, src ≤ c.1) :
      sget memDefault (l.map (fun c => (c.1 - src + dst, c.2))) (dst + k) = sget memDefault l (src + k) := by
    induction l with
    | nil => rfl
    | cons c l ih =>
      have hc := hl c List.mem_cons_self
      have hsame : (c.1 - src + dst = dst + k) ↔ (c.1 = src + k) := by omega
      rw [List.map_cons, sget, sget, ih fun e he => hl e (List.mem_cons_of_mem _ he)]
      exact if_congr hsame rfl rfl
  rw [cellsMoved, hmap _ fun c hc => ?_, LoaderKept.sget_filter_of_kept]
  · intro v
    rw [Bool.and_eq_true, decide_eq_true_eq, decide_eq_true_eq]
    exact ⟨Nat.le_add_right _ _, by omega⟩
  · have hrange := (List.mem_filter.mp hc).2
    rw [Bool.and_eq_true, decide_eq_true_eq] at hrange
    exact hrange.1

end

/-! ## Extents -/

section
variable {s : State} {a n b m : Nat}

/-- A part of a plain extent is plain. -/
theorem plain_sub (h : s.plain a n) (hlow : a ≤ b) (hhigh : b + m ≤ a + n) : s.plain b m := by
  intro k hk
  obtain ⟨hplace, hpresent⟩ := h (b - a + k) (by omega)
  rw [show a + (b - a + k) = b + k by omega] at hplace hpresent
  exact ⟨hplace, hpresent⟩

/-- An extent without bad units meets no FAILED stack and no bad unit (R208). -/
theorem firstBad_eq_none_iff (hn : n ≠ 0) : s.firstBad a n = none ↔
    (∀ k < 8, ¬(s.stackFailed k = true ∧ k * stackBytes < a + n ∧ a < (k + 1) * stackBytes)) ∧ ∀ u ∈ s.ue, ¬(u < a + n ∧ a < u + errUnitBytes u) := by
  have hmatch (l : List Nat) : (match l with | [] => none | x :: t => some (t.foldl min x)) = none ↔ l = [] := by
    cases l with
    | nil => exact iff_of_true rfl rfl
    | cons x t => exact iff_of_false (fun h => nomatch h) (fun h => nomatch h)
  rw [State.firstBad, if_neg hn]
  refine (hmatch _).trans ?_
  simp only [List.append_eq_nil_iff, List.filterMap_eq_nil_iff, List.filter_eq_nil_iff, List.mem_range, ite_eq_right_iff, Bool.and_eq_true,
    decide_eq_true_eq, reduceCtorEq, imp_false, and_assoc]

theorem firstBad_zero : s.firstBad a 0 = none := (rfl)

end

/-! ## Stores -/

/-- A state that stores have made of another: memory alone differs, and no unit of it has become bad. -/
def State.Stored (s u : State) : Prop := ∃ m e, e ⊆ s.ue ∧ u = { s with mem := m, ue := e }

namespace State.Stored

theorem refl (s : State) : s.Stored s := ⟨s.mem, s.ue, fun _ h => h, rfl⟩

section
variable {s u v : State} (h : s.Stored u)
include h

theorem trans (h' : u.Stored v) : s.Stored v := by
  obtain ⟨_, _, he, rfl⟩ := h
  obtain ⟨m, e, he', rfl⟩ := h'
  exact ⟨m, e, fun _ hx => he (he' hx), rfl⟩

theorem writeBytes (a : Nat) (b : List Byte) : s.Stored (u.writeBytes a b) := by
  obtain ⟨m, hother⟩ := writeBytes_other u a b
  exact h.trans ⟨m, u.ue, fun _ hx => hx, hother⟩

theorem cleanUnits (a n : Nat) : s.Stored (u.cleanUnits a n) := h.trans ⟨u.mem, _, List.filter_subset_self _, rfl⟩

theorem moveRange (src dst n : Nat) : s.Stored (u.moveRange src dst n) := h.trans ⟨_, u.ue, fun _ hx => hx, rfl⟩

theorem regs : u.regs = s.regs := by obtain ⟨_, _, _, rfl⟩ := h; rfl
theorem tiles : u.tiles = s.tiles := by obtain ⟨_, _, _, rfl⟩ := h; rfl
theorem zt : u.zt = s.zt := by obtain ⟨_, _, _, rfl⟩ := h; rfl

theorem plain {a n : Nat} (hplain : s.plain a n) : u.plain a n := by obtain ⟨_, _, _, rfl⟩ := h; exact hplain
theorem inFailed (a : Nat) : u.inFailed a = s.inFailed a := by obtain ⟨_, _, _, rfl⟩ := h; rfl

/-- A part of an extent without bad units has none after stores. -/
theorem firstBad {a n b m : Nat} (hsound : s.firstBad a n = none) (hlow : a ≤ b) (hhigh : b + m ≤ a + n) : u.firstBad b m = none := by
  obtain rfl | hm := Nat.eq_zero_or_pos m
  · exact firstBad_zero
  · obtain ⟨_, _, he, rfl⟩ := h
    obtain ⟨hstacks, hunits⟩ := (firstBad_eq_none_iff (by omega)).mp hsound
    refine (firstBad_eq_none_iff (by omega)).mpr ⟨fun k hk hmeets => hstacks k hk ?_, fun x hx hmeets => hunits x (he hx) ?_⟩
    · exact ⟨hmeets.1, by omega, by omega⟩
    · omega

end
end State.Stored

theorem getD_readBytes (s : State) (a : Nat) {n k : Nat} (hk : k < n) : (s.readBytes a n).getD k 0 = s.byte (a + k) := by
  induction n generalizing a k with
  | zero => exact absurd hk (Nat.not_lt_zero _)
  | succ n ih =>
    rw [State.readBytes]
    cases k with
    | zero => rfl
    | succ k => rw [List.getD_cons_succ, ih (a + 1) (Nat.lt_of_succ_lt_succ hk), Nat.add_right_comm, Nat.add_assoc]

/-! ## A range moved in one piece -/

section
variable {s : State} {src dst n : Nat}

theorem byte_moveRange (hdst : s.plain dst n) (hsrc : s.plain src n) {k : Nat} (hk : k < n) : (s.moveRange src dst n).byte (dst + k) = s.byte (src + k) := by
  obtain ⟨hplace, hpresent⟩ := hdst k hk
  obtain ⟨hplace', hpresent'⟩ := hsrc k hk
  have hmoved : (s.moveRange src dst n).byte (dst + k) = if isSram (dst + k) && !s.tilePresent (sramTile (dst + k)) then 0
      else sget memDefault (cellsReplace s.mem dst n (cellsMoved s.mem src n dst)) (s.resolve (dst + k)) := rfl
  rw [hmoved, State.byte, hpresent, hpresent', if_neg Bool.false_ne_true, if_neg Bool.false_ne_true, hplace, hplace',
    sget_cellsReplace_inside _ _ _ (Nat.le_add_right _ _) (by omega), sget_cellsMoved _ _ _ _ hk]

theorem byte_moveRange_outside {a : Nat} (ha : s.plain a 1) (hout : a < dst ∨ dst + n ≤ a) : (s.moveRange src dst n).byte a = s.byte a := by
  obtain ⟨hplace, hpresent⟩ := ha 0 Nat.one_pos
  rw [Nat.add_zero] at hplace hpresent
  have hmoved : (s.moveRange src dst n).byte a = if isSram a && !s.tilePresent (sramTile a) then 0
      else sget memDefault (cellsReplace s.mem dst n (cellsMoved s.mem src n dst)) (s.resolve a) := rfl
  rw [hmoved, State.byte, hpresent, if_neg Bool.false_ne_true, if_neg Bool.false_ne_true, hplace,
    sget_cellsReplace_outside _ _ _ (cellsMoved_within _ _ _ _) hout]

end

/-! ## Memory written sector by sector -/

/-- Sectors from an address on written with the bytes of their numbers. -/
def State.writeSectors (dst : Nat) (f : Nat → List Byte) (ks : List Nat) (s : State) : State :=
  ks.foldl (fun s k => (s.writeBytes (dst + 32 * k) (f k)).cleanUnits (dst + 32 * k) 32) s

section
variable {dst K : Nat} {f : Nat → List Byte} (hlen : ∀ k, (f k).length = 32)

theorem writeSectors_stored (dst : Nat) (f : Nat → List Byte) (ks : List Nat) (s : State) : s.Stored (s.writeSectors dst f ks) := by
  induction ks generalizing s with
  | nil => exact .refl s
  | cons k ks ih => exact (((State.Stored.refl s).writeBytes _ _).cleanUnits _ _).trans (ih _)

include hlen

/-- Plain bytes outside the sectors written stay. -/
theorem byte_writeSectors_outside {ks : List Nat} (hks : ∀ k ∈ ks, k < K) {s : State} (hdst : s.plain dst (32 * K)) {a : Nat} (ha : s.plain a 1)
    (hout : ∀ k ∈ ks, a < dst + 32 * k ∨ dst + 32 * k + 32 ≤ a) : (s.writeSectors dst f ks).byte a = s.byte a := by
  induction ks generalizing s with
  | nil => rfl
  | cons k ks ih =>
    have hk := hks k List.mem_cons_self
    have hstored : s.Stored ((s.writeBytes (dst + 32 * k) (f k)).cleanUnits (dst + 32 * k) 32) := ((State.Stored.refl s).writeBytes _ _).cleanUnits _ _
    have hsector : s.plain (dst + 32 * k) (f k).length := plain_sub hdst (by omega) (by rw [hlen]; omega)
    refine (ih (fun j hj => hks j (List.mem_cons_of_mem _ hj)) (hstored.plain hdst) (hstored.plain ha)
      (fun j hj => hout j (List.mem_cons_of_mem _ hj))).trans ?_
    rw [byte_cleanUnits, byte_writeBytes_outside s _ _ _ hsector ha]
    rw [hlen]
    exact hout k List.mem_cons_self

/-- The bytes of the sectors written. -/
theorem byte_writeSectors {ks : List Nat} (hks : ∀ k ∈ ks, k < K) {s : State} (hdst : s.plain dst (32 * K)) {k : Nat} (hk : k ∈ ks) {j : Nat} (hj : j < 32) :
    (s.writeSectors dst f ks).byte (dst + 32 * k + j) = (f k).getD j 0 := by
  induction ks generalizing s with
  | nil => exact absurd hk List.not_mem_nil
  | cons i ks ih =>
    have hstored : s.Stored ((s.writeBytes (dst + 32 * i) (f i)).cleanUnits (dst + 32 * i) 32) := ((State.Stored.refl s).writeBytes _ _).cleanUnits _ _
    have hks' (x : Nat) (hx : x ∈ ks) : x < K := hks x (List.mem_cons_of_mem _ hx)
    by_cases hmem : k ∈ ks
    · exact ih hks' (hstored.plain hdst) hmem
    · obtain rfl : k = i := (List.mem_cons.mp hk).resolve_right hmem
      have hbound := hks k hk
      have hsector : s.plain (dst + 32 * k) (f k).length := plain_sub hdst (by omega) (by rw [hlen]; omega)
      refine (byte_writeSectors_outside hlen hks' (hstored.plain hdst) (hstored.plain (plain_sub hdst (by omega) (by omega))) fun x hx => ?_).trans ?_
      · have : x ≠ k := fun h => hmem (h ▸ hx)
        omega
      · rw [byte_cleanUnits]
        exact byte_writeBytes s _ _ hsector j (by rw [hlen]; exact hj)

variable {s : State} (hdst : s.plain dst (32 * K))
include hdst

/-- All sectors of an extent written: each byte of it, and every plain byte outside. -/
theorem byte_writeSectors_range {k : Nat} (hk : k < 32 * K) : (s.writeSectors dst f (List.range K)).byte (dst + k) = (f (k / 32)).getD (k % 32) 0 := by
  have hsplit : dst + k = dst + 32 * (k / 32) + k % 32 := by omega
  rw [hsplit, byte_writeSectors hlen (fun j hj => List.mem_range.mp hj) hdst (List.mem_range.mpr (by omega)) (Nat.mod_lt _ (by decide))]

theorem byte_writeSectors_range_outside {a : Nat} (ha : s.plain a 1) (hout : a < dst ∨ dst + 32 * K ≤ a) :
    (s.writeSectors dst f (List.range K)).byte a = s.byte a :=
  byte_writeSectors_outside hlen (fun j hj => List.mem_range.mp hj) hdst ha fun j hj => by
    have := List.mem_range.mp hj
    omega

end

/-! ## The sectors of a COPY and of a FILL (03 R72, R73) -/

/-- A FILL that meets no FAILED stack writes its pattern to every sector. -/
theorem fillRun_sound (dst pattern : Nat) (ks : List Nat) {s : State} (hsound : ∀ k ∈ ks, s.inFailed (dst + 32 * k) = false) :
    State.fillRun dst pattern ks s = (s.writeSectors dst (fun _ => (List.replicate 8 (leBytes 4 pattern)).flatten) ks, none) := by
  induction ks generalizing s with
  | nil => rfl
  | cons k ks ih =>
    have hstored := ((State.Stored.refl s).writeBytes (dst + 32 * k) (List.replicate 8 (leBytes 4 pattern)).flatten).cleanUnits (dst + 32 * k) 32
    rw [State.fillRun, if_neg (by rw [hsound k List.mem_cons_self]; decide), ih fun j hj => ?_]
    · rfl
    · rw [hstored.inFailed, hsound j (List.mem_cons_of_mem _ hj)]

section
variable {src dst K : Nat} (hapart : src + 32 * K ≤ dst ∨ dst + 32 * K ≤ src) (m : Master)
include hapart

/-- A copy that meets no error writes to every sector what the source held. -/
theorem copyRun_sound {f : Nat → List Byte} (hlen : ∀ k, (f k).length = 32) {ks : List Nat} (hks : ∀ k ∈ ks, k < K) {s : State}
    (hsrc : s.plain src (32 * K)) (hdst : s.plain dst (32 * K)) (hsound : s.firstBad src (32 * K) = none)
    (hgood : ∀ k < K, s.inFailed (dst + 32 * k) = false) (hread : ∀ k < K, s.readBytes (src + 32 * k) 32 = f k) :
    State.copyRun src dst m ks s = (s.writeSectors dst f ks, none) := by
  induction ks generalizing s with
  | nil => rfl
  | cons k ks ih =>
    have hk := hks k List.mem_cons_self
    have hsector : s.firstBad (src + 32 * k) 32 = none := (State.Stored.refl s).firstBad hsound (by omega) (by omega)
    have hstored : s.Stored (s.writeSectors dst f [k]) := writeSectors_stored dst f [k] s
    rw [State.copyRun, hsector]
    dsimp only
    rw [if_neg (by rw [hgood k hk]; decide), hread k hk]
    refine ih (s := s.writeSectors dst f [k]) (fun j hj => hks j (List.mem_cons_of_mem _ hj)) (hstored.plain hsrc) (hstored.plain hdst)
      (hstored.firstBad hsound (Nat.le_refl _) (Nat.le_refl _)) (fun j hj => by rw [hstored.inFailed, hgood j hj]) (fun j hj => ?_)
    rw [← hread j hj]
    refine readBytes_congr_range fun i hi => ?_
    refine byte_writeSectors_outside hlen (fun x hx => by rw [List.mem_singleton.mp hx]; exact hk) hdst (plain_sub hsrc (by omega) (by omega)) fun x hx => ?_
    rw [List.mem_singleton.mp hx]
    omega

/-- The sectors copied without an error, in one piece or one by one. -/
theorem copySectors_sound {s : State} (hsrc : s.plain src (32 * K)) (hdst : s.plain dst (32 * K)) (hsound : s.firstBad src (32 * K) = none)
    (hgood : s.firstFailed dst (32 * K) = none) (hmeet : overlap src dst (32 * K) = false) :
    ∃ u, s.copySectors src dst K m = (u, none) ∧ s.Stored u ∧ (∀ k < 32 * K, u.byte (dst + k) = s.byte (src + k)) ∧
      ∀ a, s.plain a 1 → (a < dst ∨ dst + 32 * K ≤ a) → u.byte a = s.byte a := by
  have hclean : ((s.firstBad src (32 * K)).isNone && (s.firstFailed dst (32 * K)).isNone && !overlap src dst (32 * K)) = true := by
    rw [hsound, hgood, hmeet]
    rfl
  rw [State.copySectors]
  dsimp only
  rw [if_pos hclean]
  split_ifs
  · exact ⟨_, rfl, ((State.Stored.refl s).moveRange _ _ _).cleanUnits _ _, fun k hk => byte_moveRange hdst hsrc hk,
      fun a ha hout => byte_moveRange_outside ha hout⟩
  · have hlen (k : Nat) : (s.readBytes (src + 32 * k) 32).length = 32 := readBytes_length _ _ _
    refine ⟨_, copyRun_sound hapart m hlen (fun k hk => List.mem_range.mp hk) hsrc hdst hsound
      (fun k hk => inFailed_of_firstFailed s hgood (32 * k) (by omega)) (fun k _ => rfl), writeSectors_stored _ _ _ _, fun k hk => ?_,
      fun a ha hout => byte_writeSectors_range_outside hlen hdst ha hout⟩
    rw [byte_writeSectors_range hlen hdst hk, getD_readBytes _ _ (Nat.mod_lt _ (by decide))]
    congr 1
    omega

end

/-- A pattern of four bytes repeated through a sector. -/
theorem getD_pattern (p : Nat) {j : Nat} (hj : j < 32) : ((List.replicate 8 (leBytes 4 p)).flatten).getD j 0 = (leBytes 4 p).getD (j % 4) 0 := by
  interval_cases j <;> rfl

theorem pattern_length (p : Nat) : ((List.replicate 8 (leBytes 4 p)).flatten).length = 32 := (rfl)

/-! ## The end of a DMA command -/

section
variable (s : State) (t : Nat) (c : Cmd) (dst n : Nat)

/-- The bytes moved are counted, and the command has ended. -/
theorem dmaDone_other : ∃ k x, s.dmaDone t c dst n = { s with tally := k, tiles := x } := by
  have hcounted : ∃ k, s.dmaBytes t dst n c = { s with tally := k } := by
    unfold State.dmaBytes
    split
    · exact ⟨s.tally, rfl⟩
    · exact foldl_count_other (fun u j => count_other u _ _ _ _ _) _ s
  obtain ⟨k, hcounted⟩ := hcounted
  rw [State.dmaDone, hcounted]
  exact ⟨k, _, rfl⟩

theorem dmaDone_byte (a : Nat) : (s.dmaDone t c dst n).byte a = s.byte a := by
  obtain ⟨_, _, hother⟩ := dmaDone_other s t c dst n
  rw [hother]
  rfl

theorem dmaDone_regs : (s.dmaDone t c dst n).regs = s.regs := by
  obtain ⟨_, _, hother⟩ := dmaDone_other s t c dst n
  rw [hother]

theorem dmaBytes_still : (s.dmaBytes t dst n c).still = s.still := by
  unfold State.dmaBytes
  exact ite_still rfl (foldl_still (fun u j => count_still u _ _ _ _ _) _ s)

theorem dmaDone_ended (hn : n ≠ 0) : ((s.dmaDone t c dst n).tile t).ended = (s.tile t).ended ++ [⟨5, c, stOk, 0, 0, [(dst, n)], s.zt⟩] := by
  rw [State.dmaDone, if_neg hn, State.endOk, tile_setTile_same, tile_of_still (dmaBytes_still s t c dst n), zt_of_still (dmaBytes_still s t c dst n)]

/-- What a command that stored its bytes leaves: the bytes of its range and every plain byte outside, its end, and the registers. -/
theorem dmaDone_of_stored {s u : State} (hstored : s.Stored u) (hn : n ≠ 0) (f : Nat → Byte) (hin : ∀ k < n, u.byte (dst + k) = f k)
    (hout : ∀ a, s.plain a 1 → (a < dst ∨ dst + n ≤ a) → u.byte a = s.byte a) :
    (∀ k < n, (u.dmaDone t c dst n).byte (dst + k) = f k) ∧
    (∀ a, s.plain a 1 → (a < dst ∨ dst + n ≤ a) → (u.dmaDone t c dst n).byte a = s.byte a) ∧
    ((u.dmaDone t c dst n).tile t).ended = (s.tile t).ended ++ [⟨5, c, stOk, 0, 0, [(dst, n)], s.zt⟩] ∧ (u.dmaDone t c dst n).regs = s.regs := by
  refine ⟨fun k hk => ?_, fun a ha ho => ?_, ?_, ?_⟩
  · rw [dmaDone_byte, hin k hk]
  · rw [dmaDone_byte, hout a ha ho]
  · rw [dmaDone_ended _ _ _ _ _ hn, tile_congr hstored.tiles, hstored.zt]
  · rw [dmaDone_regs, hstored.regs]

end

/-! ## COPY and FILL -/

section
variable {t : Fin 2048} {s : State} {c : Cmd}

theorem exec_copy (errors : List (Nat × MemError)) : exec (.copy t errors) s = execCopy t errors s := (rfl)
theorem exec_fill : exec (.fill t) s = execFill t s := (rfl)

/-- A COPY that is granted, whose memory is ON, and that meets no error. -/
theorem exec_copy_sound {s1 u : State} (hhead : s.dmaHead t 1 = some c)
    (hs1 : s1 = ((s.startHead t 5 c).hbRead (copySrc c.w) (32 * copySectors c.w) (dmaAttr c)).hbWrite (copyDst c.w) (32 * copySectors c.w) (dmaAttr c))
    (hsrcOwned : s.firstUnowned c.part (copySrc c.w) (32 * copySectors c.w) = none) (hdstOwned : s.firstUnowned c.part (copyDst c.w) (32 * copySectors c.w) = none)
    (hsrcOn : s.firstOff (copySrc c.w) (32 * copySectors c.w) = none) (hdstOn : s.firstOff (copyDst c.w) (32 * copySectors c.w) = none)
    (hcopied : s1.copySectors (copySrc c.w) (copyDst c.w) (copySectors c.w) (dmaMaster t c) = (u, none)) :
    exec (.copy t []) s = .next (u.dmaDone t c (copyDst c.w) (32 * copySectors c.w)) := by
  rw [exec_copy, execCopy, hhead]
  dsimp only
  rw [hsrcOwned, hdstOwned]
  dsimp only
  rw [hsrcOn, hdstOn]
  dsimp only
  rw [List.foldl_nil, ← hs1, hcopied]

/-- A FILL that is granted, whose memory is ON, and that meets no FAILED stack. -/
theorem exec_fill_sound {s1 u : State} (hhead : s.dmaHead t 2 = some c)
    (hs1 : s1 = (s.startHead t 5 c).hbWrite (fillDst c.w) (32 * fillSectors c.w) (dmaAttr c))
    (howned : s.firstUnowned c.part (fillDst c.w) (32 * fillSectors c.w) = none) (hon : s.firstOff (fillDst c.w) (32 * fillSectors c.w) = none)
    (hsound : s1.firstFailed (fillDst c.w) (32 * fillSectors c.w) = none)
    (hfilled : State.fillRun (fillDst c.w) (fillPattern c.w) (List.range (fillSectors c.w)) s1 = (u, none)) :
    exec (.fill t) s = .next (u.dmaDone t c (fillDst c.w) (32 * fillSectors c.w)) := by
  rw [exec_fill, execFill, hhead]
  dsimp only
  rw [howned]
  dsimp only
  rw [hon]
  dsimp only
  rw [← hs1, hsound, Option.isNone_none, if_pos rfl]
  dsimp only
  rw [hfilled]

theorem exec_copy_denied {u : Nat} (hhead : s.dmaHead t 1 = some c) (hdenied : s.firstUnowned c.part (copySrc c.w) (32 * copySectors c.w) = some u) :
    exec (.copy t []) s = .next ((s.startHead t 5 c).endCmd t 5 c stAccessFault u u) := by
  rw [exec_copy, execCopy, hhead]
  dsimp only
  rw [hdenied]
  rfl

theorem exec_fill_denied {u : Nat} (hhead : s.dmaHead t 2 = some c) (hdenied : s.firstUnowned c.part (fillDst c.w) (32 * fillSectors c.w) = some u) :
    exec (.fill t) s = .next ((s.startHead t 5 c).endCmd t 5 c stAccessFault u u) := by
  rw [exec_fill, execFill, hhead]
  dsimp only
  rw [hdenied]
  rfl

end

/-- Settles O15: both commands store their bytes (`copySectors_sound`, `fillRun_sound`) and end; what they store is read off by `dmaDone_of_stored`. -/
theorem copyAndFillWriteTheirSectors : Obligations.CopyAndFillWriteTheirSectors := by
  unfold Obligations.CopyAndFillWriteTheirSectors
  refine ⟨?_, ?_, fun t s c u hhead hdenied => exec_copy_denied hhead hdenied, fun t s c u hhead hdenied => exec_fill_denied hhead hdenied⟩
  · intro t s s1 c hhead hs1 hsrcOwned hdstOwned hsrcOn hdstOn hsound hgood hmeet hsrc hdst hsome
    have hapart : copySrc c.w + 32 * copySectors c.w ≤ copyDst c.w ∨ copyDst c.w + 32 * copySectors c.w ≤ copySrc c.w := by
      rw [overlap, Bool.and_eq_false_iff, decide_eq_false_iff_not, decide_eq_false_iff_not] at hmeet
      omega
    obtain ⟨u, hcopied, hstored, hin, hout⟩ := copySectors_sound hapart (dmaMaster t c) hsrc hdst hsound hgood hmeet
    exact gives_of_exec (exec_copy_sound hhead hs1 hsrcOwned hdstOwned hsrcOn hdstOn hcopied)
      (dmaDone_of_stored t c _ _ hstored (by omega) (fun k => s1.byte (copySrc c.w + k)) hin hout)
  · intro t s s1 c hhead hs1 howned hon hgood hsound hdst hsome
    have hfilled := fillRun_sound (fillDst c.w) (fillPattern c.w) (List.range (fillSectors c.w)) fun k hk => hgood k (List.mem_range.mp hk)
    refine gives_of_exec (exec_fill_sound hhead hs1 howned hon hsound hfilled)
      (dmaDone_of_stored t c _ _ (writeSectors_stored _ _ _ s1) (by omega) (fun k => (leBytes 4 (fillPattern c.w)).getD (k % 4) 0) (fun k hk => ?_)
        fun a ha hout => byte_writeSectors_range_outside (fun _ => pattern_length _) hdst ha hout)
    rw [byte_writeSectors_range (fun _ => pattern_length _) hdst hk, getD_pattern _ (Nat.mod_lt _ (by decide)), Nat.mod_mod_of_dvd k (by decide : 4 ∣ 32)]

end Sys2Proof.Machine
end

section
/-! PROOFS. The matrix engines of a tile (04 R86 to R101): one rule per operation of an engine, what the landing of rows leaves of the module, and ROW_LANDING. -/
namespace Sys2Proof.Machine

/-! ## Engines of a tile -/

theorem me_setMe (s : State) (t e n : Nat) (m : MeSt) : (s.setMe t e m).me t n = if n = e then m else s.me t n := by
  rw [State.me, State.setMe, tile_setTile_same]
  exact sget_sset _ _ _ _ _

@[simp] theorem me_setMe_same (s : State) (t e : Nat) (m : MeSt) : (s.setMe t e m).me t e = m := by rw [me_setMe, if_pos rfl]

theorem me_setMe_ne (s : State) (t : Nat) {e n : Nat} (m : MeSt) (h : n ≠ e) : (s.setMe t e m).me t n = s.me t n := by rw [me_setMe, if_neg h]

/-- What an engine's new state leaves as it is, every engine of the tile keeps. -/
theorem me_setMe_keeps {β : Type} (g : MeSt → β) {s : State} {t e : Nat} {m : MeSt} (h : g m = g (s.me t e)) (n : Nat) :
    g ((s.setMe t e m).me t n) = g (s.me t n) := by
  rw [me_setMe]
  split
  · rw [h, ‹n = e›]
  · rfl

@[simp] theorem setMe_queue (s : State) (t e q : Nat) (m : MeSt) : ((s.setMe t e m).tile t).queue q = (s.tile t).queue q := by
  rw [State.setMe, tile_setTile_same]
  rfl

@[simp] theorem setMe_ended (s : State) (t e : Nat) (m : MeSt) : ((s.setMe t e m).tile t).ended = (s.tile t).ended := by
  rw [State.setMe, tile_setTile_same]
  rfl

@[simp] theorem setMe_zt (s : State) (t e : Nat) (m : MeSt) : (s.setMe t e m).zt = s.zt := (rfl)

theorem mes_of_work {x y : TileSt} (h : x.work = y.work) : x.mes = y.mes := (congrArg TileSt.mes h :)

theorem me_of_work {s u : State} {t : Nat} (h : (u.tile t).work = (s.tile t).work) (e : Nat) : u.me t e = s.me t e := by
  rw [State.me, State.me, TileSt.me, TileSt.me, mes_of_work h]

theorem entry_setEntry (m : MeSt) (i j : Nat) (x : Entry) : (m.setEntry i x).entry j = if j = i then x else m.entry j := sget_sset _ _ _ _ _

/-- An entry is read from the result buffer alone. -/
theorem entry_of_buf {m k : MeSt} (h : m.buf = k.buf) (i : Nat) : m.entry i = k.entry i := by rw [MeSt.entry, MeSt.entry, h]

/-! ## A command's end -/

section
variable (s : State) (t q : Nat) (c : Cmd) (detail : Nat) (wrote : List (Nat × Nat))

@[simp] theorem endOk_me (e : Nat) : (s.endOk t q c detail wrote).me t e = s.me t e := by
  rw [State.me, State.endOk, tile_setTile_same]
  rfl

@[simp] theorem endOk_queue (p : Nat) : ((s.endOk t q c detail wrote).tile t).queue p = (s.tile t).queue p := by
  rw [State.endOk, tile_setTile_same]
  rfl

theorem endOk_ended : ((s.endOk t q c detail wrote).tile t).ended = (s.tile t).ended ++ [⟨q, c, stOk, 0, detail, wrote, s.zt⟩] := by
  rw [State.endOk, tile_setTile_same]

@[simp] theorem endOk_mem : (s.endOk t q c detail wrote).mem = s.mem := (rfl)

end

/-! ## A DRAIN that waits (R92, R99) -/

section
variable {s : State} {t e : Nat} {d : PortRun}

theorem drainCheck_of_none (h : (s.me t e).drain = none) : s.drainCheck t e = s := by rw [State.drainCheck, h]

theorem drainCheck_of_earlier (h : (s.me t e).drain = some d) (hrun : ((s.me t e).runs.any fun r => decide (r.1 < d.no)) = true) : s.drainCheck t e = s := by
  rw [State.drainCheck, h]
  exact if_pos hrun

theorem drainCheck_of_first (h : (s.me t e).drain = some d) (hrun : ((s.me t e).runs.any fun r => decide (r.1 < d.no)) = false) :
    s.drainCheck t e = (s.setMe t e { s.me t e with drain := none }).endOk t e d.cmd 0 [] := by
  rw [State.drainCheck, h]
  exact if_neg (by rw [hrun]; exact Bool.false_ne_true)

/-- A DRAIN goes on waiting, or it ends. -/
theorem drainCheck_cases (s : State) (t e : Nat) :
    s.drainCheck t e = s ∨ ∃ c, s.drainCheck t e = (s.setMe t e { s.me t e with drain := none }).endOk t e c 0 [] := by
  cases h : (s.me t e).drain with
  | none => exact .inl (drainCheck_of_none h)
  | some d =>
    cases hrun : (s.me t e).runs.any fun r => decide (r.1 < d.no) with
    | true => exact .inl (drainCheck_of_earlier h hrun)
    | false => exact .inr ⟨d.cmd, drainCheck_of_first h hrun⟩

end

theorem drainCheck_buf (s : State) (t e n : Nat) : ((s.drainCheck t e).me t n).buf = (s.me t n).buf := by
  obtain heq | ⟨c, heq⟩ := drainCheck_cases s t e
  · rw [heq]
  · rw [heq, endOk_me, me_setMe_keeps MeSt.buf (by rfl)]

theorem drainCheck_mem (s : State) (t e : Nat) : (s.drainCheck t e).mem = s.mem := by
  obtain heq | ⟨c, heq⟩ := drainCheck_cases s t e
  · rw [heq]
  · rw [heq]
    rfl

/-! ## A FEED's counts (R150) -/

theorem feedCounts_booked (s : State) (t : Nat) (f : FeedRun) : Booked s (s.feedCounts t f) := by
  have hcounted := (Booked.refl s).count 0 t 0x07 f.count f.cmd.attr
  exact hcounted.ite (hcounted.haloCount t _)

theorem feedCounts_me (s : State) (t : Nat) (f : FeedRun) (e : Nat) : (s.feedCounts t f).me t e = s.me t e := me_of_work ((feedCounts_booked s t f).work t) e

theorem feedCounts_mem (s : State) (t : Nat) (f : FeedRun) : (s.feedCounts t f).mem = s.mem := by
  obtain ⟨l, k, hother⟩ := (feedCounts_booked s t f).other
  rw [hother]

/-! ## A row that is due (R87, R101, R103) -/

/-- The bad line that the converter meets in its row-scale table, where the row is converted (R105, R147). -/
def State.rowTableBad (s : State) (t : Nat) (f : FeedRun) : Option Nat :=
  if feedOutMode f.cmd.w = 0 then s.firstBad (rowTableAt t f f.landed) f.ctx.rowEntry else none

/-- What a row leaves in its entry: its values, valid, with the tag of its format. -/
def State.rowEntryOf (s : State) (t : Nat) (f : FeedRun) (acts psum : List Nat) : Entry :=
  { valid := true, fmt := if feedOutMode f.cmd.w = 0 then f.ctx.outFmt else 16, vals := s.rowValues t f acts psum }

/-- The row stands in its entry. -/
def State.rowFilled (s : State) (t e : Nat) (f : FeedRun) (acts psum : List Nat) : State :=
  s.setMe t (landEngine e f.cmd.w) ((s.me t (landEngine e f.cmd.w)).setEntry (landEntry f.cmd.w f.landed) (s.rowEntryOf t f acts psum))

/-- The non-finite codes among a converted row's values (R150). -/
def State.rowNonFinite (s : State) (t : Nat) (f : FeedRun) (acts psum : List Nat) : Nat :=
  if feedOutMode f.cmd.w = 0 then ((s.rowValues t f acts psum).filter (codeNonFinite f.ctx.outFmt)).length else 0

/-- A FEED whose last row has landed ends; another waits for its next row (R92). -/
def State.rowDone (s : State) (t e : Nat) (f : FeedRun) : State :=
  if f.landed = feedRows f.cmd.w then
    (((s.setMe t e { s.me t e with feeds := (s.me t e).feeds.filter (fun x => x.no != f.no) }).feedCounts t f).endOk t e f.cmd 0 []).drainCheck t e
  else s.setMe t e { s.me t e with feeds := replaceFeed (s.me t e).feeds f }

section
variable {t : Nat} {e : Nat} {s : State} {f : FeedRun} {row : List Nat × List Nat} {l : List (List Nat × List Nat)} (hrows : f.rows = row :: l)
include hrows

theorem landRow_overrun (hvalid : ((s.me t (landEngine e f.cmd.w)).entry (landEntry f.cmd.w f.landed)).valid = true) :
    s.landRow t e f = s.landOverrun t e f := by
  rw [State.landRow, hrows]
  exact if_pos hvalid

variable (hfree : ((s.me t (landEngine e f.cmd.w)).entry (landEntry f.cmd.w f.landed)).valid = false)
include hfree

theorem landRow_faults {a : Nat} (hbad : s.rowTableBad t f = some a) :
    s.landRow t e f = (s.ueMet 2 a (f.cmd.master 2 t)).meFault t e f.no f.cmd stDataFault (errUnit a) ME_FAULT_DATA e 0 f.landed := by
  rw [State.landRow, hrows]
  dsimp only
  rw [if_neg (by rw [hfree]; exact Bool.false_ne_true)]
  rw [State.rowTableBad] at hbad
  rw [hbad]

theorem landRow_lands (hsound : s.rowTableBad t f = none) :
    s.landRow t e f = (s.rowFilled t e f row.1 row.2).rowDone t e (f.afterLanding (s.rowNonFinite t f row.1 row.2)) := by
  rw [State.landRow, hrows]
  dsimp only
  rw [if_neg (by rw [hfree]; exact Bool.false_ne_true)]
  rw [State.rowTableBad] at hsound
  rw [hsound]
  rfl

end

/-- The end of a FEED, or its wait for the next row, leaves every result buffer of the tile as it is. -/
theorem rowDone_buf (s : State) (t e : Nat) (f : FeedRun) (n : Nat) : ((s.rowDone t e f).me t n).buf = (s.me t n).buf := by
  unfold State.rowDone
  split
  · rw [drainCheck_buf, endOk_me, feedCounts_me, me_setMe_keeps MeSt.buf (by rfl)]
  · exact me_setMe_keeps MeSt.buf (by rfl) n

theorem rowDone_mem (s : State) (t e : Nat) (f : FeedRun) : (s.rowDone t e f).mem = s.mem := by
  unfold State.rowDone
  split
  · rw [drainCheck_mem, endOk_mem, feedCounts_mem]
    rfl
  · rfl

theorem rowFilled_entry (s : State) (t e : Nat) (f : FeedRun) (acts psum : List Nat) :
    ((s.rowFilled t e f acts psum).me t (landEngine e f.cmd.w)).entry (landEntry f.cmd.w f.landed) = s.rowEntryOf t f acts psum := by
  rw [State.rowFilled, me_setMe_same, entry_setEntry, if_pos rfl]

/-! ## What rows that land leave of the module -/

/-- A state without its tiles and without what reports, counts, memory accesses and sync updates change. -/
def State.offTiles (s : State) : State := { s.still with tiles := [] }

section
variable {s u : State}

theorem zt_of_offTiles (h : u.offTiles = s.offTiles) : u.zt = s.zt := (congrArg State.zt h :)

/-- The cycles of a tile's clock are those of its region. -/
theorem cycle_of_offTiles (h : u.offTiles = s.offTiles) (t : Nat) : u.cycle t = s.cycle t := (congrArg (fun v => v.cycle t) h :)

theorem offTiles_of_still (h : u.still = s.still) : u.offTiles = s.offTiles := by rw [State.offTiles, State.offTiles, h]

theorem offTiles_of_booked (h : Booked s u) : u.offTiles = s.offTiles := by
  obtain ⟨⟨l, k, rfl⟩, _⟩ := h
  rfl

end

section
variable (s : State) (t e : Nat)

@[simp] theorem setTile_offTiles (x : TileSt) : (s.setTile t x).offTiles = s.offTiles := (rfl)
@[simp] theorem setMe_offTiles (m : MeSt) : (s.setMe t e m).offTiles = s.offTiles := (rfl)
@[simp] theorem endOk_offTiles (c : Cmd) (detail : Nat) (wrote : List (Nat × Nat)) : (s.endOk t e c detail wrote).offTiles = s.offTiles := (rfl)
@[simp] theorem feedCounts_offTiles (f : FeedRun) : (s.feedCounts t f).offTiles = s.offTiles := offTiles_of_booked (feedCounts_booked s t f)

@[simp] theorem drainCheck_offTiles : (s.drainCheck t e).offTiles = s.offTiles := by
  obtain heq | ⟨c, heq⟩ := drainCheck_cases s t e
  · rw [heq]
  · rw [heq, endOk_offTiles, setMe_offTiles]

@[simp] theorem stopQueue_offTiles (c : Cmd) (status addr : Nat) : (s.stopQueue t e c status addr).offTiles = s.offTiles := by
  rw [State.stopQueue, setTile_offTiles]
  exact offTiles_of_still (by simp only [apply_ite State.still, setFld_still, tcFault_still, wr_still, ite_self])

@[simp] theorem endCmd_offTiles (c : Cmd) (status addr detail : Nat) : (s.endCmd t e c status addr detail).offTiles = s.offTiles := by
  simp only [State.endCmd, setTile_offTiles, apply_ite State.offTiles, stopQueue_offTiles, ite_self]

@[simp] theorem flushRuns_offTiles (l : List (Nat × Cmd × Option FeedRun)) : (s.flushRuns t e l).offTiles = s.offTiles := by
  refine foldl_keeps State.offTiles (fun u r => ?_) (sortRuns l) s
  dsimp only
  rw [endCmd_offTiles]
  split
  · exact feedCounts_offTiles u t _
  · rfl

@[simp] theorem meFault_offTiles (no : Nat) (c : Cmd) (status addr : Nat) (f : Fld) (peer index row : Nat) :
    (s.meFault t e no c status addr f peer index row).offTiles = s.offTiles := by
  have hnoted (u : State) (p : Prop) [Decidable p] (what which : Nat) : (if p then u.notedError what which else u).offTiles = u.offTiles :=
    offTiles_of_still (ite_still (notedError_still u what which) rfl)
  have hdetailed (a b n v : Nat) : ((s.sticky a f b).wr n v).offTiles = s.offTiles := offTiles_of_still (by rw [wr_still, sticky_still])
  unfold State.meFault
  dsimp only
  rw [flushRuns_offTiles, endCmd_offTiles, setMe_offTiles]
  split
  · rw [feedCounts_offTiles, hnoted, hdetailed]
  · rw [hnoted, hdetailed]

@[simp] theorem rowDone_offTiles (f : FeedRun) : (s.rowDone t e f).offTiles = s.offTiles := by
  unfold State.rowDone
  split
  · rw [drainCheck_offTiles, endOk_offTiles, feedCounts_offTiles, setMe_offTiles]
  · exact setMe_offTiles _ _ _ _

@[simp] theorem landRow_offTiles (f : FeedRun) : (s.landRow t e f).offTiles = s.offTiles := by
  cases hrows : f.rows with
  | nil => rw [State.landRow, hrows]
  | cons row l =>
    cases hvalid : ((s.me t (landEngine e f.cmd.w)).entry (landEntry f.cmd.w f.landed)).valid with
    | true => rw [landRow_overrun hrows hvalid, State.landOverrun, meFault_offTiles]
    | false =>
      cases hbad : s.rowTableBad t f with
      | some a =>
        rw [landRow_faults hrows hvalid hbad, meFault_offTiles]
        exact offTiles_of_still (ueMet_still _ _ _ _)
      | none =>
        rw [landRow_lands hrows hvalid hbad, rowDone_offTiles]
        exact setMe_offTiles _ _ _ _

theorem landAll_offTiles (fuel : Nat) : (s.landAll fuel t e).offTiles = s.offTiles := by
  induction fuel generalizing s with
  | zero => rfl
  | succ fuel ih =>
    unfold State.landAll
    split
    · rfl
    · rw [ih, landRow_offTiles]

theorem settle_offTiles : (s.settle t).offTiles = s.offTiles := foldl_keeps State.offTiles (fun u e => landAll_offTiles u t e 16) _ s

end

/-! ## ROW_LANDING -/

theorem exec_rowLanding (t : Fin 2048) (e : Fin 4) (s : State) : exec (.rowLanding t e) s = execRowLanding t e s := (rfl)

theorem exec_rowLanding_due {t : Fin 2048} {e : Fin 4} {s : State} {f : FeedRun} (hdue : s.dueFeed t e = some f) :
    exec (.rowLanding t e) s = .next (s.landRow t e f) := by rw [exec_rowLanding, execRowLanding, hdue]

/-- Settles O18: a row that is due fills its free entry (`landRow_lands`, `rowFilled_entry`), and overruns one that is still valid (`landRow_overrun`). -/
theorem rowsLandInTheirEntries : Obligations.RowsLandInTheirEntries := by
  unfold Obligations.RowsLandInTheirEntries
  intro t e s f acts psum l hdue hrows
  refine ⟨fun hfree hsound => gives_of_exec (exec_rowLanding_due hdue) ?_, fun hvalid => ?_⟩
  · rw [landRow_lands hrows hfree hsound]
    exact ⟨(entry_of_buf (rowDone_buf _ _ _ _ _) _).trans (rowFilled_entry s t e f acts psum), rowDone_mem _ _ _ _⟩
  · rw [exec_rowLanding_due hdue, landRow_overrun hrows hvalid]

end Sys2Proof.Machine
end

section
/-! PROOFS. The start of the matrix engines' commands (04 R91 to R99): what a start leaves of the tile, and the rows WLOAD to INVAL. -/
namespace Sys2Proof.Machine

/-! ## The head of a queue that starts (R56, R65, 16 R387) -/

@[simp] theorem takeObject_still (s : State) (t o v : Nat) : (s.takeObject t o v).still = s.still := by
  have hvalue (u : State) (w : Nat) : (u.setSyncValue t o w).still = u.still := by
    simp only [State.setSyncValue, State.setSyncFlag, State.setCounter, apply_ite State.still, setFld_still, ite_self]
  exact hvalue _ _

@[simp] theorem takeWait_still (s : State) (t : Nat) (c : Cmd) : (s.takeWait t c).still = s.still := by
  simp only [State.takeWait, apply_ite State.still, takeObject_still, ite_self]

theorem slotStart_booked (s : State) (t q : Nat) (c : Cmd) : Booked s (s.slotStart t q c) := by
  have hmarked : Booked s (if ((s.tile t).flying q).isEmpty then s.slotMark t q else s) := ((Booked.refl s).slotMark t q).ite (Booked.refl s)
  exact (Booked.refl s).ite (hmarked.setTile (by rfl))

section
variable (s : State) (t q : Nat) (c : Cmd)

/-- Beside its sync objects and what is counted and traced, a start changes the queue alone: its head has left it. -/
theorem startHead_work : ((s.startHead t q c).tile t).work = ((s.tile t).setQueue q (((s.tile t).queue q).drop 1)).work := by
  have hwork := (slotStart_booked s t q c).work t
  rw [State.startHead, tile_of_still (trace_still _ _), tile_of_still (takeWait_still _ _ _), State.popHead, tile_setTile_same, queue_of_work hwork]
  exact congrArg (fun x : TileSt => x.setQueue q (((s.tile t).queue q).drop 1)) hwork

theorem startHead_offTiles : (s.startHead t q c).offTiles = s.offTiles := by
  rw [State.startHead, offTiles_of_still (trace_still _ _), offTiles_of_still (takeWait_still _ _ _), State.popHead, setTile_offTiles,
    offTiles_of_booked (slotStart_booked s t q c)]

end

/-! ## An engine's command that starts -/

section
variable (s : State) (t e : Nat) (c : Cmd) (link : Bool)

theorem startHead_me (q n : Nat) : (s.startHead t q c).me t n = s.me t n := by
  rw [State.me, State.me, TileSt.me, TileSt.me, mes_of_work (startHead_work s t q c)]
  rfl

theorem meStart_cycle : (s.meStart t e c link).cycle t = s.cycle t :=
  cycle_of_offTiles ((setMe_offTiles _ _ _ _).trans (startHead_offTiles s t e c)) t

theorem meStart_me : (s.meStart t e c link).me t e = (s.me t e).noteStart (s.cycle t) link := by
  rw [State.meStart, me_setMe_same, startHead_me, cycle_of_offTiles (startHead_offTiles s t e c)]

theorem meStart_me_ne {n : Nat} (h : n ≠ e) : (s.meStart t e c link).me t n = s.me t n := by rw [State.meStart, me_setMe_ne _ _ _ h, startHead_me]

theorem meStart_queue : ((s.meStart t e c link).tile t).queue e = ((s.tile t).queue e).drop 1 := by
  rw [State.meStart, setMe_queue, queue_of_work (startHead_work s t e c)]
  exact sget_sset_same _ _ _ _

theorem meStart_ended : ((s.meStart t e c link).tile t).ended = (s.tile t).ended := by
  rw [State.meStart, setMe_ended, ended_of_work (startHead_work s t e c)]
  rfl

end

/-- A start, and the rows that land before it, take no Zenith time. -/
theorem meStart_settle_zt {s s0 : State} {t : Nat} (h0 : s0 = s.settle t) (e : Nat) (c : Cmd) (link : Bool) : (s0.meStart t e c link).zt = s.zt := by
  rw [State.meStart, setMe_zt, zt_of_offTiles (startHead_offTiles s0 t e c), h0, zt_of_offTiles (settle_offTiles s t)]

theorem noteStart_runs (m : MeSt) (n : Nat) (link : Bool) : (m.noteStart n link).runs = m.runs := (rfl)

/-- A chain token is posted to the engine that the rows land in, and to no other. -/
theorem postToken_me_ne (s : State) (t e w : Nat) {n : Nat} (h : n ≠ e + 1) : (s.postToken t e w).me t n = s.me t n := by
  unfold State.postToken
  split
  · exact me_setMe_ne _ _ _ h
  · rfl

theorem postToken_tokens (s : State) (t e w : Nat) :
    ((s.postToken t e w).me t (e + 1)).tokens = (s.me t (e + 1)).tokens ++ (if feedOutMode w = 2 then [s.cycle t] else []) := by
  unfold State.postToken
  split
  · rw [me_setMe_same]
  · rw [List.append_nil]

theorem postToken_queue (s : State) (t e w q : Nat) : ((s.postToken t e w).tile t).queue q = (s.tile t).queue q := by
  unfold State.postToken
  split
  · exact setMe_queue _ _ _ _ _
  · rfl

theorem drain_none_of_meHead {s : State} {t e op : Nat} {c : Cmd} (h : s.meHead t e op = some c) : (s.me t e).drain = none := by
  unfold State.meHead at h
  cases hhead : s.headOf t e with
  | none =>
    rw [hhead] at h
    cases h
  | some x =>
    rw [hhead] at h
    obtain ⟨⟨_, _, _, hnone, _⟩, _⟩ := Option.ite_none_right_eq_some.mp h
    exact Option.isNone_iff_eq_none.mp hnone

/-! ## Ports (R91, R108) -/

section
variable {m : MeSt} {n : Nat}

theorem loadBusy_of_wload {r : PortRun} (h : m.wload = some r) (hn : n < r.start + 16) : m.loadBusy n = true := by
  rw [MeSt.loadBusy, h, Option.any_some, decide_eq_true hn, Bool.true_or]

theorem loadBusy_of_conv {r : PortRun} (h : m.conv = some r) (hn : n < r.start + 4) : m.loadBusy n = true := by
  rw [MeSt.loadBusy, h, Option.any_some, decide_eq_true hn, Bool.or_true]

theorem feedBusy_of_mem {f : FeedRun} (h : f ∈ m.feeds) (hn : n < f.start + feedRows f.cmd.w) : m.feedBusy n = true :=
  List.any_eq_true.mpr ⟨f, h, decide_eq_true hn⟩

/-- A DRAIN is one command more in flight. -/
theorem any_runs_withDrain (h : m.drain = none) (d : PortRun) (p : Nat × Cmd × Option FeedRun → Bool) :
    ({ m with drain := some d }.runs.any p) = (m.runs.any p || p (d.no, d.cmd, none)) := by
  simp only [MeSt.runs, h, Option.toList_some, Option.toList_none, List.append_nil, List.any_append, List.map_append, List.map_cons, List.map_nil,
    List.any_cons, List.any_nil, Bool.or_false]
  ac_rfl

/-- It is not one of those that it awaits. -/
theorem any_earlier_withDrain (h : m.drain = none) (d : PortRun) :
    ({ m with drain := some d }.runs.any fun r => decide (r.1 < d.no)) = m.runs.any fun r => decide (r.1 < d.no) := by
  rw [any_runs_withDrain h, decide_eq_false (Nat.lt_irrefl _), Bool.or_false]

end

/-- The run of a WLOAD, a CONV or a DRAIN that starts in a cycle. -/
def MeSt.portRun (m : MeSt) (c : Cmd) (n : Nat) : PortRun := ⟨c, m.started + 1, n, []⟩

/-! ## Entries cleared (R98) -/

/-- INVAL clears the valid tags of its entries and touches nothing else of the result buffer. -/
theorem entry_clearEntries (m : MeSt) (a n i : Nat) : (clearEntries m a n).entry i =
    if ∃ k < n, (a + k) % 32 = i then { m.entry i with valid := false } else m.entry i := by
  induction n generalizing m with
  | zero => exact (if_neg (by simp)).symm
  | succ n ih =>
    rw [clearEntries, ih, entry_setEntry]
    by_cases hlast : i = (a + n) % 32
    · rw [if_pos hlast, if_pos (⟨n, n.lt_succ_self, hlast.symm⟩ : ∃ k < n + 1, (a + k) % 32 = i), ← hlast, ite_self]
    · have hsplit : (∃ k < n + 1, (a + k) % 32 = i) ↔ ∃ k < n, (a + k) % 32 = i := by
        simp only [Nat.lt_succ_iff_lt_or_eq, or_and_right, exists_or, exists_eq_left, or_iff_left (Ne.symm hlast)]
      rw [if_neg hlast, if_congr hsplit rfl rfl]

/-! ## The rows -/

section
variable {t : Fin 2048} {e : Fin 4} {s s0 : State} {c : Cmd} {m : MeSt}

theorem exec_wload : exec (.wload t e) s = execWload t e s := (rfl)
theorem exec_feed : exec (.feed t e) s = execFeed t e s := (rfl)
theorem exec_store : exec (.store t e) s = execStore t e s := (rfl)
theorem exec_drain : exec (.drain t e) s = execDrain t e s := (rfl)
theorem exec_conv : exec (.conv t e) s = execConv t e s := (rfl)
theorem exec_inval : exec (.inval t e) s = execInval t e s := (rfl)

variable (h0 : s0 = s.settle t) (hm : m = s0.me t e)
include h0 hm

theorem exec_wload_starts (hhead : s0.meHead t e 1 = some c) (hfree : m.loadBusy (s0.cycle t) = false)
    (hrows : rowsBeyond (wloadOff c.w) (wloadStride c.w) 16 = none) :
    exec (.wload t e) s = .next ((s0.meStart t e c false).setMe t e
      { m.noteStart (s0.cycle t) false with wload := some (m.portRun c (s0.cycle t)) }) := by
  simp only [exec_wload, execWload, ← h0, hhead, ← hm, if_pos hfree, hrows, meStart_me]
  rfl

theorem exec_feed_starts (hhead : s0.meHead t e 2 = some c) (hfree : m.feedBusy (s0.cycle t) = false) (hroom : m.feeds.length < 8)
    (htokens : feedOutMode c.w = 2 → (s0.me t (e + 1)).tokens.length < 15)
    (hrows : feedBeyond c.w (if feedCtx c.w then m.ctx1 else m.ctx0) = none) :
    exec (.feed t e) s = .next (((s0.meStart t e c (feedLink c.w)).postToken t e c.w).setMe t e
      { m.noteStart (s0.cycle t) (feedLink c.w) with
        feeds := m.feeds ++ [⟨c, m.started + 1, s0.cycle t, if feedCtx c.w then m.ctx1 else m.ctx0, [], [], 0, 0, 0⟩] }) := by
  have hother : e.val ≠ e.val + 1 := e.val.succ_ne_self.symm
  simp only [exec_feed, execFeed, ← h0, hhead, ← hm, if_pos (⟨hfree, hroom, htokens⟩ : _ ∧ _ ∧ _), postToken_me_ne _ _ _ _ hother, meStart_me,
    MeSt.noteStart, hrows]

theorem exec_store_starts (hhead : s0.meHead t e 3 = some c) (hfree : m.store = none)
    (hrows : rowsBeyond (storeDst c.w) (storeStride c.w) (storeCount c.w) = none) :
    exec (.store t e) s = .next ((s0.meStart t e c false).setMe t e
      { m.noteStart (s0.cycle t) false with store := some ⟨c, m.started + 1, s0.cycle t, 0, 0, []⟩ }) := by
  simp only [exec_store, execStore, ← h0, hhead, ← hm, if_pos (Option.isNone_iff_eq_none.mpr hfree), hrows, meStart_me]
  rfl

theorem exec_conv_starts (hhead : s0.meHead t e 5 = some c) (hfree : m.loadBusy (s0.cycle t) = false) (hin : convDescOff c.w + 64 ≤ sramBytes) :
    exec (.conv t e) s = .next ((s0.meStart t e c false).setMe t e
      { m.noteStart (s0.cycle t) false with conv := some (m.portRun c (s0.cycle t)) }) := by
  simp only [exec_conv, execConv, ← h0, hhead, ← hm, if_pos hfree, if_neg (Nat.not_lt.mpr hin), meStart_me]
  rfl

theorem exec_drain_starts (hhead : s0.meHead t e 4 = some c) :
    exec (.drain t e) s = .next (((s0.meStart t e c false).setMe t e
      { m.noteStart (s0.cycle t) false with drain := some (m.portRun c (s0.cycle t)) }).drainCheck t e) := by
  simp only [exec_drain, execDrain, ← h0, hhead, ← hm, meStart_me]
  rfl

theorem exec_inval_starts (hhead : s0.meHead t e 6 = some c) : ∃ x,
    exec (.inval t e) s = .next (((s0.meStart t e c false).setMe t e
      { clearEntries (m.noteStart (s0.cycle t) false) (invalEntry c.w) (invalCount c.w) with spared := x }).endOk t e c 0 []) := by
  simp only [exec_inval, execInval, ← h0, hhead, ← hm, meStart_me]
  exact ⟨_, rfl⟩

theorem wload_starts (hhead : s0.meHead t e 1 = some c) (hfree : m.loadBusy (s0.cycle t) = false)
    (hrows : rowsBeyond (wloadOff c.w) (wloadStride c.w) 16 = none) :
    Gives (.wload t e) s (fun s' => (s'.me t e).wload = some (m.portRun c (s0.cycle t)) ∧
      (∀ k < 16, (s'.me t e).loadBusy (s0.cycle t + k) = true) ∧
      (s'.me t e).lastStart = some (s0.cycle t) ∧ (s'.tile t).queue e = ((s0.tile t).queue e).drop 1) := by
  refine gives_of_exec (exec_wload_starts h0 hm hhead hfree hrows) ?_
  rw [me_setMe_same, setMe_queue, meStart_queue]
  exact ⟨rfl, fun k hk => loadBusy_of_wload rfl (Nat.add_lt_add_left hk _), rfl, rfl⟩

theorem feed_starts (hhead : s0.meHead t e 2 = some c) (hfree : m.feedBusy (s0.cycle t) = false) (hroom : m.feeds.length < 8)
    (htokens : feedOutMode c.w = 2 → (s0.me t (e + 1)).tokens.length < 15)
    (hrows : feedBeyond c.w (if feedCtx c.w then m.ctx1 else m.ctx0) = none) :
    Gives (.feed t e) s (fun s' =>
      (s'.me t e).feeds = m.feeds ++ [⟨c, m.started + 1, s0.cycle t, if feedCtx c.w then m.ctx1 else m.ctx0, [], [], 0, 0, 0⟩] ∧
      (∀ k < feedRows c.w, (s'.me t e).feedBusy (s0.cycle t + k) = true) ∧ (s'.tile t).queue e = ((s0.tile t).queue e).drop 1 ∧
      (s'.me t (e + 1)).tokens = (s0.me t (e + 1)).tokens ++ (if feedOutMode c.w = 2 then [s0.cycle t] else [])) := by
  refine gives_of_exec (exec_feed_starts h0 hm hhead hfree hroom htokens hrows) ?_
  have hnext : e.val + 1 ≠ e.val := e.val.succ_ne_self
  rw [me_setMe_same, setMe_queue, postToken_queue, meStart_queue, me_setMe_ne _ _ _ hnext, postToken_tokens, meStart_cycle, meStart_me_ne _ _ _ _ _ hnext]
  exact ⟨rfl, fun k hk => feedBusy_of_mem (List.mem_append_right _ List.mem_cons_self) (Nat.add_lt_add_left hk _), rfl, rfl⟩

theorem store_starts (hhead : s0.meHead t e 3 = some c) (hfree : m.store = none)
    (hrows : rowsBeyond (storeDst c.w) (storeStride c.w) (storeCount c.w) = none) :
    Gives (.store t e) s (fun s' => (s'.me t e).store = some ⟨c, m.started + 1, s0.cycle t, 0, 0, []⟩ ∧
      (s'.tile t).queue e = ((s0.tile t).queue e).drop 1) := by
  refine gives_of_exec (exec_store_starts h0 hm hhead hfree hrows) ?_
  rw [me_setMe_same, setMe_queue, meStart_queue]
  exact ⟨rfl, rfl⟩

theorem conv_starts (hhead : s0.meHead t e 5 = some c) (hfree : m.loadBusy (s0.cycle t) = false) (hin : convDescOff c.w + 64 ≤ sramBytes) :
    Gives (.conv t e) s (fun s' => (s'.me t e).conv = some (m.portRun c (s0.cycle t)) ∧ (∀ k < 4, (s'.me t e).loadBusy (s0.cycle t + k) = true) ∧
      (s'.me t e).ctx0 = m.ctx0 ∧ (s'.me t e).ctx1 = m.ctx1) := by
  refine gives_of_exec (exec_conv_starts h0 hm hhead hfree hin) ?_
  rw [me_setMe_same]
  exact ⟨rfl, fun k hk => loadBusy_of_conv rfl (Nat.add_lt_add_left hk _), rfl, rfl⟩

theorem drain_starts_and_ends (hhead : s0.meHead t e 4 = some c) (hidle : m.runs = []) :
    Gives (.drain t e) s (fun s' => (s'.me t e).drain = none ∧ (s'.tile t).ended = (s0.tile t).ended ++ [⟨e, c, stOk, 0, 0, [], s.zt⟩] ∧
      (s'.tile t).queue e = ((s0.tile t).queue e).drop 1) := by
  have hnone : (m.noteStart (s0.cycle t) false).drain = none := hm ▸ drain_none_of_meHead hhead
  refine gives_of_exec (exec_drain_starts h0 hm hhead) ?_
  rw [drainCheck_of_first (d := m.portRun c (s0.cycle t)) (by rw [me_setMe_same])
    (by rw [me_setMe_same, any_earlier_withDrain hnone, noteStart_runs, hidle, List.any_nil]), endOk_me, me_setMe_same, endOk_ended, endOk_queue]
  rw [setMe_ended, setMe_ended, meStart_ended, setMe_zt, setMe_zt, meStart_settle_zt h0, setMe_queue, setMe_queue, meStart_queue]
  exact ⟨rfl, rfl, rfl⟩

theorem drain_starts_and_waits (hhead : s0.meHead t e 4 = some c) (hbusy : (m.runs.any fun r => decide (r.1 ≤ m.started)) = true) :
    Gives (.drain t e) s (fun s' => (s'.me t e).drain = some (m.portRun c (s0.cycle t)) ∧ (s'.tile t).ended = (s0.tile t).ended) := by
  have hnone : (m.noteStart (s0.cycle t) false).drain = none := hm ▸ drain_none_of_meHead hhead
  refine gives_of_exec (exec_drain_starts h0 hm hhead) ?_
  rw [drainCheck_of_earlier (d := m.portRun c (s0.cycle t)) (by rw [me_setMe_same]), me_setMe_same, setMe_ended, meStart_ended]
  · exact ⟨rfl, rfl⟩
  · rw [me_setMe_same, any_earlier_withDrain hnone, noteStart_runs]
    simpa only [MeSt.portRun, Nat.lt_succ_iff] using hbusy

theorem inval_clears (hhead : s0.meHead t e 6 = some c) :
    Gives (.inval t e) s (fun s' =>
      (∀ k < invalCount c.w, ((s'.me t e).entry ((invalEntry c.w + k) % 32)).valid = false) ∧
      (∀ i < 32, (∀ k < invalCount c.w, (invalEntry c.w + k) % 32 ≠ i) → (s'.me t e).entry i = m.entry i) ∧
      (s'.tile t).ended = (s0.tile t).ended ++ [⟨e, c, stOk, 0, 0, [], s.zt⟩]) := by
  obtain ⟨x, hexec⟩ := exec_inval_starts h0 hm hhead
  refine gives_of_exec hexec ?_
  rw [endOk_me, me_setMe_same, endOk_ended, setMe_ended, meStart_ended, setMe_zt, meStart_settle_zt h0]
  have hentry := entry_clearEntries (m.noteStart (s0.cycle t) false) (invalEntry c.w) (invalCount c.w)
  refine ⟨fun k hk => ?_, fun i _ hi => ?_, rfl⟩
  · exact congrArg Entry.valid ((hentry _).trans (if_pos ⟨k, hk, rfl⟩))
  · exact (hentry i).trans (if_neg fun ⟨k, hk, heq⟩ => hi k hk heq)

end

/-- Settles O17, clause by clause: what each of the six commands leaves in its engine and its queue as it starts. -/
theorem matrixCommandsStart : Obligations.MatrixCommandsStart := by
  unfold Obligations.MatrixCommandsStart
  intro t e s s0 c m h0 hm
  exact ⟨wload_starts h0 hm, feed_starts h0 hm, store_starts h0 hm, drain_starts_and_ends h0 hm, drain_starts_and_waits h0 hm, conv_starts h0 hm,
    fun hhead _ => inval_clears h0 hm hhead⟩

end Sys2Proof.Machine
end

section
/-! PROOFS. The other vector commands (07 R154, R158, R159, R163, R164, R168): a ready command runs its row's body on the started state. -/
namespace Sys2Proof.Machine

section
variable {s : State} {t : Nat} {c : Cmd}

/-- R154: a ready command starts, and no bad line is among what it reads. -/
theorem vuGo_of_ready {reads writes : List (Nat × Nat)} (hready : s.vuReady t reads writes) (body : State → Option Nat → State) :
    s.vuGo t c reads writes body = body (s.startHead t 4 c) none := by
  obtain ⟨hinside, hon, hsound⟩ := hready
  have hbeyond : ¬(reads ++ writes).any (fun e => decide (0x100000 < e.1 + e.2)) = true := fun h =>
    let ⟨e, he, hlt⟩ := List.any_eq_true.mp h
    Nat.not_le_of_lt (of_decide_eq_true hlt) (hinside e he)
  rw [State.vuGo, if_neg hbeyond, hon, if_neg (by decide), List.findSome?_eq_none_iff.mpr hsound]

/-- What a row answers whose head is ready. -/
theorem next_vuGo_of_ready {reads writes : List (Nat × Nat)} (hready : s.vuReady t reads writes) (body : State → Option Nat → State) :
    (.next (s.vuGo t c reads writes body) : Res) = .next (body (s.startHead t 4 c) none) := congrArg _ (vuGo_of_ready hready body)

/-- XSR_CLEAR has no extent. -/
theorem vuReady_of_memOn (hon : s.memOn (sramBase t) 1 = true) : s.vuReady t [] [] :=
  ⟨fun _ he => absurd he List.not_mem_nil, hon, fun _ he => absurd he List.not_mem_nil⟩

end

/-! ## The rows -/

section
variable (t : Fin 2048) (s : State)

theorem exec_vuRsum : exec (.vuRsum t) s = execVuRsum t s := (rfl)
theorem exec_vuRmax : exec (.vuRmax t) s = execVuRmax t s := (rfl)
theorem exec_vuTopk : exec (.vuTopk t) s = execVuTopk t s := (rfl)
theorem exec_vuToG32 : exec (.vuToG32 t) s = execVuToG32 t s := (rfl)
theorem exec_vuFromG32 : exec (.vuFromG32 t) s = execVuFromG32 t s := (rfl)
theorem exec_xsrAdd : exec (.xsrAdd t) s = execXsrAdd t s := (rfl)
theorem exec_xsrLoadadd : exec (.xsrLoadadd t) s = execXsrLoadadd t s := (rfl)
theorem exec_xsrStore : exec (.xsrStore t) s = execXsrStore t s := (rfl)
theorem exec_xsrRound : exec (.xsrRound t) s = execXsrRound t s := (rfl)
theorem exec_xsrClear : exec (.xsrClear t) s = execXsrClear t s := (rfl)
theorem exec_draw : exec (.draw t) s = execDraw t s := (rfl)

end

/-- Settles O21: a ready head's row is its body on the started state (`next_vuGo_of_ready`); RSUM's mark and DRAW's kind choose a branch of theirs. -/
theorem otherVectorCommandsComplete : Obligations.OtherVectorCommandsComplete := by
  unfold Obligations.OtherVectorCommandsComplete
  rintro t s s1 c rfl
  refine ⟨fun hhead hready hexact => ?rsumExact, fun hhead hready hfast => ?rsumFast, fun hhead hready => ?rmax, fun hhead hready => ?topk,
    fun hhead hready => ?toG32, fun hhead hready => ?fromG32, fun hhead hready => ?xsrAdd, fun hhead hready => ?xsrLoadadd,
    fun hhead hready => ?xsrStore, fun hhead hready => ?xsrRound, fun hhead hon => ?xsrClear, fun hhead hready hkind => ?draw⟩
  case rsumExact =>
    rw [exec_vuRsum, execVuRsum, hhead]
    refine (next_vuGo_of_ready hready _).trans ?_
    simp only [hexact, Bool.false_eq_true, if_false]
  case rsumFast =>
    rw [exec_vuRsum, execVuRsum, hhead]
    refine (next_vuGo_of_ready hready _).trans ?_
    simp only [hfast, if_true]
  case rmax =>
    rw [exec_vuRmax, execVuRmax, hhead]
    exact next_vuGo_of_ready hready _
  case topk =>
    rw [exec_vuTopk, execVuTopk, hhead]
    exact next_vuGo_of_ready hready _
  case toG32 =>
    rw [exec_vuToG32, execVuToG32, hhead]
    exact next_vuGo_of_ready hready _
  case fromG32 =>
    rw [exec_vuFromG32, execVuFromG32, hhead]
    exact next_vuGo_of_ready hready _
  case xsrAdd =>
    rw [exec_xsrAdd, execXsrAdd, hhead]
    exact next_vuGo_of_ready hready _
  case xsrLoadadd =>
    rw [exec_xsrLoadadd, execXsrLoadadd, hhead]
    exact next_vuGo_of_ready hready _
  case xsrStore =>
    rw [exec_xsrStore, execXsrStore, hhead]
    exact next_vuGo_of_ready hready _
  case xsrRound =>
    rw [exec_xsrRound, execXsrRound, hhead]
    exact next_vuGo_of_ready hready _
  case xsrClear =>
    rw [exec_xsrClear, execXsrClear, hhead]
    exact next_vuGo_of_ready (vuReady_of_memOn hon) _
  case draw =>
    rw [exec_draw, execDraw, hhead]
    refine (next_vuGo_of_ready hready _).trans ?_
    simp only [hkind, if_true]

end Sys2Proof.Machine
end

section
/-! PROOFS. The element-wise commands of the vector unit and the results that a vector command stores (07 R153 to R156, R158). -/
namespace Sys2Proof.Machine

/-! ## Numbers in little-endian order (00 R12) -/

@[simp] theorem leBytes_length (n x : Nat) : (leBytes n x).length = n := by
  induction n generalizing x with
  | zero => rfl
  | succ n ih => rw [leBytes, List.length_cons, ih]

theorem leNat_leBytes (n x : Nat) : leNat (leBytes n x) = x % 256 ^ n := by
  induction n generalizing x with
  | zero => rw [Nat.pow_zero, Nat.mod_one, leBytes, leNat]
  | succ n ih =>
    have hbyte : (BitVec.ofNat 8 x).toNat = x % 256 := BitVec.toNat_ofNat x 8
    rw [leBytes, leNat, ih, hbyte, Nat.pow_succ', Nat.mod_mul]

/-- A number written into plain memory among other bytes reads back. -/
theorem readNat_writeBytes (s : State) {a i n : Nat} {b : List Byte} (hplain : s.plain a b.length) (hin : i + n ≤ b.length) :
    (s.writeBytes a b).readNat (a + i) n = fieldAt b i n := by
  rw [State.readNat, fieldAt]
  congr 1
  refine List.ext_getElem ?_ fun k hk hk' => ?_
  · rw [readBytes_length, List.length_take, List.length_drop]
    omega
  · rw [readBytes_length] at hk
    have hread := getD_readBytes (s.writeBytes a b) (a + i) hk
    rw [Nat.add_assoc, byte_writeBytes s a b hplain (i + k) (by omega)] at hread
    rw [List.getElem_take, List.getElem_drop, ← List.getD_eq_getElem _ 0, hread, List.getD_eq_getElem]

/-! ## The bytes of consecutive results (R154, R155) -/

/-- The bytes that a command's results make, in their order. -/
def vuBytes (l : List VuRes) : List Byte := l.flatMap (fun r => leBytes r.size r.code)

section
variable (t off size : Nat) (l : List (Nat × Nat))

theorem vuRun_ne_nil (h : l ≠ []) : ∃ r rest, vuRun off size l = r :: rest ∧ r.off = off := by
  cases l with
  | nil => exact absurd rfl h
  | cons r l => exact ⟨_, _, rfl, rfl⟩

theorem vuBytes_vuRun_cons (r : Nat × Nat) : vuBytes (vuRun off size (r :: l)) = leBytes size r.1 ++ vuBytes (vuRun (off + size) size l) := (rfl)

theorem vuBytes_vuRun_length : (vuBytes (vuRun off size l)).length = size * l.length := by
  induction l generalizing off with
  | nil => rfl
  | cons r l ih => rw [vuBytes_vuRun_cons, List.length_append, leBytes_length, ih, List.length_cons, Nat.mul_succ, Nat.add_comm]

/-- Element k of the run holds its code, as far as its size takes it. -/
theorem fieldAt_vuBytes_vuRun {k : Nat} (hk : k < l.length) :
    fieldAt (vuBytes (vuRun off size l)) (size * k) size = (l.getD k (0, 0)).1 % 256 ^ size := by
  induction l generalizing off k with
  | nil => exact absurd hk (Nat.not_lt_zero k)
  | cons r l ih =>
    have hlen := leBytes_length size r.1
    rw [vuBytes_vuRun_cons]
    cases k with
    | zero => rw [fieldAt, Nat.mul_zero, List.drop_zero, List.take_left' hlen, leNat_leBytes, List.getD_cons_zero]
    | succ k =>
      have hnext := ih (off + size) (Nat.lt_of_succ_lt_succ hk)
      rw [fieldAt] at hnext ⊢
      rw [Nat.mul_succ, Nat.add_comm, ← List.drop_drop, List.drop_left' hlen, hnext, List.getD_cons_succ]

theorem vuRun_sizes : ((vuRun off size l).map (·.size)).foldl (· + ·) 0 = size * l.length := by
  have hfrom (n : Nat) : ((vuRun off size l).map (·.size)).foldl (· + ·) n = n + size * l.length := by
    induction l generalizing off n with
    | nil => rfl
    | cons r l ih =>
      rw [vuRun, List.map_cons, List.foldl_cons, ih, List.length_cons, Nat.mul_succ, Nat.add_assoc, Nat.add_comm size]
  rw [hfrom, Nat.zero_add]

/-- A run fills one extent. -/
theorem vuExtent_vuRun (h : l ≠ []) : vuExtent t (vuRun off size l) = [(sramBase t + off, size * l.length)] := by
  have hsizes := vuRun_sizes off size l
  obtain ⟨r, rest, hrun, hoff⟩ := vuRun_ne_nil off size l h
  rw [hrun] at hsizes ⊢
  rw [vuExtent, hsizes, hoff]

/-- A run is stored from its offset on. -/
theorem vuStore_vuRun (s : State) (m : Master) (h : l ≠ []) :
    s.vuStore t m (vuRun off size l) = s.store (sramBase t + off) (vuBytes (vuRun off size l)) m := by
  obtain ⟨r, rest, hrun, hoff⟩ := vuRun_ne_nil off size l h
  rw [hrun, State.vuStore, hoff, vuBytes]

end

/-! ## A checked write to tile SRAM (09 R208, R212) -/

/-- Every FAILED stack lies below tile SRAM (R202). -/
theorem firstFailed_sram (s : State) {a : Nat} (h : 0x010000000000 ≤ a) (n : Nat) : s.firstFailed a n = none := by
  have hhbm : isHbm a = false := decide_eq_false (by omega)
  have hbelow (k : Nat) (hk : k ∈ List.range 8) : decide (a ≤ k * stackBytes) = false := by
    have := List.mem_range.mp hk
    rw [stackBytes]
    exact decide_eq_false (by omega)
  rw [State.firstFailed, State.inFailed, hhbm, Bool.false_and, if_neg Bool.false_ne_true, List.findSome?_eq_none_iff.mpr, ite_self]
  intro k hk
  rw [hbelow k hk, Bool.and_false, Bool.false_and, if_neg Bool.false_ne_true]

/-- A checked write that meets no bad unit and no FAILED stack is a plain one, and discards nothing. -/
theorem store_sound (s : State) {a : Nat} {b : List Byte} (m : Master) (hbad : s.partlyBad a b.length = []) (hfailed : s.firstFailed a b.length = none) :
    s.store a b m = ((s.writeBytes a b).cleanUnits a b.length, none) := by
  rw [State.store, hbad, hfailed, writeExcept_sound s a b fun k hk => inFailed_of_firstFailed s hfailed k hk]
  rfl

/-! ## The finish of a command (R154, R163) -/

/-- A run of results that meets no bad line is stored, and the command ends with OK. -/
theorem vuFinish_sound (s : State) (t : Nat) (c : Cmd) {off size : Nat} {l : List (Nat × Nat)} (x : Option Xsr) (hl : l ≠ [])
    (hbad : s.partlyBad (sramBase t + off) (size * l.length) = []) :
    ∃ v, s.vuFinish t c (vuRun off size l) [] x =
      ((((s.writeBytes (sramBase t + off) (vuBytes (vuRun off size l))).cleanUnits (sramBase t + off) (size * l.length)).vuLeave t v).endOk t 4 c 0
        [(sramBase t + off, size * l.length)]) := by
  have hlen := vuBytes_vuRun_length off size l
  have hfailed := firstFailed_sram s (a := sramBase t + off) (by rw [sramBase]; omega) (size * l.length)
  have hstore := store_sound s (vuMaster t c) (b := vuBytes (vuRun off size l)) (by rw [hlen]; exact hbad) (by rw [hlen]; exact hfailed)
  rw [hlen] at hstore
  exact ⟨_, by rw [State.vuFinish, vuStore_vuRun _ _ _ _ _ _ hl, hstore, vuExtent_vuRun _ _ _ _ hl]; rfl⟩

section
variable (s : State) (t : Nat) (c : Cmd) (v : VuPend) (detail : Nat) (wrote : List (Nat × Nat))

/-- What a command leaves and its end change its tile alone, and there neither memory's bytes nor registers. -/
theorem endOk_vuLeave_byte (a : Nat) : ((s.vuLeave t v).endOk t 4 c detail wrote).byte a = s.byte a := (rfl)
theorem endOk_vuLeave_regs : ((s.vuLeave t v).endOk t 4 c detail wrote).regs = s.regs := (rfl)

theorem endOk_vuLeave_tile : ((s.vuLeave t v).endOk t 4 c detail wrote).tile t =
    { s.tile t with vuPend := some v, ended := (s.tile t).ended ++ [⟨4, c, stOk, 0, detail, wrote, s.zt⟩] } := by
  rw [State.endOk, tile_setTile_same, State.vuLeave, tile_setTile_same]
  rfl

end

/-- Settles O20: the finish is a plain write of the results' bytes and an end (`vuFinish_sound`), and each element's bytes spell its code. -/
theorem vectorResultsAreStored : Obligations.VectorResultsAreStored := by
  unfold Obligations.VectorResultsAreStored
  intro s t c off size l x _ hl _ hplain hbad
  obtain ⟨v, hfinish⟩ := vuFinish_sound s t c x hl hbad
  have hlen := vuBytes_vuRun_length off size l
  rw [← hlen] at hplain
  have hstored : s.Stored ((s.writeBytes (sramBase t + off) (vuBytes (vuRun off size l))).cleanUnits (sramBase t + off) (size * l.length)) :=
    ((State.Stored.refl s).writeBytes _ _).cleanUnits _ _
  rw [hfinish]
  refine ⟨fun k hk => ?codes, fun a ha hout => ?frame, ?ended, ?xsr, ?regs⟩
  case codes =>
    have hinside : size * k + size ≤ (vuBytes (vuRun off size l)).length := by
      rw [hlen, ← Nat.mul_succ]
      exact Nat.mul_le_mul_left size hk
    rw [readNat_congr (endOk_vuLeave_byte _ _ _ _ _ _), readNat_congr (byte_cleanUnits _ _ _), readNat_writeBytes s hplain hinside,
      fieldAt_vuBytes_vuRun _ _ _ hk]
  case frame =>
    rw [endOk_vuLeave_byte, byte_cleanUnits, byte_writeBytes_outside s _ _ _ hplain ha (by rw [hlen]; exact hout)]
  case ended => rw [endOk_vuLeave_tile, tile_congr hstored.tiles, hstored.zt]
  case xsr => rw [endOk_vuLeave_tile, tile_congr hstored.tiles]
  case regs => rw [endOk_vuLeave_regs, hstored.regs]

/-! ## The rows (R156) -/

/-- Each of the sixteen rows is the shared meaning of its opcode. -/
theorem exec_elementwise (t : Fin 2048) (s : State) : ∀ r ∈ elementwiseRows t, exec r.1 s = .next (s.vuElementwise t r.2) := by
  simp only [elementwiseRows, List.forall_mem_cons]
  exact ⟨rfl, rfl, rfl, rfl, rfl, rfl, rfl, rfl, rfl, rfl, rfl, rfl, rfl, rfl, rfl, rfl, List.forall_mem_nil _⟩

section
variable {s : State} {t : Nat} {c : Cmd} {op : Nat}

/-- A ready head finishes with its opcode's results. -/
theorem vuElementwise_of_ready (hhead : s.vuHead t op = some c)
    (hready : s.vuReady t (vuReads c.w) [(vuD c.w, vuCount c.w * codeBytes (vuOut c.w))]) :
    s.vuElementwise t op = (s.startHead t 4 c).vuFinish t c ((s.startHead t 4 c).vuResults t c.w) [] none := by
  rw [State.vuElementwise, hhead]
  exact vuGo_of_ready hready _

/-- R154: an extent beyond the tile's SRAM ends the command before any write. -/
theorem vuGo_of_beyond {reads writes : List (Nat × Nat)} (hbeyond : (reads ++ writes).any (fun e => decide (0x100000 < e.1 + e.2)) = true)
    (body : State → Option Nat → State) :
    s.vuGo t c reads writes body = (s.startHead t 4 c).endCmd t 4 c stAccessFault (sramBase t + 0x100000) (sramBase t + 0x100000) := by
  rw [State.vuGo, if_pos hbeyond]

theorem vuElementwise_of_beyond (hhead : s.vuHead t op = some c)
    (hbeyond : (vuReads c.w ++ [(vuD c.w, vuCount c.w * codeBytes (vuOut c.w))]).any (fun e => decide (0x100000 < e.1 + e.2)) = true) :
    s.vuElementwise t op = (s.startHead t 4 c).endCmd t 4 c stAccessFault (sramBase t + 0x100000) (sramBase t + 0x100000) := by
  rw [State.vuElementwise, hhead]
  exact vuGo_of_beyond hbeyond _

end

/-- Settles O19: every row is `vuElementwise` of its opcode (`exec_elementwise`), which a ready head and one with an extent beyond take to its end. -/
theorem elementwiseVectorCommandsComplete : Obligations.ElementwiseVectorCommandsComplete := by
  unfold Obligations.ElementwiseVectorCommandsComplete
  intro t s c i op hrow hhead
  rw [exec_elementwise t s (i, op) hrow]
  exact ⟨fun hready => congrArg Host.Outcome.next (vuElementwise_of_ready hhead hready), fun hbeyond => congrArg Host.Outcome.next (vuElementwise_of_beyond hhead hbeyond)⟩

end Sys2Proof.Machine
end

section
/-! PROOFS. Exact sums (07 R161, R163): S as a residue modulo 2^320, COUNT modulo 2^48, and values added one after another as a combination. -/
namespace Sys2Proof.Machine

/-! ## Two's complement (R161) -/

theorem cast_unsignedOf (w : Nat) (i : Int) : (unsignedOf w i : Int) = i % 2 ^ w := by
  rw [unsignedOf, Int.toNat_of_nonneg (Int.emod_nonneg i (by positivity))]

theorem unsignedOf_lt (w : Nat) (i : Int) : unsignedOf w i < 2 ^ w := by
  have hlt := Int.emod_lt_of_pos i (b := 2 ^ w) (by positivity)
  rw [← cast_unsignedOf] at hlt
  exact_mod_cast hlt

/-- A pattern depends on its integer modulo 2^w alone. -/
theorem unsignedOf_congr {w : Nat} {i j : Int} (h : i ≡ j [ZMOD 2 ^ w]) : unsignedOf w i = unsignedOf w j := by
  rw [unsignedOf, unsignedOf, h.eq]

theorem signed_modEq (w x : Nat) : signed w x ≡ x [ZMOD 2 ^ w] := by
  have hmod : ((x % 2 ^ w : Nat) : Int) ≡ x [ZMOD 2 ^ w] := by
    push_cast
    exact Int.mod_modEq _ _
  rw [signed]
  split
  · exact hmod
  · exact (Int.modEq_iff_dvd.mpr ⟨1, by ring⟩ : _ ≡ ((x % 2 ^ w : Nat) : Int) [ZMOD 2 ^ w]).trans hmod

/-- The integer that a pattern stands for is the one it was made of, modulo 2^w. -/
theorem signed_unsignedOf_modEq (w : Nat) (i : Int) : signed w (unsignedOf w i) ≡ i [ZMOD 2 ^ w] := by
  have h := signed_modEq w (unsignedOf w i)
  rw [cast_unsignedOf] at h
  exact h.trans (Int.mod_modEq i _)

theorem signed_zero (w : Nat) : signed w 0 = 0 := by rw [signed, Nat.zero_mod, if_pos (Nat.two_pow_pos _), Nat.cast_zero]

theorem unsignedOf_signed {w x : Nat} (h : x < 2 ^ w) : unsignedOf w (signed w x) = x := by
  rw [unsignedOf, (signed_modEq w x).eq]
  exact_mod_cast Nat.mod_eq_of_lt h

/-! ## What a combination and an addition make of each field -/

section
variable (x y : Xsr) (v : Val)

theorem combine_s : (x.combine y).s = unsignedOf 320 (signed 320 x.s + signed 320 y.s) := by rw [Xsr.combine, Xsr.setS]
theorem combine_count : (x.combine y).count = (x.count + y.count) % 2 ^ 48 := (rfl)
theorem combine_pinf : (x.combine y).pinf = (x.pinf || y.pinf) := (rfl)
theorem combine_ninf : (x.combine y).ninf = (x.ninf || y.ninf) := (rfl)

/-- What a value adds to S: nothing where it is not finite. -/
def Val.addedTo (v : Val) (n : Nat) : Nat :=
  match v with
  | .fin r _ => unsignedOf 320 (signed 320 n + (r * pow2 149).floor)
  | _ => n

theorem addVal_s : (x.addVal v).s = v.addedTo x.s := by
  cases v with
  | nan => rfl
  | inf neg => cases neg <;> rfl
  | fin r z => rw [Xsr.addVal, Xsr.setS, Val.addedTo]

theorem addVal_count : (x.addVal v).count = (x.count + 1) % 2 ^ 48 := by
  cases v with
  | nan => rfl
  | inf neg => cases neg <;> rfl
  | fin r z => rfl

end

/-! ## Combinations (R163) -/

theorem combine_comm (x y : Xsr) : x.combine y = y.combine x := by
  rw [Xsr.combine, Xsr.combine, Int.add_comm (signed 320 x.s), Nat.add_comm x.count, Bool.or_comm x.pinf, Bool.or_comm x.ninf, Bool.or_comm x.nan]
  rfl

theorem combine_assoc_s (x y z : Xsr) : ((x.combine y).combine z).s = (x.combine (y.combine z)).s := by
  rw [combine_s, combine_s, combine_s, combine_s]
  refine unsignedOf_congr (((signed_unsignedOf_modEq _ _).add_right _).trans ?_)
  rw [Int.add_assoc]
  exact ((signed_unsignedOf_modEq _ _).add_left _).symm

theorem combine_assoc_count (x y z : Xsr) : ((x.combine y).combine z).count = (x.combine (y.combine z)).count := by
  rw [combine_count, combine_count, combine_count, combine_count, Nat.mod_add_mod, Nat.add_mod_mod, Nat.add_assoc]

/-! ## Values added one after another (R161) -/

/-- S and COUNT of an exact sum, which the side bits do not enter. -/
def Xsr.sums (x : Xsr) : Nat × Nat := (x.s, x.count)

/-- S and COUNT within their bits. -/
def Xsr.wf (x : Xsr) : Prop := x.s < 2 ^ 320 ∧ x.count < 2 ^ 48

theorem addVal_sums (x : Xsr) (v : Val) : (x.addVal v).sums = (v.addedTo x.sums.1, (x.sums.2 + 1) % 2 ^ 48) := by
  rw [Xsr.sums, addVal_s, addVal_count]
  rfl

theorem empty_wf : ({} : Xsr).wf := by
  rw [Xsr.wf]
  exact ⟨by positivity, by positivity⟩

theorem addVal_wf {x : Xsr} (h : x.wf) (v : Val) : (x.addVal v).wf := by
  refine ⟨?_, by rw [addVal_count]; exact Nat.mod_lt _ (by positivity)⟩
  rw [addVal_s]
  cases v with
  | nan => exact h.1
  | inf neg => exact h.1
  | fin r z => exact unsignedOf_lt _ _

theorem foldl_addVal_wf {x : Xsr} (h : x.wf) (l : List Val) : (l.foldl Xsr.addVal x).wf := by
  induction l generalizing x with
  | nil => exact h
  | cons v l ih => exact ih (addVal_wf h v)

/-- S and COUNT after values depend on S and COUNT before them alone. -/
theorem foldl_addVal_sums {x y : Xsr} (h : x.sums = y.sums) (l : List Val) : (l.foldl Xsr.addVal x).sums = (l.foldl Xsr.addVal y).sums := by
  induction l generalizing x y with
  | nil => exact h
  | cons v l ih => exact ih (by rw [addVal_sums, addVal_sums, h])

/-- Nothing combined changes nothing. -/
theorem combine_empty_sums {x : Xsr} (h : x.wf) : (x.combine {}).sums = x.sums := by
  obtain ⟨hs, hcount⟩ := h
  rw [Xsr.sums, Xsr.sums, combine_s, combine_count, signed_zero, Int.add_zero, unsignedOf_signed hs, Nat.add_zero, Nat.mod_eq_of_lt hcount]

/-- A value added to one of two sums that are combined is added to their combination. -/
theorem combine_addVal_sums (x y : Xsr) (v : Val) : ((x.combine y).addVal v).sums = (x.combine (y.addVal v)).sums := by
  have hs : v.addedTo (unsignedOf 320 (signed 320 x.s + signed 320 y.s)) = unsignedOf 320 (signed 320 x.s + signed 320 (v.addedTo y.s)) := by
    cases v with
    | nan => rfl
    | inf neg => rfl
    | fin r z =>
      refine unsignedOf_congr (((signed_unsignedOf_modEq _ _).add_right _).trans ?_)
      rw [Int.add_assoc]
      exact ((signed_unsignedOf_modEq _ _).add_left _).symm
  rw [Xsr.sums, Xsr.sums, addVal_s, addVal_count, combine_s, combine_s, addVal_s, hs, combine_count, combine_count, addVal_count, Nat.mod_add_mod,
    Nat.add_mod_mod, Nat.add_assoc]

theorem combine_foldl_addVal_sums (x y : Xsr) (l : List Val) : (l.foldl Xsr.addVal (x.combine y)).sums = (x.combine (l.foldl Xsr.addVal y)).sums := by
  induction l generalizing y with
  | nil => rfl
  | cons v l ih => exact (foldl_addVal_sums (combine_addVal_sums x y v) l).trans (ih (y.addVal v))

/-- A list of values cut in two: its sum is the combination of the parts' sums. -/
theorem foldl_addVal_append_sums (l m : List Val) :
    ((l ++ m).foldl Xsr.addVal {}).sums = ((l.foldl Xsr.addVal {}).combine (m.foldl Xsr.addVal {})).sums := by
  rw [List.foldl_append, ← combine_foldl_addVal_sums]
  exact foldl_addVal_sums (combine_empty_sums (foldl_addVal_wf empty_wf l)).symm m

/-- Settles O22: a combination is symmetric in its operands, its fields are residues and disjunctions, and a cut list is a combination. -/
theorem exactSumsCombineInAnyOrder : Obligations.ExactSumsCombineInAnyOrder := by
  unfold Obligations.ExactSumsCombineInAnyOrder
  refine ⟨fun x y => ?_, fun x y z => ⟨combine_assoc_s x y z, combine_assoc_count x y z, ?_, ?_⟩, fun l m => ?_⟩
  · rw [combine_comm x y]
    exact ⟨rfl, rfl, rfl, rfl, rfl⟩
  · rw [combine_pinf, combine_pinf, combine_pinf, combine_pinf, Bool.or_assoc]
  · rw [combine_ninf, combine_ninf, combine_ninf, combine_ninf, Bool.or_assoc]
  · have hsums := foldl_addVal_append_sums l m
    rw [Xsr.sums, Xsr.sums, Prod.mk.injEq] at hsums
    exact hsums

end Sys2Proof.Machine
end

section
/-! PROOFS. The Anvil units (08 R175 to R184): how a command is forwarded, how its unit takes it up, what XOR_ACC writes, and an UPDATE without contributors
whose GEXP a slice switch has moved under its NEXT_EXP. -/
namespace Sys2Proof.Machine

/-! ## Forwarding (R175) -/

section
variable {s u : State} (h : u.offTiles = s.offTiles)
include h

theorem anvil_of_offTiles (n : Nat) : u.anvil n = s.anvil n := (congrArg (fun v => v.anvil n) h :)
theorem forwards_of_offTiles : u.forwards = s.forwards := (congrArg State.forwards h :)

end

theorem outstanding_of_work {x y : TileSt} (h : x.work = y.work) : x.outstanding = y.outstanding := (congrArg TileSt.outstanding h :)

@[simp] theorem anvil_setAnvil_same (s : State) (u : Nat) (x : AnvilSt) : (s.setAnvil u x).anvil u = x := sget_sset_same _ _ _ _

/-- A command, numbered already, that joins those outstanding of its tile and the input of its unit. -/
def State.forward (s : State) (t u : Nat) (c : Cmd) : State :=
  State.setAnvil { s.setTile t { s.tile t with outstanding := (s.tile t).outstanding ++ [c] } with forwards := s.forwards + 1 } u
    { s.anvil u with input := (s.anvil u).input ++ [(t, c)] }

section
variable (s : State) (t u : Nat) (c : Cmd)

theorem forward_tile : (s.forward t u c).tile t = { s.tile t with outstanding := (s.tile t).outstanding ++ [c] } := tile_setTile_same s t _
theorem forward_forwards : (s.forward t u c).forwards = s.forwards + 1 := (rfl)
theorem forward_input : ((s.forward t u c).anvil u).input = (s.anvil u).input ++ [(t, c)] := by rw [State.forward, anvil_setAnvil_same]

end

section
variable {t : Fin 2048} {s : State} {c : Cmd} (hhead : s.headOf t 7 = some c) (hruns : s.queueRuns t 7 = true) (hwait : s.waitHolds t c = true)
  (husable : s.anvilUsable (wEngine c.w - 8) = true) (hon : s.domOn (84 + (wEngine c.w - 8)) = true)
  (hroom : (s.anvil (wEngine c.w - 8)).input.length < 32)
include hhead hruns hwait husable hon hroom

theorem exec_anvilForward_ready :
    exec (.anvilForward t) s = .next ((s.startHead t 7 c).forward t (wEngine c.w - 8) { c with fwd := s.forwards }) := by
  have hexec : exec (.anvilForward t) s = execAnvilForward t s := rfl
  rw [hexec, execAnvilForward, hhead, ← forwards_of_offTiles (startHead_offTiles s t 7 c)]
  dsimp only
  rw [hruns, hwait, husable, hon, if_neg (by decide), if_neg (by decide), if_neg (by decide), if_neg (Nat.not_le.mpr hroom)]
  rfl

theorem anvilForward_gives : Gives (.anvilForward t) s (fun s' => (s'.tile t).queue 7 = ((s.tile t).queue 7).drop 1 ∧
    (s'.tile t).outstanding = (s.tile t).outstanding ++ [{ c with fwd := s.forwards }] ∧ s'.forwards = s.forwards + 1 ∧
    (s'.anvil (wEngine c.w - 8)).input = (s.anvil (wEngine c.w - 8)).input ++ [(t.val, { c with fwd := s.forwards })]) := by
  have hwork := startHead_work s t 7 c
  have hoff := startHead_offTiles s t 7 c
  refine gives_of_exec (exec_anvilForward_ready hhead hruns hwait husable hon hroom) ⟨?_, ?_, ?_, ?_⟩
  · rw [forward_tile]
    exact (queue_of_work hwork 7).trans (sget_sset_same _ _ _ _)
  · rw [forward_tile, outstanding_of_work hwork]
    rfl
  · rw [forward_forwards, forwards_of_offTiles hoff]
  · rw [forward_input, anvil_of_offTiles hoff]

end

/-! ## A unit takes up its command (R178, R199, R200) -/

/-- A unit's next command has the opcode asked for. -/
theorem wOpcode_of_anvilHead {s : State} {u op t : Nat} {c : Cmd} (h : s.anvilHead u op = some (t, c)) : wOpcode c.w = op := by
  unfold State.anvilHead at h
  split_ifs at h
  split at h
  · split_ifs at h with hop
    obtain rfl := Option.some.inj h
    exact hop
  · cases h

/-- A command that no reset of its partition has overtaken runs under the present image. -/
theorem runUnder_present {s : State} {u : Nat} {c : Cmd} (h : ∀ e, (s.anvil u).under = some e → e.1 ≠ c.fwd) (f : State → State) :
    s.runUnder u c f = f s := by
  unfold State.runUnder
  split
  · exact if_neg (h _ ‹_›)
  · rfl

/-- A descriptor that is owned, running, sound and well formed, on extents that are owned, served and running, is worked on. -/
theorem withDesc_good {s : State} {u t : Nat} {c : Cmd} {d : UpdDesc} {extents served : UpdDesc → List (Nat × Nat)} (work : State → UpdDesc → State)
    (howned : s.firstUnowned c.part (avDesc c.w) 128 = none) (hon : s.memOn (avDesc c.w) 128 = true) (hsound : s.firstBad (avDesc c.w) 128 = none)
    (hok : descOk (s.readBytes (avDesc c.w) 128) = true) (hd : d = descOf (s.readBytes (avDesc c.w) 128))
    (hextents : s.unownedOf c.part (extents d) = none)
    (hserved : (served d).findSome? (fun e => outsideStacks (s.fuses.serves u) e.1 e.2) = none) (hrunning : s.offOf (extents d) = none)
    (hhalo : (if wOpcode c.w = 1 then s.haloOff c.part c.step d.layer else none) = none) :
    s.withDesc u t c extents served work = work (s.anvilTake u (t, c)) d := by
  subst hd
  rw [State.withDesc, howned]
  dsimp only
  rw [hon, if_neg (by decide), hsound]
  dsimp only
  rw [hok, if_neg (by decide), hextents, hserved]
  dsimp only
  rw [hrunning]
  dsimp only
  rw [hhalo]

section
variable {u : Fin 8} {s : State} {t : Nat} {c : Cmd} {op : Nat} (hpresent : ∀ e, (s.anvil u).under = some e → e.1 ≠ c.fwd)
include hpresent

theorem exec_update_head (hhead : s.anvilHead u 1 = some (t, c)) :
    exec (.update u) s = .next (s.withDesc u t c UpdDesc.extents UpdDesc.stackExtents (fun s d => s.updateWork u t c d)) := by
  have hexec : exec (.update u) s = execUpdate u s := rfl
  rw [hexec, execUpdate, hhead]
  exact congrArg Host.Outcome.next (runUnder_present hpresent _)

theorem exec_norm_head (hhead : s.anvilHead u 2 = some (t, c)) :
    exec (.norm u) s = .next (s.withDesc u t c (fun d => d.gradExtents ++ [(normDst c.w, 64)]) (fun _ => []) (fun s d => s.normWork u t c d)) := by
  have hexec : exec (.norm u) s = execNorm u s := rfl
  rw [hexec, execNorm, hhead]
  exact congrArg Host.Outcome.next (runUnder_present hpresent _)

theorem exec_xorAcc_head (hhead : s.anvilHead u 3 = some (t, c)) : exec (.xorAcc u) s = .next (s.xorWork u t c) := by
  have hexec : exec (.xorAcc u) s = execXorAcc u s := rfl
  rw [hexec, execXorAcc, hhead]
  exact congrArg Host.Outcome.next (runUnder_present hpresent _)

end

/-! ## What a unit's bookkeeping leaves alone -/

section
variable (s : State) (u t : Nat) (c : Cmd)

/-- The state without a command in a unit's input. -/
theorem anvilTake_other (e : Nat × Cmd) : ∃ a k, s.anvilTake u e = { s with anvils := a, tally := k } := ⟨_, _, rfl⟩

theorem anvilTake_input (e : Nat × Cmd) : ((s.anvilTake u e).anvil u).input = (s.anvil u).input.filter (fun y => y.2.fwd != e.2.fwd) := by
  have hcounted (v : State) (k : Nat) (x : Attr) : (v.count 3 u 1 k x).anvil u = v.anvil u := rfl
  rw [State.anvilTake, hcounted, anvil_setAnvil_same]

/-- Sectors read and written by a unit change the counters alone. -/
theorem anvilTraffic_other (reads writes : List (Nat × Nat)) : ∃ k, s.anvilTraffic c reads writes = { s with tally := k } := by
  have hlc : Attr.lc { c.attr with master := some 4 } = false := rfl
  obtain ⟨k, hread⟩ := foldl_count_other (fun v e => hbRead_other v e.1 e.2 _ hlc) reads s
  obtain ⟨k', hwrite⟩ := foldl_count_other (fun v e => hbWrite_other v e.1 e.2 _ hlc) writes { s with tally := k }
  exact ⟨k', by rw [State.anvilTraffic, hread, hwrite]⟩

/-- A command reported as ended OK, or as overtaken by a tile reset, changes its tile alone. -/
theorem anvilReport_ok_other (wrote : List (Nat × Nat)) : ∃ x, s.anvilReport t c stOk 0 wrote = { s with tiles := x } := by
  rw [State.anvilReport]
  dsimp only
  split
  · exact ⟨s.tiles, rfl⟩
  · rw [if_pos (rfl : stOk = stOk)]
    split
    · exact ⟨_, rfl⟩
    · exact ⟨_, rfl⟩

end

/-! ## XOR_ACC (R176) -/

/-- The exclusive or of n bytes at two addresses. -/
def State.xorBytes (s : State) (a b n : Nat) : List Byte := List.zipWith (fun (x y : Byte) => x ^^^ y) (s.readBytes a n) (s.readBytes b n)

theorem xorBytes_length (s : State) (a b n : Nat) : (s.xorBytes a b n).length = n := by
  rw [State.xorBytes, List.length_zipWith, readBytes_length, readBytes_length, Nat.min_self]

theorem getD_xorBytes (s : State) (a b : Nat) {n k : Nat} (hk : k < n) : (s.xorBytes a b n).getD k 0 = s.byte (a + k) ^^^ s.byte (b + k) := by
  have hlen := xorBytes_length s a b n
  rw [← getD_readBytes s a hk, ← getD_readBytes s b hk, List.getD_eq_getElem _ _ (by omega), List.getD_eq_getElem _ _ (by rw [readBytes_length]; omega),
    List.getD_eq_getElem _ _ (by rw [readBytes_length]; omega)]
  exact List.getElem_zipWith

section
variable {s : State} {u t : Nat} {c : Cmd}
  (howned : s.unownedOf c.part [(xorSrc c.w, 32 * xorSectors c.w), (xorDst c.w, 32 * xorSectors c.w)] = none)
  (hserved : outsideStacks (s.fuses.serves u) (xorDst c.w) (32 * xorSectors c.w) = none)
  (hon : s.offOf [(xorSrc c.w, 32 * xorSectors c.w), (xorDst c.w, 32 * xorSectors c.w)] = none)
  (hsound : s.badOf [(xorDst c.w, 32 * xorSectors c.w), (xorSrc c.w, 32 * xorSectors c.w)] = none)
include howned hserved hon hsound

/-- Beside counts and its tile, a sound XOR_ACC writes the exclusive or to its destination, and has left its unit. -/
theorem xorWork_sound : ∃ k x, s.xorWork u t c =
    { (s.anvilTake u (t, c)).writeBytes (xorDst c.w) (s.xorBytes (xorDst c.w) (xorSrc c.w) (32 * xorSectors c.w)) with tally := k, tiles := x } := by
  have hread (a n : Nat) : (s.anvilTake u (t, c)).readBytes a n = s.readBytes a n := readBytes_congr (s := s) (u := s.anvilTake u (t, c)) (fun _ => rfl) a n
  rw [State.xorWork, howned, hserved]
  dsimp only
  rw [hon, hsound]
  dsimp only
  rw [hread, hread, ← State.xorBytes]
  obtain ⟨_, hcount⟩ := count_other ((s.anvilTake u (t, c)).writeBytes (xorDst c.w) (s.xorBytes (xorDst c.w) (xorSrc c.w) (32 * xorSectors c.w)))
    3 u 0x07 (xorSectors c.w) c.attr
  rw [hcount]
  obtain ⟨k, htraffic⟩ := anvilTraffic_other _ c _ _
  rw [htraffic]
  obtain ⟨x, hreport⟩ := anvilReport_ok_other _ t c _
  exact ⟨k, x, hreport⟩

/-- Its bytes, every other plain byte, its unit's input, and the registers. -/
theorem xorWork_writes (hplain : s.plain (xorDst c.w) (32 * xorSectors c.w)) :
    (∀ k < 32 * xorSectors c.w, (s.xorWork u t c).byte (xorDst c.w + k) = s.byte (xorDst c.w + k) ^^^ s.byte (xorSrc c.w + k)) ∧
    (∀ a, s.plain a 1 → (a < xorDst c.w ∨ xorDst c.w + 32 * xorSectors c.w ≤ a) → (s.xorWork u t c).byte a = s.byte a) ∧
    (∀ x ∈ ((s.xorWork u t c).anvil u).input, x.2.fwd ≠ c.fwd) ∧ (s.xorWork u t c).regs = s.regs := by
  obtain ⟨k, x, hwork⟩ := xorWork_sound (t := t) howned hserved hon hsound
  have hlen := xorBytes_length s (xorDst c.w) (xorSrc c.w) (32 * xorSectors c.w)
  have hbyte (a : Nat) : (s.xorWork u t c).byte a =
      ((s.anvilTake u (t, c)).writeBytes (xorDst c.w) (s.xorBytes (xorDst c.w) (xorSrc c.w) (32 * xorSectors c.w))).byte a := by rw [hwork]; rfl
  have htaken : (s.anvilTake u (t, c)).plain (xorDst c.w) (s.xorBytes (xorDst c.w) (xorSrc c.w) (32 * xorSectors c.w)).length := by
    rw [hlen]
    exact hplain
  refine ⟨fun j hj => ?bytes, fun a ha hout => ?frame, fun e he => ?input, ?regs⟩
  case bytes => rw [hbyte, byte_writeBytes _ _ _ htaken j (by rw [hlen]; exact hj), getD_xorBytes s _ _ hj]
  case frame =>
    rw [hbyte, byte_writeBytes_outside _ _ _ _ htaken ha (by rw [hlen]; exact hout)]
    rfl
  case input =>
    have hinput : ((s.xorWork u t c).anvil u).input = (s.anvil u).input.filter (fun y => y.2.fwd != c.fwd) := by
      obtain ⟨m, hother⟩ := writeBytes_other (s.anvilTake u (t, c)) (xorDst c.w) (s.xorBytes (xorDst c.w) (xorSrc c.w) (32 * xorSectors c.w))
      rw [hwork, hother]
      exact anvilTake_input s u (t, c)
    rw [hinput] at he
    exact bne_iff_ne.mp (List.mem_filter.mp he).2
  case regs =>
    rw [hwork]
    exact writeBytes_regs _ _ _

end

/-- Settles O24: forwarding by its ready head, UPDATE and NORM by `withDesc_good`, XOR_ACC by what its work writes. -/
theorem anvilCommandsRun : Obligations.AnvilCommandsRun := by
  unfold Obligations.AnvilCommandsRun
  refine ⟨fun t s c => anvilForward_gives, ?update, ?norm, ?xor⟩
  case update =>
    intro u s t c d hhead hpresent howned hon hsound hok hd hextents hserved hrunning hhalo
    rw [exec_update_head hpresent hhead, withDesc_good _ howned hon hsound hok hd hextents hserved hrunning (by rw [hhalo, ite_self])]
  case norm =>
    intro u s t c d hhead hpresent howned hon hsound hok hd hextents hrunning
    have hopcode : wOpcode c.w ≠ 1 := by rw [wOpcode_of_anvilHead hhead]; decide
    rw [exec_norm_head hpresent hhead, withDesc_good _ howned hon hsound hok hd hextents rfl hrunning (if_neg hopcode)]
  case xor =>
    intro u s t c hhead hpresent howned hserved hon hsound hplain
    exact gives_of_exec (exec_xorAcc_head hpresent hhead) (xorWork_writes howned hserved hon hsound hplain)

/-! ## An UPDATE without contributors under a sliced image (R179, 03 R81, R83) -/

/-- An extent that ends below tile SRAM lies where its addresses say (R201, R202). -/
theorem plain_below_sram (s : State) {a n : Nat} (h : a + n ≤ 0x010000000000) : s.plain a n := by
  intro k hk
  have hoff : isSram (a + k) = false := by rw [isSram, decide_eq_false (by omega), Bool.false_and]
  exact ⟨by rw [State.resolve, hoff]; rfl, by rw [hoff]; rfl⟩

/-- A sliceable image of tile 0 with 1 GiB of HBM: the tile's backing copy begins at address 0. -/
def slicedImage : Image :=
  { head := ⟨true, false, 0, 0, 0, 0, 0, 2, 0, 0, 0, 0⟩, dir := [], regionMask := 1, wrapOwned := 0, queues := [], hbm := [(0, 1)]
    clusters := [⟨0, 0, 0, 0, 1, 1, 0⟩], tileMap := [], routes := [], keep := [], numerics := [], windows := [], shares := [], routing := []
    placements := [], regValues := [], measurement := 0 }

/-- The image in two slots, tile 0 in the one that is not resident; the byte kept for its SRAM offset 0x1000 is 1, every other byte 0. -/
def slicedState : State :=
  { parts := [(0, { active := some slicedImage, regions := 1, slots := [(0, 1)] })], regs := [(SI_STATUS 0, 0x200)], mem := [(0x1000, 1)] }

/-- A group of two superblocks whose GEXP is in the SRAM of tile 0, and whose NEXT_EXP is in HBM, 32 bytes behind GEXP's backing copy. -/
def shiftedDesc : UpdDesc := { descOf [] with gexp := sramBase 0 + 0x1000, next := 0x1020, count := 0x4000, elems := 1025 }

theorem shiftedDesc_gexp_kept : slicedState.byte (shiftedDesc.gexp + 32) = 0 := by decide +kernel

/-- Superblock 0 writes over GEXP's second sector, which superblock 1 then copies. -/
theorem shiftedDesc_next_written : (slicedState.updateWork 0 0 {} shiftedDesc).byte (shiftedDesc.next + 32) = 1 := by decide +kernel

/-- Refutes O25: its hypotheses keep NEXT_EXP where its addresses say, but not GEXP. A GEXP in the SRAM of a tile out of residence reads its backing copy in
HBM, and a NEXT_EXP that overlaps the copy 32 bytes further on is written over exponents not yet read: byte 32 of NEXT_EXP becomes 1, where GEXP held 0. -/
theorem not_updateWithoutContributors : ¬ Obligations.UpdateWithoutContributors := by
  unfold Obligations.UpdateWithoutContributors
  intro h
  obtain ⟨_, hcopies⟩ := h 0 slicedState 0 {} shiftedDesc (by decide) (by decide)
  obtain ⟨hbytes, _⟩ := hcopies (by decide) (by decide) (by decide) (by decide) (by decide) (by decide) (by decide)
    (plain_below_sram _ (by decide)) (by decide)
  have hbyte := (hbytes 32 (by decide)).trans shiftedDesc_gexp_kept
  exact absurd (shiftedDesc_next_written.symm.trans hbyte) (by decide)

end Sys2Proof.Machine
end

section
/-! PROOFS. Halo counts on their way to an entry (08 R196, R197), and the record that ends GRAD_NORM (08 R191). -/
namespace Sys2Proof.Machine

/-! ## Halo counts (R196, R197) -/

@[simp] theorem haloAt_setHaloAt_same (s : State) (u : Nat) (l : List HaloMsg) : (s.setHaloAt u l).haloAt u = l := sget_sset_same _ _ _ _

/-- The next count of a running tile leaves it for the unit that serves its entry's stack. -/
theorem haloSend_moves {t : Fin 2048} {s : State} {m : HaloMsg} {x : TileSt} {u : Nat} (hruns : s.tileRuns t = true)
    (hnext : (s.tile t).haloNext = some (m, x))
    (hunit : (s.setTile t x).haloUnit (((s.setTile t x).haloEntry m.part m.step m.layer).1 / stackBytes) = some u) :
    Gives (.haloSend t) s (fun s' => s'.tile t = x ∧ s'.haloAt u = s.haloAt u ++ [m] ∧ s'.mem = s.mem ∧ s'.regs = s.regs) := by
  have hexec : exec (.haloSend t) s = execHaloSend t s := rfl
  rw [execHaloSend, if_pos hruns, hnext] at hexec
  dsimp only at hexec
  rw [hunit] at hexec
  exact gives_of_exec hexec ⟨tile_setTile_same s t x, haloAt_setHaloAt_same _ _ _, rfl, rfl⟩

/-- A usable unit whose domain is ON applies the first count whose partition is not stopped, where its entry's memory is ON. -/
theorem exec_haloMessage_applied {u : Fin 8} {s : State} {m : HaloMsg} (hfirst : (s.haloAt u).find? (fun m => !s.stopHolds (some m.part)) = some m)
    (husable : s.anvilUsable u = true) (hdom : s.domOn (84 + u) = true) (hkept : s.haloOn m.part = true)
    (hentry : s.memOn (s.haloEntry m.part m.step m.layer).1 256 = true) :
    exec (.haloMessage u) s =
      .next (((s.setHaloAt u ((s.haloAt u).erase m)).haloApply u m.part m.step m.layer m.add).haloSettled m.tile) := by
  have hexec : exec (.haloMessage u) s = execHaloMessage u s := rfl
  have husable' : (s.setHaloAt u ((s.haloAt u).erase m)).anvilUsable u = true := husable
  have hkept' : (s.setHaloAt u ((s.haloAt u).erase m)).haloOn m.part = true := hkept
  rw [hexec, execHaloMessage, hfirst]
  dsimp only
  rw [husable, hdom, hkept, hentry, if_neg (by decide), if_neg (by decide), husable', hkept', if_neg (by decide), if_pos rfl]

/-- Settles O26: a count's way from tile to unit, and from unit into its entry. -/
theorem haloCountsReachTheirUnits : Obligations.HaloCountsReachTheirUnits := by
  unfold Obligations.HaloCountsReachTheirUnits
  exact ⟨fun t s m x u => haloSend_moves, fun u s m => exec_haloMessage_applied⟩

/-! ## The record of GRAD_NORM (R191 step 5) -/

/-- Bytes written into plain memory read back, from any place among them. -/
theorem readBytes_writeBytes (s : State) {a i n : Nat} {b : List Byte} (hplain : s.plain a b.length) (hin : i + n ≤ b.length) :
    (s.writeBytes a b).readBytes (a + i) n = (b.drop i).take n := by
  refine List.ext_getElem ?_ fun k hk _ => ?_
  · rw [readBytes_length, List.length_take, List.length_drop]
    omega
  · have hread := hk
    rw [readBytes_length] at hread
    rw [← List.getD_eq_getElem _ 0 hk, getD_readBytes _ _ hread, Nat.add_assoc, byte_writeBytes s a b hplain (i + k) (by omega), List.getElem_take,
      List.getElem_drop, List.getD_eq_getElem]

/-- The 128 bytes of the record: the exact sum, STEP, the two Halo totals. -/
def normRecord (sum step sat non : Nat) : List Byte := leBytes 64 sum ++ leBytes 4 step ++ zeros 4 ++ leBytes 8 sat ++ leBytes 8 non ++ zeros 40

section
variable (sum step sat non : Nat)

theorem normRecord_length : (normRecord sum step sat non).length = 128 := by
  simp only [normRecord, zeros, List.length_append, leBytes_length, List.length_replicate]

theorem normRecord_sum : ((normRecord sum step sat non).drop 0).take 64 = leBytes 64 sum := by
  simp only [normRecord, List.append_assoc, List.drop_zero]
  exact List.take_left' (leBytes_length 64 sum)

theorem fieldAt_normRecord_step : fieldAt (normRecord sum step sat non) 0x40 4 = step % 2 ^ 32 := by
  simp only [fieldAt, normRecord, List.append_assoc]
  rw [List.drop_left' (leBytes_length 64 sum), List.take_left' (leBytes_length 4 step), leNat_leBytes, show 256 ^ 4 = 2 ^ 32 from rfl]

end

/-- SAT_TOTAL or NONFINITE_TOTAL: a count of the step's Halo entries, added up. -/
def State.haloTotal (s : State) (p step off : Nat) : Nat := (s.haloOfStep p step).foldl (fun n a => n + s.readNat (a + off) 8) 0

/-- With sound slots and entries and no axis, the module's own sums make the record. -/
theorem normFinish_own {s : State} {c : Cmd} {g : Nat} (t : Nat) (others : BitVec 512 × Nat × Nat)
    (hslots : s.badOf ((s.normSlots g).map (fun a => (a, 64))) = none) (hhalo : s.haloBad c.part = none) :
    s.normFinish t c g 0 others = ((s.writeBytes g (normRecord
      ((s.normSlots g).foldl (fun x a => x.combine (Xsr.ofImage (s.readNat a 64))) ({} : Xsr)).image c.step (s.haloTotal c.part c.step 0x20)
      (s.haloTotal c.part c.step 0x18))).cleanUnits g 128).returnOk t c 0 := by
  rw [State.normFinish, hslots, hhalo]
  rfl

/-- Settles O28: the record is written in one piece, and its fields are read off its bytes. -/
theorem normCombinesItsSlots : Obligations.NormCombinesItsSlots := by
  unfold Obligations.NormCombinesItsSlots
  intro s t c g others hslots hhalo hplain
  refine ⟨_, normFinish_own t others hslots hhalo, ?regs, ?sum, ?step, fun a ha hout => ?frame⟩
  case regs => rw [cleanUnits_regs, writeBytes_regs]
  case sum =>
    rw [readBytes_congr (byte_cleanUnits _ _ _)]
    exact (readBytes_writeBytes s (i := 0) (by rw [normRecord_length]; exact hplain) (by rw [normRecord_length]; decide)).trans (normRecord_sum _ _ _ _)
  case step =>
    rw [readNat_congr (byte_cleanUnits _ _ _), readNat_writeBytes s (by rw [normRecord_length]; exact hplain) (by rw [normRecord_length]; decide),
      fieldAt_normRecord_step]
  case frame =>
    rw [byte_cleanUnits, byte_writeBytes_outside s _ _ _ (by rw [normRecord_length]; exact hplain) ha (by rw [normRecord_length]; exact hout)]

end Sys2Proof.Machine
end

section

/-! PROOFS. What every step keeps (09 R202, R203; 14 R334): memory in canonical form and Zenith's counter within 64 bits. Each operation
of the model keeps both: first the rules that all of these facts are made from, then
the parts of the state: reports, registers, the log, memory and hardware writes (00 R7, 09 R202 to R222, 10 R235, 17 R411). -/

namespace Sys2Proof.Machine

/-- A command answers, where it answers a next state, one that keeps the invariant. -/
def NextInv (r : Res) : Prop := ∀ t, r = .next t → t.Inv

/-- A state that an operation may answer keeps the invariant. -/
def EachInv (o : Option State) : Prop := ∀ t, o = some t → t.Inv

namespace NextInv

theorem next {s : State} (h : s.Inv) : NextInv (.next s) := fun _ ht => Host.Outcome.next.inj ht ▸ h

theorem ite {c : Prop} [Decidable c] {r q : Res} (hr : NextInv r) (hq : NextInv q) : NextInv (if c then r else q) := by
  split
  · exact hr
  · exact hq

end NextInv

namespace EachInv

theorem none : EachInv none := fun _ ht => nomatch ht

theorem some {s : State} (h : s.Inv) : EachInv (some s) := fun _ ht => Option.some.inj ht ▸ h

theorem ite {c : Prop} [Decidable c] {o q : Option State} (ho : EachInv o) (hq : EachInv q) : EachInv (if c then o else q) := by
  split
  · exact ho
  · exact hq

end EachInv

theorem le_of_mem_swfFrom {α : Type} [DecidableEq α] (d : Nat → α) {l : Sparse α} {b : Nat} (h : swfFrom d b l = true) :
    ∀ e ∈ l, b ≤ e.1 := by
  induction l generalizing b with
  | nil => exact fun e he => nomatch he
  | cons x l ih =>
    simp only [swfFrom, Bool.and_eq_true, decide_eq_true_eq] at h
    obtain ⟨⟨hb, _⟩, hl⟩ := h
    intro e he
    rcases List.mem_cons.mp he with rfl | he
    · exact hb
    · have := ih hl e he
      omega

/-- Cells moved by a map that keeps their order are in canonical form again. -/
theorem swfFrom_map {l : List Host.Cell} {b c : Nat} {f : Nat → Nat} (h : swfFrom memDefault b l = true) (hc : ∀ e ∈ l, c ≤ f e.1)
    (hf : ∀ e ∈ l, ∀ e' ∈ l, e.1 < e'.1 → f e.1 < f e'.1) : swfFrom memDefault c (l.map (fun e => (f e.1, e.2))) = true := by
  induction l generalizing b c with
  | nil => rfl
  | cons x l ih =>
    simp only [swfFrom, List.map_cons, Bool.and_eq_true, decide_eq_true_eq] at h ⊢
    obtain ⟨⟨_, hval⟩, hl⟩ := h
    have hlater (e) (he : e ∈ l) : f x.1 + 1 ≤ f e.1 :=
      hf x List.mem_cons_self e (List.mem_cons_of_mem _ he) (le_of_mem_swfFrom _ hl e he)
    exact ⟨⟨hc x List.mem_cons_self, hval⟩, ih hl hlater fun e he e' he' => hf e (List.mem_cons_of_mem _ he) e' (List.mem_cons_of_mem _ he')⟩

section
variable (b bank area : Nat)

/-- A byte of a tile's SRAM, which begins at b, that lies in a bank (09 R205). -/
def inBank (a : Nat) : Bool := decide (b ≤ a) && decide (a < b + 0x100000) && (a - b) / 16 % 16 == bank

/-- Where the save area keeps a byte of a bank (15 R381). -/
def bankSlot (a : Nat) : Nat := area + (a - b) / 256 * 16 + (a - b) % 16

theorem inBank_spec {a : Nat} (h : inBank b bank a = true) : b ≤ a ∧ a < b + 0x100000 ∧ (a - b) / 16 % 16 = bank := by
  simpa only [inBank, Bool.and_eq_true, decide_eq_true_eq, beq_iff_eq, and_assoc] using h

theorem bankCells_wf {m : List Host.Cell} (h : Memory.wf m = true) :
    swfFrom memDefault area ((m.filter (fun c => inBank b bank c.1)).map (fun c => (bankSlot b area c.1, c.2))) = true := by
  refine swfFrom_map (swfFrom_filter _ h _) (fun e _ => by unfold bankSlot; omega) fun e he e' he' hlt => ?_
  obtain ⟨hb, _, hbank⟩ := inBank_spec b bank (List.mem_filter.mp he).2
  obtain ⟨_, _, hbank'⟩ := inBank_spec b bank (List.mem_filter.mp he').2
  unfold bankSlot
  omega

theorem bankCells_lt {m : List Host.Cell} :
    ∀ e ∈ (m.filter (fun c => inBank b bank c.1)).map (fun c => (bankSlot b area c.1, c.2)), e.1 < area + 0x10000 := by
  intro e he
  obtain ⟨c, hc, rfl⟩ := List.mem_map.mp he
  obtain ⟨_, hend, _⟩ := inBank_spec b bank (List.mem_filter.mp hc).2
  show bankSlot b area c.1 < _
  unfold bankSlot
  omega

end

/-- Settles O4: after reset memory holds no cell and the counter is zero. -/
theorem resetHoldsTheInvariant : Obligations.ResetHoldsTheInvariant := by
  unfold Obligations.ResetHoldsTheInvariant
  exact ⟨rfl, by decide⟩

namespace State.Inv

variable {s t : State}

/-- The first part of the invariant. -/
theorem wf (h : s.Inv) : Memory.wf s.mem = true := h.1

/-- The second part of the invariant. -/
theorem zt_lt (h : s.Inv) : s.zt < 2 ^ 64 := h.2

/-- An operation that writes neither memory nor the counter keeps the invariant. -/
theorem same (h : s.Inv) (hmem : t.mem = s.mem := by rfl) (hzt : t.zt = s.zt := by rfl) : t.Inv := by
  rw [State.Inv, hmem, hzt]
  exact h

theorem withMem (h : s.Inv) {m : List Host.Cell} (hm : Memory.wf m = true) : State.Inv { s with mem := m } := ⟨hm, h.zt_lt⟩

/-- The counter wraps at 64 bits (14 R334). -/
theorem withClock {n : Nat} {z : ZenithSt} (h : s.Inv) : State.Inv { s with zt := n % 2 ^ 64, zenith := z } :=
  ⟨h.wf, Nat.mod_lt _ (Nat.two_pow_pos 64)⟩

theorem ite {c : Prop} [Decidable c] (hs : s.Inv) (ht : t.Inv) : (if c then s else t).Inv := by
  split
  · exact hs
  · exact ht

/-- A branch after a shared beginning. -/
theorem both {u : State} {c : Prop} [Decidable c] (h : u.Inv) (hs : u.Inv → s.Inv) (ht : u.Inv → t.Inv) : (if c then s else t).Inv :=
  ite (hs h) (ht h)

/-- An operation done under a condition only. -/
theorem guard {c : Prop} [Decidable c] (h : s.Inv) (ht : s.Inv → t.Inv) : (if c then t else s).Inv := ite (ht h) h

/-- An operation that a condition prevents. -/
theorem orElse {c : Prop} [Decidable c] (h : s.Inv) (ht : s.Inv → t.Inv) : (if c then s else t).Inv := ite h (ht h)

theorem foldl {α : Type} {l : List α} {f : State → α → State} (h : s.Inv) (hf : ∀ {t x}, t.Inv → (f t x).Inv) : (l.foldl f s).Inv := by
  induction l generalizing s with
  | nil => exact h
  | cons x l ih => exact ih (hf h)

/-- Folds whose state is the first part of a pair. -/
theorem foldlFst {α β : Type} {l : List α} {r : State × β} {f : State × β → α → State × β} (h : r.1.Inv) (hf : ∀ {r x}, r.1.Inv → (f r x).1.Inv) :
    (l.foldl f r).1.Inv := by
  induction l generalizing r with
  | nil => exact h
  | cons x l ih => exact ih (hf h)

theorem iteFst {β : Type} {c : Prop} [Decidable c] {r q : State × β} (hr : r.1.Inv) (hq : q.1.Inv) : (if c then r else q).1.Inv := by
  split
  · exact hr
  · exact hq

theorem iteSnd {α : Type} {c : Prop} [Decidable c] {r q : α × State} (hr : r.2.Inv) (hq : q.2.Inv) : (if c then r else q).2.Inv := by
  split
  · exact hr
  · exact hq

theorem ofFst {β : Type} {r : State × β} {b : β} (hr : r = (t, b)) (h : r.1.Inv) : t.Inv := by
  rw [hr] at h
  exact h

theorem ofSnd {α : Type} {r : α × State} {a : α} (hr : r = (a, t)) (h : r.2.Inv) : t.Inv := by
  rw [hr] at h
  exact h

/-! Updates of one field that is neither memory nor the counter. -/

theorem withFree {n : Nat} (h : s.Inv) : State.Inv { s with free := n } := ⟨h.wf, h.zt_lt⟩

theorem withRegs {r : Sparse Word} (h : s.Inv) : State.Inv { s with regs := r } := ⟨h.wf, h.zt_lt⟩

theorem withUe {u : List Nat} (h : s.Inv) : State.Inv { s with ue := u } := ⟨h.wf, h.zt_lt⟩

theorem withFuses {f : Fuses} (h : s.Inv) : State.Inv { s with fuses := f } := ⟨h.wf, h.zt_lt⟩

theorem withSpares {x : SparesSt} (h : s.Inv) : State.Inv { s with spares := x } := ⟨h.wf, h.zt_lt⟩

theorem withParts {x : Sparse PartSt} (h : s.Inv) : State.Inv { s with parts := x } := ⟨h.wf, h.zt_lt⟩

theorem withTiles {x : Sparse TileSt} (h : s.Inv) : State.Inv { s with tiles := x } := ⟨h.wf, h.zt_lt⟩

theorem withQueues {x : Sparse QueueSt} (h : s.Inv) : State.Inv { s with queues := x } := ⟨h.wf, h.zt_lt⟩

theorem withHubs {x : Sparse HubSt} (h : s.Inv) : State.Inv { s with hubs := x } := ⟨h.wf, h.zt_lt⟩

theorem withWin {x : Sparse (Nat × Nat)} (h : s.Inv) : State.Inv { s with win := x } := ⟨h.wf, h.zt_lt⟩

theorem withHubStart {x : List (Nat × Nat × Nat)} (h : s.Inv) : State.Inv { s with hubStart := x } := ⟨h.wf, h.zt_lt⟩

theorem withMsiFired {x : List Nat} (h : s.Inv) : State.Inv { s with msiFired := x } := ⟨h.wf, h.zt_lt⟩

theorem withLink {x : LinkSt} (h : s.Inv) : State.Inv { s with link := x } := ⟨h.wf, h.zt_lt⟩

theorem withSigNet {x : List Sig} (h : s.Inv) : State.Inv { s with sigNet := x } := ⟨h.wf, h.zt_lt⟩

theorem withSync {x : Sparse (Nat × List SyncLog)} (h : s.Inv) : State.Inv { s with sync := x } := ⟨h.wf, h.zt_lt⟩

theorem withLaunchNo {n : Nat} (h : s.Inv) : State.Inv { s with launchNo := n } := ⟨h.wf, h.zt_lt⟩

theorem withRegionCycle {x : Sparse Nat} (h : s.Inv) : State.Inv { s with regionCycle := x } := ⟨h.wf, h.zt_lt⟩

theorem withHbSeq {x : Sparse Nat} (h : s.Inv) : State.Inv { s with hbSeq := x } := ⟨h.wf, h.zt_lt⟩

theorem withTally {x : TallySt} (h : s.Inv) : State.Inv { s with tally := x } := ⟨h.wf, h.zt_lt⟩

theorem withHaloNet {x : Sparse (List HaloMsg)} (h : s.Inv) : State.Inv { s with haloNet := x } := ⟨h.wf, h.zt_lt⟩

theorem withAnvils {x : Sparse AnvilSt} (h : s.Inv) : State.Inv { s with anvils := x } := ⟨h.wf, h.zt_lt⟩

theorem withForwards {n : Nat} (h : s.Inv) : State.Inv { s with forwards := n } := ⟨h.wf, h.zt_lt⟩

theorem withPower {x : PowerSt} (h : s.Inv) : State.Inv { s with power := x } := ⟨h.wf, h.zt_lt⟩

theorem withWelkin {x : WelkinSt} (h : s.Inv) : State.Inv { s with welkin := x } := ⟨h.wf, h.zt_lt⟩

theorem withRouter {x : RouterSt} (h : s.Inv) : State.Inv { s with router := x } := ⟨h.wf, h.zt_lt⟩

theorem withPorts {x : Sparse PortSt} (h : s.Inv) : State.Inv { s with ports := x } := ⟨h.wf, h.zt_lt⟩

theorem withCes {x : Sparse CeSt} (h : s.Inv) : State.Inv { s with ces := x } := ⟨h.wf, h.zt_lt⟩

theorem withZenith {x : ZenithSt} (h : s.Inv) : State.Inv { s with zenith := x } := ⟨h.wf, h.zt_lt⟩

theorem withTests {x : SelfTestSt} (h : s.Inv) : State.Inv { s with tests := x } := ⟨h.wf, h.zt_lt⟩

theorem withPwr {x : PwrSt} (h : s.Inv) : State.Inv { s with pwr := x } := ⟨h.wf, h.zt_lt⟩

theorem withStart {x : StartSt} (h : s.Inv) : State.Inv { s with start := x } := ⟨h.wf, h.zt_lt⟩

theorem withSensors {x : Sparse (Nat × Nat)} (h : s.Inv) : State.Inv { s with sensors := x } := ⟨h.wf, h.zt_lt⟩

theorem withWaits {x : List (Nat × Nat)} (h : s.Inv) : State.Inv { s with waits := x } := ⟨h.wf, h.zt_lt⟩

theorem withPch {x : Sparse Nat} (h : s.Inv) : State.Inv { s with pch := x } := ⟨h.wf, h.zt_lt⟩

theorem withHbPend {x : List (Nat × List Byte)} (h : s.Inv) : State.Inv { s with hbPend := x } := ⟨h.wf, h.zt_lt⟩

theorem withEvPend {x : List (Nat × Nat × List Byte)} (h : s.Inv) : State.Inv { s with evPend := x } := ⟨h.wf, h.zt_lt⟩

theorem withOut {x : List Output} (h : s.Inv) : State.Inv { s with out := x } := ⟨h.wf, h.zt_lt⟩

theorem withPending {x : List Instr} (h : s.Inv) : State.Inv { s with pending := x } := ⟨h.wf, h.zt_lt⟩

theorem wr {a v : Nat} (h : s.Inv) : (s.wr a v).Inv := h.withRegs

theorem setFld {a : Nat} {f : Fld} {v : Nat} (h : s.Inv) : (s.setFld a f v).Inv := h.wr

theorem addFld {a : Nat} {f : Fld} {k : Nat} (h : s.Inv) : (s.addFld a f k).Inv := h.setFld

theorem satFld {a : Nat} {f : Fld} {k : Nat} (h : s.Inv) : (s.satFld a f k).Inv := h.setFld

theorem sticky {errReg : Nat} {f : Fld} {evReg : Nat} (h : s.Inv) : (s.sticky errReg f evReg).Inv := h.setFld.addFld

theorem fresh (h : s.Inv) : (s.fresh).2.Inv := h.withFree

theorem setTile {t : Nat} {x : TileSt} (h : s.Inv) : (s.setTile t x).Inv := h.withTiles

theorem setPart {p : Nat} {x : PartSt} (h : s.Inv) : (s.setPart p x).Inv := h.withParts

theorem setQueue {d q : Nat} {x : QueueSt} (h : s.Inv) : (s.setQueue d q x).Inv := h.withQueues

theorem setHub {d : Nat} {x : HubSt} (h : s.Inv) : (s.setHub d x).Inv := h.withHubs

theorem setByte {a : Nat} {b : Byte} (h : s.Inv) : (s.setByte a b).Inv := .ite h (h.withMem (swf_sset memDefault h.wf _ _))

theorem writeBytes {a : Nat} {l : List Byte} (h : s.Inv) : (s.writeBytes a l).Inv := by
  induction l generalizing s a with
  | nil => exact h
  | cons b l ih => exact ih h.setByte

theorem moveRange {src dst n : Nat} (h : s.Inv) : (s.moveRange src dst n).Inv := h.withMem (moveRange_mem_wf s src dst n h.wf)

theorem count {kind inst ev k : Nat} {x : Attr} (h : s.Inv) : (s.count kind inst ev k x).Inv := h.withTally

theorem holdWork {who dom : Nat} (h : s.Inv) : (s.holdWork who dom).Inv := .ite h h.withWaits.addFld.sticky

theorem holdAccess {who a : Nat} {x : Attr} (h : s.Inv) : (s.holdAccess who a x).Inv := .ite h h.addFld.sticky.count.holdWork

theorem noteCounts {d q : Nat} (h : s.Inv) : (s.noteCounts d q).Inv := .ite h h.withHubStart

theorem forgetCounts {d q : Nat} (h : s.Inv) : (s.forgetCounts d q).Inv := h.withHubStart

theorem sendSig {g : Sig} (h : s.Inv) : (s.sendSig g).Inv := h.withSigNet

theorem advanceProd {d q k : Nat} (h : s.Inv) : (s.advanceProd d q k).Inv := h.noteCounts.setQueue.orElse (·.sendSig)

theorem cleanUnits {a n : Nat} (h : s.Inv) : (s.cleanUnits a n).Inv := h.withUe

theorem pushEntry {d q : Nat} {b : List Byte} (h : s.Inv) : (s.pushEntry d q b).Inv := h.writeBytes.cleanUnits.advanceProd

theorem setWindow {d w : Nat} {x : Nat × Nat} (h : s.Inv) : (s.setWindow d w x).Inv := h.withWin

theorem logEntry {code sev : Nat} {data : List Byte} (h : s.Inv) : (s.logEntry code sev data).Inv := h.withWelkin.addFld.guard (·.sticky)

theorem logFree {code : Nat} {data : List Byte} (h : s.Inv) : (s.logFree code data).Inv := h.fresh.logEntry

theorem dropEvent {d : Nat} (h : s.Inv) : (s.dropEvent d).Inv := h.sticky.addFld

theorem putEvent {d q : Nat} {b : List Byte} (h : s.Inv) : (s.putEvent d q b).Inv := .ite h.withEvPend (.ite h.holdAccess.withEvPend h.pushEntry)

theorem evFlushList {kept l : List (Nat × Nat × List Byte)} (h : s.Inv) : (s.evFlushList kept l).Inv := by
  induction l generalizing s kept with
  | nil => exact h.same
  | cons w l ih => exact .ite (ih h) (.ite (ih h.dropEvent) (.ite (ih h) (ih h.pushEntry)))

theorem evFlush (h : s.Inv) : s.evFlush.Inv := .ite h h.evFlushList

theorem postEvent {scope : Option Nat} {d kind source : Nat} {detail : List Byte} (h : s.Inv) : (s.postEvent scope d kind source detail).Inv :=
  h.logFree.both (·.putEvent) (·.dropEvent)

theorem sendMsi {v : Nat} (h : s.Inv) : (s.sendMsi v).Inv := h.withOut.wr

theorem fireVector {v : Nat} (h : s.Inv) : (s.fireVector v).Inv := .ite h (h.withMsiFired.both (·.setFld) (·.sendMsi))

theorem linkNews {um before : Nat} (h : s.Inv) : (s.linkNews um before).Inv := .ite h h.postEvent

theorem setLink {um state : Nat} (h : s.Inv) : (s.setLink um state).Inv := h.setFld.linkNews

theorem ucErr {um : Nat} {f : Fld} (h : s.Inv) : (s.ucErr um f).Inv := h.sticky.fireVector

theorem accessErrorOn {um : Nat} {ctx : Ctx} {a op : Nat} (h : s.Inv) : (s.accessErrorOn um ctx a op).Inv := h.addFld.wr.ucErr.postEvent

theorem accessError {ctx : Ctx} {a : Nat} (h : s.Inv) : (s.accessError ctx a).Inv := h.accessErrorOn

theorem hbPut {n : Nat} {b : List Byte} (h : s.Inv) : (s.hbPut n b).Inv := .ite h (.ite h.addFld.sticky h.writeBytes.cleanUnits.setFld)

theorem hbLog {n : Nat} {b : List Byte} (h : s.Inv) : (s.hbLog n b).Inv := .ite h.withHbPend (.ite h.holdAccess.withHbPend h.hbPut)

theorem hbFlushList {kept l : List (Nat × List Byte)} (h : s.Inv) : (s.hbFlushList kept l).Inv := by
  induction l generalizing s kept with
  | nil => exact h.same
  | cons w l ih => exact .ite (ih h) (ih h.hbPut)

theorem hbFlush (h : s.Inv) : s.hbFlush.Inv := .ite h h.hbFlushList

theorem hbRecordAt {n kind a pch : Nat} {m : Master} (h : s.Inv) : (s.hbRecordAt n kind a pch m).Inv := (Inv.ite h.logFree h).withHbSeq.hbLog

theorem hbRecord {n kind a : Nat} {m : Master} (h : s.Inv) : (s.hbRecord n kind a m).Inv := h.hbRecordAt

theorem dataLoss {kind a : Nat} (h : s.Inv) : (s.dataLoss kind a).Inv := h.sticky.postEvent

theorem notedError {what which : Nat} (h : s.Inv) : (s.notedError what which).Inv := h.withWelkin

theorem ueMet {kind a : Nat} {m : Master} (h : s.Inv) : (s.ueMet kind a m).Inv :=
  .ite h ((h.sticky.addFld.guard (·.wr)).count.guard (·.notedError)).hbRecord.dataLoss

theorem writeExcept {a : Nat} {skip : List Nat} {l : List Byte} (h : s.Inv) : (s.writeExcept a skip l).Inv := by
  induction l generalizing s a with
  | nil => exact h
  | cons b l ih => exact ih (.ite h h.setByte)

theorem store {a : Nat} {b : List Byte} {m : Master} (h : s.Inv) : (s.store a b m).1.Inv := h.writeExcept.cleanUnits.foldl (·.ueMet)

theorem freeRange {a n : Nat} (h : s.Inv) : (s.freeRange a n).Inv := by
  induction n generalizing s a with
  | zero => exact h
  | succ n ih => exact ih (h.fresh.withMem (swf_sset memDefault h.wf a _))

theorem copySound {src dst n : Nat} {m : Master} (h : s.Inv) : (s.copySound src dst n m).Inv := (h.moveRange.foldl (·.ueMet.freeRange)).cleanUnits

theorem setSyncFlag {t k : Nat} {b : Bool} (h : s.Inv) : (s.setSyncFlag t k b).Inv := .ite h.setFld h.setFld

theorem setCounter {t k v : Nat} (h : s.Inv) : (s.setCounter t k v).Inv := h.setFld

theorem tcFault {t : Nat} {f : Fld} (h : s.Inv) : (s.tcFault t f).Inv := h.sticky

theorem setSyncValue {t o v : Nat} (h : s.Inv) : (s.setSyncValue t o v).Inv := .ite h.setSyncFlag h.setCounter

theorem setSyncLog {t : Nat} {g : SyncLog} (h : s.Inv) : (s.setSyncLog t g).Inv := h.withSync

theorem noteUpdate {t o op value : Nat} (h : s.Inv) : (s.noteUpdate t o op value).Inv := h.setSyncLog

theorem takeObject {t o v : Nat} (h : s.Inv) : (s.takeObject t o v).Inv := h.setSyncLog.setSyncValue

theorem applyUpdate {t obj op value : Nat} (h : s.Inv) : (s.applyUpdate t obj op value).Inv :=
  (Inv.ite h.noteUpdate h).both (·.setSyncFlag)
      (fun h => h.both (·.setSyncFlag) (fun h => h.both (fun h => h.setCounter.guard (·.tcFault)) (fun h => h.both (fun h => h.setCounter.guard
      (·.tcFault)) (fun h => h.guard (·.setCounter)))))

theorem hbCount {ev a n : Nat} {x : Attr} (h : s.Inv) : (s.hbCount ev a n x).Inv := .ite h (h.foldl (·.count))

theorem lcUse {k m : Nat} {x : Attr} (h : s.Inv) : (s.lcUse k m x).Inv := by
  unfold State.lcUse
  exact .ite h.same h.same.addFld.setFld.addFld.count

theorem lcAll {a n : Nat} {x : Attr} (h : s.Inv) : (s.lcAll a n x).Inv := .ite h h.lcUse

theorem lcRead {a n : Nat} {x : Attr} (h : s.Inv) : (s.lcRead a n x).Inv := h.hbCount.hbCount.lcAll

theorem hbRead {a n : Nat} {x : Attr} (h : s.Inv) : (s.hbRead a n x).Inv := .ite h.lcRead h.hbCount

theorem hbWrite {a n : Nat} {x : Attr} (h : s.Inv) : (s.hbWrite a n x).Inv :=
  (h.hbCount.guard (·.lcAll)).foldl (fun h => (Inv.ite h.lcAll h).hbCount.hbCount)

theorem tallyWritten {w : TallyWrite} (h : s.Inv) : (s.tallyWritten w).Inv := h.hbWrite.store.both (·.setFld) (fun h => h.both (·.setFld) (·.setFld))

theorem tallyFlushList {kept l : List TallyWrite} (h : s.Inv) : (s.tallyFlushList kept l).Inv := by
  induction l generalizing s kept with
  | nil => exact h.same
  | cons w l ih => exact .ite (ih h.tallyWritten) (ih h.holdAccess)

theorem tallyFlush (h : s.Inv) : s.tallyFlush.Inv := .ite h h.tallyFlushList

theorem tallyPut {w : TallyWrite} (h : s.Inv) : (s.tallyPut w).Inv := h.withTally.tallyFlush

theorem traceDropped {d k : Nat} (h : s.Inv) : (s.traceDropped d k).Inv := .ite h h.addFld.setFld.addFld

theorem trace {r : TraceRec} (h : s.Inv) : (s.trace r).Inv := .ite h (h.withTally.orElse (fun h => h.both (·.traceDropped) (·.tallyPut)))

theorem debugPut {r : List Byte} (h : s.Inv) : (s.debugPut r).Inv := .ite h.tallyPut (.ite h.tallyPut.tallyPut h.sticky)

theorem dumpRead {a n : Nat} (h : s.Inv) : (s.dumpRead a n).1.Inv := h.hbRead.foldlFst (·.ueMet.fresh)

theorem watchOne {p step : Nat} {wrote : List (Nat × Nat)} {x : DumpOf} {w : Nat} (h : s.Inv) : (s.watchOne p step wrote x w).Inv := by
  unfold State.watchOne
  split
  · exact h
  · exact h.dumpRead.debugPut.setFld.setFld.guard (·.setFld.setFld)

theorem watchWrite {p step : Nat} {wrote : List (Nat × Nat)} {x : DumpOf} (h : s.Inv) : (s.watchWrite p step wrote x).Inv :=
  .ite h (h.foldl (·.watchOne))

theorem haloCount {t : Nat} {m : HaloMsg} (h : s.Inv) : (s.haloCount t m).Inv := .ite h.setTile h

end State.Inv

end Sys2Proof.Machine
end

section

/-! PROOFS. What every step keeps, continued: commands and their ends, and the matrix engines (03 R57 to R78; 04 R86 to R101). -/

namespace Sys2Proof.Machine

namespace State.Inv

variable {s t : State}

theorem takeWait {t : Nat} {c : Cmd} (h : s.Inv) : (s.takeWait t c).Inv := .ite (.ite h.takeObject (.ite h.takeObject h)) h

theorem takeCount {t k n : Nat} (h : s.Inv) : (s.takeCount t k n).Inv := h.takeObject

theorem offer {d ix : Nat} {r : CompRec} (h : s.Inv) : (s.offer d ix r).Inv := h.setHub

theorem offerDone {d : Nat} {r : CompRec} (h : s.Inv) : (s.offerDone d r).Inv := .ite h.offer h.setHub

theorem popHead {t q : Nat} (h : s.Inv) : (s.popHead t q).Inv := h.setTile

theorem stopQueue {t q : Nat} {c : Cmd} {status addr : Nat} (h : s.Inv) : (s.stopQueue t q c status addr).Inv :=
  (h.wr.tcFault.guard (·.setFld)).setTile

theorem endCmd {t q : Nat} {c : Cmd} {status addr detail : Nat} (h : s.Inv) : (s.endCmd t q c status addr detail).Inv :=
  (Inv.ite h.stopQueue h).setTile

theorem endOk {t q : Nat} {c : Cmd} {detail : Nat} {wrote : List (Nat × Nat)} (h : s.Inv) : (s.endOk t q c detail wrote).Inv := h.setTile

theorem slotMark {t q : Nat} (h : s.Inv) : (s.slotMark t q).Inv := h.setTile

theorem slotStart {t q : Nat} {c : Cmd} (h : s.Inv) : (s.slotStart t q c).Inv := .ite h (Inv.ite h.slotMark h).setTile

theorem slotEnd {t q : Nat} {c : Cmd} {status : Nat} (h : s.Inv) : (s.slotEnd t q c status).Inv :=
  h.setTile.guard (fun h => (h.orElse (·.count)).slotMark)

theorem startHead {t q : Nat} {c : Cmd} (h : s.Inv) : (s.startHead t q c).Inv := h.slotStart.popHead.takeWait.trace

theorem signal {t : Nat} {c : Cmd} (h : s.Inv) : (s.signal t c).Inv := .ite h (.ite h.applyUpdate h.sendSig)

theorem launchDone {k : LaunchTrack} (h : s.Inv) : (s.launchDone k).Inv := .ite h.offerDone h

theorem tileFinished {t id : Nat} {abandoned : Bool} (h : s.Inv) : (s.tileFinished t id abandoned).Inv := by
  unfold State.tileFinished
  split
  · exact h
  · exact h.setPart.foldl (·.launchDone)

theorem checkFinished {t id : Nat} {abandoned : Bool} (h : s.Inv) : (s.checkFinished t id abandoned).Inv := .ite h h.tileFinished

theorem vuCommit {t : Nat} {e : Ended} (h : s.Inv) : (s.vuCommit t e).Inv := by
  unfold State.vuCommit
  split
  · exact h
  · exact h.setTile.orElse (fun h => (h.orElse (·.count)).orElse (·.haloCount))

theorem complete {t : Nat} {e : Ended} (h : s.Inv) : (s.complete t e).Inv :=
  ((((Inv.ite h.vuCommit h).count.slotEnd.orElse (·.offer)).trace.guard (·.watchWrite)).guard (·.signal)).setTile.checkFinished

theorem setMe {t e : Nat} {m : MeSt} (h : s.Inv) : (s.setMe t e m).Inv := h.setTile

theorem feedCounts {t : Nat} {f : FeedRun} (h : s.Inv) : (s.feedCounts t f).Inv := h.count.orElse (·.haloCount)

theorem flushRuns {t e : Nat} {l : List (Nat × Cmd × Option FeedRun)} (h : s.Inv) : (s.flushRuns t e l).Inv := by
  unfold State.flushRuns
  refine h.foldl fun h => ?_
  refine endCmd ?_
  split
  · exact h.feedCounts
  · exact h

theorem meFault {t e no : Nat} {c : Cmd} {status addr : Nat} {f : Fld} {peer index row : Nat} (h : s.Inv) :
    (s.meFault t e no c status addr f peer index row).Inv := by
  unfold State.meFault
  dsimp only
  refine flushRuns ?_
  refine endCmd ?_
  refine setMe ?_
  split
  · exact (h.sticky.wr.guard (·.notedError)).feedCounts
  · exact h.sticky.wr.guard (·.notedError)

theorem landOverrun {t e : Nat} {f : FeedRun} (h : s.Inv) : (s.landOverrun t e f).Inv := h.meFault

theorem drainCheck {t e : Nat} (h : s.Inv) : (s.drainCheck t e).Inv := by
  unfold State.drainCheck
  split
  · exact h
  · exact .ite h h.setMe.endOk

theorem landRow {t e : Nat} {f : FeedRun} (h : s.Inv) : (s.landRow t e f).Inv := by
  unfold State.landRow
  split
  · exact h
  · refine .ite h.landOverrun ?_
    split
    · exact h.ueMet.meFault
    · exact h.setMe.both (·.setMe.feedCounts.endOk.drainCheck) (·.setMe)

theorem landAll {fuel t e : Nat} (h : s.Inv) : (State.landAll fuel s t e).Inv := by
  induction fuel generalizing s with
  | zero => exact h
  | succ fuel ih =>
    unfold State.landAll
    split
    · exact h
    · exact ih h.landRow

theorem settle {t : Nat} (h : s.Inv) : (s.settle t).Inv := h.foldl (·.landAll)

theorem feedRead {t e c : Nat} {m0 : MeSt} {f : FeedRun} (h : s.Inv) : (s.feedRead t e c m0 f).Inv := by
  unfold State.feedRead
  dsimp only
  refine .ite h ?_
  refine .ite h.meFault ?_
  refine .ite h.meFault ?_
  refine .ite ?_ h.setMe
  refine .ite h.meFault ?_
  refine .ite h.meFault ?_
  split
  · exact h.ueMet.meFault
  · exact (Inv.ite h h.count).setMe

theorem storeRead {t e : Nat} {m0 : MeSt} (h : s.Inv) : (s.storeRead t e m0).Inv := by
  unfold State.storeRead
  split
  · exact h
  · exact .ite h (.ite h.meFault (.ite h.meFault (.ite h.meFault h.setMe)))

theorem portRead {t e : Nat} {r : PortRun} {off row : Nat} {put : PortRun → MeSt → MeSt} (h : s.Inv) : (s.portRead t e r off row put).Inv := by
  unfold State.portRead
  split
  · exact h.ueMet.meFault
  · exact h.setMe

theorem wloadRead {t e : Nat} (h : s.Inv) : (s.wloadRead t e).Inv := by
  unfold State.wloadRead
  split
  · exact h
  · exact .ite h.meFault h.portRead

theorem convRead {t e : Nat} (h : s.Inv) : (s.convRead t e).Inv := by
  unfold State.convRead
  split
  · exact h
  · dsimp only
    split
    · exact h.portRead
    · exact h.portRead.guard (·.meFault)

theorem overrunCheck {t c e : Nat} {f : FeedRun} (h : s.Inv) : (s.overrunCheck t c e f).Inv := .ite h.landOverrun h

theorem runCycle {t c e : Nat} {m0 : MeSt} {r : Nat × Cmd × Option FeedRun} (h : s.Inv) : (s.runCycle t c e m0 r).Inv := by
  unfold State.runCycle
  refine .ite ?_ h
  split
  · exact h.overrunCheck.feedRead
  · exact .ite h.storeRead (.ite h.wloadRead (.ite h.convRead h))

theorem readCycle {t c e : Nat} {m0 : MeSt} (h : s.Inv) : (s.readCycle t c e m0).Inv := h.foldl (·.runCycle)

theorem clearTags {t c e : Nat} (h : s.Inv) : (s.clearTags t c e).Inv := h.setMe

theorem storeWrite {t e : Nat} (h : s.Inv) : (s.storeWrite t e).Inv := by
  unfold State.storeWrite
  split
  · exact h
  · exact .ite h (h.store.both (·.setMe.endOk) (·.setMe))

theorem wloadWrite {t e : Nat} (h : s.Inv) : (s.wloadWrite t e).Inv := by
  unfold State.wloadWrite
  split
  · exact h
  · exact .ite h (.ite h.setMe.endOk h.setMe)

theorem convLoad {t e : Nat} (h : s.Inv) : (s.convLoad t e).Inv := by
  unfold State.convLoad
  split
  · exact h
  · split
    · exact h
    · exact h.setMe.endOk

theorem writeCycle {t e : Nat} (h : s.Inv) : (s.writeCycle t e).Inv := h.storeWrite.wloadWrite.convLoad.drainCheck

theorem meCycle {t : Nat} (h : s.Inv) : (s.meCycle t).Inv := ((h.settle.foldl (·.clearTags)).foldl (·.readCycle)).foldl (·.writeCycle)

theorem meStart {t e : Nat} {c : Cmd} {link : Bool} (h : s.Inv) : (s.meStart t e c link).Inv := h.startHead.setMe

theorem startFault {t e : Nat} {c : Cmd} {off row : Nat} (h : s.Inv) : (s.startFault t e c off row).Inv := h.meFault

theorem execWload_inv {t e : Nat} (h : s.Inv) : NextInv (execWload t e s) := by
  unfold execWload
  dsimp only
  split
  · exact .next h.settle
  · refine .ite ?_ (.next h.settle)
    split
    · exact .next h.settle.meStart.startFault
    · exact .next h.settle.meStart.setMe

theorem postToken {t e w : Nat} (h : s.Inv) : (s.postToken t e w).Inv := .ite h.setMe h

theorem execFeed_inv {t e : Nat} (h : s.Inv) : NextInv (execFeed t e s) := by
  unfold execFeed
  dsimp only
  split
  · exact .next h.settle
  · refine .ite ?_ (.next h.settle)
    split
    · exact .next h.settle.meStart.postToken.startFault
    · exact .next h.settle.meStart.postToken.setMe

theorem execRowLanding_inv {t e : Nat} (h : s.Inv) : NextInv (execRowLanding t e s) := by
  unfold execRowLanding
  split
  · exact .next h
  · exact .next h.landRow

theorem execStore_inv {t e : Nat} (h : s.Inv) : NextInv (execStore t e s) := by
  unfold execStore
  dsimp only
  split
  · exact .next h.settle
  · refine .ite ?_ (.next h.settle)
    split
    · exact .next h.settle.meStart.startFault
    · exact .next h.settle.meStart.setMe

theorem execDrain_inv {t e : Nat} (h : s.Inv) : NextInv (execDrain t e s) := by
  unfold execDrain
  dsimp only
  split
  · exact .next h.settle
  · exact .next h.settle.meStart.setMe.drainCheck

theorem execConv_inv {t e : Nat} (h : s.Inv) : NextInv (execConv t e s) := by
  unfold execConv
  dsimp only
  split
  · exact .next h.settle
  · exact .ite (.ite (.next h.settle.meStart.startFault) (.next h.settle.meStart.setMe)) (.next h.settle)

theorem execInval_inv {t e : Nat} (h : s.Inv) : NextInv (execInval t e s) := by
  unfold execInval
  dsimp only
  split
  · exact .next h.settle
  · exact .next h.settle.meStart.setMe.endOk

end State.Inv

end Sys2Proof.Machine
end

section

/-! PROOFS. What every step keeps, continued: operands, tiles, power and HBM (03 R54 to R71; 09 R206 to R223; 16 R385). -/

namespace Sys2Proof.Machine

namespace State.Inv

variable {s t : State}

theorem deliver {p : Nat} {c : Cluster} {l : Launch} (h : s.Inv) : (s.deliver p c l).Inv := (h.foldl (·.setTile)).orElse (·.setPart)

theorem consume {d q : Nat} (h : s.Inv) : (s.consume d q).Inv := h.noteCounts.setQueue

theorem execLaunchDelivery_inv {d q : Nat} (h : s.Inv) : NextInv (execLaunchDelivery d q s) := by
  unfold execLaunchDelivery
  split
  · refine .next ?_
    split
    · exact h.holdWork
    · exact h
  · exact .next h
  · refine .ite (.next h.holdAccess) ?_
    split
    · exact .next h.ueMet.consume
    · exact .next ((h.lcRead.consume.withLaunchNo.guard (·.setPart)).foldl (·.deliver))

theorem nextLaunch {t : Nat} (h : s.Inv) : (s.nextLaunch t).Inv := by
  unfold State.nextLaunch
  dsimp only
  split
  · exact h
  · exact .ite h h.setTile.checkFinished

theorem wordDone {t : Nat} (h : s.Inv) : (s.wordDone t).Inv := h.setTile

theorem endInline {t : Nat} {c : Cmd} {status addr detail : Nat} {wrote : List (Nat × Nat)} (h : s.Inv) :
    (s.endInline t c status addr detail wrote).Inv :=
  (Inv.ite h.stopQueue h).setTile.complete.nextLaunch

theorem fetchFault {t p : Nat} {l : Launch} {status addr : Nat} (h : s.Inv) : (s.fetchFault t p l status addr).Inv := h.wordDone.endInline

theorem execCommandFetch_inv {t : Nat} (h : s.Inv) : NextInv (execCommandFetch t s) := by
  unfold execCommandFetch
  dsimp only
  split
  · refine .ite (.next h) ?_
    refine .ite (.next h.complete.nextLaunch) ?_
    refine .ite (.next h) ?_
    split
    · exact .next h.fetchFault
    · refine .ite (.next h.holdAccess) ?_
      split
      · exact .next h.ueMet.fetchFault
      · exact .next h.lcRead.setTile
  · exact .next h

theorem refuse {t : Nat} {c : Cmd} {status : Nat} (h : s.Inv) : (s.refuse t c status).Inv :=
  (h.addFld.tcFault.count.guard (·.count)).offer.trace.setTile

theorem place {t q : Nat} {c : Cmd} (h : s.Inv) : (s.place t q c).Inv := h.setTile.guard (·.count)

theorem execCommandIssue_inv {t : Nat} (h : s.Inv) : NextInv (execCommandIssue t s) := by
  unfold execCommandIssue
  dsimp only
  split
  · exact .ite (.next h) <|
      .ite (.next h.wordDone.refuse.nextLaunch) (.ite (.next h.wordDone.setTile) (.ite (.next h) (.next h.wordDone.place.nextLaunch)))
  · exact .next h

theorem execCompletion_inv {t q : Nat} (h : s.Inv) : NextInv (execCompletion t q s) := by
  unfold execCompletion
  dsimp only
  split
  · exact .next h
  · exact .ite (.next h.setTile.complete) (.next h)

theorem startInline {t : Nat} {c : Cmd} (h : s.Inv) : (s.startInline t c).Inv := .ite h h.slotStart.takeWait.trace.setTile

theorem execSync_inv {t : Nat} (h : s.Inv) : NextInv (execSync t s) := by
  unfold execSync
  split
  · exact .next h
  · exact .next h.startInline.endInline

theorem execFence_inv {t : Nat} (h : s.Inv) : NextInv (execFence t s) := by
  unfold execFence
  split
  · exact .next h
  · exact .ite (.next h.startInline.endInline) (.next h.startInline)

theorem execStamp_inv {t : Nat} (h : s.Inv) : NextInv (execStamp t s) := by
  unfold execStamp
  split
  · exact .next h
  · dsimp only
    split
    · exact .next h.startInline.endInline
    · refine .ite (.next h.startInline.holdAccess) ?_
      split
      · exact .next h.startInline.endInline
      next _ hstore => exact .next (ofFst hstore h.startInline.store).endInline
      next _ hstore => exact .next (ofFst hstore h.startInline.store).hbWrite.endInline

theorem returnCall {t : Nat} {c : Cmd} {status addr detail : Nat} (h : s.Inv) : (s.returnCall t c status addr detail).Inv := h.endInline

theorem returnOk {t : Nat} {c : Cmd} {detail : Nat} (h : s.Inv) : (s.returnOk t c detail).Inv := h.returnCall

theorem returnFault {t : Nat} {c : Cmd} {code index : Nat} (h : s.Inv) : (s.returnFault t c code index).Inv := h.returnCall

theorem beginRoutine {t r : Nat} {vals : List Nat} (h : s.Inv) : (s.beginRoutine t r vals).Inv := h.setTile

theorem enterCall {t : Nat} {c : Cmd} {body : State → List Byte → State} (h : s.Inv) (hbody : ∀ {t x}, t.Inv → (body t x).Inv) :
    (s.enterCall t c body).Inv := by
  unfold State.enterCall
  dsimp only
  split
  · exact h.startInline.returnCall
  · refine .ite h.startInline.holdAccess ?_
    split
    · exact h.startInline.ueMet.returnCall
    · exact hbody h.startInline.hbRead

theorem setRoutine {t : Nat} {k : Routine} (h : s.Inv) : (s.setRoutine t k).Inv := h.setTile

theorem issueFor {t q : Nat} {c : Cmd} {ix w : Nat} (h : s.Inv) : (s.issueFor t q c ix w).Inv := by
  unfold State.issueFor
  split
  · exact h
  · exact h.setTile

theorem routineStep {t : Nat} {c : Cmd} {k : Routine} {go : State → State} (h : s.Inv) (hgo : ∀ {t}, t.Inv → (go t).Inv) :
    (s.routineStep t c k go).Inv := by
  unfold State.routineStep
  split
  · exact hgo h
  · exact .ite h h.returnCall

theorem execNoop_inv {t : Nat} (h : s.Inv) : NextInv (execNoop t s) := by
  unfold execNoop
  split
  · exact .next h
  · exact .next (h.enterCall (·.returnOk))

theorem fillStep {t : Nat} {c : Cmd} {k : Routine} (h : s.Inv) : (s.fillStep t c k).Inv :=
  .ite (.ite h h.returnOk) (.ite h.setRoutine (.ite h h.setRoutine.issueFor))

theorem execFillRoutine_inv {t : Nat} (h : s.Inv) : NextInv (execFillRoutine t s) := by
  unfold execFillRoutine
  split
  · refine .next ?_
    refine h.enterCall fun h => ?_
    refine .ite h.returnFault ?_
    split
    · exact h.returnFault
    · exact h.beginRoutine
  · exact .next (h.routineStep (·.fillStep))
  · exact .next h

theorem resumeQueue {t q : Nat} (h : s.Inv) : (s.resumeQueue t q).Inv := h.setTile

theorem abandon {t id : Nat} (h : s.Inv) : (s.abandon t id).Inv := h.foldl (fun h => .ite h.setPart h)

theorem abandonRunning {t : Nat} (h : s.Inv) : (s.abandonRunning t).Inv := by
  unfold State.abandonRunning
  dsimp only
  split
  · exact h
  · exact h.abandon.setTile.checkFinished

theorem flushQueue {t q : Nat} (h : s.Inv) : (s.flushQueue t q).Inv := ((h.setTile.foldl (·.endCmd)).guard (·.abandonRunning)).resumeQueue

theorem queueCtrl {t resume flush : Nat} (h : s.Inv) : (s.queueCtrl t resume flush).Inv := (h.foldl (·.flushQueue)).foldl (·.resumeQueue)

theorem execResume_inv {ctx : Ctx} {t : Nat} {mask : BitVec 8} (h : s.Inv) : NextInv (execResume ctx t mask s) :=
  .ite (.next h.queueCtrl) (.next h.accessError)

theorem execFlush_inv {ctx : Ctx} {t : Nat} {mask : BitVec 8} (h : s.Inv) : NextInv (execFlush ctx t mask s) :=
  .ite (.next h.queueCtrl) (.next h.accessError)

theorem execEngineRecover_inv {t : Nat} (h : s.Inv) : NextInv (execEngineRecover t s) := by
  unfold execEngineRecover
  split
  · exact .next h
  · exact .next (h.enterCall (fun h => .ite h.returnFault h.queueCtrl.returnOk))

theorem meshWaits {who t : Nat} (h : s.Inv) : EachInv (s.meshWaits who t) := .ite (.some h.holdWork) (.ite (.some h) .none)

theorem execRemoteSignal_inv {src dst : Nat} (h : s.Inv) : NextInv (execRemoteSignal src dst s) := by
  unfold execRemoteSignal
  split
  · exact .next h
  · refine .ite (.next h.same) ?_
    split
    next hwait => exact .next (h.meshWaits _ hwait)
    · exact .next (applyUpdate h.same).count

theorem execRouteDelivery_inv {p : Nat} {route : BitVec 16} (h : s.Inv) : NextInv (execRouteDelivery p route s) := by
  unfold execRouteDelivery
  dsimp only
  split
  · split
    next hwait => exact .next (h.meshWaits _ hwait)
    · exact .next h.setPart.applyUpdate
  · exact .next h

theorem zeroSync {t : Nat} (h : s.Inv) : (s.zeroSync t).Inv := h.same

theorem resetMeRegs {t : Nat} {wide : Bool} (h : s.Inv) : (s.resetMeRegs t wide).Inv := h.foldl (fun h => h.wr.wr.guard (·.wr))

theorem resetTcRegs {t : Nat} {wide : Bool} (h : s.Inv) : (s.resetTcRegs t wide).Inv := (h.wr.wr.foldl (·.wr)).guard (·.wr.wr)

theorem resetTile {t : Nat} {wide : Bool} (h : s.Inv) : (s.resetTile t wide).Inv :=
  (h.foldl (·.abandon)).setTile.zeroSync.resetTcRegs.resetMeRegs.foldl (·.checkFinished)

theorem lanesUp {n : Nat} (h : s.Inv) : (s.lanesUp n).Inv := .ite h h.withPorts.setFld.setFld.setFld.postEvent

theorem powerUpHook {i : Nat} (h : s.Inv) : (s.powerUpHook i).Inv := .ite h.setFld (.ite h.lanesUp (.ite h.setLink h))

theorem beginMove {i to_ : Nat} (h : s.Inv) : (s.beginMove i to_).Inv := h.withPower.setFld

theorem retarget {i : Nat} (h : s.Inv) : (s.retarget i).Inv := by
  unfold State.retarget
  refine .ite h ?_
  refine .ite h.setFld.setFld.setFld.setFld ?_
  split
  · exact h.setFld.setFld.setFld.setFld.guard (·.powerUpHook.beginMove)
  · exact h.setFld.setFld.setFld.setFld.both (·.beginMove) (fun h => h.guard (·.beginMove))
  · exact h.setFld.setFld.setFld.setFld

theorem retargetAll (h : s.Inv) : s.retargetAll.Inv := h.foldl (·.retarget)

theorem imageVote {p : Nat} {doms : List Nat} (h : s.Inv) : (s.imageVote p doms).Inv := h.withPower.retargetAll

theorem imageUnvote {p : Nat} {keep : Nat → Bool} (h : s.Inv) : (s.imageUnvote p keep).Inv := h.withPower.retargetAll

theorem powerEvent {i old new fail : Nat} (h : s.Inv) : (s.powerEvent i old new fail).Inv := h.postEvent

theorem recordMarks (h : s.Inv) : s.recordMarks.Inv := .ite h.fresh.withWelkin h.fresh.sticky.sticky

theorem fenceEvent {die row col unit bank cause : Nat} {logical : Option Nat} (h : s.Inv) : (s.fenceEvent die row col unit bank cause logical).Inv :=
  h.sticky.recordMarks.postEvent

theorem markTile {n bitNo : Nat} (h : s.Inv) : (s.markTile n bitNo).Inv := h.withSpares

theorem flushUnit {t q : Nat} (h : s.Inv) : (s.flushUnit t q).Inv := (Inv.ite h.setMe.flushRuns h).setTile.foldl (·.endCmd)

theorem fenceTileUnit {n unit bank cause : Nat} (h : s.Inv) : (s.fenceTileUnit n unit bank cause).Inv := by
  unfold State.fenceTileUnit
  dsimp only
  refine fenceEvent ?_
  split
  · exact h.markTile.guard (·.flushUnit)
  · exact h.markTile

theorem fenceSeen (h : s.Inv) : s.fenceSeen.Inv := by
  unfold State.fenceSeen
  refine .ite h ?_
  dsimp only
  split
  · exact h.withWelkin
  · exact h.withWelkin.orElse (·.fenceTileUnit)

theorem anvilReport {t : Nat} {c : Cmd} {status addr : Nat} {wrote : List (Nat × Nat)} (h : s.Inv) : (s.anvilReport t c status addr wrote).Inv := by
  unfold State.anvilReport
  dsimp only
  split
  · exact h
  · exact h.setTile.both (·.endCmd) (fun h => h.both (·.endOk) (·.endCmd))

theorem setAnvil {u : Nat} {a : AnvilSt} (h : s.Inv) : (s.setAnvil u a).Inv := h.withAnvils

theorem setHaloAt {u : Nat} {l : List HaloMsg} (h : s.Inv) : (s.setHaloAt u l).Inv := h.withHaloNet

theorem fenceAnvil {u cause : Nat} (h : s.Inv) : (s.fenceAnvil u cause).Inv := by
  unfold State.fenceAnvil
  dsimp only
  refine fenceEvent ?_
  split
  · exact (h.withSpares.setAnvil.foldl (·.anvilReport)).setHaloAt.setHaloAt
  · exact h.withSpares.setAnvil.foldl (·.anvilReport)

theorem fenceHbm {n : Nat} (h : s.Inv) : (s.fenceHbm n).Inv := h.withSpares.fenceEvent.foldl (·.fenceAnvil)

theorem pchCount {a : Nat} {m : Master} (h : s.Inv) : (s.pchCount a m).Inv := h.withPch.guard (·.sticky.hbRecord)

theorem ceMet {onDie : Bool} {a : Nat} {m : Master} (h : s.Inv) : (s.ceMet onDie a m).Inv :=
  .ite (h.count.both (·.addFld) (·.addFld.hbRecord.pchCount)) h

theorem inject {a : Nat} {e : MemError} {m : Master} (h : s.Inv) : (s.inject a e m).Inv := by
  unfold State.inject
  split
  · exact h.ceMet
  · exact h.ceMet
  · exact .ite h h.withUe

theorem trainFail {n code : Nat} (h : s.Inv) : (s.trainFail n code).Inv := h.fresh.fresh.sticky.hbRecordAt

theorem laneRepair {n : Nat} {r : Fin 32 × Fin 32} (h : s.Inv) : (s.laneRepair n r).Inv := h.fresh.wr.hbRecordAt

theorem zeroStack {n : Nat} (h : s.Inv) : (s.zeroStack n).Inv := (h.withMem (cellsZero_wf _ _ h.wf)).same

theorem trainStack {n : Nat} {o : StackTraining} (h : s.Inv) : (s.trainStack n o).Inv :=
  (((h.foldl (·.wr)).foldl (·.trainFail)).foldl (·.wr)).setFld.wr.both (fun h => (h.foldl (·.laneRepair)).setFld.setFld.setFld)
      (·.setFld.setFld.setFld.fenceHbm)

theorem fillStack {n : Nat} (h : s.Inv) : (s.fillStack n).Inv := h.zeroStack.setFld

theorem execInterfaceTraining_inv {n : Nat} {o : StackTraining} (h : s.Inv) : NextInv (execInterfaceTraining n o s) :=
  .ite (.next h.trainStack) (.next h)

theorem execStackReady_inv {n : Nat} (h : s.Inv) : NextInv (execStackReady n s) := .ite (.next h.fillStack) (.next h)

theorem execLcWindow_inv {n : Nat} (h : s.Inv) : NextInv (execLcWindow n s) := .ite (.next h) (.next h.same)

theorem refreshRate {n : Nat} {temp : Int} (h : s.Inv) : (s.refreshRate n temp).Inv := .ite h.setFld (.ite h.setFld h)

theorem execRefresh_inv {n : Nat} {temp : BitVec 16} (h : s.Inv) : NextInv (execRefresh n temp s) := .ite (.next h.refreshRate.count) (.next h)

theorem execSelfRefresh_inv {n : Nat} (h : s.Inv) : NextInv (execSelfRefresh n s) := .ite (.next h.setFld) (.next h)

theorem execPatrolScrub_inv {n : Nat} {e : Option MemError} (h : s.Inv) : NextInv (execPatrolScrub n e s) := by
  unfold execPatrolScrub
  refine .ite ?_ (.next h)
  refine .next ?_
  refine guard ?_ (·.ueMet)
  split
  · exact h.setFld.hbRead.inject
  · exact h.setFld.hbRead

theorem hbLogZero {n : Nat} (h : s.Inv) : (s.hbLogZero n).Inv := h.setFld.setFld

theorem writeLogBase {ctx : Ctx} {n v : Nat} (h : s.Inv) : (s.writeLogBase ctx n v).Inv := .ite h.accessError (.ite h h.setFld.hbLogZero)

theorem execHbLogBase_inv {ctx : Ctx} {n : Nat} {value : Word} (h : s.Inv) : NextInv (execHbLogBase ctx n value s) := .next h.writeLogBase

theorem writeLogCtrl {ctx : Ctx} {n v : Nat} (h : s.Inv) : (s.writeLogCtrl ctx n v).Inv := .ite h.accessError (.ite h.setFld h.setFld.hbLogZero)

theorem execHbLogCtrl_inv {ctx : Ctx} {n : Nat} {value : Word} (h : s.Inv) : NextInv (execHbLogCtrl ctx n value s) := .next h.writeLogCtrl

end State.Inv

end Sys2Proof.Machine
end

section

/-! PROOFS. What every step keeps, continued: the tile DMA, the vector unit and the Anvil units (03 R72 to R75; 07 R153 to R168; 08 R175 to R193). -/

namespace Sys2Proof.Machine

namespace State.Inv

variable {s t : State}

theorem dmaFault {t : Nat} {c : Cmd} {status addr : Nat} (h : s.Inv) : (s.dmaFault t c status addr).Inv := h.startHead.endCmd

theorem dmaBytes {t a n : Nat} {c : Cmd} (h : s.Inv) : (s.dmaBytes t a n c).Inv := .ite h (h.foldl (·.count))

theorem dmaDone {t : Nat} {c : Cmd} {dst n : Nat} (h : s.Inv) : (s.dmaDone t c dst n).Inv := h.dmaBytes.endOk

theorem shuffle {fuel : Nat} {l : List Nat} (h : s.Inv) : (State.shuffle fuel l s).2.Inv := by
  induction fuel generalizing s l with
  | zero => exact h
  | succ fuel ih =>
    unfold State.shuffle
    split
    · exact h
    · exact ih h.fresh

theorem copyRun {src dst : Nat} {m : Master} {ks : List Nat} (h : s.Inv) : (State.copyRun src dst m ks s).1.Inv := by
  induction ks generalizing s with
  | nil => exact h
  | cons k ks ih =>
    unfold State.copyRun
    split
    · exact h.ueMet
    · split
      · exact h
      · exact ih h.writeBytes.cleanUnits

theorem fillRun {dst pattern : Nat} {ks : List Nat} (h : s.Inv) : (State.fillRun dst pattern ks s).1.Inv := by
  induction ks generalizing s with
  | nil => exact h
  | cons k ks ih =>
    unfold State.fillRun
    split
    · exact h
    · exact ih h.writeBytes.cleanUnits

theorem copySectors {src dst k : Nat} {m : Master} (h : s.Inv) : (s.copySectors src dst k m).1.Inv :=
  .iteFst (.iteFst h.moveRange.cleanUnits h.copyRun) h.shuffle.copyRun

theorem execCopy_inv {t : Nat} {errors : List (Nat × MemError)} (h : s.Inv) : NextInv (execCopy t errors s) := by
  unfold execCopy
  split
  · exact .next h
  · dsimp only
    split
    · exact .next h.dmaFault
    · exact .next h.dmaFault
    · split
      · exact .next h.holdAccess
      · exact .next h.holdAccess
      · split
        next hcopy => exact .next (ofFst hcopy (copySectors (hbWrite (hbRead (startHead (h.foldl fun h => .ite h.inject h)))))).endCmd
        next hcopy => exact .next (ofFst hcopy (copySectors (hbWrite (hbRead (startHead (h.foldl fun h => .ite h.inject h)))))).dmaDone

theorem execFill_inv {t : Nat} (h : s.Inv) : NextInv (execFill t s) := by
  unfold execFill
  split
  · exact .next h
  · dsimp only
    split
    · exact .next h.dmaFault
    · split
      · exact .next h.holdAccess
      · split
        next hfill => exact .next (ofFst hfill (fillRun (by split; exacts [h.startHead.hbWrite, h.startHead.hbWrite.shuffle]))).endCmd
        next hfill => exact .next (ofFst hfill (fillRun (by split; exacts [h.startHead.hbWrite, h.startHead.hbWrite.shuffle]))).dmaDone

theorem partly {x : SplitSt} {a : Nat} {l : List (Option Nat × Byte)} (h : s.Inv) : (SplitSt.partly x a l s).Inv := by
  induction l generalizing s a with
  | nil => exact h
  | cons e l ih => exact ih (.ite h.fresh.setByte h.fresh)

theorem freshBytes {n : Nat} (h : s.Inv) : (State.freshBytes n s).2.Inv := by
  induction n generalizing s with
  | zero => exact h
  | succ n ih => exact ih h.fresh

theorem execSplit_inv {t : Nat} (h : s.Inv) : NextInv (execSplit t s) := by
  unfold execSplit
  split
  · exact .next h
  · dsimp only
    split
    · exact .next h.dmaFault
    · refine .ite (.next h.dmaFault) ?_
      split
      · exact .next h.holdAccess
      · exact .next h.holdAccess
      · split
        · exact .next h.startHead.hbRead.partly.ueMet.endCmd
        · exact .next (Inv.iteSnd h.startHead.hbRead.freshBytes h.startHead.hbRead).writeBytes.cleanUnits.dmaDone

theorem routeStart {t : Nat} {c : Cmd} (h : s.Inv) : (s.routeStart t c).Inv := .ite h h.slotStart.takeWait.trace.setTile

theorem routeEnd {t : Nat} (h : s.Inv) : (s.routeEnd t).Inv := h.popHead.setTile

theorem bumpMoved {t : Nat} (h : s.Inv) : (s.bumpMoved t).Inv := h.setTile

theorem sendEntries {t : Nat} {c : Cmd} {r : Route} {k : Nat} (h : s.Inv) : (State.sendEntries t c r k s).1.Inv := by
  induction k generalizing s with
  | zero => exact h
  | succ k ih =>
    unfold State.sendEntries
    dsimp only
    split
    · exact h
    · split
      · exact h.ueMet
      · exact ih h.hbRead.setPart.bumpMoved

theorem recvEntries {t : Nat} {c : Cmd} {r : Route} {k : Nat} (h : s.Inv) : (State.recvEntries t c r k s).1.Inv := by
  induction k generalizing s with
  | zero => exact h
  | succ k ih =>
    unfold State.recvEntries
    dsimp only
    split
    · exact h
    · split
      · exact h
      · exact ih h.setPart.writeBytes.cleanUnits.hbWrite.bumpMoved

theorem routeGo {t : Nat} {c : Cmd} {run : Route → Nat → State → State × Option Nat} {wrote : Nat × Nat} (h : s.Inv)
    (hrun : ∀ {r k u}, u.Inv → (run r k u).1.Inv) : (s.routeGo t c run wrote).Inv := by
  unfold State.routeGo
  dsimp only
  split
  · exact h
  · split
    · exact h.dmaFault
    · exact h.holdAccess
    · split
      next hmoved => exact (ofFst hmoved (hrun h.routeStart)).routeEnd.endCmd
      next hmoved =>
        have hu := ofFst hmoved (hrun h.routeStart)
        exact .ite hu.routeEnd.dmaDone hu

theorem execRouteSend_inv {t : Nat} (h : s.Inv) : NextInv (execRouteSend t s) := by
  unfold execRouteSend
  split
  · exact .next h
  · exact .next (h.routeGo sendEntries)

theorem execRouteRecv_inv {t : Nat} (h : s.Inv) : NextInv (execRouteRecv t s) := by
  unfold execRouteRecv
  split
  · exact .next h
  · exact .next (h.routeGo recvEntries)

theorem vuGo {t : Nat} {c : Cmd} {reads writes : List (Nat × Nat)} {body : State → Option Nat → State} (h : s.Inv)
    (hbody : ∀ {t x}, t.Inv → (body t x).Inv) :
    (s.vuGo t c reads writes body).Inv :=
  .ite h.startHead.endCmd (.ite h.holdAccess (hbody h.startHead))

theorem vuLeave {t : Nat} {v : VuPend} (h : s.Inv) : (s.vuLeave t v).Inv := h.setTile

theorem vuReadFault {t : Nat} {c : Cmd} {u : Nat} {v : VuPend} (h : s.Inv) : (s.vuReadFault t c u v).Inv := h.ueMet.vuLeave.endCmd

theorem vuStore {t : Nat} {m : Master} {l : List VuRes} (h : s.Inv) : (s.vuStore t m l).1.Inv := by
  unfold State.vuStore
  split
  · exact h
  · exact h.store

theorem vuFinish {t : Nat} {c : Cmd} {a b : List VuRes} {xsr : Option Xsr} (h : s.Inv) : (s.vuFinish t c a b xsr).Inv := by
  unfold State.vuFinish
  dsimp only
  split
  · exact h.vuStore.vuStore.vuLeave.endCmd
  · exact h.vuStore.vuStore.vuLeave.endOk

theorem vuSome {t : Nat} {m : Master} {clean : Nat → Bool} {i : Nat} {l : List VuRes} (h : s.Inv) : (State.vuSome t m clean i l s).1.Inv := by
  induction l generalizing s i with
  | nil => exact h
  | cons r l ih =>
    unfold State.vuSome
    dsimp only
    split
    · exact ih h.fresh.store
    · exact ih h.fresh

theorem vuElementwise {t op : Nat} (h : s.Inv) : (s.vuElementwise t op).Inv := by
  unfold State.vuElementwise
  split
  · exact h
  · refine h.vuGo fun h => ?_
    dsimp only
    split
    · exact h.vuSome.vuReadFault
    · exact h.vuFinish

theorem execVuAdd_inv {t : Nat} (h : s.Inv) : NextInv (execVuAdd t s) := .next h.vuElementwise

theorem execVuSub_inv {t : Nat} (h : s.Inv) : NextInv (execVuSub t s) := .next h.vuElementwise

theorem execVuMul_inv {t : Nat} (h : s.Inv) : NextInv (execVuMul t s) := .next h.vuElementwise

theorem execVuFma_inv {t : Nat} (h : s.Inv) : NextInv (execVuFma t s) := .next h.vuElementwise

theorem execVuMax_inv {t : Nat} (h : s.Inv) : NextInv (execVuMax t s) := .next h.vuElementwise

theorem execVuMin_inv {t : Nat} (h : s.Inv) : NextInv (execVuMin t s) := .next h.vuElementwise

theorem execVuCmpLt_inv {t : Nat} (h : s.Inv) : NextInv (execVuCmpLt t s) := .next h.vuElementwise

theorem execVuCmpEq_inv {t : Nat} (h : s.Inv) : NextInv (execVuCmpEq t s) := .next h.vuElementwise

theorem execVuSelect_inv {t : Nat} (h : s.Inv) : NextInv (execVuSelect t s) := .next h.vuElementwise

theorem execVuConvert_inv {t : Nat} (h : s.Inv) : NextInv (execVuConvert t s) := .next h.vuElementwise

theorem execVuExp_inv {t : Nat} (h : s.Inv) : NextInv (execVuExp t s) := .next h.vuElementwise

theorem execVuLog_inv {t : Nat} (h : s.Inv) : NextInv (execVuLog t s) := .next h.vuElementwise

theorem execVuRsqrt_inv {t : Nat} (h : s.Inv) : NextInv (execVuRsqrt t s) := .next h.vuElementwise

theorem execVuRcp_inv {t : Nat} (h : s.Inv) : NextInv (execVuRcp t s) := .next h.vuElementwise

theorem execVuTanh_inv {t : Nat} (h : s.Inv) : NextInv (execVuTanh t s) := .next h.vuElementwise

theorem execVuErf_inv {t : Nat} (h : s.Inv) : NextInv (execVuErf t s) := .next h.vuElementwise

theorem execVuRsum_inv {t : Nat} (h : s.Inv) : NextInv (execVuRsum t s) := by
  unfold execVuRsum
  split
  · exact .next h
  · refine .next ?_
    refine h.vuGo fun h => ?_
    split
    · exact h.vuReadFault
    · exact h.vuFinish

theorem execVuRmax_inv {t : Nat} (h : s.Inv) : NextInv (execVuRmax t s) := by
  unfold execVuRmax
  split
  · exact .next h
  · refine .next ?_
    refine h.vuGo fun h => ?_
    split
    · exact h.vuReadFault
    · exact h.vuFinish

theorem execVuTopk_inv {t : Nat} (h : s.Inv) : NextInv (execVuTopk t s) := by
  unfold execVuTopk
  split
  · exact .next h
  · refine .next ?_
    refine h.vuGo fun h => ?_
    split
    · exact h.vuReadFault
    · exact h.vuFinish

theorem execVuToG32_inv {t : Nat} (h : s.Inv) : NextInv (execVuToG32 t s) := by
  unfold execVuToG32
  split
  · exact .next h
  · refine .next ?_
    refine h.vuGo fun h => ?_
    dsimp only
    split
    · exact h.vuSome.vuReadFault
    · exact h.vuFinish

theorem execVuFromG32_inv {t : Nat} (h : s.Inv) : NextInv (execVuFromG32 t s) := by
  unfold execVuFromG32
  split
  · exact .next h
  · refine .next ?_
    refine h.vuGo fun h => ?_
    dsimp only
    split
    · exact h.vuSome.vuReadFault
    · exact h.vuFinish

theorem execXsrAdd_inv {t : Nat} (h : s.Inv) : NextInv (execXsrAdd t s) := by
  unfold execXsrAdd
  split
  · exact .next h
  · refine .next ?_
    refine h.vuGo fun h => ?_
    split
    · exact h.vuReadFault
    · exact h.vuFinish

theorem execXsrLoadadd_inv {t : Nat} (h : s.Inv) : NextInv (execXsrLoadadd t s) := by
  unfold execXsrLoadadd
  split
  · exact .next h
  · refine .next ?_
    refine h.vuGo fun h => ?_
    split
    · exact h.vuReadFault
    · exact h.vuFinish

theorem execXsrStore_inv {t : Nat} (h : s.Inv) : NextInv (execXsrStore t s) := by
  unfold execXsrStore
  split
  · exact .next h
  · exact .next (h.vuGo (·.vuFinish))

theorem execXsrRound_inv {t : Nat} (h : s.Inv) : NextInv (execXsrRound t s) := by
  unfold execXsrRound
  split
  · exact .next h
  · exact .next (h.vuGo (·.vuFinish))

theorem execXsrClear_inv {t : Nat} (h : s.Inv) : NextInv (execXsrClear t s) := by
  unfold execXsrClear
  split
  · exact .next h
  · exact .next (h.vuGo (·.vuFinish))

theorem execDraw_inv {t : Nat} (h : s.Inv) : NextInv (execDraw t s) := by
  unfold execDraw
  split
  · exact .next h
  · exact .next (h.vuGo (·.vuFinish))

theorem haloLost (h : s.Inv) : s.haloLost.Inv := h.sticky

theorem haloApply {u p step layer : Nat} {d : HaloAdd} (h : s.Inv) : (s.haloApply u p step layer d).Inv := by
  unfold State.haloApply
  dsimp only
  refine .ite h.haloLost ?_
  split
  · exact h.ueMet.haloLost
  · exact .ite h.addFld.sticky h.hbRead.hbWrite.writeBytes.addFld.count

theorem haloDirect {p step layer : Nat} {d : HaloAdd} (h : s.Inv) : (s.haloDirect p step layer d).Inv := by
  unfold State.haloDirect
  refine .ite ?_ h
  split
  · exact h.haloApply
  · exact h.haloLost

theorem execAnvilForward_inv {t : Nat} (h : s.Inv) : NextInv (execAnvilForward t s) := by
  unfold execAnvilForward
  split
  · exact .next h
  · exact .ite (.next h) <|
      .ite (.next h.startHead.endCmd) (.ite (.next h.holdWork) (.ite (.next h) (.next h.startHead.setTile.withForwards.setAnvil)))

theorem anvilTake {u : Nat} {e : Nat × Cmd} (h : s.Inv) : (s.anvilTake u e).Inv := h.setAnvil.count

theorem anvilFault {u t : Nat} {c : Cmd} {f : Fld} {status addr element : Nat} (h : s.Inv) : (s.anvilFault u t c f status addr element).Inv :=
  h.sticky.wr.wr.anvilReport

theorem anvilUe {u t : Nat} {c : Cmd} {bad element : Nat} (h : s.Inv) : (s.anvilUe u t c bad element).Inv := h.ueMet.anvilFault

theorem anvilTraffic {c : Cmd} {reads writes : List (Nat × Nat)} (h : s.Inv) : (s.anvilTraffic c reads writes).Inv :=
  (h.foldl (·.hbRead)).foldl (·.hbWrite)

theorem runUnder {u : Nat} {c : Cmd} {f : State → State} (h : s.Inv) (hf : ∀ {t}, t.Inv → (f t).Inv) : (s.runUnder u c f).Inv := by
  unfold State.runUnder
  split
  · exact .ite (hf h.setPart).setPart (hf h)
  · exact hf h

theorem withDesc {u t : Nat} {c : Cmd} {extents stackNos : UpdDesc → List (Nat × Nat)} {work : State → UpdDesc → State} (h : s.Inv)
    (hwork : ∀ {t x}, t.Inv → (work t x).Inv) :
    (s.withDesc u t c extents stackNos work).Inv := by
  unfold State.withDesc
  dsimp only
  split
  · exact h.anvilTake.anvilFault
  · refine .ite h.holdAccess ?_
    split
    · exact h.anvilTake.anvilUe
    · refine .ite h.anvilTake.anvilFault ?_
      split
      · exact h.anvilTake.anvilFault
      · exact h.anvilTake.anvilFault
      · split
        · exact h.holdAccess
        · split
          · exact h.holdWork
          · exact hwork h.anvilTake

theorem writeMaybe {m : Master} {l : List (Nat × List Byte)} (h : s.Inv) : (State.writeMaybe m l s).Inv := by
  induction l generalizing s with
  | nil => exact h
  | cons e l ih => exact ih (h.foldl fun h => .ite h.fresh h.fresh.store)

theorem updSuperblocks {k : UpdCtx} {c : Cmd} {u fuel j : Nat} {a : HaloAdd} (h : s.Inv) : (State.updSuperblocks k c u fuel j a s).1.Inv := by
  induction fuel generalizing s j a with
  | zero => exact h
  | succ fuel ih =>
    unfold State.updSuperblocks
    split
    · exact h
    · dsimp only
      split
      · exact h.writeMaybe
      · exact ih (h.foldl (·.store)).anvilTraffic.count

theorem updNone {d : UpdDesc} {c : Cmd} {u fuel j : Nat} (h : s.Inv) : (State.updNone d c u fuel j s).1.Inv := by
  induction fuel generalizing s j with
  | zero => exact h
  | succ fuel ih =>
    unfold State.updNone
    dsimp only
    split
    · exact h
    · split
      · exact h.writeMaybe
      · exact ih h.store.anvilTraffic

theorem updEnd {u t : Nat} {c : Cmd} {wrote : List (Nat × Nat)} {fail : Option (Nat × Nat × Bool)} (h : s.Inv) : (s.updEnd u t c wrote fail).Inv := by
  unfold State.updEnd
  split
  · exact h.anvilReport
  · exact h.anvilUe
  · exact (Inv.ite h h.ueMet).anvilFault

theorem updateWork {u t : Nat} {c : Cmd} {d : UpdDesc} (h : s.Inv) : (s.updateWork u t c d).Inv := by
  unfold State.updateWork
  split
  · exact h.anvilUe
  · refine .ite (updEnd h.updNone) (.ite h.anvilUe (updEnd ?_))
    exact orElse (count (addFld h.updSuperblocks)) (·.haloDirect)

theorem execUpdate_inv {u : Nat} (h : s.Inv) : NextInv (execUpdate u s) := by
  unfold execUpdate
  split
  · exact .next h
  · exact .next (h.runUnder (fun h => h.withDesc (·.updateWork)))

theorem normWork {u t : Nat} {c : Cmd} {d : UpdDesc} (h : s.Inv) : (s.normWork u t c d).Inv := by
  unfold State.normWork
  dsimp only
  split
  · exact h.anvilUe
  · split
    · exact h.anvilUe
    · split
      · exact h.anvilFault
      · exact h.writeBytes.cleanUnits.anvilTraffic.anvilReport

theorem execNorm_inv {u : Nat} (h : s.Inv) : NextInv (execNorm u s) := by
  unfold execNorm
  split
  · exact .next h
  · exact .next (h.runUnder (fun h => h.withDesc (·.normWork)))

theorem xorWork {u t : Nat} {c : Cmd} (h : s.Inv) : (s.xorWork u t c).Inv := by
  unfold State.xorWork
  dsimp only
  split
  · exact h.anvilTake.anvilFault
  · exact h.anvilTake.anvilFault
  · split
    · exact h.holdAccess
    · exact h.anvilTake.anvilUe
    · exact h.anvilTake.writeBytes.count.anvilTraffic.anvilReport

theorem execXorAcc_inv {u : Nat} (h : s.Inv) : NextInv (execXorAcc u s) := by
  unfold execXorAcc
  split
  · exact .next h
  · exact .next (h.runUnder (·.xorWork))

theorem haloSettled {t : Nat} (h : s.Inv) : (s.haloSettled t).Inv := h.foldl (·.checkFinished)

theorem execHaloSend_inv {t : Nat} (h : s.Inv) : NextInv (execHaloSend t s) := by
  unfold execHaloSend
  refine .ite ?_ (.next h)
  split
  · exact .next h
  · dsimp only
    split
    · exact .next h.setTile.setHaloAt
    · exact .next h.setTile.haloLost.haloSettled

theorem execHaloMessage_inv {u : Nat} (h : s.Inv) : NextInv (execHaloMessage u s) := by
  unfold execHaloMessage
  split
  · exact .next h
  · refine .ite (.next h.holdWork) (.ite (.next h.holdAccess) (.next (haloSettled ?_)))
    exact .ite h.setHaloAt (.ite h.setHaloAt.haloApply h.setHaloAt.haloLost)

end State.Inv

end Sys2Proof.Machine
end

section

/-! PROOFS. What every step keeps, continued: the Queue hub, images and the loader (10 R230 to R240; 02 R46 to R53). -/

namespace Sys2Proof.Machine

namespace State.Inv

variable {s t : State}

theorem notify {d : Nat} (h : s.Inv) : (s.notify d).Inv := (h.foldl (·.setQueue)).foldl (·.fireVector)

theorem hubEnd {d : Nat} (h : s.Inv) : (s.hubEnd d).Inv := (Inv.ite h.notify h).same

theorem doorbell {ctx : Ctx} {d v : Nat} (h : s.Inv) : (s.doorbell ctx d v).Inv := by
  unfold State.doorbell
  dsimp only
  refine .ite ?_ h.sticky.postEvent
  refine guard ?_ (·.setQueue)
  refine .ite h ?_
  refine .ite ?_ h.noteCounts.setQueue
  refine orElse ?_ (·.advanceProd)
  split
  · exact h.setQueue
  · exact h

theorem execDoorbell_inv {ctx : Ctx} {d : Nat} {value : Word} (h : s.Inv) : NextInv (execDoorbell ctx d value s) := by
  unfold execDoorbell
  split
  · exact .next h.accessError
  · exact .next h.doorbell

theorem entryTypeCheck {p d q : Nat} (h : s.Inv) : (s.entryTypeCheck p d q).Inv := by
  unfold State.entryTypeCheck
  dsimp only
  refine .ite ?_ h
  split
  · exact h
  · exact h.foldl (·.tcFault)

theorem enableRefused {o : Option Nat} {d q w0 : Nat} (h : s.Inv) : (s.enableRefused o d q w0).Inv := h.setQueue.sticky.postEvent

theorem writeDesc0 {ctx : Ctx} {d v : Nat} (h : s.Inv) : (s.writeDesc0 ctx d v).Inv := by
  unfold State.writeDesc0
  split
  · exact h.accessError
  · refine .ite h.accessError ?_
    refine .ite (.ite h.setQueue.retargetAll h.accessError) ?_
    refine .ite ?_ h.setQueue
    refine .ite ?_ h.setQueue.enableRefused
    refine retargetAll ?_
    split
    · exact h.setQueue.setQueue.entryTypeCheck
    · exact h.setQueue.setQueue

theorem execEnable_inv {ctx : Ctx} {d : Nat} {value : Word} (h : s.Inv) : NextInv (execEnable ctx d value s) := .next h.writeDesc0

theorem writeDesc1 {ctx : Ctx} {d v : Nat} (h : s.Inv) : (s.writeDesc1 ctx d v).Inv := by
  unfold State.writeDesc1
  split
  · exact h.accessError
  · exact .ite h.accessError (.ite h.accessError h.setQueue)

theorem writeDesc2 {ctx : Ctx} {d v : Nat} (h : s.Inv) : (s.writeDesc2 ctx d v).Inv := by
  unfold State.writeDesc2
  split
  · exact h.accessError
  · exact .ite h.accessError (.ite h.accessError h.setQueue)

theorem writeWctrl {ctx : Ctx} {d v : Nat} (h : s.Inv) : (s.writeWctrl ctx d v).Inv := by
  unfold State.writeWctrl
  split
  · exact h.accessError
  · exact .ite h.accessError (Inv.ite h.forgetCounts h).setQueue

theorem execQhWctrlArm_inv {ctx : Ctx} {d : Nat} (h : s.Inv) : NextInv (execQhWctrlArm ctx d s) := .next h.writeWctrl

theorem execDisarm_inv {ctx : Ctx} {d : Nat} (h : s.Inv) : NextInv (execDisarm ctx d s) := .next h.writeWctrl

theorem execQhWctrlReset_inv {ctx : Ctx} {d : Nat} (h : s.Inv) : NextInv (execQhWctrlReset ctx d s) := .next h.writeWctrl

theorem writeWevq {ctx : Ctx} {d v : Nat} (h : s.Inv) : (s.writeWevq ctx d v).Inv := by
  unfold State.writeWevq
  split
  · exact h.accessError
  · exact h.setWindow

theorem writeWsel {ctx : Ctx} {d v : Nat} (h : s.Inv) : (s.writeWsel ctx d v).Inv := by
  unfold State.writeWsel
  split
  · exact h.accessError
  · exact h.setWindow

theorem redirect {d : Nat} {r : CompRec} (h : s.Inv) : (s.redirect d r).Inv := h.sticky.postEvent

theorem hubWrite {d n : Nat} {l : List CompRec} (h : s.Inv) : (s.hubWrite d n l).1.Inv := by
  induction n generalizing s l with
  | zero => exact h
  | succ n ih =>
    cases l with
    | nil => exact h
    | cons r l =>
      unfold State.hubWrite
      split
      · exact h
      · exact ih h.redirect
      · dsimp only
        split
        · exact h.holdAccess
        · exact ih h.hbWrite.pushEntry

theorem execHubCycle_inv {d : Nat} (h : s.Inv) : NextInv (execHubCycle d s) :=
  .ite (.next h) (.next (Inv.ite h.addFld h.addFld).setHub.addFld.hubWrite.setHub.setFld.setFld.hubEnd)

theorem drainHub {d p n : Nat} (h : s.Inv) : (s.drainHub d p n).Inv := by
  induction n generalizing s with
  | zero => exact h
  | succ n ih =>
    refine ih (h.foldl fun h => ?_)
    split
    · exact .ite h.setHub.addFld.pushEntry h
    · exact h

theorem resetQueue {d q : Nat} (h : s.Inv) : (s.resetQueue d q).Inv := h.forgetCounts.setQueue

theorem resetChanged {before : State} (h : s.Inv) : (s.resetChanged before).Inv := h.foldl (fun h => .ite h h.resetQueue)

theorem setStage {p v : Nat} (h : s.Inv) : (s.setStage p v).Inv := h.setFld

theorem refuseImage {p : Nat} {r : Refuse} (h : s.Inv) : (s.refuseImage p r).Inv := h.setFld.setFld.setFld.addFld.fireVector

theorem setMeas {reg : Nat → Nat} {m : BitVec 512} (h : s.Inv) : (s.setMeas reg m).Inv := h.foldl (·.wr)

theorem loadPolicy (h : s.Inv) : s.loadPolicy.Inv := by
  unfold State.loadPolicy
  dsimp only
  split
  · exact h.setFld
  · exact h.setFld.setFld.setFld.setFld.setFld

theorem settleRecords (h : s.Inv) : s.settleRecords.Inv := .ite h h.withWelkin.loadPolicy

theorem loadImage {ctx : Ctx} {p : Nat} (h : s.Inv) : (s.loadImage ctx p).Inv := .ite h.refuseImage h.setStage.setPart

theorem execLoad_inv {ctx : Ctx} {p : Nat} (h : s.Inv) : NextInv (execLoad ctx p s) := .ite (.next h.loadImage) (.next h.accessError)

theorem loadRefused {p : Nat} {r : Refuse} (h : s.Inv) : (s.loadRefused p r).Inv := h.setStage.refuseImage

theorem execLoadCheckDone_inv {p : Nat} (h : s.Inv) : NextInv (execLoadCheckDone p s) := by
  unfold execLoadCheckDone
  dsimp only
  refine .ite (.next h) ?_
  refine .ite (.next h.loadRefused) ?_
  refine .ite (.next h.loadRefused) ?_
  refine .ite (.next h.holdAccess) ?_
  split
  · exact .next h.ueMet.loadRefused
  · split
    · exact .next h.hbRead.loadRefused
    · exact .next h.hbRead.setPart.setStage.setMeas

theorem writeRouting {p : Nat} {img : Image} (h : s.Inv) : (s.writeRouting p img).Inv := .ite h h.withRouter.setFld.setPart

theorem armed {p t : Nat} {removal : Bool} (h : s.Inv) : (s.armed p t removal).Inv := h.setPart.wr.setStage

theorem armImage {p : Nat} (h : s.Inv) : (s.armImage p).Inv := by
  unfold State.armImage
  split
  · refine .ite h.refuseImage ?_
    split
    · exact h.refuseImage
    · split
      · exact h.refuseImage
      · exact h.writeRouting.armed
  · exact h.refuseImage

theorem execArm_inv {ctx : Ctx} {p : Nat} (h : s.Inv) : NextInv (execArm ctx p s) := .ite (.next h.armImage) (.next h.accessError)

theorem abortStaged {p : Nat} (h : s.Inv) : (s.abortStaged p).Inv := .ite h.setPart.setStage.setMeas.addFld.settleRecords h.refuseImage

theorem execAbortImage_inv {ctx : Ctx} {p : Nat} (h : s.Inv) : NextInv (execAbortImage ctx p s) := .ite (.next h.abortStaged) (.next h.accessError)

theorem unloadImage {p : Nat} (h : s.Inv) : (s.unloadImage p).Inv := by
  unfold State.unloadImage
  split
  · split
    · exact h.armed
    · exact h.refuseImage
  · exact h.refuseImage

theorem execUnload_inv {ctx : Ctx} {p : Nat} (h : s.Inv) : NextInv (execUnload ctx p s) := .ite (.next h.unloadImage) (.next h.accessError)

theorem switchTile {t : Nat} (h : s.Inv) : (s.switchTile t).1.Inv := (h.setTile.foldl (fun h => h.foldl (·.endCmd))).foldl (·.endCmd)

theorem beginSwitch {p : Nat} (h : s.Inv) : (s.beginSwitch p).Inv := by
  unfold State.beginSwitch
  exact setStage (setPart (foldlFst h.setPart (·.switchTile)))

theorem execActivation_inv {p : Nat} (h : s.Inv) : NextInv (execActivation p s) := by
  unfold execActivation
  dsimp only
  split
  · split
    · exact .next h.setStage.refuseImage.settleRecords
    · exact .next h.setStage.refuseImage.settleRecords
    · exact .next h.setStage.refuseImage.settleRecords
    · exact .next h.setPart.beginSwitch
  · exact .next h

theorem execUnloadSwitch_inv {p : Nat} (h : s.Inv) : NextInv (execUnloadSwitch p s) := .ite (.next h.beginSwitch) (.next h)

theorem switchRecords {p : Nat} (h : s.Inv) : (s.switchRecords p).Inv := (((h.foldl (·.drainHub)).foldl (·.launchDone)).foldl (·.drainHub)).setPart

theorem dropStreams {p : Nat} (h : s.Inv) : (s.dropStreams p).Inv := h.addFld.addFld.setPart

theorem clearEngines {t : Nat} (h : s.Inv) : (s.clearEngines t).Inv := h.setTile

theorem recount {before : State} (h : s.Inv) : (s.recount before).Inv := h.withTally

theorem watchLookup {w : Nat} (h : s.Inv) : (s.watchLookup w).Inv := by
  unfold State.watchLookup
  dsimp only
  split
  · exact h.withTally.setFld
  · exact h.setFld.sticky

theorem relookWatches {p : Nat} (h : s.Inv) : (s.relookWatches p).Inv := h.foldl (fun h => .ite h.watchLookup h)

theorem setShares {p : Nat} {l : List Share} (h : s.Inv) : (s.setShares p l).Inv := h.withRouter

theorem writeRwl {p : Nat} {img : Image} (h : s.Inv) : (s.writeRwl p img).Inv := by
  unfold State.writeRwl
  dsimp only
  refine (h.foldl (·.setFld)).foldl fun h => ?_
  split
  · exact h.wr
  · exact h

theorem voteImage {p : Nat} {img : Image} {regions : Nat} (h : s.Inv) : (s.voteImage p img regions).Inv := h.imageUnvote.imageVote

theorem flushReports (h : s.Inv) : s.flushReports.Inv := by
  unfold State.flushReports
  refine h.foldl fun h => ?_
  split
  · exact .ite h.setPart.store h.holdAccess
  · exact h

theorem putReport {p : Nat} {b : List Byte} (h : s.Inv) : (s.putReport p b).Inv := .ite h (.ite h.setPart h.accessError)

theorem switchDone {p : Nat} {active : Bool} {slice : Nat} {m : BitVec 512} (h : s.Inv) : (s.switchDone p active slice m).Inv :=
  h.setStage.setFld.setFld.wr.setMeas

theorem checkEntries {p : Nat} {img : Image} (h : s.Inv) : (s.checkEntries p img).Inv := h.foldl (·.entryTypeCheck)

theorem installImage {p : Nat} {img : Image} (h : s.Inv) : (s.installImage p img).Inv :=
  voteImage (relookWatches (withZenith (recount (resetChanged (setFld (setShares (writeRwl
    (h.switchRecords.dropStreams.setPart.setFld.foldl (·.zeroSync.clearEngines)))))))))

theorem execActivationDone_inv {p : Nat} (h : s.Inv) : NextInv (execActivationDone p s) := by
  unfold execActivationDone
  split
  · exact .next h.installImage.switchDone.setMeas.addFld.putReport.checkEntries.flushReports.fireVector.settleRecords
  · exact .next h

theorem removeImage {p : Nat} (h : s.Inv) : (s.removeImage p).Inv :=
  (h.foldl (·.zeroSync)).setPart.resetChanged.recount.setShares.relookWatches.imageUnvote

theorem execUnloadDone_inv {p : Nat} (h : s.Inv) : NextInv (execUnloadDone p s) := by
  unfold execUnloadDone
  split
  · exact .next h.switchRecords.dropStreams.putReport.removeImage.switchDone.addFld.flushReports.fireVector.settleRecords
  · exact .next h

theorem forcePass {ctx : Ctx} {v : Nat} (h : s.Inv) : (s.forcePass ctx v).Inv := by
  unfold State.forcePass
  split
  · exact .ite h.addFld h.setFld
  · exact .ite h.addFld h.setFld
  · exact h.accessError

theorem execForcePass_inv {ctx : Ctx} {value : Word} (h : s.Inv) : NextInv (execForcePass ctx value s) := .next h.forcePass

end State.Inv

end Sys2Proof.Machine
end

section

/-! PROOFS. What every step keeps, continued: election, packets, ports and the router (11 R254 to R288). -/

namespace Sys2Proof.Machine

namespace State.Inv

variable {s t : State}

theorem znErr {f : Fld} (h : s.Inv) : (s.znErr f).Inv := h.sticky

theorem setZnState {st : Nat} (h : s.Inv) : (s.setZnState st).Inv := .ite h (h.setFld.guard (·.znErr)).withZenith.postEvent

theorem elect (h : s.Inv) : s.elect.Inv := by
  unfold State.elect
  dsimp only
  refine .ite ?_ ?_
  · refine orElse ?_ (·.setZnState)
    refine orElse ?_ (·.withZenith)
    refine guard ?_ (·.znErr)
    refine orElse ?_ (·.wr.znErr)
    refine .ite ?_ ?_
    · split
      · exact .ite h.setFld.setFld.setFld h.setFld
      · exact h.setFld
    · split
      · refine setFld ?_
        refine setFld ?_
        split
        · exact .ite h.setFld.setFld.setFld h.setFld
        · exact h.setFld
      · refine setFld ?_
        refine setFld ?_
        split
        · exact .ite h.setFld.setFld.setFld h.setFld
        · exact h.setFld
  · refine .ite ?_ ?_
    · refine setZnState ?_
      refine orElse ?_ (·.withZenith)
      refine guard ?_ (·.znErr)
      refine orElse ?_ (·.wr.znErr)
      refine .ite ?_ ?_
      · split
        · exact .ite h.setFld.setFld.setFld h.setFld
        · exact h.setFld
      · split
        · refine setFld ?_
          refine setFld ?_
          split
          · exact .ite h.setFld.setFld.setFld h.setFld
          · exact h.setFld
        · refine setFld ?_
          refine setFld ?_
          split
          · exact .ite h.setFld.setFld.setFld h.setFld
          · exact h.setFld
    · split
      · refine setZnState ?_
        refine orElse ?_ (·.withZenith)
        refine guard ?_ (·.znErr)
        refine orElse ?_ (·.wr.znErr)
        refine .ite ?_ ?_
        · split
          · exact .ite h.setFld.setFld.setFld h.setFld
          · exact h.setFld
        · split
          · refine setFld ?_
            refine setFld ?_
            split
            · exact .ite h.setFld.setFld.setFld h.setFld
            · exact h.setFld
          · refine setFld ?_
            refine setFld ?_
            split
            · exact .ite h.setFld.setFld.setFld h.setFld
            · exact h.setFld
      · refine setZnState ?_
        refine orElse ?_ (·.withZenith)
        refine guard ?_ (·.znErr)
        refine orElse ?_ (·.wr.znErr)
        refine .ite ?_ ?_
        · split
          · exact .ite h.setFld.setFld.setFld h.setFld
          · exact h.setFld
        · split
          · refine setFld ?_
            refine setFld ?_
            split
            · exact .ite h.setFld.setFld.setFld h.setFld
            · exact h.setFld
          · refine setFld ?_
            refine setFld ?_
            split
            · exact .ite h.setFld.setFld.setFld h.setFld
            · exact h.setFld
      · refine orElse ?_ (·.withZenith)
        refine guard ?_ (·.znErr)
        refine orElse ?_ (·.wr.znErr)
        refine .ite ?_ ?_
        · split
          · exact .ite h.setFld.setFld.setFld h.setFld
          · exact h.setFld
        · split
          · refine setFld ?_
            refine setFld ?_
            split
            · exact .ite h.setFld.setFld.setFld h.setFld
            · exact h.setFld
          · refine setFld ?_
            refine setFld ?_
            split
            · exact .ite h.setFld.setFld.setFld h.setFld
            · exact h.setFld

theorem zenithPortLeft {n : Nat} (h : s.Inv) : (s.zenithPortLeft n).Inv := h.withZenith.guard (·.elect)

theorem setPort {n : Nat} {x : PortSt} (h : s.Inv) : (s.setPort n x).Inv := h.withPorts

theorem klErr {n : Nat} {f : Fld} (h : s.Inv) : (s.klErr n f).Inv := h.sticky

theorem klEvent {n kind : Nat} {detail : List Byte} (h : s.Inv) : (s.klEvent n kind detail).Inv := h.postEvent

theorem portTo {n st : Nat} (h : s.Inv) : (s.portTo n st).Inv := (h.setPort.setFld.setFld.guard (·.zenithPortLeft)).orElse (·.klEvent)

theorem klDiscard {n : Nat} {k : Packet} (h : s.Inv) : (s.klDiscard n k).Inv := (Inv.ite h.addFld (.ite h.addFld h)).count

theorem dropLink {n : Nat} (h : s.Inv) : (s.dropLink n).Inv := (h.foldl (·.klDiscard)).setPort

theorem refillPort {n : Nat} (h : s.Inv) : (s.refillPort n).Inv := by
  unfold State.refillPort
  dsimp only
  refine h.foldl fun h => ?_
  split
  · exact h.withRouter
  · exact h

theorem setWidths {n : Nat} (h : s.Inv) : (s.setWidths n).Inv := h.refillPort.setFld.setFld.setFld.setFld

theorem setRx {i c : Nat} {l : List Packet} (h : s.Inv) : (s.setRx i c l).Inv := h.withRouter

theorem freeRx {i c k : Nat} (h : s.Inv) : (s.freeRx i c k).Inv := .ite h.setPort h

theorem setEg {n c : Nat} {l : List EgPkt} (h : s.Inv) : (s.setEg n c l).Inv := h.withRouter

theorem setInbox {kind : Nat} {l : List (Nat × Packet)} (h : s.Inv) : (s.setInbox kind l).Inv := h.withRouter

theorem injectNow {k : Packet} (h : s.Inv) : (s.injectNow k).Inv := h.withRouter.setRx

theorem injectPacket {k : Packet} (h : s.Inv) : (s.injectPacket k).Inv := .ite h.withRouter h.injectNow

theorem routeDiscard {cause ingress : Nat} {k : Packet} (h : s.Inv) : (s.routeDiscard cause ingress k).Inv :=
  (Inv.ite h.addFld h.addFld).sticky.orElse (·.withRouter.postEvent)

theorem sendLinkLocal {n : Nat} {k : Packet} (h : s.Inv) : (s.sendLinkLocal n k).Inv := .ite h.routeDiscard h.withRouter.setEg

theorem putDone {r : DoneRec} (h : s.Inv) : EachInv (s.putDone r) :=
  have haway : (State.putDone.away r s).Inv := h.sticky.postEvent
  .ite .none (.ite (.some haway) (.ite .none (.ite (.some haway) (.ite .none (.some h.pushEntry)))))

theorem away {r : DoneRec} (h : s.Inv) : (State.putDone.away r s).Inv := h.sticky.postEvent

theorem putDones {l : List DoneRec} (h : s.Inv) : (s.putDones l).1.Inv := by
  induction l generalizing s with
  | nil => exact h
  | cons r l ih =>
    unfold State.putDones
    split
    next hput => exact ih (h.putDone _ hput)
    · exact ih h

theorem setCause {n c : Nat} (h : s.Inv) : (s.setCause n c).Inv := h.setFld

theorem setCheck {n c : Nat} (h : s.Inv) : (s.setCheck n c).Inv := h.setFld

theorem startDetect {n : Nat} {back : Option Nat} (h : s.Inv) : (s.startDetect n back).Inv := h.setPort.setFld.setFld.portTo

theorem portTrainFail {n cause : Nat} (h : s.Inv) : (s.portTrainFail n cause).Inv := h.dropLink.klErr.setCause.portTo

theorem execDetect_inv {n : Nat} {signal : BitVec 9} (h : s.Inv) : NextInv (execDetect n signal s) :=
  .ite (.next ((Inv.ite h h.klErr).both (·.setCause) (·.startDetect.setCause)).portTo) (.next h)

theorem execEqualise_inv {n : Nat} {failed : BitVec 9} {values : List Nat} (h : s.Inv) : NextInv (execEqualise n failed values s) :=
  .ite (.next h.setPort.setFld.portTo) (.next h)

theorem sendControl {n : Nat} {b : List Byte} (h : s.Inv) : (s.sendControl n b).Inv := h.withOut

theorem enterDiscover {n : Nat} (h : s.Inv) : (s.enterDiscover n).Inv := h.setPort.portTo

theorem execLock_inv {n : Nat} {failed : BitVec 9} (h : s.Inv) : NextInv (execLock n failed s) :=
  .ite (.ite (.next h.setFld.setWidths.portTrainFail) (.next h.setFld.setWidths.enterDiscover)) (.next h)

theorem execDiscover_inv {n : Nat} {flit : List Byte} {age : Nat} (h : s.Inv) : NextInv (execDiscover n flit age s) := by
  unfold execDiscover
  refine .ite (.next h) ?_
  dsimp only
  split
  · exact .next h.setPort
  · refine .ite ?_ (.next h.setPort)
    split
    · exact .next h.wr.wr.setFld.klEvent.setPort.portTo
    · exact .next ((h.wr.wr.setFld.klEvent.setPort.setCheck.setCause.orElse (·.klErr)).orElse (·.setPort)).portTo

theorem execTrainTimeout_inv {n : Nat} (h : s.Inv) : NextInv (execTrainTimeout n s) := .ite (.next h.portTrainFail) (.next h)

theorem execNoPartner_inv {n : Nat} (h : s.Inv) : NextInv (execNoPartner n s) := .ite (.next h.dropLink.setCause.portTo) (.next h)

theorem execAutoRetrain_inv {n : Nat} (h : s.Inv) : NextInv (execAutoRetrain n s) := .ite (.next h.startDetect) (.next h)

theorem admitPort {n : Nat} (h : s.Inv) : (s.admitPort n).Inv := .ite h.portTo h.klErr

theorem recheck {n : Nat} (h : s.Inv) : (s.recheck n).Inv := .ite h.setPort.enterDiscover h

theorem retrain {n : Nat} (h : s.Inv) : (s.retrain n).Inv := .ite h (.ite h.setPort h.startDetect.setCause)

theorem disablePort {n : Nat} (h : s.Inv) : (s.disablePort n).Inv := h.dropLink.setCause.portTo

theorem disable {n : Nat} (h : s.Inv) : (s.disable n).Inv := h.setPort.disablePort

theorem execAdmitPort_inv {ctx : Ctx} {n : Nat} (h : s.Inv) : NextInv (execAdmitPort ctx n s) := .next (.ite h.admitPort h.accessError)

theorem execRecheck_inv {ctx : Ctx} {n : Nat} (h : s.Inv) : NextInv (execRecheck ctx n s) := .next (.ite h.recheck h.accessError)

theorem execRetrain_inv {ctx : Ctx} {n : Nat} (h : s.Inv) : NextInv (execRetrain ctx n s) := .next (.ite h.retrain h.accessError)

theorem execDisable_inv {ctx : Ctx} {n : Nat} (h : s.Inv) : NextInv (execDisable ctx n s) := .next (.ite h.disable h.accessError)

theorem beginPort {n : Nat} (h : s.Inv) : (s.beginPort n).Inv := .ite h.startDetect h

theorem writePlan {n v : Nat} (h : s.Inv) : (s.writePlan n v).Inv := h.setFld.setFld.setFld.setFld.setFld.beginPort

theorem execKlPlan_inv {ctx : Ctx} {n : Nat} {value : Word} (h : s.Inv) : NextInv (execKlPlan ctx n value s) := .next (.ite h.writePlan h.accessError)

theorem laneErrors {n lane k : Nat} (h : s.Inv) : (s.laneErrors n lane k).Inv := h.setPort.addFld.guard (·.setFld)

theorem flitIn {n chan : Nat} {flit : List Byte} (h : s.Inv) : (s.flitIn n chan flit).Inv := h.setPort.count.orElse (·.setPort.count.setRx)

theorem lostFlits {n : Nat} (h : s.Inv) : (s.lostFlits n).Inv := h.setPort

theorem slotIn {n : Nat} {x : Slot} (h : s.Inv) : (s.slotIn n x).Inv := by
  unfold State.slotIn
  split
  · exact h
  · exact h.lostFlits
  · exact h.setPort
  · exact .ite h.flitIn h

theorem execCodeword_inv {n : Nat} {fec : Fec} {errors : List Nat} {slots : List Slot} (h : s.Inv) : NextInv (execCodeword n fec errors slots s) := by
  unfold execCodeword
  dsimp only
  refine .ite ?_ (.next h)
  split
  · exact .next (h.foldl (fun h => .ite h h.laneErrors)).setPort.addFld.count.lostFlits
  · exact .next (((h.foldl (fun h => .ite h h.laneErrors)).setPort.guard (·.addFld.count)).foldl (·.slotIn))

theorem stampControl {n arrival tx : Nat} (h : s.Inv) : (s.stampControl n arrival tx).Inv := .ite h h.withZenith

theorem execControlFlit_inv {n : Nat} (h : s.Inv) : NextInv (execControlFlit n s) := by
  unfold execControlFlit
  dsimp only
  split
  · exact .next h
  · exact .ite (.next h) <|
      .ite (.next h.setPort.stampControl) <|
      .ite (.next h.setPort) (.ite (.next h.setPort.stampControl.setFld.setWidths) (.next h.setPort.stampControl))

theorem failRx {n lane : Nat} (h : s.Inv) : (s.failRx n lane).Inv := .ite h h.setFld.klErr.klEvent

theorem execLaneFailed_inv {n lane : Nat} {lockLost : Bool} (h : s.Inv) : NextInv (execLaneFailed n lane lockLost s) := by
  unfold execLaneFailed
  extract_lets x m w tooMany failed f widened
  have hwidened : widened.Inv := h.failRx.guard (·.setWidths)
  exact .ite (.ite (.next hwidened.dropLink.setWidths.setCause.portTo) (.ite (.next hwidened.setPort) (.next hwidened.setPort))) (.next h)

theorem execDegradeRetrain_inv {n : Nat} {failedRx failedTx : BitVec 9} (h : s.Inv) : NextInv (execDegradeRetrain n failedRx failedTx s) := by
  unfold execDegradeRetrain
  extract_lets x st failed noted retrained
  have hretrained : retrained.Inv := (h.foldl (·.failRx)).setFld.setWidths.setPort
  exact .ite (.ite (.next hretrained.portTrainFail) (.ite (.next hretrained.startDetect.setCause) (.next hretrained.enterDiscover))) (.next h)

theorem linkSent {n kind : Nat} (h : s.Inv) : (s.linkSent n kind).Inv := (Inv.ite h.addFld h).setPort.sendControl

theorem controlSlot {n : Nat} (h : s.Inv) : (s.controlSlot n).Inv := .ite h.sendControl (h.linkSent.setPort.guard (·.startDetect.setCause))

theorem portTick {n : Nat} (h : s.Inv) : (s.portTick n).Inv := .ite (.ite h.setPort h.setPort.count.count.controlSlot) h

theorem execSleep_inv {n : Nat} (h : s.Inv) : NextInv (execSleep n s) := .ite (.next h.setPort.portTo) (.next h)

theorem execWakeFlit_inv {n : Nat} (h : s.Inv) : NextInv (execWakeFlit n s) :=
  .ite (.next ((h.setPort.orElse (·.linkSent)).guard (·.beginMove)).portTo) (.next h)

theorem contrailEvent {n kind serial : Nat} (h : s.Inv) : (s.contrailEvent n kind serial).Inv := h.klErr.klEvent

theorem lifeFlags {n : Nat} (h : s.Inv) : (s.lifeFlags n).Inv := by
  unfold State.lifeFlags
  split
  · exact h
  · exact (h.setFld.guard (·.setFld.contrailEvent)).guard (·.setFld.contrailEvent)

theorem execInserted_inv {n : Nat} {m : Medium} (h : s.Inv) : NextInv (execInserted n m s) := by
  unfold execInserted
  refine .ite (.next h) ?_
  split
  · exact .next h.setPort.setFld.beginPort
  · exact .ite (.next h.setPort.setFld.contrailEvent.lifeFlags.beginPort) <|
      .next h.setPort.setFld.contrailEvent.lifeFlags.contrailEvent.dropLink.setCause.portTo

theorem execContrailSensors_inv {n : Nat} {temp vcc : BitVec 16} {bias : List Nat} {power : List (Nat × Nat)} (h : s.Inv) :
    NextInv (execContrailSensors n temp vcc bias power s) := by
  unfold execContrailSensors
  split
  · exact .next h
  · exact .next ((h.setFld.setFld.setFld.setFld.withSensors.fresh.setPort.lifeFlags.guard (·.setFld.contrailEvent)).guard (·.setFld.contrailEvent))

theorem execHoursWrite_inv {n : Nat} (h : s.Inv) : NextInv (execHoursWrite n s) := by
  unfold execHoursWrite
  split
  · exact .next h
  · exact .ite (.next h.setPort.fresh.withWelkin.logFree) (.next h)

theorem setCe {a : Nat} {x : CeSt} (h : s.Inv) : (s.setCe a x).Inv := h.withCes

theorem leaveRx {i c : Nat} {k : Packet} {rest : List Packet} (h : s.Inv) : (s.leaveRx i c k rest).Inv := h.setRx.freeRx

theorem queueOut {i c n : Nat} {dateline : Bool} {k : Packet} {rest : List Packet} (h : s.Inv) : (s.queueOut i c n dateline k rest).Inv :=
  h.setRx.setEg

theorem execPacketArrival_inv {i c : Nat} (h : s.Inv) : NextInv (execPacketArrival i c s) := by
  unfold execPacketArrival
  split
  · exact .next h
  · refine .ite (.next h.leaveRx.klDiscard) ?_
    refine .ite (.next h.leaveRx.routeDiscard) ?_
    refine .ite (.next h.leaveRx.routeDiscard.count) ?_
    refine .ite (.next (.ite h.leaveRx.routeDiscard h)) ?_
    refine .ite (.next h.leaveRx.routeDiscard) ?_
    refine .ite (.next h.leaveRx.setInbox) ?_
    split
    · exact .next h.leaveRx.routeDiscard
    · exact .next h.queueOut
    · split
      · exact .next h
      · exact .next h.holdWork
      · exact .next h.leaveRx.routeDiscard
      · exact .next h.leaveRx.setInbox

theorem execHeadWordRead_inv {d q : Nat} (h : s.Inv) : NextInv (execHeadWordRead d q s) := by
  unfold execHeadWordRead
  dsimp only
  refine .ite (.next h) ?_
  refine .ite (.next h.holdAccess) ?_
  split
  · exact .next h.ueMet
  · exact .ite (.next h.hbRead.noteCounts.setQueue) (.next h.hbRead.sticky.postEvent)

theorem execMessageDelivery_inv {i c : Nat} (h : s.Inv) : NextInv (execMessageDelivery i c s) := by
  unfold execMessageDelivery
  split
  · exact .next h
  · refine .ite (.next h) ?_
    refine .ite (.next h.holdWork) ?_
    split
    · exact .next h.holdAccess
    · exact .next (h.foldl (·.hbWrite.writeBytes.cleanUnits)).leaveRx.advanceProd

theorem egressBar {u : State} {n : Nat} {g : EgPkt} {f : State → State} (hf : u.egressBar n g = some f) (h : s.Inv) : (f s).Inv := by
  unfold State.egressBar at hf
  dsimp only at hf
  split at hf
  · cases hf
  · split at hf
    · split at hf
      · cases hf
        exact h.routeDiscard.count
      · cases hf
    · split at hf
      · split at hf
        · cases hf
        · cases hf
          exact h.routeDiscard
      · cases hf
        exact h.klDiscard

theorem purgePort {n : Nat} (h : s.Inv) : (s.purgePort n).Inv :=
  h.foldl fun h => foldl (.ite h h.setEg) fun h => by
    split
    next hbar => exact (egressBar hbar h).freeRx
    · exact h

theorem putHead {n c : Nat} {g' : Option EgPkt} (h : s.Inv) : (s.putHead n c g').Inv := by
  unfold State.putHead
  split
  · exact h
  · exact h.setEg

theorem judgeHead {n c : Nat} (h : s.Inv) : (s.judgeHead n c).Inv := by
  unfold State.judgeHead
  split
  · exact h
  · refine .ite h ?_
    dsimp only
    split
    · exact h.putHead
    · exact h.withRouter.putHead

theorem waitHead {n c : Nat} (h : s.Inv) : (s.waitHead n c).Inv := by
  unfold State.waitHead
  split
  · exact h
  · exact .ite h h.putHead.withRouter.count

theorem drrSend {n : Nat} {l : List (Nat × EgPkt)} {g : EgPkt} (h : s.Inv) : (s.drrSend n l g).Inv := h.withRouter

theorem putFlits {n c k : Nat} {b : List Byte} {seq : Nat} (h : s.Inv) : (s.putFlits n c k b seq).Inv := by
  induction k generalizing s b seq with
  | zero => exact h
  | succ k ih => exact ih h.same

theorem storageSent {n : Nat} {g : EgPkt} (h : s.Inv) : (s.storageSent n g).Inv := .ite h.setPort h

theorem sendHead {n c : Nat} {g : EgPkt} (h : s.Inv) : (s.sendHead n c g).Inv :=
  ((h.putHead.storageSent.putFlits.setPort.withRouter.orElse (·.count)).guard (·.sticky)).count.count.freeRx

theorem replayFlits {n from_ : Nat} (h : s.Inv) : (s.replayFlits n from_).Inv := h.setPort.foldl (·.withOut.addFld.count)

theorem execPacketBoundary_inv {n : Nat} (h : s.Inv) : NextInv (execPacketBoundary n s) := by
  unfold execPacketBoundary
  dsimp only
  refine .ite (.next h.purgePort) ?_
  split
  · exact .next h.purgePort.replayFlits
  · split
    · exact .next (h.purgePort.foldl (·.judgeHead.waitHead))
    · exact .next ((h.purgePort.foldl (·.judgeHead.waitHead)).guard (·.drrSend)).sendHead

theorem writeCoord {v : Nat} (h : s.Inv) : (s.writeCoord v).Inv := .ite h.wr.setFld h.sticky

theorem execRtCoord_inv {ctx : Ctx} {value : Word} (h : s.Inv) : NextInv (execRtCoord ctx value s) := .next (.ite h.writeCoord h.accessError)

theorem closeRead {p : Nat} (h : s.Inv) : (s.closeRead p).Inv := by
  unfold State.closeRead
  dsimp only
  refine .ite h.withRouter.holdAccess ?_
  split
  · exact h.ueMet.sticky
  · exact h.hbRead.both (·.sticky) (·.withRouter.setFld.setFld.setFld)

theorem epochSwitch {p : Nat} (h : s.Inv) : (s.epochSwitch p).Inv := .ite h.sticky h.closeRead

theorem switchRetry (h : s.Inv) : s.switchRetry.Inv := h.foldl (fun h => .ite h.withRouter.closeRead h)

theorem execSwitch_inv {ctx : Ctx} {p : Nat} (h : s.Inv) : NextInv (execSwitch ctx p s) := .next (.ite h.epochSwitch h.accessError)

theorem epochDone {p : Nat} {forced : Bool} (h : s.Inv) : (s.epochDone p forced).Inv := (h.setFld.addFld.wr.orElse (·.sendSig)).postEvent

theorem epochCheck {p : Nat} (h : s.Inv) : (s.epochCheck p).Inv := .ite h.epochDone h

theorem execTSw_inv {p : Nat} (h : s.Inv) : NextInv (execTSw p s) := .ite (.next h.setFld.setFld) (.next h)

theorem execClosesSent_inv {p : Nat} (h : s.Inv) : NextInv (execClosesSent p s) :=
  .ite (.next ((h.foldl (·.injectNow)).withRouter.setFld.foldl (·.injectNow)).epochCheck) (.next h)

theorem execEpochClose_inv (h : s.Inv) : NextInv (execEpochClose s) := by
  unfold execEpochClose
  split
  · exact .next h
  · exact .ite (.next h.setInbox.addFld.epochCheck) (.next h.setInbox.sticky)

theorem forceDone {p : Nat} (h : s.Inv) : (s.forceDone p).Inv := .ite h.epochDone h

theorem execForceDone_inv {ctx : Ctx} {p : Nat} (h : s.Inv) : NextInv (execForceDone ctx p s) := .next (.ite h.forceDone h.accessError)

theorem execEpochTimeout_inv {p : Nat} (h : s.Inv) : NextInv (execEpochTimeout p s) := .ite (.next h.withRouter.sticky.postEvent) (.next h)

end State.Inv

end Sys2Proof.Machine
end

section

/-! PROOFS. What every step keeps, continued: collective engines and their operations (12 R296 to R325). -/

namespace Sys2Proof.Machine

namespace State.Inv

variable {s t : State}

theorem setOps {a : Nat} {l : List CeOp} (h : s.Inv) : (s.setOps a l).Inv := h.setCe.setFld.setFld.foldl (·.setFld.setFld)

theorem putOp {o : CeOp} (h : s.Inv) : (s.putOp o).Inv := h.setOps

theorem dropOp {a no : Nat} (h : s.Inv) : (s.dropOp a no).Inv := by
  unfold State.dropOp
  exact h.setCe.setOps

theorem ceErr {e : Nat} {f : Fld} (h : s.Inv) : (s.ceErr e f).Inv := h.sticky

theorem sendCtl {a part epoch dst way sub attempt mode tag mask extra layerOp : Nat} (h : s.Inv) :
    (s.sendCtl a part epoch dst way sub attempt mode tag mask extra layerOp).Inv :=
  h.injectPacket

theorem opCtl {o : CeOp} {way sub mask extra : Nat} (h : s.Inv) : (s.opCtl o way sub mask extra).Inv := by
  unfold State.opCtl
  split
  · exact h.sendCtl
  · exact h

theorem sendData {o : CeOp} {way : Nat} {x : Send} (h : s.Inv) : (s.sendData o way x).1.Inv := by
  unfold State.sendData
  dsimp only
  refine .iteFst h.holdAccess ?_
  split
  · exact h.ueMet
  · split
    · exact h
    · exact h.hbRead.injectPacket.addFld.count

theorem sendWay {o : CeOp} {way : Nat} {l : List Send} (h : s.Inv) : (s.sendWay o way l).1.Inv := by
  induction l generalizing s o with
  | nil => exact h
  | cons x l ih =>
    unfold State.sendWay
    split
    · exact ih h.sendData
    · exact ih h

theorem advanceRing {o : CeOp} (h : s.Inv) : (s.advanceRing o).Inv :=
  .ite h.putOp <|
  .ite (Inv.iteFst (Inv.iteFst h.sendWay h).sendWay (.iteFst h.sendWay h)).opCtl.opCtl.putOp
      (Inv.iteFst (Inv.iteFst h.sendWay h).sendWay (.iteFst h.sendWay h)).putOp

theorem permutePiece {o : CeOp} {coord src dst n : Nat} (h : s.Inv) : (s.permutePiece o coord src dst n).1.Inv := by
  unfold State.permutePiece
  split
  · exact h.ueMet
  · exact .iteFst (.iteFst h.hbRead.hbWrite.store h.hbRead.ceErr) h.hbRead.injectPacket.addFld.count

theorem permuteSends {o : CeOp} (h : s.Inv) : (s.permuteSends o).1.Inv := h.foldlFst (fun h => h.foldlFst (fun h => .iteFst h h.permutePiece))

theorem sendMessages {o : CeOp} (h : s.Inv) : (s.sendMessages o).1.Inv := by
  unfold State.sendMessages
  dsimp only
  split
  · exact h.ueMet
  · exact h.foldl (fun h => (Inv.ite h h.hbRead).injectPacket)

theorem readRequests {o : CeOp} {n : Nat} (h : s.Inv) : (s.readRequests o n).1.Inv := by
  induction n generalizing s o with
  | zero => exact h
  | succ n ih =>
    unfold State.readRequests
    split
    · exact h
    · exact ih h.setCe.injectPacket

theorem putPlace {a : Nat} {x : PermPlace} (h : s.Inv) : (s.putPlace a x).Inv := h.setCe

theorem dropPlace {a p tag : Nat} (h : s.Inv) : (s.dropPlace a p tag).Inv := h.setCe

theorem advanceP2p {o : CeOp} (h : s.Inv) : (s.advanceP2p o).Inv := by
  unfold State.advanceP2p
  dsimp only
  refine .ite h.putOp (.ite h.readRequests.putOp (.ite h.putOp ?_))
  split
  · exact h.holdAccess.putOp
  · exact putOp (iteFst h.permuteSends h.sendMessages)

theorem advanceOp {o : CeOp} (h : s.Inv) : (s.advanceOp o).Inv := .ite h.advanceRing h.advanceP2p

theorem execProdPoll_inv {a p : Nat} (h : s.Inv) : NextInv (execProdPoll a p s) := by
  unfold execProdPoll
  dsimp only
  refine .ite (.next h) ?_
  refine .ite (.next h.holdAccess) ?_
  split
  · exact .next h.setCe.ueMet
  · exact .ite (.next h.setCe.hbRead.setFld) (.next h.setCe.hbRead.ceErr)

theorem takeReadys {o : CeOp} (h : s.Inv) : (s.takeReadys o).1.Inv := h.setCe

theorem mismatch {o : CeOp} (h : s.Inv) : (s.mismatch o).Inv := h.ceErr.opCtl.opCtl.putOp

theorem initOp {o : CeOp} (h : s.Inv) : (s.initOp o).Inv := by
  unfold State.initOp
  dsimp only
  split
  · exact h.holdAccess.putOp
  · split
    · exact h.ueMet.putOp
    · refine advanceRing (takeReadys (orElse (orElse ?_ (·.opCtl)) (·.opCtl)))
      exact (h.foldl (·.hbRead)).foldlFst (·.hbWrite.store)

theorem readContribution {o : CeOp} (h : s.Inv) : (s.readContribution o).1.Inv := .iteFst h (.iteFst h.holdAccess h.hbRead)

theorem contribBad {o : CeOp} (h : s.Inv) : EachInv (s.contribBad o) := by
  refine .ite .none fun t ht => ?_
  obtain ⟨u, _, rfl⟩ := Option.map_eq_some_iff.mp ht
  exact h.ueMet.putOp

theorem decide_ {o : CeOp} {yes : Bool} (h : s.Inv) : (s.decide_ o yes).Inv := h.initOp

theorem beginRing {o : CeOp} (h : s.Inv) : (s.beginRing o).Inv := by
  unfold State.beginRing
  refine .ite h.mismatch (.ite ?_ h.takeReadys.initOp)
  split
  next hbad => exact h.takeReadys.contribBad _ hbad
  next hread => exact (ofFst hread h.takeReadys.readContribution).decide_
  next hread => exact (ofFst hread h.takeReadys.readContribution).putOp

theorem beginPermute {o : CeOp} (h : s.Inv) : (s.beginPermute o).Inv := h.putPlace.advanceP2p

theorem ceStart {a p op : Nat} (h : s.Inv) : (s.ceStart a p op).Inv := by
  unfold State.ceStart
  -- The kernel would otherwise evaluate the check of the descriptor where it compares the two branches.
  obtain ⟨faultOf, hfault⟩ : ∃ f, f = State.ceStartFault := ⟨_, rfl⟩
  rw [← hfault]
  split
  · exact h
  · refine .ite h (.ite h.holdAccess ?_)
    split
    · exact h.ueMet.addFld.setCe.setOps.count.trace
    · refine .ite h (.ite h.holdAccess ?_)
      extract_lets u
      split
      next hfresh =>
        have hv := ofSnd hfresh (fresh (addFld h.hbRead))
        extract_lets c links ringMode order own lost g o0 o placed started
        have hstarted : started.Inv := hv.setCe.setOps.count.trace
        split
        · exact hstarted.putOp
        · exact .ite hstarted.beginRing (.ite hstarted.beginPermute hstarted.advanceP2p)

theorem ceAdvance {a p : Nat} (h : s.Inv) : (s.ceAdvance a p).Inv := by
  unfold State.ceAdvance
  refine .ite h ?_
  refine h.foldl fun h => ?_
  split
  · exact .ite h (.ite h.advanceOp (.ite h.initOp h))
  · exact h

theorem execReduceScatter_inv {a p : Nat} (h : s.Inv) : NextInv (execReduceScatter a p s) := .next h.ceStart.ceAdvance

theorem execAllGather_inv {a p : Nat} (h : s.Inv) : NextInv (execAllGather a p s) := .next h.ceStart.ceAdvance

theorem execAllReduce_inv {a p : Nat} (h : s.Inv) : NextInv (execAllReduce a p s) := .next h.ceStart.ceAdvance

theorem execBroadcast_inv {a p : Nat} (h : s.Inv) : NextInv (execBroadcast a p s) := .next h.ceStart.ceAdvance

theorem execPermute_inv {a p : Nat} (h : s.Inv) : NextInv (execPermute a p s) := .next h.ceStart.ceAdvance

theorem execSend_inv {a p : Nat} (h : s.Inv) : NextInv (execSend a p s) := .next h.ceStart.ceAdvance

theorem execRead_inv {a p : Nat} (h : s.Inv) : NextInv (execRead a p s) := .next h.ceStart.ceAdvance

theorem execContribution_inv {a p k : Nat} (h : s.Inv) : NextInv (execContribution a p k s) := by
  unfold execContribution
  split
  · exact .next h
  · refine .ite ?_ (.next h)
    split
    next hbad => exact .next (h.contribBad _ hbad)
    next hread => exact .next (ofFst hread h.readContribution).decide_
    next hread => exact .next (ofFst hread h.readContribution).putOp

theorem execDeadline_inv {a p k : Nat} (h : s.Inv) : NextInv (execDeadline a p k s) := by
  unfold execDeadline
  split
  · exact .next h
  · refine .ite ?_ (.next h)
    split
    next hbad => exact .next (h.contribBad _ hbad)
    next hread => exact .next (ofFst hread h.readContribution).decide_
    next hread => exact .next (ofFst hread h.readContribution)

theorem collective {e sub : Nat} {x : Packet × State} (h : s.Inv) (hx : s.collective e sub = some x) : x.2.Inv := by
  unfold State.collective at hx
  split at hx
  · split at hx
    · cases hx
      exact h.setInbox
    · cases hx
  · cases hx

theorem stale {e : Nat} {x : Attr} (h : s.Inv) : (s.stale e x).Inv := h.ceErr.count

theorem ringData {e : Nat} {k : Packet} {o : CeOp} {back : State} (h : s.Inv) (hback : back.Inv) : (s.ringData e k o back).Inv := by
  unfold State.ringData
  refine .ite h.stale (.ite hback.holdAccess ?_)
  dsimp only
  split
  · exact h.count.ueMet.putOp
  · exact ((h.count.guard (·.hbRead.count)).hbWrite.store).advanceRing

theorem permuteIn {e : Nat} {k : Packet} {back : State} (h : s.Inv) (hback : back.Inv) : (s.permuteIn e k back).Inv := by
  have htouch {u : State} (o : Option CeOp) (hu : u.Inv) : (match o with | some o => u.putOp { o with last := u.zt } | none => u).Inv := by
    split
    · exact hu.putOp
    · exact hu
  exact .ite (htouch _ h.ceErr.putPlace) (.ite (htouch _ h.ceErr.putPlace) (.ite hback.holdAccess (htouch _ h.hbWrite.count.store.putPlace)))

theorem execData_inv {e : Nat} (h : s.Inv) : NextInv (execData e s) := by
  unfold execData
  split
  · exact .next h
  next hk =>
    split
    · exact .next ((h.collective hk).ringData h)
    · exact .next ((h.collective hk).permuteIn h)

theorem execReady_inv {e : Nat} (h : s.Inv) : NextInv (execReady e s) := by
  unfold execReady
  split
  · exact .next h
  next hk =>
    replace h := h.collective hk
    dsimp only
    split
    · exact .next (.ite h.ceErr h.setCe)
    · exact .ite (.next h) (.ite (.next (.ite h.ceErr h.setCe)) (.ite (.next h.stale) (.ite (.next h.advanceRing) (.next h.mismatch))))

theorem execDoneMsg_inv {e : Nat} (h : s.Inv) : NextInv (execDoneMsg e s) := by
  unfold execDoneMsg
  split
  · exact .next h
  next hk =>
    replace h := h.collective hk
    dsimp only
    split
    · exact .next h
    · exact .ite (.next h.stale) (.ite (.next h.putOp) (.next h.opCtl.opCtl.putOp))

theorem recordBreak {a link : Nat} (h : s.Inv) : (s.recordBreak a link).Inv := by
  unfold State.recordBreak
  refine .ite h ?_
  refine h.foldl fun h => ?_
  dsimp only
  split
  · exact h.ceErr.setFld.setFld
  · exact h.ceErr.setFld.setFld
  · exact h.ceErr

theorem restartOp {o : CeOp} (h : s.Inv) : (s.restartOp o).Inv := by
  unfold State.restartOp
  dsimp only
  split
  · exact h.putOp
  · exact h.addFld.both (·.putOp) (fun h => h.both (·.putOp) (·.initOp))

theorem applyDecision {o : CeOp} {outcome : Nat} (h : s.Inv) : (s.applyDecision o outcome).Inv := by
  unfold State.applyDecision
  split
  · exact h.putOp
  · exact h.restartOp
  · exact h.putOp

theorem lineCtl {o : CeOp} {l : List Nat} {j way sub extra : Nat} (h : s.Inv) : (s.lineCtl o l j way sub extra).Inv := h.sendCtl

theorem decideLast {o : CeOp} {l : List Nat} {i : Nat} {all : Bool} (h : s.Inv) : (s.decideLast o l i all).Inv := (Inv.ite h.lineCtl h).applyDecision

theorem stopOp {o : CeOp} (h : s.Inv) : (s.stopOp o).Inv := by
  unfold State.stopOp
  refine .ite h ?_
  dsimp only
  split
  · exact h.putOp
  · exact .ite h.putOp (.ite h.putOp.decideLast h.lineCtl.putOp)

theorem stopOps {a : Nat} {p : Option Nat} (h : s.Inv) : (s.stopOps a p).Inv := by
  unfold State.stopOps
  refine h.foldl fun h => ?_
  split
  · exact h.stopOp
  · exact h

theorem sendBreak {a p way link : Nat} (h : s.Inv) : (s.sendBreak a p way link).Inv := .ite h h.sendCtl

theorem openPast {a : Nat} {p : Option Nat} (h : s.Inv) : (s.openPast a p).Inv := by
  unfold State.openPast
  refine h.foldl fun h => ?_
  split
  · exact .ite h.lineCtl h
  · exact h

theorem portBreak {n : Nat} (h : s.Inv) : (s.portBreak n).Inv := .ite h ((Inv.ite h h.recordBreak.openPast).postEvent.foldl (·.sendBreak)).stopOps

theorem execLinkBreak_inv {e : Nat} (h : s.Inv) : NextInv (execLinkBreak e s) := by
  unfold execLinkBreak
  split
  · exact .next h
  next hk => exact .next (Inv.ite (h.collective hk) (h.collective hk).recordBreak.openPast).sendBreak.stopOps

theorem execDecideReq_inv {e : Nat} (h : s.Inv) : NextInv (execDecideReq e s) := by
  unfold execDecideReq
  split
  · exact .next h
  next hk =>
    replace h := h.collective hk
    dsimp only
    split
    · split
      · exact .next h.stopOp
      · split
        · exact .next h.stopOp
        · exact .ite (.next h.stopOp.lineCtl.putOp) (.next h.stopOp.decideLast)
    · exact .ite (.next h.sendCtl) (.next h.sendCtl)

theorem passOn {e : Nat} {k : Packet} {sub : Nat} (h : s.Inv) : (s.passOn e k sub).Inv := .ite h h.sendCtl

theorem execDecideMsg_inv {e : Nat} (h : s.Inv) : NextInv (execDecideMsg e s) := by
  unfold execDecideMsg
  split
  · exact .next h
  next hk =>
    replace h := h.collective hk
    dsimp only
    split
    · exact .next h.passOn
    · refine .ite (.next h) (.next (applyDecision ?_))
      split
      · exact .ite h.lineCtl h
      · exact h

theorem execCollectiveAbort_inv {e : Nat} (h : s.Inv) : NextInv (execCollectiveAbort e s) := by
  unfold execCollectiveAbort
  split
  · exact .next h
  next hk =>
    replace h := h.collective hk
    dsimp only
    split
    · exact .ite (.next h) (.next h.opCtl.putOp)
    · exact .next h.opCtl.setCe
    · exact .next h

theorem abortOp {o : CeOp} {status cause : Nat} (h : s.Inv) : (s.abortOp o status cause).Inv := (Inv.ite h.opCtl.opCtl h).putOp

theorem execCollectiveTimeout_inv {a p k : Nat} (h : s.Inv) : NextInv (execCollectiveTimeout a p k s) := by
  unfold execCollectiveTimeout
  split
  · exact .next h
  · exact .ite (.next h.abortOp) (.next h)

theorem noiseRecord {o : CeOp} (h : s.Inv) : (s.noiseRecord o).2.Inv := by
  unfold State.noiseRecord
  dsimp only
  split
  · exact h
  · exact h.fresh

theorem libResult {o : CeOp} {status : Nat} (h : s.Inv) : (s.libResult o status).Inv := by
  unfold State.libResult
  split
  · exact h
  · split
    · exact h
    · exact .ite h h.setTile

theorem noiseStep {o : CeOp} (h : s.Inv) : (s.noiseStep o).1.Inv := by
  unfold State.noiseStep
  dsimp only
  refine .iteFst h ?_
  split
  · exact h.ueMet
  · dsimp only
    exact store (hbWrite (noiseRecord (h.foldl (·.hbRead))))

theorem finishWith {o : CeOp} {post : State → DoneRec → Option State} (h : s.Inv) (hpost : ∀ {u r}, u.Inv → EachInv (post u r)) :
    EachInv (s.finishWith o post) := by
  unfold State.finishWith
  dsimp only
  split
  · exact .none
  next u hposted =>
    have hu : u.Inv := by
      refine EachInv.ite (.some ?_) (hpost ?_) _ hposted
      · exact .ite h.noiseStep (store (hbWrite h.noiseStep))
      · exact .ite h.noiseStep (store (hbWrite h.noiseStep))
    refine .some (libResult (dropOp (postEvent (trace (guard ?_ (·.dropPlace))))))
    exact (hu.guard (·.sendSig)).both (·.addFld.count) (·.addFld.ceErr.count)

theorem finishOp {o : CeOp} (h : s.Inv) : EachInv (s.finishOp o) := h.finishWith putDone

theorem execCollectiveComplete_inv {a p k : Nat} (h : s.Inv) : NextInv (execCollectiveComplete a p k s) := by
  unfold execCollectiveComplete
  split
  · exact .next h
  · refine .ite (.next h) ?_
    dsimp only
    split
    · exact .next h.holdAccess
    · split
      next hdone => exact .next (h.finishOp _ hdone)
      · exact .next h.holdAccess
      · exact .next h

theorem execRequest_inv {i c : Nat} (h : s.Inv) : NextInv (execRequest i c s) := by
  unfold execRequest
  split
  · exact .next h
  · refine .ite (.next h) ?_
    refine .ite (.next h) ?_
    refine .ite (.next h.holdAccess) ?_
    refine .ite (.next h.leaveRx.addFld.count.addFld.injectPacket) ?_
    split
    · exact .next h.leaveRx.addFld.count.ueMet.addFld.injectPacket
    · exact .next h.leaveRx.addFld.count.hbRead.injectPacket

theorem execReply_inv {e : Nat} (h : s.Inv) : NextInv (execReply e s) := by
  unfold execReply
  split
  · exact .next h
  · refine .ite (.next h) ?_
    split
    · exact .next h.setInbox
    · split
      · exact .next h.setInbox
      · exact .ite (.next h.setInbox.putOp) (.ite (.next h.holdAccess) (.next h.setInbox.hbWrite.count.store.advanceP2p))

theorem execPlaceExpiry_inv {a p : Nat} {tag : BitVec 32} (h : s.Inv) : NextInv (execPlaceExpiry a p tag s) := by
  unfold execPlaceExpiry
  split
  · exact .next h
  · exact .ite (.next (h.dropPlace.foldl (·.ceErr))) (.next h)

theorem clearBreak {a : Nat} (h : s.Inv) : (s.clearBreak a).Inv := h.foldl (·.setFld.setFld.setFld)

theorem execClearBreak_inv {ctx : Ctx} {n : Nat} (h : s.Inv) : NextInv (execClearBreak ctx n s) := .next (.ite h.clearBreak h.accessError)

theorem resetCollectives {p : Nat} {warm : Bool} (h : s.Inv) : (s.resetCollectives p warm).Inv := by
  refine h.foldl fun h => setFld (setFld (h.foldl fun {u o} h => ?_))
  extract_lets v
  have hv : v.Inv := .ite h.abortOp h
  split
  · split
    next hdone => exact EachInv.ite (hv.finishWith .some) hv.finishOp _ hdone
    · exact hv
  · exact hv

end State.Inv

end Sys2Proof.Machine
end

section

/-! PROOFS. What every step keeps, continued: counters, storage, power domains and Zenith (17 R390 to R405; 09 R224; 16 R385; 14 R334 to R360). -/

namespace Sys2Proof.Machine

namespace State.Inv

variable {s t : State}

theorem bumpGen {kind inst : Nat} (h : s.Inv) : (s.bumpGen kind inst).Inv := h.withTally

theorem writeCfgA {ctx : Ctx} {reg kind inst n v : Nat} {welkinOk : Bool} (h : s.Inv) : (s.writeCfgA ctx reg kind inst n v welkinOk).Inv :=
  .ite h (.ite h.withTally.bumpGen h.sticky.accessError)

theorem writeCfgB {kind inst n v : Nat} (h : s.Inv) : (s.writeCfgB kind inst n v).Inv := .ite h h.withTally.bumpGen

theorem writeCounter {kind inst n v : Nat} (h : s.Inv) : (s.writeCounter kind inst n v).Inv := .ite h h.withTally

theorem cfga {ctx : Ctx} {window : Option Nat} {n v : Nat} (h : s.Inv) : (s.cfga ctx window n v).Inv := by
  unfold State.cfga
  split
  · exact .ite h.writeCfgA h.accessError
  · exact .ite h.writeCfgA h.accessError
  · exact h.accessError

theorem cfgb {ctx : Ctx} {window : Option Nat} {n v : Nat} (h : s.Inv) : (s.cfgb ctx window n v).Inv := by
  unfold State.cfgb
  split
  · exact .ite h.writeCfgB h.accessError
  · exact .ite h.writeCfgB h.accessError
  · exact h.accessError

theorem execCfga_inv {ctx : Ctx} {window : Option (Fin 8)} {n : Nat} {value : Word} (h : s.Inv) : NextInv (execCfga ctx window n value s) :=
  .next h.cfga

theorem snapForget {i : Nat} {gone : Nat → Bool} (h : s.Inv) : (s.snapForget i gone).Inv := h.withTally

theorem setSnapNo {i k : Nat} (h : s.Inv) : (s.setSnapNo i k).Inv := h.snapForget.withTally.setFld

theorem snapCtrl {ctx : Ctx} {i v : Nat} (h : s.Inv) : (s.snapCtrl ctx i v).Inv :=
  .ite h.accessError (h.setFld.setFld.setFld.setFld.orElse (fun h => h.both (·.sticky) (·.setFld.snapForget.setSnapNo)))

theorem execSnapEnable_inv {ctx : Ctx} {i : Nat} {value : Word} (h : s.Inv) : NextInv (execSnapEnable ctx i value s) := .next h.snapCtrl

theorem snapTake {i : Nat} (h : s.Inv) : (s.snapTake i).Inv := .ite h.withTally h

theorem snapDrop {i : Nat} (h : s.Inv) : (s.snapDrop i).Inv := h.withTally.addFld.sticky

theorem execSnapshotInstant_inv {i : Nat} (h : s.Inv) : NextInv (execSnapshotInstant i s) := by
  unfold execSnapshotInstant
  split
  · exact .next h
  · exact .ite (.next h) (.ite (.next h.tallyFlush.snapDrop.setSnapNo) (.next h.tallyFlush.withTally.tallyPut.setSnapNo))

theorem zeroCounters {dom : Nat} (h : s.Inv) : (s.zeroCounters dom).Inv := h.withTally

theorem restartCounters {dom : Nat} (h : s.Inv) : (s.restartCounters dom).Inv := h.zeroCounters.withTally

theorem tallyForget {what : Nat} (h : s.Inv) : (s.tallyForget what).Inv := h.withTally

theorem snapRing {ctx : Ctx} {i v : Nat} (h : s.Inv) : (s.snapRing ctx i v).Inv := .ite h.accessError h.tallyForget.setFld.setFld.setFld.setFld.setFld

theorem execTlSnapRing_inv {ctx : Ctx} {i : Nat} {value : Word} (h : s.Inv) : NextInv (execTlSnapRing ctx i value s) := .next h.snapRing

theorem traceDiscard {d : Nat} (h : s.Inv) : (s.traceDiscard d).Inv := h.tallyForget.traceDropped

theorem traceBase {ctx : Ctx} {d v : Nat} (h : s.Inv) : (s.traceBase ctx d v).Inv :=
  .ite h.accessError (.ite h h.traceDiscard.setFld.setFld.setFld.setFld)

theorem execTlTraceBase_inv {ctx : Ctx} {d : Nat} {value : Word} (h : s.Inv) : NextInv (execTlTraceBase ctx d value s) := .next h.traceBase

theorem watchCtrl {ctx : Ctx} {w v : Nat} (h : s.Inv) : (s.watchCtrl ctx w v).Inv :=
  .ite h.accessError (.ite (.ite h.accessError (.ite h h.setFld.setFld)) (h.setFld.setFld.setFld.setFld.guard (·.setFld.watchLookup)))

theorem execWatchEnable_inv {ctx : Ctx} {w : Nat} {value : Word} (h : s.Inv) : NextInv (execWatchEnable ctx w value s) := .next h.watchCtrl

theorem watchIdle {w : Nat} (h : s.Inv) : (s.watchIdle w).Inv := h.setFld.setFld

theorem debugBase {ctx : Ctx} {size : Bool} {v : Nat} (h : s.Inv) : (s.debugBase ctx size v).Inv :=
  .ite h.accessError (h.tallyForget.both (·.setFld) (·.setFld)).setFld.setFld

theorem execTlDbgBase_inv {ctx : Ctx} {size : Bool} {value : Word} (h : s.Inv) : NextInv (execTlDbgBase ctx size value s) := .next h.debugBase

theorem storagePacket {n : Nat} {o : Option Nat} {fence : Bool} {body : List Byte} (h : s.Inv) : (s.storagePacket n o fence body).2.Inv := by
  unfold State.storagePacket
  cases o with
  | some p => exact h
  | none => exact h.fresh

theorem storageSend {n : Nat} {o : Option Nat} {fence : Bool} {body : List Byte} (h : s.Inv) : (s.storageSend n o fence body).Inv := by
  unfold State.storageSend
  split
  next hpacket => exact setEg (withRouter (ofSnd hpacket h.storagePacket))

theorem writeData {n tag : Nat} {o : Option Nat} {b : List Byte} {fuel off : Nat} (h : s.Inv) : (s.writeData n tag o b fuel off).1.Inv := by
  induction fuel generalizing s off with
  | zero => exact h
  | succ fuel ih =>
    unfold State.writeData
    split
    · exact h
    · dsimp only
      split
      · exact h.ueMet
      · exact ih h.hbRead.storageSend

theorem doneWaits {n : Nat} (h : s.Inv) : (s.doneWaits n).Inv := by
  unfold State.doneWaits
  split
  · exact h
  · split
    · exact h.holdAccess
    · exact h

theorem storageDone {n d slot : Nat} {o : Option Nat} {b : List Byte} {status detail : Nat} (h : s.Inv) :
    (s.storageDone n d slot o b status detail).Inv := by
  unfold State.storageDone
  refine .ite h.setPort ?_
  split
  next hput => exact h.putDone _ hput
  · exact h.setPort.doneWaits

theorem storageEnd {n : Nat} {r : StorageReq} {cause node : Nat} (h : s.Inv) : (s.storageEnd n r cause node).Inv := h.setPort.storageDone

theorem storageRetry {n : Nat} (h : s.Inv) : (s.storageRetry n).Inv := h.putDones.setPort.doneWaits

theorem storageRun {n d slot : Nat} {o : Option Nat} {b : List Byte} (h : s.Inv) : (s.storageRun n d slot o b).Inv := by
  unfold State.storageRun
  dsimp only
  refine .ite h.storageDone (.ite h.storageDone (.ite h.storageDone (.ite h.setPort.storageSend ?_)))
  exact .ite h.setPort.writeData.storageSend h.setPort.writeData.storageEnd

theorem execStorageEntry_inv {k : Nat} (h : s.Inv) : NextInv (execStorageEntry k s) := by
  unfold execStorageEntry
  dsimp only
  refine .ite (.next h.storageRetry) ?_
  split
  · exact .next h.storageRetry
  · refine .ite (.next h.storageRetry.setPort.holdAccess) ?_
    split
    · exact .next h.storageRetry.setPort.ueMet.consume
    · exact .ite (.next h.storageRetry.setPort.holdAccess) (.next h.storageRetry.setPort.hbRead.consume.storageRun)

theorem execReadData_inv {k : Nat} (h : s.Inv) : NextInv (execReadData k s) := by
  unfold execReadData
  dsimp only
  split
  · exact .next h
  · refine .ite (.next h) ?_
    split
    · exact .next h.leaveRx
    · exact .ite (.next h.leaveRx) (.ite (.next h.holdAccess) (.next h.leaveRx.hbWrite.store.setPort))

theorem execStatus_inv {k : Nat} (h : s.Inv) : NextInv (execStatus k s) := by
  unfold execStatus
  dsimp only
  split
  · exact .next h
  · refine .ite (.next h) ?_
    split
    · exact .next h.leaveRx
    · exact .ite (.next h.leaveRx.storageEnd) (.ite (.next h.leaveRx.storageEnd) (.next h.leaveRx.setPort))

theorem execStorageTimeout_inv {k : Nat} {tag : BitVec 32} (h : s.Inv) : NextInv (execStorageTimeout k tag s) := by
  unfold execStorageTimeout
  dsimp only
  split
  · exact .next h
  · exact .ite (.next h.storageEnd) (.next h)

theorem storageLoss {n : Nat} (h : s.Inv) : (s.storageLoss n).Inv := h.foldl (·.storageEnd)

theorem portLost {n : Nat} (h : s.Inv) : (s.portLost n).Inv := h.dropLink.klErr.setCause.portTo.purgePort.storageLoss.portBreak

theorem execLoss_inv {n : Nat} {signalLost lockLost : Bool} (h : s.Inv) : NextInv (execLoss n signalLost lockLost s) :=
  .ite (.next h.portLost) (.next h)

theorem execRemoved_inv {n : Nat} (h : s.Inv) : NextInv (execRemoved n s) := by
  unfold execRemoved
  dsimp only
  split
  · exact .next (Inv.ite h.portLost h).setPort.setFld.wr.wr.contrailEvent
  · exact .next (Inv.ite h.portLost h).setPort.setFld.wr.wr

theorem pdErr {f : Fld} (h : s.Inv) : (s.pdErr f).Inv := h.sticky

theorem dropResume {i : Nat} (h : s.Inv) : (s.dropResume i).Inv := .ite h.withPower.setFld h

theorem vote {ctx : Ctx} {i v : Nat} (h : s.Inv) : (s.vote ctx i v).Inv := by
  unfold State.vote
  split
  · exact h.accessError
  · exact .ite h (.ite h.pdErr (Inv.ite h.dropResume h).setFld.retargetAll)

theorem execVote_inv {ctx : Ctx} {i : Nat} {value : Word} (h : s.Inv) : NextInv (execVote ctx i value s) := .next h.vote

theorem execQuiescence_inv {i : Nat} (h : s.Inv) : NextInv (execQuiescence i s) := .ite (.next h.beginMove) (.next h)

theorem resetInstance {base : Nat} {keep : Nat → Bool} (h : s.Inv) : (s.resetInstance base keep).Inv := h.withRegs

theorem dropEngine {n : Nat} (h : s.Inv) : (s.dropEngine n).Inv := h.withCes

theorem resetCe {n : Nat} (h : s.Inv) : (s.resetCe n).Inv := h.resetInstance.setFld.setFld.setFld

theorem zeroRegion {r : Nat} (h : s.Inv) : (s.zeroRegion r).Inv := h.foldl fun h => (h.withMem (cellsZero_wf _ _ h.wf)).same

theorem resetQueues {d : Nat} (h : s.Inv) : (s.resetQueues d).Inv := h.same

theorem loseDomain {i : Nat} (h : s.Inv) : (s.loseDomain i).Inv :=
  .ite (h.foldl (·.resetTile)).restartCounters <|
  .ite h.zeroRegion <|
  .ite ((h.zeroStack.foldl (·.wr)).restartCounters.orElse (·.setFld)) <|
  .ite h.disablePort.purgePort.storageLoss.restartCounters <|
  .ite (.ite h h.setLink.ucErr) (.ite h.resetInstance.restartCounters (.ite h.resetCe.dropEngine.restartCounters h.resetQueues))

theorem ucTrained {m : Nat} {o : UcieTraining} (h : s.Inv) : (s.ucTrained m o).Inv := by
  unfold State.ucTrained
  split
  · exact h.setLink.ucErr
  · exact h.setFld.setFld.setFld.setFld.linkNews

theorem sendPending (h : s.Inv) : s.sendPending.Inv := h.foldl (fun h => .ite h.setFld.sendMsi h)

theorem transitionFail {i old new : Nat} (h : s.Inv) : (s.transitionFail i old new).Inv := h.pdErr.powerEvent

theorem arrive {i new : Nat} {failed : Bool} (h : s.Inv) : (s.arrive i new failed).Inv := by
  unfold State.arrive
  extract_lets old power was moved counted ready told toldPower sent
  have hready : ready.Inv := ((h.withPower.setFld.orElse (·.addFld)).guard (·.zeroCounters)).guard (·.withWaits)
  have htold : told.Inv := .ite hready.transitionFail (hready.guard (·.powerEvent))
  have hsent : sent.Inv := by
    unfold sent
    split
    · exact htold.guard (·.withPower.postEvent)
    · exact htold
  exact hsent.retargetAll

theorem comeUp {i : Nat} {o : UcieTraining} (h : s.Inv) : (s.comeUp i o).Inv := by
  unfold State.comeUp
  dsimp only
  refine .ite h ?_
  refine .ite ?_ (.ite (.ite h h.arrive) (.ite (.ite (h.ucTrained.arrive.orElse (·.sendPending)) h.arrive) h.arrive))
  split
  · exact h.arrive
  · exact h.setFld.arrive
  · exact h.withPower.arrive
  · exact h

theorem execTransition_inv {i : Nat} {training : UcieTraining} (h : s.Inv) : NextInv (execTransition i training s) := by
  unfold execTransition
  split
  · exact .next h.loseDomain.arrive
  · exact .ite (.next h) (.next h.arrive)
  · exact .next h.comeUp
  · exact .next h

theorem setZn {z : ZenithSt} (h : s.Inv) : (s.setZn z).Inv := h.withZenith

theorem timeIn {sub : Nat} {x : Nat × Packet × State} (h : s.Inv) (hx : s.timeIn sub = some x) : x.2.2.Inv := by
  unfold State.timeIn at hx
  split at hx
  · cases hx
  · cases hx
    exact h.setInbox

theorem execAnnounceSend_inv (h : s.Inv) : NextInv (execAnnounceSend s) := by
  unfold execAnnounceSend
  refine .ite ?_ (.next h)
  dsimp only
  split
  · exact .next h.setZn.elect
  · exact .next (h.setZn.elect.foldl (·.sendLinkLocal))

theorem execAnnounce_inv (h : s.Inv) : NextInv (execAnnounce s) := by
  unfold execAnnounce
  split
  · exact .next h
  next hk => exact .ite (.next (h.timeIn hk)) (.next (h.timeIn hk).setZn.elect)

theorem execParentTimeout_inv (h : s.Inv) : NextInv (execParentTimeout s) := by
  unfold execParentTimeout
  split
  · exact .next h
  · exact .ite (.next h) (.next h.elect)

theorem execTimeSyncSend_inv {n : Nat} (h : s.Inv) : NextInv (execTimeSyncSend n s) := .ite (.next h.setZn.fresh.sendLinkLocal) (.next h)

theorem execTimeSync_inv (h : s.Inv) : NextInv (execTimeSync s) := by
  unfold execTimeSync
  split
  · exact .next h
  next hk =>
    replace h := h.timeIn hk
    dsimp only
    split
    · exact .ite (.next h.fresh.setZn) (.next h)
    · exact .next h

theorem setTheta {x : Int} (h : s.Inv) : (s.setTheta x).Inv := h.setFld.guard (·.setFld)

theorem stepBy {ps : Nat} (h : s.Inv) : (s.stepBy ps).Inv := by
  unfold State.stepBy
  exact h.withClock

theorem takeTime {p : Nat} (h : s.Inv) : (s.takeTime p).Inv := by
  unfold State.takeTime
  split
  · exact h
  · exact .ite h.stepBy (.ite h.setZn h.fresh.setZn)

theorem follow {p : Nat} (h : s.Inv) : (s.follow p).Inv := by
  unfold State.follow
  split
  · exact h
  · exact h.fresh.setTheta.setZn.fresh.setZn.guard (·.setZnState)

theorem execWindow_inv (h : s.Inv) : NextInv (execWindow s) := by
  unfold execWindow
  dsimp only
  refine .ite (.next h) ?_
  split
  · exact .ite (.next (h.setZn.orElse (·.takeTime))) (.next h.setZn.follow)
  · exact .next (h.setZn.guard (·.setZn))

theorem acquire (h : s.Inv) : s.acquire.Inv := h.setZnState.setZn

theorem reacquire (h : s.Inv) : s.reacquire.Inv := .ite h.znErr h.acquire

theorem execReacquire_inv {ctx : Ctx} (h : s.Inv) : NextInv (execReacquire ctx s) := .next (.ite h.reacquire h.accessError)

theorem setQuality {q : Nat} (h : s.Inv) : (s.setQuality q).Inv := .ite h h.setFld.elect

theorem nextSecond {v : Nat} (h : s.Inv) : (s.nextSecond v).Inv := h.setZn

theorem execZnNextSec_inv {ctx : Ctx} {value : Word} (h : s.Inv) : NextInv (execZnNextSec ctx value s) := .next (.ite h.nextSecond h.accessError)

theorem refLost (h : s.Inv) : s.refLost.Inv := h.znErr.setZn.guard (·.setQuality)

theorem takeEdge {sec at_ : Nat} {off dev : Int} {named : Bool} (h : s.Inv) : (s.takeEdge sec at_ off dev named).Inv :=
  (Inv.ite h.setFld h).setZn.both (·.stepBy.setZn.setFld.setZnState)
      (fun h => ((h.guard (·.setZnState)).setFld.both (·.fresh.setQuality) (·.fresh)).setZn)

theorem execRefPpsIn_inv (h : s.Inv) : NextInv (execRefPpsIn s) := by
  unfold execRefPpsIn
  refine .ite (.next h) ?_
  dsimp only
  split
  · exact .next h.takeEdge
  · exact .ite (.next h.takeEdge) (.next (h.addFld.setZn.guard (·.refLost)))

theorem execRefLost_inv (h : s.Inv) : NextInv (execRefLost s) := .ite (.next h.refLost) (.next h)

theorem execPpsOut_inv (h : s.Inv) : NextInv (execPpsOut s) := .ite (.next h) (.ite (.next h.setZn.setZn.withOut) (.next h.setZn))

theorem execTodOut_inv (h : s.Inv) : NextInv (execTodOut s) := by
  unfold execTodOut
  split
  · exact .next h
  · exact .ite (.next h) (.ite (.next h.setZn.fresh.withOut) (.next h.setZn))

theorem frameSlot {p k : Nat} (h : s.Inv) : (s.frameSlot p k).Inv := .ite h (.ite h.addFld h.sendSig.addFld)

theorem execFrameBoundary_inv {p : Nat} (h : s.Inv) : NextInv (execFrameBoundary p s) := by
  unfold execFrameBoundary
  split
  · exact .ite (.next (h.setZn.foldl (·.frameSlot))) (.next h)
  · exact .next h

theorem flood {o : StopOrder} {from_ : Nat} (h : s.Inv) : (s.flood o from_).Inv := h.foldl (·.sendLinkLocal)

theorem smear {o : StopOrder} (h : s.Inv) : (s.smear o).2.Inv := .iteSnd h h.fresh

theorem applyStop {o : StopOrder} (h : s.Inv) : (s.applyStop o).Inv :=
  have hstopped := h.setFld.guard (·.setFld)
  have hsmeared := Inv.iteSnd hstopped hstopped.smear
  (Inv.ite hsmeared hsmeared.znErr).setZn

theorem actOnStop {o : StopOrder} (h : s.Inv) : (s.actOnStop o).Inv :=
  h.setZn.setFld.both (fun h => h.both (·.setZn) (·.znErr)) (fun h => h.both (·.applyStop) (fun h => h.both (·.applyStop) (·.setZn)))

theorem originate {action : Nat} {immediate : Bool} {t : Nat} (h : s.Inv) : (s.originate action immediate t).Inv := h.setZn.actOnStop.flood

theorem orderStop (h : s.Inv) : s.orderStop.Inv := .ite h.znErr h.originate

theorem orderResume (h : s.Inv) : s.orderResume.Inv := .ite h.znErr h.originate

theorem execStop_inv {ctx : Ctx} (h : s.Inv) : NextInv (execStop ctx s) := .next (.ite h.orderStop h.accessError)

theorem execZnResume_inv {ctx : Ctx} (h : s.Inv) : NextInv (execZnResume ctx s) := .next (.ite h.orderResume h.accessError)

theorem execImmediate_inv {ctx : Ctx} (h : s.Inv) : NextInv (execImmediate ctx s) := .next (.ite h.originate h.accessError)

theorem execStopPacket_inv (h : s.Inv) : NextInv (execStopPacket s) := by
  unfold execStopPacket
  split
  · exact .next h
  · exact .ite (.next h.setInbox) (.next h.setInbox.actOnStop.flood)

theorem execStopAtT_inv (h : s.Inv) : NextInv (execStopAtT s) := by
  unfold execStopAtT
  split
  · exact .next h
  · exact .next h.applyStop

theorem execTQuiet_inv (h : s.Inv) : NextInv (execTQuiet s) := by
  unfold execTQuiet
  split
  · exact .next h
  · exact .ite (.next h.holdAccess) (.next ((Inv.ite h.store h).setZn.postEvent.foldl (·.postEvent)))

theorem extendScope {mine : Option Nat → Bool} {len : Nat} (h : s.Inv) : (s.extendScope mine len).Inv := h.same

theorem doDue {d : Due} (h : s.Inv) : (s.doDue d).Inv := by
  unfold State.doDue
  cases d with
  | act p =>
    dsimp only
    split
    next hr => exact NextInv.ite h.execUnloadSwitch_inv h.execActivation_inv _ hr
    · exact h
  | sw p =>
    dsimp only
    split
    next hr => exact h.execTSw_inv _ hr
    · exact h
  | deadline a no =>
    dsimp only
    cases s.opNo a no with
    | none => exact h
    | some o =>
      dsimp only
      split
      next hr => exact h.execDeadline_inv _ hr
      · exact h

theorem catchUp {parts : List Nat} (h : s.Inv) : (s.catchUp parts).Inv := h.foldl (·.doDue)

theorem execResumeAtT2_inv (h : s.Inv) : NextInv (execResumeAtT2 s) := by
  unfold execResumeAtT2
  split
  · exact .next h
  · exact .next (((h.setFld.guard (·.setFld)).foldl (·.extendScope)).guard (·.extendScope)).setZn.catchUp

end State.Inv

end Sys2Proof.Machine
end

section

/-! PROOFS. What every step keeps, continued: Welkin, its requests and the Drizzle port (18 R411 to R446). -/

namespace Sys2Proof.Machine

namespace State.Inv

variable {s t : State}

theorem wkErr {f : Fld} (h : s.Inv) : (s.wkErr f).Inv := h.sticky

theorem setWk {w : WelkinSt} (h : s.Inv) : (s.setWk w).Inv := h.withWelkin

theorem drawBytes {n : Nat} (h : s.Inv) : (s.drawBytes n).2.Inv := h.setWk

theorem mailFrame {b : List Byte} (h : s.Inv) : (s.mailFrame b).Inv := h.withOut.guard (·.fireVector)

theorem inBand (h : s.Inv) : s.inBand.Inv := h.withOut

theorem notice {payload : List Byte} (h : s.Inv) : (s.notice payload).Inv := h.fresh.mailFrame

theorem respond {i3c : Bool} {seq : Nat} {payload : List Byte} (h : s.Inv) : (s.respond i3c seq payload).Inv :=
  .ite (h.setWk.guard (·.inBand)) h.mailFrame

theorem answer {i3c : Bool} {seq code result : Nat} {data : List Byte} (h : s.Inv) : (s.answer i3c seq code result data).Inv := h.respond

theorem receive {i3c : Bool} {seq : Nat} {payload : List Byte} (h : s.Inv) : (s.receive i3c seq payload).Inv := .ite h.respond h.setWk

theorem takeHead {code : Nat} {serve : Serve} (h : s.Inv) (hserve : ∀ {t x y z}, t.Inv → (serve t x y z).Inv) : (s.takeHead code serve).Inv := by
  unfold State.takeHead
  split
  · exact .ite h (.ite h.setWk.answer (.ite h.setWk.answer (hserve h.setWk)))
  · exact h

theorem request {code : Nat} {r : WkReq} {serve : Serve} (h : s.Inv) (hserve : ∀ {t x y z}, t.Inv → (serve t x y z).Inv) :
    (s.request code r serve).Inv := by
  unfold State.request
  split
  · refine .ite h.respond ?_
    dsimp only
    split
    · exact h.receive.takeHead (fun h => hserve h)
    · exact h.receive
  · split
    · exact .ite (h.takeHead (fun h => hserve h)) h
    · exact h

theorem fillBuffer {i3c : Bool} {b : List Byte} (h : s.Inv) : (s.fillBuffer i3c b).Inv := h.setWk

theorem releaseBuffer (h : s.Inv) : s.releaseBuffer.Inv := h.setWk

theorem withBuffer {i3c : Bool} {seq code : Nat} {go : State → WkBuffer → State} (h : s.Inv) (hgo : ∀ {t x}, t.Inv → (go t x).Inv) :
    (s.withBuffer i3c seq code go).Inv := by
  unfold State.withBuffer
  refine .ite h.answer ?_
  split
  · exact h.answer
  · exact hgo h.setWk

theorem intoBuffer {i3c : Bool} {seq code : Nat} {go : State → State} (h : s.Inv) (hgo : ∀ {t}, t.Inv → (go t).Inv) :
    (s.intoBuffer i3c seq code go).Inv :=
  .ite h.answer (hgo h)

theorem freeRefusal {i3c : Bool} {seq code : Nat} (h : s.Inv) : (s.freeRefusal i3c seq code).Inv := h.fresh.answer

theorem logOwn {code : Nat} {vals : List Nat} (h : s.Inv) : (s.logOwn code vals).Inv := h.logFree

theorem logSev {code sev : Nat} {vals : List Nat} (h : s.Inv) : (s.logSev code sev vals).Inv := h.logEntry

theorem mirrorSome {pick : List Byte → Bool} (h : s.Inv) : (s.mirrorSome pick).Inv := .ite h h.setWk.setFld

theorem setSensor {c v : Nat} (h : s.Inv) : (s.setSensor c v).Inv := h.withSensors

theorem recal {reg factory : Nat} (h : s.Inv) : (s.recal reg factory).Inv := h.wr

theorem calUserWrite {reg u : Nat} (h : s.Inv) : (s.calUserWrite reg u).Inv := h.wr

theorem loadCalibration (h : s.Inv) : s.loadCalibration.Inv := h.recal.recal.recal.foldl (·.recal)

theorem enforce {r : List Byte} (h : s.Inv) : (s.enforce r).Inv := .ite h.setWk (h.setWk.both (·.loadPolicy) (fun h => h.guard (·.loadCalibration)))

theorem planPorts {b : List Byte} (h : s.Inv) : (s.planPorts b).Inv := h.foldl (·.setFld.writePlan)

theorem applyPlan {b : List Byte} (h : s.Inv) : (s.applyPlan b).Inv := h.wr.setFld.planPorts.setFld

theorem takePlan {b : List Byte} (h : s.Inv) : (s.takePlan b).Inv :=
  h.setWk.orElse (fun h => h.both (·.applyPlan) (fun h => h.both (·.planPorts.setFld) (·.setFld)))

theorem portMode {i2c : Bool} (h : s.Inv) : (s.portMode i2c).Inv := h.setFld

theorem execPrivateWrite_inv {i2c : Bool} {frame : List Byte} (h : s.Inv) : NextInv (execPrivateWrite i2c frame s) :=
  .ite (.next h) (.ite (.next h.portMode.answer) (.ite (.next h.portMode.answer) (.next h.portMode.receive)))

theorem execPrivateRead_inv {i2c : Bool} (h : s.Inv) : NextInv (execPrivateRead i2c s) := by
  unfold execPrivateRead
  refine .ite (.next h) ?_
  split
  · exact .next h
  · exact .next h.portMode.setWk.withOut

theorem execDynamicAddressAssignment_inv {addr : BitVec 7} (h : s.Inv) : NextInv (execDynamicAddressAssignment addr s) :=
  .ite (.next h) (.next h.setFld.setFld.portMode)

theorem replyTo {code : Nat} {i3c : Bool} {seq : Nat} {args : List Byte} (h : s.Inv) : (s.replyTo code i3c seq args).Inv := h.answer

theorem execGetStatus_inv {r : WkReq} (h : s.Inv) : NextInv (execGetStatus r s) := .next (h.request (·.replyTo))

theorem execLogRead_inv {r : WkReq} (h : s.Inv) : NextInv (execLogRead r s) := .next (h.request (·.replyTo))

theorem execSensorRead_inv {r : WkReq} (h : s.Inv) : NextInv (execSensorRead r s) := .next (h.request (·.replyTo))

theorem bufBegin {i3c : Bool} {seq : Nat} {args : List Byte} (h : s.Inv) : (s.bufBegin i3c seq args).Inv :=
  .ite h.answer (.ite h.answer h.setWk.answer)

theorem execBufBegin_inv {r : WkReq} (h : s.Inv) : NextInv (execBufBegin r s) := .next (h.request (·.bufBegin))

theorem bufWrite {i3c : Bool} {seq : Nat} {args : List Byte} (h : s.Inv) : (s.bufWrite i3c seq args).Inv :=
  h.withBuffer (fun h => .ite h.answer h.setWk.answer)

theorem execBufWrite_inv {r : WkReq} (h : s.Inv) : NextInv (execBufWrite r s) := .next (h.request (·.bufWrite))

theorem bufRead {i3c : Bool} {seq : Nat} {args : List Byte} (h : s.Inv) : (s.bufRead i3c seq args).Inv :=
  h.withBuffer (fun h => .ite h.answer h.answer)

theorem execBufRead_inv {r : WkReq} (h : s.Inv) : NextInv (execBufRead r s) := .next (h.request (·.bufRead))

theorem bufRelease {i3c : Bool} {seq : Nat} {args : List Byte} (h : s.Inv) : (s.bufRelease i3c seq args).Inv :=
  h.withBuffer (fun h => .ite h.releaseBuffer.answer h.answer)

theorem execBufRelease_inv {r : WkReq} (h : s.Inv) : NextInv (execBufRelease r s) := .next (h.request (·.bufRelease))

theorem execBufTimeout_inv (h : s.Inv) : NextInv (execBufTimeout s) := by
  unfold execBufTimeout
  split
  · exact .ite (.next h.releaseBuffer) (.next h)
  · exact .next h

theorem fwCommit {failures : Nat} {i3c : Bool} {seq : Nat} {args : List Byte} (h : s.Inv) : (State.fwCommit failures s i3c seq args).Inv :=
  h.withBuffer fun h =>
    h.releaseBuffer.both (·.answer)
        (fun h => h.both (·.answer) (fun h => h.both (·.fresh.setWk.wkErr.answer) (fun h => h.setWk.logOwn.answer.guard (·.setFld.setFld))))

theorem execFwCommit_inv {r : WkReq} {failures : Nat} (h : s.Inv) : NextInv (execFwCommit r failures s) := .next (h.request (·.fwCommit))

theorem svnCommit {i3c : Bool} {seq : Nat} {args : List Byte} (h : s.Inv) : (s.svnCommit i3c seq args).Inv := .ite h.answer h.withFuses.answer

theorem execSvnCommit_inv {r : WkReq} (h : s.Inv) : NextInv (execSvnCommit r s) := .next (h.request (·.svnCommit))

theorem attest {i3c : Bool} {seq : Nat} {args : List Byte} (h : s.Inv) : (s.attest i3c seq args).Inv := by
  unfold State.attest
  refine .ite h.answer ?_
  refine h.intoBuffer fun h => ?_
  split
  · exact h.freeRefusal
  · exact h.setWk.fillBuffer.answer

theorem execAttest_inv {r : WkReq} (h : s.Inv) : NextInv (execAttest r s) := .next (h.request (·.attest))

theorem getCert {i3c : Bool} {seq : Nat} {args : List Byte} (h : s.Inv) : (s.getCert i3c seq args).Inv := by
  unfold State.getCert
  refine .ite h.answer ?_
  refine h.intoBuffer fun h => ?_
  split
  · exact h.fillBuffer.answer
  · exact h.freeRefusal

theorem execGetCert_inv {r : WkReq} (h : s.Inv) : NextInv (execGetCert r s) := .next (h.request (·.getCert))

theorem makeSeed (h : s.Inv) : s.makeSeed.Inv := .ite h.same h

theorem idPubkey {i3c : Bool} {seq : Nat} {args : List Byte} (h : s.Inv) : (s.idPubkey i3c seq args).Inv := by
  unfold State.idPubkey
  refine .ite h.answer ?_
  refine h.intoBuffer fun h => ?_
  dsimp only
  split
  · exact h.makeSeed.fillBuffer.answer
  · exact h.makeSeed.freeRefusal

theorem execIdPubkey_inv {r : WkReq} (h : s.Inv) : NextInv (execIdPubkey r s) := .next (h.request (·.idPubkey))

theorem recordWrite {flashOk i3c : Bool} {seq : Nat} {args : List Byte} (h : s.Inv) : (State.recordWrite flashOk s i3c seq args).Inv :=
  h.withBuffer fun h =>
    .ite h.answer <|
    .ite h.answer (.ite h.answer (.ite h.answer (.ite h.answer (.ite h.answer (.ite h.wkErr.answer h.releaseBuffer.setWk.enforce.logOwn.answer)))))

theorem execRecordWrite_inv {r : WkReq} {flashOk : Bool} (h : s.Inv) : NextInv (execRecordWrite r flashOk s) := .next (h.request (·.recordWrite))

theorem recordRead {i3c : Bool} {seq : Nat} {args : List Byte} (h : s.Inv) : (s.recordRead i3c seq args).Inv := by
  unfold State.recordRead
  refine .ite h.answer ?_
  refine h.intoBuffer fun h => ?_
  split
  · exact h.fillBuffer.answer
  · exact h.answer

theorem execRecordRead_inv {r : WkReq} (h : s.Inv) : NextInv (execRecordRead r s) := .next (h.request (·.recordRead))

theorem lcChallenge {i3c : Bool} {seq : Nat} {args : List Byte} (h : s.Inv) : (s.lcChallenge i3c seq args).Inv := by
  unfold State.lcChallenge
  refine .ite h.answer ?_
  split
  next hdraw => exact (ofSnd hdraw h.drawBytes).setWk.answer

theorem execLcChallenge_inv {r : WkReq} (h : s.Inv) : NextInv (execLcChallenge r s) := .next (h.request (·.lcChallenge))

theorem lcTransition {i3c : Bool} {seq : Nat} {args : List Byte} (h : s.Inv) : (s.lcTransition i3c seq args).Inv :=
  .ite h.answer (.ite h.answer (.ite h.answer (.ite h.answer (h.setWk.both (·.answer) (·.withFuses.releaseBuffer.logOwn.answer)))))

theorem execLcTransition_inv {r : WkReq} (h : s.Inv) : NextInv (execLcTransition r s) := .next (h.request (·.lcTransition))

theorem planSet {flashOk i3c : Bool} {seq : Nat} {args : List Byte} (h : s.Inv) : (State.planSet flashOk s i3c seq args).Inv :=
  .ite h.answer (.ite h.wkErr.answer h.takePlan.answer)

theorem execPlanSet_inv {r : WkReq} {flashOk : Bool} (h : s.Inv) : NextInv (execPlanSet r flashOk s) := .next (h.request (·.planSet))

theorem timeSet {i3c : Bool} {seq : Nat} {args : List Byte} (h : s.Inv) : (s.timeSet i3c seq args).Inv := .ite h.answer h.nextSecond.answer

theorem execTimeSet_inv {r : WkReq} (h : s.Inv) : NextInv (execTimeSet r s) := .next (h.request (·.timeSet))

theorem ucRetrain {m : Nat} (h : s.Inv) : (s.ucRetrain m).Inv := h.setFld.satFld.linkNews

theorem linkRetrain {i3c : Bool} {seq : Nat} {args : List Byte} (h : s.Inv) : (s.linkRetrain i3c seq args).Inv :=
  .ite h.answer (.ite h.answer (.ite h.answer (h.foldl (fun h => .ite h.ucRetrain h)).setWk))

theorem execLinkRetrain_inv {r : WkReq} (h : s.Inv) : NextInv (execLinkRetrain r s) := .next (h.request (·.linkRetrain))

theorem retrainEnded {m : Nat} (h : s.Inv) : (s.retrainEnded m).Inv := by
  unfold State.retrainEnded
  split
  · exact h
  · exact .ite h.setWk.answer h.setWk

theorem mgmtPacket {dst sub tag : Nat} {payload : List Byte} (h : s.Inv) : (s.mgmtPacket dst sub tag payload).Inv := h.injectPacket

theorem fabricRequest {i3c : Bool} {seq : Nat} {args : List Byte} (h : s.Inv) : (s.fabricRequest i3c seq args).Inv :=
  .ite h.answer (.ite h.answer h.setWk.mgmtPacket)

theorem execFabricRequest_inv {r : WkReq} (h : s.Inv) : NextInv (execFabricRequest r s) := .next (h.request (·.fabricRequest))

theorem execFabricTimeout_inv (h : s.Inv) : NextInv (execFabricTimeout s) := by
  unfold execFabricTimeout
  split
  · exact .ite (.next h.setWk.answer) (.next h)
  · exact .next h

theorem serveMgmt {q : Nat × Nat × List Byte} (h : s.Inv) : (s.serveMgmt q).Inv := h.mgmtPacket

theorem serveAllMgmt (h : s.Inv) : s.serveAllMgmt.Inv := h.setWk.foldl (·.serveMgmt)

theorem execMgmt_inv (h : s.Inv) : NextInv (execMgmt s) := by
  unfold execMgmt
  split
  · exact .next h
  · refine .ite ?_ (.ite (.ite (.next h.setInbox) (.next (h.setInbox.setWk.guard (·.serveAllMgmt)))) (.next h.setInbox))
    refine .ite (.next h) ?_
    split
    · exact .ite (.next h.setInbox.setWk.answer) (.next h.setInbox)
    · exact .next h.setInbox

theorem selftestEnable {i3c : Bool} {seq : Nat} {args : List Byte} (h : s.Inv) : (s.selftestEnable i3c seq args).Inv := .ite h.answer h.setFld.answer

theorem execSelftestEnable_inv {r : WkReq} (h : s.Inv) : NextInv (execSelftestEnable r s) := .next (h.request (·.selftestEnable))

theorem selftestFull {found : Nat} {i3c : Bool} {seq : Nat} {args : List Byte} (h : s.Inv) : (State.selftestFull found s i3c seq args).Inv :=
  .ite h.answer h.answer

theorem execSelftestFull_inv {r : WkReq} {found : BitVec 32} (h : s.Inv) : NextInv (execSelftestFull r found s) := .next (h.request (·.selftestFull))

theorem fenceClear {flashOk i3c : Bool} {seq : Nat} {args : List Byte} (h : s.Inv) : (State.fenceClear flashOk s i3c seq args).Inv :=
  .ite (.ite h.wkErr.answer h.withSpares.setWk.answer) (.ite (.ite h.wkErr.answer h.withSpares.setWk.answer) h.answer)

theorem execFenceClear_inv {r : WkReq} {flashOk : Bool} (h : s.Inv) : NextInv (execFenceClear r flashOk s) := .next (h.request (·.fenceClear))

theorem execLogMirror_inv {flashOk : Bool} (h : s.Inv) : NextInv (execLogMirror flashOk s) :=
  .ite (.next h) (.ite (.next h.wkErr) (.ite (.next h.mirrorSome.setWk) (.next h.mirrorSome)))

theorem enterDrizzle (h : s.Inv) : s.enterDrizzle.Inv := h.withPower.setInbox.setFld.setFld.postEvent

theorem writeDz {ctx : Ctx} {v : Nat} (h : s.Inv) : (s.writeDz ctx v).Inv :=
  .ite h.accessError (h.setFld.setFld.setFld.orElse (fun h => h.both (·.enterDrizzle) (·.pdErr)))

theorem execEnter_inv {ctx : Ctx} {value : Word} (h : s.Inv) : NextInv (execEnter ctx value s) := .next h.writeDz

theorem resumeVote {i : Nat} (h : s.Inv) : (s.resumeVote i).Inv := .ite h.withPower.setFld h

theorem leaveDrizzle {cause : Nat} (h : s.Inv) : (s.leaveDrizzle cause).Inv :=
  (h.setFld.setFld.addFld.setFld.foldl (fun h => .ite h.resumeVote h)).retargetAll.fresh.notice.withPower.both (·.postEvent) (·.withPower)

theorem wakeSource {k : Nat} (h : s.Inv) : (s.wakeSource k).Inv := .ite h.leaveDrizzle (.ite h.withPower.setFld h)

theorem execAddressMatch_inv {addr : BitVec 7} {i2c : Bool} (h : s.Inv) : NextInv (execAddressMatch addr i2c s) := .ite (.next h.wakeSource) (.next h)

theorem execWake_inv (h : s.Inv) : NextInv (execWake s) := by
  unfold execWake
  split
  · exact .next h
  · exact .next h.setInbox.wakeSource

theorem sampleEntry {n raw : Nat} (h : s.Inv) : (s.sampleEntry n raw).Inv :=
  .ite h (h.setSensor.withPower.orElse (fun h => h.pdErr.addFld.logOwn.inBand.guard (·.withPower)))

theorem serveAny {code : Nat} (h : s.Inv) : (s.serveAny code).Inv := by
  unfold State.serveAny
  dsimp only
  split
  · exact h.fresh.takeHead (·.replyTo)
  · exact h.fresh.takeHead (·.bufBegin)
  · exact h.fresh.takeHead (·.bufWrite)
  · exact h.fresh.takeHead (·.bufRead)
  · exact h.fresh.takeHead (·.bufRelease)
  · exact h.fresh.takeHead (·.fwCommit)
  · exact h.fresh.takeHead (·.svnCommit)
  · exact h.fresh.takeHead (·.attest)
  · exact h.fresh.takeHead (·.getCert)
  · exact h.fresh.takeHead (·.idPubkey)
  · exact h.fresh.takeHead (·.recordWrite)
  · exact h.fresh.takeHead (·.recordRead)
  · exact h.fresh.takeHead (·.lcChallenge)
  · exact h.fresh.takeHead (·.lcTransition)
  · exact h.fresh.takeHead (·.planSet)
  · exact h.fresh.takeHead (·.timeSet)
  · exact h.fresh.takeHead (·.linkRetrain)
  · exact h.fresh.takeHead (·.fabricRequest)
  · exact h.fresh.takeHead (·.selftestEnable)
  · exact h.fresh.takeHead (·.selftestFull)
  · exact h.fresh.takeHead (·.fenceClear)
  · exact h.fresh.takeHead (·.replyTo)
  · exact h.fresh.takeHead (·.replyTo)
  · exact h.fresh

theorem serveHeld (h : s.Inv) : s.serveHeld.Inv := by
  unfold State.serveHeld
  dsimp only
  refine setFld ?_
  refine serveAllMgmt ?_
  refine h.setFld.foldl fun h => ?_
  split
  · exact h.serveAny
  · exact h

theorem execSample_inv {readings : List (BitVec 32)} (h : s.Inv) : NextInv (execSample readings s) :=
  .ite (.next h) (.next ((h.foldl (·.sampleEntry)).addFld.serveHeld.withPower.orElse (·.leaveDrizzle)))

end State.Inv

end Sys2Proof.Machine
end

section

/-! PROOFS. What every step keeps, continued: resets and the supply (20 R447 to R453). -/

namespace Sys2Proof.Machine

namespace State.Inv

variable {s t : State}

theorem dropSlices {hit : Nat → Bool} (h : s.Inv) : (s.dropSlices hit).Inv := h.withTests

theorem tileReset {t : Nat} (h : s.Inv) : (s.tileReset t).Inv := h.dropSlices.resetTile

theorem dropHeldAnvil {p : Nat} {mine : Nat → Bool} (h : s.Inv) : (s.dropHeldAnvil p mine).Inv := h.foldl (fun h => h.setAnvil.foldl (·.anvilReport))

theorem resetLoader {p : Nat} {warm : Bool} (h : s.Inv) : (s.resetLoader p warm).Inv :=
  (h.setPart.orElse (fun h => h.foldl (·.launchDone))).wr.setMeas.setMeas.withZenith.resetChanged

theorem resetWatches {p : Nat} (h : s.Inv) : (s.resetWatches p).Inv := (h.foldl (fun h => .ite h.watchIdle h)).setFld

theorem resetJob {p : Nat} {warm : Bool} (h : s.Inv) : (s.resetJob p warm).Inv := h.resetCollectives.resetLoader.setFld.imageUnvote.settleRecords

theorem partReset {p : Nat} (h : s.Inv) : (s.partReset p).Inv :=
  (h.dropSlices.dropHeldAnvil.foldl (·.resetTile)).withWaits.resetJob.resetWatches.foldl (·.setWindow)

theorem clearInstances {base : Nat → Nat} {n : Nat} (h : s.Inv) : (s.clearInstances base n).Inv := h.foldl (·.resetInstance)

theorem withoutTileStates {a : Sparse TileSt} {b : Sparse QueueSt} {c : Sparse HubSt} {d : Sparse (Nat × Nat)} {e : List (Nat × Nat × Nat)}
    {f : List (Nat × Nat × List Byte)} (h : s.Inv) :
    State.Inv { s with tiles := a, queues := b, hubs := c, win := d, hubStart := e, evPend := f } := h.same

theorem withoutTraffic {a : Sparse TileSt} {b : Sparse QueueSt} {c : Sparse HubSt} {d : Sparse (Nat × Nat)} {e : List (Nat × Nat × Nat)}
    {f : List (Nat × Nat × List Byte)} {i : List Sig} {j : Sparse (Nat × List SyncLog)} {k : Sparse (List HaloMsg)} {l : Sparse AnvilSt}
    {m : SelfTestSt} {n : List (Nat × Nat)} (h : s.Inv) :
    State.Inv { s with tiles := a, queues := b, hubs := c, win := d, hubStart := e, evPend := f, sigNet := i, sync := j, haloNet := k, anvils := l
                       tests := m, waits := n } := h.same

theorem warmReset (h : s.Inv) : s.warmReset.Inv := by
  unfold State.warmReset
  extract_lets tiles cleared jobs traces emptied counted keys
  have htiles : tiles.Inv := h.foldl (·.zeroSync.resetTcRegs.resetMeRegs)
  have hcleared : cleared.Inv := withoutTileStates htiles
  have htraces : traces.Inv := (hcleared.foldl (·.resetJob.resetWatches)).foldl (·.traceDiscard)
  have hemptied : emptied.Inv := withoutTraffic htraces
  have hkeys : keys.Inv := hemptied.clearInstances.clearInstances.setFld.foldl (·.wr.wr)
  exact (hkeys.foldl (·.setFld)).retargetAll

theorem resetRefused (h : s.Inv) : s.resetRefused.Inv := h.addFld

theorem applyReset {r : Nat × Nat} (h : s.Inv) : (s.applyReset r).Inv := by
  unfold State.applyReset
  split
  · exact h.tileReset
  · exact h.partReset
  · exact h.warmReset

theorem requestReset {ctx : Ctx} {allowed good : Bool} {r : Nat × Nat} (h : s.Inv) : (s.requestReset ctx allowed good r).Inv :=
  .ite h.accessError (.ite h.resetRefused h.applyReset.withStart.setFld)

theorem tileResetBy {ctx : Ctx} {t : Nat} (h : s.Inv) : (s.tileResetBy ctx t).Inv := h.requestReset

theorem execTileReset_inv {ctx : Ctx} {t : Nat} (h : s.Inv) : NextInv (execTileReset ctx t s) := .next h.tileResetBy

theorem partResetBy {ctx : Ctx} {p : Nat} (h : s.Inv) : (s.partResetBy ctx p).Inv := h.requestReset

theorem execPartitionReset_inv {ctx : Ctx} {p : Nat} (h : s.Inv) : NextInv (execPartitionReset ctx p s) := .next h.partResetBy

theorem warmResetBy {ctx : Ctx} (h : s.Inv) : (s.warmResetBy ctx).Inv := h.requestReset

theorem execWarmReset_inv {ctx : Ctx} (h : s.Inv) : NextInv (execWarmReset ctx s) := .next h.warmResetBy

theorem execResetCompletion_inv (h : s.Inv) : NextInv (execResetCompletion s) := by
  unfold execResetCompletion
  split
  · exact .next h
  · exact .next h.applyReset.withStart.wr.addFld.setFld.setFld

theorem writeReset {ctx : Ctx} {v : Nat} (h : s.Inv) : (s.writeReset ctx v).Inv :=
  .ite h.resetRefused (.ite h.tileResetBy (.ite h.partResetBy h.warmResetBy))

theorem applyLifecycle (h : s.Inv) : s.applyLifecycle.Inv := by
  unfold State.applyLifecycle
  split
  · exact h
  · exact h.withFuses.both (·.setWk) (fun h => h.guard (·.withFuses.setWk))

theorem writeHours (h : s.Inv) : s.writeHours.Inv := by
  unfold State.writeHours
  refine h.foldl fun h => ?_
  split
  · exact .ite h.setWk h
  · exact h

theorem zenithReset (h : s.Inv) : s.zenithReset.Inv := (Inv.ite h.znErr h).setFld.setFld.setFld.withZenith.acquire

/-- The reset state with what a module reset keeps (20 R447). -/
theorem resetWith {a : List Instr} {b : Nat} {c : List Output} {n : Nat} {d : Fuses} {e : SparesSt} {f : Sparse (Nat × Nat)} {g : WelkinSt}
    {i : ZenithSt} {j : Sparse Word} {k : PwrSt} {l : StartSt} (hn : n < 2 ^ 64) :
    State.Inv { State.reset with pending := a, free := b, out := c, zt := n, fuses := d, spares := e, sensors := f, welkin := g, zenith := i
                                 regs := j, pwr := k, start := l } := ⟨rfl, hn⟩

theorem moduleReset (h : s.Inv) : s.moduleReset.Inv := by
  unfold State.moduleReset
  exact setFld (setFld (resetWith h.mirrorSome.writeHours.applyLifecycle.zenithReset.zt_lt))

theorem execModuleReset_inv (h : s.Inv) : NextInv (execModuleReset s) := .next h.moduleReset

theorem powerOnReset (s : State) : s.powerOnReset.Inv := resetHoldsTheInvariant.same

theorem execPowerOnReset_inv : NextInv (execPowerOnReset s) := .next (powerOnReset s)

theorem pwrErr {f : Fld} (h : s.Inv) : (s.pwrErr f).Inv := h.sticky

theorem setPwr {p : PwrSt} (h : s.Inv) : (s.setPwr p).Inv := h.withPwr

theorem logAnon {sev : Nat} {vals : List Nat} (h : s.Inv) : (s.logAnon sev vals).Inv := h.fresh.logSev

theorem thermalStep {r : Nat} {temp : Int} (h : s.Inv) : (s.thermalStep r temp).Inv := .ite (h.setPwr.guard (·.pwrErr)) (.ite h.setPwr h)

theorem stackHeat {n : Nat} {temp : Int} (h : s.Inv) : (s.stackHeat n temp).Inv :=
  (Inv.ite h.refreshRate h).both (·.setPwr.pwrErr) (fun h => h.guard (·.setPwr))

theorem powerReading {v : Nat} (h : s.Inv) : (s.powerReading v).Inv := h.setPwr

theorem sensorActs {c v : Nat} (h : s.Inv) : (s.sensorActs c v).Inv := by
  unfold State.sensorActs
  split
  · exact h.thermalStep
  · exact h.stackHeat
  · exact .ite h.setFld h
  · exact h.powerReading
  · exact h

theorem execSensorSample_inv {code : BitVec 16} {value : BitVec 32} (h : s.Inv) : NextInv (execSensorSample code value s) :=
  .ite (.next h.setSensor.sensorActs) (.next h)

theorem setCap {was : Bool} {p : PwrSt} (h : s.Inv) : (s.setCap was p).Inv := h.setPwr.guard (·.pwrErr)

theorem capDecision (h : s.Inv) : s.capDecision.Inv := (Inv.ite h.setCap (.ite h.setCap h.setCap)).guard (·.logAnon)

theorem execCapDecision_inv (h : s.Inv) : NextInv (execCapDecision s) := .ite (.next h.capDecision) (.next h)

theorem fastLimit (h : s.Inv) : s.fastLimit.Inv := h.setCap.pwrErr

theorem execFastLimit_inv (h : s.Inv) : NextInv (execFastLimit s) := .ite (.next h.fastLimit) (.next h)

theorem writePcap {ctx : Ctx} {v : Nat} (h : s.Inv) : (s.writePcap ctx v).Inv := .ite h.accessError (.ite h.setFld.setFld h.accessError)

theorem execVinLow_inv (h : s.Inv) : NextInv (execVinLow s) := .ite (.next h) (.next h.setPwr.setFld.pwrErr)

theorem inputLost {why : Nat} : (s.inputLost why).Inv := .powerOnReset _

theorem execRideThrough_inv (h : s.Inv) : NextInv (execRideThrough s) := .ite (.next inputLost) (.next h)

theorem execBrownOut_inv : NextInv (execBrownOut s) := .next inputLost

theorem execOvervoltage_inv : NextInv (execOvervoltage s) := .next inputLost

theorem execTrip_inv {code : BitVec 16} (h : s.Inv) : NextInv (execTrip code s) := .ite (.next h) (.next h.pwrErr.logAnon.setPwr.moduleReset)

theorem execTripRelease_inv {readings : List (BitVec 32)} (h : s.Inv) : NextInv (execTripRelease readings s) :=
  .ite (.next h.setPwr.withStart) (.next h)

end State.Inv

end Sys2Proof.Machine
end

section

/-! PROOFS. What every step keeps, continued: register accesses, start-up and the host link (00 R7; 10 R241 to R252; 20 R454 to R466). -/

namespace Sys2Proof.Machine

namespace State.Inv

variable {s t : State}

theorem putReg {a v : Nat} {locked : Bool} (h : s.Inv) : (s.putReg a v locked).Inv := by
  unfold State.putReg
  split
  · exact h
  · exact h.wr.guard (·.satFld)

theorem grant {ok : Bool} {ctx : Ctx} {a : Nat} (h : s.Inv) (ht : t.Inv) : (s.grant ok ctx a t).Inv := .ite ht h.accessError

theorem writeWk {ctx : Ctx} {a v : Nat} (h : s.Inv) : (s.writeWk ctx a v).Inv :=
  h.grant (.ite h.setWk (.ite h.calUserWrite (.ite h.writePcap h.putReg)))

theorem stopCmd {ctx : Ctx} {v : Nat} (h : s.Inv) : (s.stopCmd ctx v).Inv :=
  .ite h.accessError (((Inv.ite h.orderStop h).guard (·.orderResume)).guard (·.originate))

theorem writeZn {ctx : Ctx} {a o v : Nat} (h : s.Inv) : (s.writeZn ctx a o v).Inv :=
  .ite (h.grant h.putReg) <|
  .ite (h.grant h.putReg.elect) <|
  .ite (h.grant (h.putReg.guard (·.setZn))) (h.grant (.ite h.nextSecond (.ite (.ite h.reacquire h) (.ite h.stopCmd (.ite h.calUserWrite h.putReg)))))

theorem writePd {ctx : Ctx} {a o v : Nat} (h : s.Inv) : (s.writePd ctx a o v).Inv := .ite h.vote (.ite h.writeDz (h.grant h.putReg))

theorem siCommand {ctx : Ctx} {p v : Nat} (h : s.Inv) : (s.siCommand ctx p v).Inv := by
  unfold State.siCommand
  split
  · exact h.loadImage
  · exact h.armImage
  · exact h.abortStaged
  · exact h.unloadImage
  · exact h

theorem writeSi {ctx : Ctx} {a o v : Nat} (h : s.Inv) : (s.writeSi ctx a o v).Inv :=
  .ite (h.grant (.ite h.siCommand h.putReg)) <|
  .ite h.forcePass (.ite h.writeReset (.ite (h.grant h.putReg) (.ite (h.grant h.putReg) (h.grant h.putReg))))

theorem writeTlWindow {ctx : Ctx} {a p w v : Nat} (h : s.Inv) : (s.writeTlWindow ctx a p w v).Inv :=
  .ite (h.grant h.putReg) (.ite (h.grant h.putReg) (.ite (.ite h.cfga h.cfgb) (h.grant h)))

theorem writeTl {ctx : Ctx} {a o v : Nat} (h : s.Inv) : (s.writeTl ctx a o v).Inv :=
  .ite h.writeTlWindow <|
  .ite (.ite h.cfga h.cfgb) <|
  .ite h.snapCtrl <|
  .ite h.snapRing (.ite h.traceBase (.ite h.watchCtrl (.ite h.debugBase (.ite h.debugBase (h.grant (.ite h.writeCounter h.putReg))))))

theorem writeRt {ctx : Ctx} {a o v : Nat} (h : s.Inv) : (s.writeRt ctx a o v).Inv :=
  .ite (.ite h.accessError (.ite ((Inv.ite h.epochSwitch h).guard (·.forceDone)) (.ite h.accessError h.putReg))) <|
  .ite (h.grant h.writeCoord) (h.grant h.putReg)

theorem unmasked {n : Nat} (h : s.Inv) : (s.unmasked n).Inv := .ite h.setFld.sendMsi h

theorem writeUc {ctx : Ctx} {a n o v : Nat} (h : s.Inv) : (s.writeUc ctx a n o v).Inv :=
  h.grant (.ite (.ite (h.putReg.guard (·.unmasked)) h) h.putReg)

theorem writeQh {ctx : Ctx} {a d o v : Nat} (h : s.Inv) : (s.writeQh ctx a d o v).Inv := by
  unfold State.writeQh
  split
  · exact h.doorbell
  · exact h.writeWsel
  · exact h.writeDesc0
  · exact h.writeDesc1
  · exact h.writeDesc2
  · exact h.writeWctrl
  · exact h.writeWevq
  · refine .ite ?_ (.ite (h.grant h.putReg) (h.grant h))
    split
    · exact h.grant h
    · exact h.accessError

theorem klControl {n v : Nat} (h : s.Inv) : (s.klControl n v).Inv :=
  (((Inv.ite h.admitPort h).guard (·.retrain)).guard (·.recheck)).guard (·.disablePort)

theorem writeKl {ctx : Ctx} {a n o v : Nat} (h : s.Inv) : (s.writeKl ctx a n o v).Inv :=
  h.grant (.ite h.klControl (.ite h.writePlan (.ite (.ite h.setPort h) h.putReg)))

theorem writeRing {n p v : Nat} (h : s.Inv) : (s.writeRing n p v).Inv :=
  .ite (.ite h h.setFld.retargetAll) (h.setFld.setFld.orElse (fun h => h.both (·.setFld.retargetAll) (·.ceErr)))

theorem writeCe {ctx : Ctx} {a n o v : Nat} (h : s.Inv) : (s.writeCe ctx a n o v).Inv :=
  .ite (h.grant (.ite h.writeRing (.ite h h.putReg))) (h.grant (.ite (.ite h.clearBreak h) h.putReg))

theorem writeHb {ctx : Ctx} {a n o v : Nat} (h : s.Inv) : (s.writeHb ctx a n o v).Inv :=
  .ite h.writeLogBase (.ite h.writeLogCtrl (h.grant (h.putReg.guard (·.withPch))))

theorem noteSyncWrite {a t v : Nat} (h : s.Inv) : (s.noteSyncWrite a t v).Inv := .ite (h.foldl (fun h => .ite h h.noteUpdate)) (.ite h.noteUpdate h)

theorem writeTile {ctx : Ctx} {a t v : Nat} (h : s.Inv) : (s.writeTile ctx a t v).Inv :=
  .ite (h.grant h) (.ite h.accessError (.ite h.queueCtrl h.noteSyncWrite.putReg))

theorem mmioWrite {ctx : Ctx} {a v : Nat} (h : s.Inv) : (s.mmioWrite ctx a v).Inv := by
  unfold State.mmioWrite
  refine .ite h.accessError ?_
  split
  · exact h.accessError
  · split
    · exact h.grant h
    · exact h.writeWk
    · exact h.writeZn
    · exact h.writePd
    · exact h.writeSi
    · exact h.writeTl
    · exact h.writeRt
    · exact h.writeUc
    · exact h.writeQh
    · exact h.writeKl
    · exact h.writeCe
    · exact h.grant (.ite h.putReg h)
    · exact h.writeHb
    · exact h.writeTile
    · exact h.writeTile
    · exact h.writeTile

theorem execRegisterWrite_inv {ctx : Ctx} {addr : Nat} {value : Word} (h : s.Inv) : NextInv (execRegisterWrite ctx addr value s) := .next h.mmioWrite

theorem execMaskClear_inv {ctx : Ctx} {n : Nat} (h : s.Inv) : NextInv (execMaskClear ctx n s) := .next (h.grant h.setFld.unmasked)

theorem readEffect {um : Nat} {ctx : Ctx} {a : Nat} (h : s.Inv) : (s.readEffect um ctx a).Inv := by
  unfold State.readEffect
  refine .ite h.accessErrorOn ?_
  refine .ite h.setFld ?_
  split
  · exact .ite h.wr h
  · exact h

theorem readOut {ctx : Ctx} {a : Nat} (h : s.Inv) : (s.readOut ctx a).Inv := h.readEffect.withOut

theorem execReadClears_inv {ctx : Ctx} {addr : Nat} (h : s.Inv) : NextInv (execReadClears ctx addr s) := .next h.readOut

theorem execZnNow_inv {ctx : Ctx} (h : s.Inv) : NextInv (execZnNow ctx s) := .next h.readOut

theorem setStart {x : StartSt} (h : s.Inv) : (s.setStart x).Inv := h.withStart

theorem phaseTime {n : Nat} (h : s.Inv) : (s.phaseTime n).Inv := h.setFld

theorem endPhase {n : Nat} (h : s.Inv) : (s.endPhase n).Inv := h.phaseTime.setFld.setStart

theorem startFlag {f : Fld} {b : Bool} (h : s.Inv) : (s.startFlag f b).Inv := .ite h.setFld h

theorem startNotice (h : s.Inv) : s.startNotice.Inv := h.notice.inBand

theorem halt {phase cause : Nat} (h : s.Inv) : (s.halt phase cause).Inv :=
  ((h.setFld.setFld.setFld.foldl (·.disablePort)).withPower.foldl (fun h => .ite (Inv.ite h.loseDomain.addFld.powerEvent h).wr.setFld
      h)).logAnon.startNotice

theorem voteOn {doms : List Nat} (h : s.Inv) : (s.voteOn doms).Inv := (h.foldl (fun h => .ite h.setFld h)).retargetAll

theorem bringUp {doms : List Nat} (h : s.Inv) : (s.bringUp doms).Inv := h.foldl (fun h => .ite h.comeUp h)

theorem runFirmware {b : List Byte} (h : s.Inv) : (s.runFirmware b).Inv := h.wr.setFld.setMeas.setFld

theorem resumeLog (h : s.Inv) : s.resumeLog.Inv := by
  unfold State.resumeLog
  split
  · exact h.setFld.setFld
  · exact h

theorem enterRecovery {cause : Nat} (h : s.Inv) : (s.enterRecovery cause).Inv := h.setFld.setFld.setFld.wkErr.logOwn.fresh.notice.inBand

theorem execPhaseRom_inv {readError : Bool} (h : s.Inv) : NextInv (execPhaseRom readError s) :=
  .ite (.next h) (.ite (.next h.resumeLog.setFld.runFirmware.endPhase) (.next h.resumeLog.setFld.enterRecovery))

theorem loadRecords (h : s.Inv) : s.loadRecords.Inv := h.setWk.setWk.foldl (·.wkErr)

theorem calDefaults (h : s.Inv) : s.calDefaults.Inv := ((Inv.ite h.wkErr h).guard (·.wkErr)).guard (·.znErr)

theorem applyMarks (h : s.Inv) : s.applyMarks.Inv := h.withSpares.startFlag

theorem startLink {m : Nat} {o : UcieTraining} (h : s.Inv) : (s.startLink m o).Inv := (Inv.ite h.comeUp h.ucTrained).startFlag

theorem execPhaseAlwaysOn_inv {clocksOk : Bool} {um0 um1 : UcieTraining} (h : s.Inv) : NextInv (execPhaseAlwaysOn clocksOk um0 um1 s) :=
  .ite (.next h) <|
  .ite (.next h.halt) <|
  .next h.withZenith.loadRecords.calDefaults.applyMarks.loadPolicy.loadCalibration.setWk.voteOn.bringUp.startLink.startLink.endPhase

theorem startStack {n : Nat} {o : StackTraining} (h : s.Inv) : (s.startStack n o).Inv := .ite h (h.trainStack.guard (·.fillStack)).comeUp.startFlag

theorem execPhaseMemory_inv {trained : List StackTraining} (h : s.Inv) : NextInv (execPhaseMemory trained s) :=
  .ite (.next h) (.next (h.voteOn.foldl (·.startStack)).endPhase)

theorem bootFailure {f : SelfTestFailure} (h : s.Inv) : (s.bootFailure f).Inv := by
  unfold State.bootFailure
  split
  · exact .ite h (h.markTile.foldl (·.fenceTileUnit)).setFld
  · exact .ite h.fenceAnvil.setFld h
  · exact .ite h h.withSpares.fenceEvent.setFld

theorem execPhaseSelftest_inv {failures : List SelfTestFailure} {hubOk routerOk : Bool} (h : s.Inv) :
    NextInv (execPhaseSelftest failures hubOk routerOk s) :=
  .ite (.next h) <|
  have hup := h.voteOn.bringUp.foldl (·.bootFailure)
  .ite (.next hup.halt) (.ite (.next hup.halt) (.next (hup.foldl (·.zeroRegion)).endPhase))

theorem beginPorts (h : s.Inv) : s.beginPorts.Inv := by
  unfold State.beginPorts
  split
  · exact h.setFld.setStart
  · exact h.applyPlan.voteOn.setStart

theorem execPhasePorts_inv (h : s.Inv) : NextInv (execPhasePorts s) :=
  .ite (.next h) <|
  have hbegun := Inv.ite h.beginPorts h
  .ite (.next hbegun.startFlag.endPhase) (.next hbegun)

theorem execPhaseZenith_inv (h : s.Inv) : NextInv (execPhaseZenith s) := .ite (.next h.startFlag.phaseTime.setStart) (.next h)

theorem handOver (h : s.Inv) : s.handOver.Inv := (h.foldl (fun h => .ite h.setFld.setFld h.setFld)).retargetAll.setStart

theorem execHostReady_inv (h : s.Inv) : NextInv (execHostReady s) :=
  .ite (.next h) <|
  have hhanded := Inv.ite h.handOver h
  .ite (.next hhanded) (.next hhanded.setFld.phaseTime.startNotice.logOwn)

theorem arrived {seq : Nat} (h : s.Inv) : (s.arrived seq).Inv := .ite h h.withLink

theorem answerHost {r : HostReq} {b : List Byte} (h : s.Inv) : (s.answerHost r b).Inv := by
  unfold State.answerHost
  split
  · exact h.withOut
  · exact h

theorem hostRead {r : HostReq} (h : s.Inv) : (s.hostRead r).Inv := by
  unfold State.hostRead
  dsimp only
  split
  · exact h.hbRead.ueMet.ucErr.answerHost
  · exact h.hbRead.answerHost

theorem serveRequest {r : HostReq} (h : s.Inv) : (s.serveRequest r).Inv :=
  .ite h.accessErrorOn.answerHost (.ite (.ite h.readEffect.answerHost h.mmioWrite) (.ite h.hostRead h.hbWrite.store))

theorem holdRequest {r : HostReq} (h : s.Inv) : (s.holdRequest r).Inv := by
  unfold State.holdRequest
  dsimp only
  refine .ite h.withLink ?_
  split
  · exact h.withLink.holdAccess
  · exact h.withLink

theorem linkDrainFuel {n : Nat} (h : s.Inv) : (s.linkDrainFuel n).Inv := by
  induction n generalizing s with
  | zero => exact h
  | succ n ih =>
    unfold State.linkDrainFuel
    split
    · exact h
    · exact ih (serveRequest h.same)

theorem linkDrain (h : s.Inv) : s.linkDrain.Inv := .ite h h.linkDrainFuel

theorem arriveRequest {r : HostReq} (h : s.Inv) : (s.arriveRequest r).Inv := h.arrived.both (·.serveRequest.linkDrain) (·.holdRequest.linkDrain)

theorem execMrd_inv {um : Nat} {ctx : Ctx} {tag addr len8 : Nat} {seq : BitVec 32} (h : s.Inv) : NextInv (execMrd um ctx tag addr len8 seq s) :=
  .next (.ite h.arriveRequest h)

theorem execMwr_inv {um : Nat} {ctx : Ctx} {addr : Nat} {data : List Byte} {seq : BitVec 32} (h : s.Inv) : NextInv (execMwr um ctx addr data seq s) :=
  .next (.ite h.arriveRequest h)

theorem execUcieReplay_inv {um flits : Nat} (h : s.Inv) : NextInv (execUcieReplay um flits s) := .next (.ite h.addFld.addFld.ucErr h)

theorem retrained {um : Nat} {o : UcieTraining} (h : s.Inv) : (s.retrained um o).Inv :=
  ((h.ucTrained.orElse (·.ucErr)).orElse (·.sendPending)).retrainEnded.linkDrain

theorem execUcieRetrain_inv {um : Nat} {o : UcieTraining} (h : s.Inv) : NextInv (execUcieRetrain um o s) :=
  .next (.ite h (.ite h.retrained (.ite h.ucRetrain.retrained h)))

end State.Inv

end Sys2Proof.Machine
end

section

/-! PROOFS. What every step keeps, continued: routines, recovery and self-test (08 R189 to R193; 15 R364 to R383). -/

namespace Sys2Proof.Machine

namespace State.Inv

variable {s t : State}

theorem callUe {t : Nat} {c : Cmd} {u at_ : Nat} (h : s.Inv) : (s.callUe t c u at_).Inv := h.ueMet.returnCall

theorem callDataFault {t : Nat} {c : Cmd} {u : Nat} (h : s.Inv) : (s.callDataFault t c u).Inv := h.callUe

theorem issueAnvil {t : Nat} {c : Cmd} {k : Routine} {word : Nat → Nat → Nat} {done : State → State} (h : s.Inv)
    (hdone : ∀ {t}, t.Inv → (done t).Inv) :
    (s.issueAnvil t c k word done).Inv :=
  .ite (.ite h h.setRoutine.issueFor) (.ite h (hdone h))

theorem putGnorm {addr : Nat} {a : OptArgs} (h : s.Inv) : (s.putGnorm addr a).Inv := h.foldl (·.writeBytes)

theorem optEnter {t r kind : Nat} {c : Cmd} {b : List Byte} (h : s.Inv) : (s.optEnter t r kind c b).Inv := by
  unfold State.optEnter
  dsimp only
  refine .ite h.returnFault ?_
  split
  · exact h.returnFault
  · refine .ite ?_ h.putGnorm.beginRoutine
    refine .ite h.returnFault ?_
    refine .ite h.holdAccess ?_
    split
    · exact h.callDataFault
    · exact .ite h.returnFault (.ite h.returnOk h.putGnorm.beginRoutine)

theorem optRoutine {t r kind : Nat} (h : s.Inv) : (s.optRoutine t r kind).Inv := by
  unfold State.optRoutine
  split
  · exact h.enterCall (·.optEnter)
  · exact h.routineStep (fun h => h.issueAnvil (·.returnOk))
  · exact h

theorem execOptMomentum_inv {t : Nat} (h : s.Inv) : NextInv (execOptMomentum t s) := .next h.optRoutine

theorem execOptAdaptive_inv {t : Nat} (h : s.Inv) : NextInv (execOptAdaptive t s) := .next h.optRoutine

theorem execOptSign_inv {t : Nat} (h : s.Inv) : NextInv (execOptSign t s) := .next h.optRoutine

theorem normFinish {t : Nat} {c : Cmd} {gnorm axes : Nat} {others : BitVec 512 × Nat × Nat} (h : s.Inv) :
    (s.normFinish t c gnorm axes others).Inv := by
  unfold State.normFinish
  split
  · exact h.callDataFault
  · exact h.callDataFault
  · exact h.writeBytes.cleanUnits.returnOk

theorem normEnter {t : Nat} {c : Cmd} {b : List Byte} (h : s.Inv) : (s.normEnter t c b).Inv := by
  unfold State.normEnter
  dsimp only
  refine .ite h.returnFault ?_
  refine .ite h.returnFault ?_
  split
  · exact h.returnFault
  · refine .ite h.returnFault ?_
    split
    · exact h.returnCall
    · exact h.holdAccess
    · exact (h.foldl (·.writeBytes.cleanUnits)).beginRoutine

theorem execGradNorm_inv {t : Nat} {others : BitVec 512 × Nat × Nat} (h : s.Inv) : NextInv (execGradNorm t others s) := by
  unfold execGradNorm
  split
  · exact .next (h.enterCall (·.normEnter))
  · exact .next (h.routineStep (fun h => h.issueAnvil (·.normFinish)))
  · exact .next h

theorem widenGroup {d : UpdDesc} {widen : Nat} (h : s.Inv) : (s.widenGroup d widen).1.Inv := h.foldl (·.writeBytes)

theorem haloRerun {a : Nat} (h : s.Inv) : (s.haloRerun a).Inv := h.writeBytes

theorem rerunWork {t : Nat} {c : Cmd} {a : OptArgs} (h : s.Inv) : (s.rerunWork t c a).Inv := by
  unfold State.rerunWork
  extract_lets descs grads ext
  split
  · exact h.holdAccess
  · exact h.callDataFault
  · exact h.returnFault
  · exact h.holdAccess
  · exact h.callDataFault
  · exact h.callDataFault
  · exact returnOk (foldl (foldlFst h (·.widenGroup)) (·.haloRerun))

theorem execStepRerun_inv {t : Nat} (h : s.Inv) : NextInv (execStepRerun t s) := by
  unfold execStepRerun
  split
  · exact .next h
  · refine .next ?_
    refine h.enterCall fun h => ?_
    refine .ite h.returnFault ?_
    refine .ite h.returnFault ?_
    split
    · exact h.returnFault
    · exact h.rerunWork

theorem recompNext {t : Nat} (h : s.Inv) : (s.recompNext t).Inv := by
  unfold State.recompNext
  split
  · exact h
  · exact h.setRoutine

theorem recompEnd {t : Nat} {c : Cmd} {status addr : Nat} {wrote : List (Nat × Nat)} (h : s.Inv) : (s.recompEnd t c status addr wrote).Inv :=
  (Inv.ite h.stopQueue h).complete.recompNext

theorem recompInline {t : Nat} {k : Routine} {c : Cmd} (h : s.Inv) : (s.recompInline t k c).Inv := by
  unfold State.recompInline
  refine .ite h ?_
  extract_lets u a
  have hu : u.Inv := .ite h.takeWait.trace.setRoutine h
  refine .ite hu.recompEnd (.ite (.ite hu.recompEnd hu) ?_)
  split
  · exact hu.recompEnd
  · refine .ite hu.holdAccess (.ite hu.recompEnd ?_)
    split
    next hx => exact (ofFst hx hu.store).recompEnd
    next hx => exact (ofFst hx hu.store).recompEnd

theorem recompIssue {t : Nat} {k : Routine} {c : Cmd} (h : s.Inv) : (s.recompIssue t k c).Inv :=
  .ite h.refuse.recompNext (.ite h.recompInline (.ite h h.place.recompNext))

theorem recompStep {t : Nat} {c : Cmd} {k : Routine} (h : s.Inv) : (s.recompStep t c k).Inv := by
  unfold State.recompStep
  dsimp only
  refine .ite (.ite h h.returnOk) ?_
  split
  · exact .ite h h.returnCall
  · refine .ite h.holdAccess ?_
    split
    · exact .ite h h.callUe
    · split
      · exact .ite h h.returnFault
      · exact (Inv.ite h.lcRead.setRoutine h).guard (·.recompIssue)

theorem execRecompute_inv {t : Nat} (h : s.Inv) : NextInv (execRecompute t s) := by
  unfold execRecompute
  split
  · exact .next (h.enterCall (fun h => .ite h.beginRoutine h.returnFault))
  · exact .next (h.routineStep (·.recompStep))
  · exact .next h

theorem libNext {t : Nat} {k : Routine} (h : s.Inv) : (s.libNext t k).Inv := h.setRoutine

theorem libIssue {t q : Nat} {c : Cmd} {k : Routine} {word : Nat} (h : s.Inv) : (s.libIssue t q c k word).Inv := .ite h h.libNext.issueFor

theorem libCopy {t : Nat} {c : Cmd} {k : Routine} {src dst n : Nat} (h : s.Inv) : (s.libCopy t c k src dst n).Inv := h.libIssue

theorem libXor {t : Nat} {c : Cmd} {k : Routine} {dst src n : Nat} (h : s.Inv) : (s.libXor t c k dst src n).Inv := by
  unfold State.libXor
  split
  · exact h.libIssue
  · exact h.returnFault

theorem libPost {t : Nat} {c : Cmd} {k : Routine} {a index : Nat} {desc : List Byte} {table : List (List Byte)} (h : s.Inv) :
    (s.libPost t c k a index desc table).Inv :=
  .ite h (h.setRoutine.setCe.setOps.count.trace.both (·.putOp) (fun h => h.both (·.beginPermute) (·.advanceP2p)))

theorem libStore {t : Nat} {c : Cmd} {a : Nat} {b : List Byte} {next : State → State} (h : s.Inv) (hnext : ∀ {u}, u.Inv → (next u).Inv) :
    (s.libStore t c a b next).Inv := by
  unfold State.libStore
  refine .ite h.holdAccess ?_
  split
  next hstore => exact (ofFst hstore h.store).returnCall
  next hstore => exact hnext (ofFst hstore h.store).hbWrite

theorem parityData {t : Nat} {c : Cmd} {a : ParityArgs} {next : State → State} (h : s.Inv) (hnext : ∀ {t}, t.Inv → (next t).Inv) :
    (s.parityData t c a next).Inv :=
  h.libStore (fun h => hnext h)

theorem parityDone {t : Nat} {c : Cmd} {a : ParityArgs} (h : s.Inv) : (s.parityDone t c a).Inv := h.libStore (·.returnOk)

theorem parityEnter {t : Nat} {c : Cmd} {b : List Byte} (h : s.Inv) : (s.parityEnter t c b).Inv := by
  unfold State.parityEnter
  dsimp only
  refine .ite h.returnFault ?_
  split
  · exact h.returnFault
  · exact h.returnFault
  · exact .ite h.returnFault (.ite h.returnFault h.beginRoutine)

theorem libFailed {t : Nat} {c : Cmd} {k : Routine} {code : Nat} {go : State → State} (h : s.Inv) (hgo : ∀ {t}, t.Inv → (go t).Inv) :
    (s.libFailed t c k code go).Inv := by
  unfold State.libFailed
  split
  · exact .ite h.returnCall h
  · exact .ite (hgo h) h

theorem parityStep {t : Nat} {c : Cmd} {k : Routine} (h : s.Inv) : (s.parityStep t c k).Inv :=
  .ite h.parityDone (.ite h.libPost (.ite (.ite (h.parityData (·.libNext)) h.libNext) (.ite h.libCopy h.libXor)))

theorem execParityUpdate_inv {t : Nat} (h : s.Inv) : NextInv (execParityUpdate t s) := by
  unfold execParityUpdate
  split
  · exact .next (h.enterCall (·.parityEnter))
  · exact .next (h.routineStep (fun h => h.libFailed (·.parityStep)))
  · exact .next h

theorem rebuildEnter {t : Nat} {c : Cmd} {b : List Byte} (h : s.Inv) : (s.rebuildEnter t c b).Inv := by
  unfold State.rebuildEnter
  dsimp only
  refine .ite h.returnFault ?_
  refine .ite h.holdAccess ?_
  split
  · exact h.callDataFault
  · refine .ite h.returnFault ?_
    refine .ite h.holdAccess ?_
    split
    · exact h.callDataFault
    · split
      · exact h.returnFault
      · exact h.returnFault
      · exact .ite h.returnFault (.ite h.returnFault h.beginRoutine)

theorem fetchMember {t : Nat} {c : Cmd} {k : Routine} {r : RebuildArgs} {a : ParityArgs} {rank src dst n : Nat} (h : s.Inv) :
    (s.fetchMember t c k r a rank src dst n).Inv :=
  .ite h.libCopy h.libPost

theorem rebuildStep {t : Nat} {c : Cmd} {k : Routine} (h : s.Inv) : (s.rebuildStep t c k).Inv := by
  unfold State.rebuildStep
  dsimp only
  refine .ite h.fetchMember ?_
  refine .ite ?_ (.ite h.returnOk (.ite h.fetchMember (.ite h.libXor h.libCopy)))
  refine .ite h.holdAccess ?_
  split
  · exact h.callDataFault
  · exact h.returnFault
  · exact h.setRoutine

theorem execRebuild_inv {t : Nat} (h : s.Inv) : NextInv (execRebuild t s) := by
  unfold execRebuild
  split
  · exact .next (h.enterCall (·.rebuildEnter))
  · exact .next (h.routineStep (fun h => h.libFailed (·.rebuildStep)))
  · exact .next h

theorem snapPost {t : Nat} {k : Routine} {a : SnapArgs} {read : Bool} {addr len off : Nat} (h : s.Inv) : (s.snapPost t k a read addr len off).Inv :=
  .ite h (.ite h.holdAccess h.pushEntry.setRoutine)

theorem sealWork {t : Nat} {c : Cmd} {a : SnapArgs} {go : State → State} (h : s.Inv) (hgo : ∀ {t}, t.Inv → (go t).Inv) :
    (s.sealWork t c a go).Inv := by
  unfold State.sealWork
  dsimp only
  split
  · exact h.holdAccess
  · exact h.callDataFault
  · exact .ite h.returnFault (h.libStore (fun h => hgo h))

theorem snapEnter {t : Nat} {c : Cmd} {b : List Byte} (h : s.Inv) : (s.snapEnter t c b).Inv := by
  unfold State.snapEnter
  dsimp only
  refine .ite h.returnFault ?_
  split
  · exact h.returnFault
  · exact h.returnFault
  · split
    · exact h.libStore (·.beginRoutine)
    · exact h.sealWork (·.beginRoutine)
    · exact h.beginRoutine

theorem snapStep {t : Nat} {c : Cmd} {k : Routine} {a : SnapArgs} (h : s.Inv) : (s.snapStep t c k a).Inv := by
  unfold State.snapStep
  refine .ite ?_ ?_
  · split
    · exact h
    · refine .ite h.returnFault ?_
      refine .ite ?_ h.setRoutine
      refine .ite h.holdAccess ?_
      split
      · exact h.callDataFault
      · exact h.returnFault
      · exact h.setRoutine
  · split
    · exact h.returnOk
    · exact h.snapPost

theorem snapshot {t op : Nat} (h : s.Inv) : (s.snapshot t op).Inv := by
  unfold State.snapshot
  split
  · exact .ite h (h.enterCall (·.snapEnter))
  · exact .ite (h.routineStep (·.snapStep)) h
  · exact h

theorem execSave_inv {t : Nat} (h : s.Inv) : NextInv (execSave t s) := .next h.snapshot

theorem execSeal_inv {t : Nat} (h : s.Inv) : NextInv (execSeal t s) := .next h.snapshot

theorem execRestore_inv {t : Nat} (h : s.Inv) : NextInv (execRestore t s) := .next h.snapshot

theorem execStepReplay_inv {t : Nat} (h : s.Inv) : NextInv (execStepReplay t s) := by
  unfold execStepReplay
  split
  · exact .next h
  · refine .next ?_
    refine h.enterCall fun h => ?_
    refine .ite h.returnFault ?_
    split
    · exact h.holdAccess
    · exact h.callDataFault
    · exact .ite h.returnFault (.ite h.returnOk (.ite h.returnOk h.returnOk))

theorem setTests {x : SelfTestSt} (h : s.Inv) : (s.setTests x).Inv := h.withTests

theorem copyBad {m : Master} {bad : List (Nat × Nat)} (h : s.Inv) : (s.copyBad m bad).Inv := h.foldl (·.ueMet.freeRange)

theorem bankSaved {p t bank area : Nat} (h : s.Inv) : (s.bankSaved p t bank area).Inv :=
  cleanUnits (copyBad (h.withMem (cellsReplace_wf h.wf (bankCells_wf _ _ _ h.wf) (bankCells_lt _ _ _))))

theorem bankRestored {p t bank area : Nat} (h : s.Inv) : (s.bankRestored p t bank area).Inv :=
  ((h.foldl (·.setByte)).foldl (·.ueMet.freeRange.freeRange)).withUe

theorem startSlice {p : Nat} {w : TestWin} {hi : Nat} (h : s.Inv) : (s.startSlice p w hi).Inv := by
  unfold State.startSlice
  split
  · exact h
  · exact (Inv.ite h.bankSaved h).setTests

theorem execTestWindow_inv {p : Nat} {w : BitVec 16} {voltageOk : Bool} (h : s.Inv) : NextInv (execTestWindow p w voltageOk s) := by
  unfold execTestWindow
  split
  · exact .next h
  · exact .ite (.next h) (.ite (.next h.setTests.startSlice) (.next h.setTests.addFld))

theorem execSelftestSlice_inv {p : Nat} {w : BitVec 16} (h : s.Inv) : NextInv (execSelftestSlice p w s) := by
  unfold execSelftestSlice
  split
  · exact .next h
  · exact .ite (.next h.startSlice) (.next h)

theorem coverSlice {x : SliceRun} {failed : Bool} (h : s.Inv) : (s.coverSlice x failed).Inv := by
  unfold State.coverSlice
  extract_lets u tests tested counted
  have htested : tested.Inv := .ite h h.setTests.addFld
  have hcounted : counted.Inv := .ite htested.addFld htested
  exact .ite hcounted.setTests.addFld.setFld.setFld hcounted

theorem execSelftestSliceEnd_inv {r : Nat} {failed : Bool} (h : s.Inv) : NextInv (execSelftestSliceEnd r failed s) := by
  unfold execSelftestSliceEnd
  split
  · exact .next h
  · exact
      have hback := h.setTests.both (·.setTile) (·.guard (·.bankRestored))
      .ite (.next hback.addFld.coverSlice.addFld.fenceTileUnit) (.next hback.addFld.coverSlice)

end State.Inv

end Sys2Proof.Machine
end

section

/-! PROOFS. What every step keeps, continued: slices and the token loop (03 R81; 13 R330). -/

namespace Sys2Proof.Machine

namespace State.Inv

variable {s t : State}

theorem saveTile {img : Image} {t : Nat} {m : Master} (h : s.Inv) : (s.saveTile img t m).Inv :=
  (h.copySound.withMem (cellsZero_wf _ _ h.copySound.wf)).cleanUnits.freeRange.cleanUnits

theorem restoreTile {img : Image} {t : Nat} {m : Master} (h : s.Inv) : (s.restoreTile img t m).Inv := h.copySound

theorem swapSlot {p : Nat} {img : Image} {k : Nat} (h : s.Inv) : (s.swapSlot p img k).Inv := ((h.foldl (·.saveTile)).foldl (·.restoreTile)).setPart

theorem deliverSlot {p : Nat} {e : Nat × List Byte} (h : s.Inv) : (s.deliverSlot p e).Inv := h.withLaunchNo.foldl (·.deliver)

theorem execSliceSwitch_inv {p : Nat} (h : s.Inv) : NextInv (execSliceSwitch p s) := by
  unfold execSliceSwitch
  dsimp only
  split
  · exact .next h
  · refine .ite (.next h) ?_
    split
    · exact .next h.holdAccess
    · exact .ite (.next (h.swapSlot.foldl (·.deliverSlot))) (.next (h.swapSlot.foldl (·.launchDone)).setPart)

theorem loopSend {t : Nat} {c : Cmd} {k : Routine} {a : LoopArgs} {body : List Byte} (h : s.Inv) : (s.loopSend t c k a body).Inv := h.libPost

theorem loopEnter {t : Nat} {c : Cmd} {b : List Byte} (h : s.Inv) : (s.loopEnter t c b).Inv := .ite h.returnFault h.beginRoutine

theorem loopTo {t : Nat} {k : Routine} {phase ix count token fin : Nat} (h : s.Inv) : (s.loopTo t k phase ix count token fin).Inv := h.setRoutine

theorem loopInput {t : Nat} {c : Cmd} {k : Routine} {a : LoopArgs} {inLen : Nat} (h : s.Inv) : (s.loopInput t c k a inLen).Inv := by
  unfold State.loopInput
  extract_lets x need i slots ext
  refine .ite h ?_
  split
  · exact h.returnFault
  · exact h.holdAccess
  · exact h.callDataFault
  · split
    next u e hfst =>
      have hu : u.Inv := ofFst hfst (store h.takeCount)
      split
      next v f hsnd =>
        have hv : v.Inv := ofFst hsnd (iteFst hu hu.store)
        split
        · exact hv.returnCall
        · exact hv.returnCall
        · exact .ite (.ite hv.returnOk hv.loopTo) hv.loopTo

theorem loopLaunch {t : Nat} {c : Cmd} {k : Routine} {a : LoopArgs} (h : s.Inv) : (s.loopLaunch t c k a).Inv := by
  unfold State.loopLaunch
  dsimp only
  refine .ite h ?_
  refine .ite h.holdAccess ?_
  refine .ite h.holdAccess ?_
  split
  · exact h.callDataFault
  · exact h.pushEntry.loopTo

theorem loopOutput {t : Nat} {c : Cmd} {k : Routine} {a : LoopArgs} (h : s.Inv) : (s.loopOutput t c k a).Inv := by
  unfold State.loopOutput
  refine .ite h.holdAccess ?_
  split
  · exact h.callDataFault
  · exact h.loopSend

theorem loopHost {t : Nat} {k : Routine} {a : LoopArgs} (h : s.Inv) : (s.loopHost t k a).Inv := .ite h (.ite h.holdAccess h.pushEntry.loopTo)

theorem execTokenLoop_inv {t : Nat} {inLen : BitVec 16} (h : s.Inv) : NextInv (execTokenLoop t inLen s) := by
  unfold execTokenLoop
  split
  · exact .next (h.enterCall (·.loopEnter))
  · refine .next ?_
    refine h.routineStep fun h => ?_
    refine h.libFailed fun h => ?_
    split
    · exact h.loopInput
    · exact h.loopLaunch
    · exact .ite h h.takeCount.loopTo
    · exact h.loopOutput
    · exact h.loopHost
    · exact h.loopSend
    · exact h.returnOk
  · exact .next h

end State.Inv

end Sys2Proof.Machine
end

section

/-! PROOFS. What every step keeps, continued: the step (Dispatch, Tick, Step): every command, the cycles of a tick, and so every step. -/

namespace Sys2Proof.Machine

namespace State.Inv

variable {s t : State}

theorem exec_inv {i : Instr} (h : s.Inv) : NextInv (exec i s) := by
  unfold exec
  split
  · exact h.execRegisterWrite_inv
  · exact h.execReadClears_inv
  · exact h.execZnNow_inv
  · exact h.execMrd_inv
  · exact h.execMwr_inv
  · exact h.execMaskClear_inv
  · exact h.execUcieReplay_inv
  · exact h.execUcieRetrain_inv
  · exact h.execLoad_inv
  · exact h.execLoadCheckDone_inv
  · exact h.execArm_inv
  · exact h.execAbortImage_inv
  · exact h.execUnload_inv
  · exact h.execActivation_inv
  · exact h.execActivationDone_inv
  · exact h.execUnloadSwitch_inv
  · exact h.execUnloadDone_inv
  · exact h.execForcePass_inv
  · exact h.execTileReset_inv
  · exact h.execPartitionReset_inv
  · exact h.execWarmReset_inv
  · exact h.execResetCompletion_inv
  · exact h.execModuleReset_inv
  · exact execPowerOnReset_inv
  · exact h.execPhaseRom_inv
  · exact h.execPhaseAlwaysOn_inv
  · exact h.execPhaseMemory_inv
  · exact h.execPhaseSelftest_inv
  · exact h.execPhasePorts_inv
  · exact h.execPhaseZenith_inv
  · exact h.execHostReady_inv
  · exact h.execLaunchDelivery_inv
  · exact h.execCommandFetch_inv
  · exact h.execCommandIssue_inv
  · exact h.execCompletion_inv
  · exact h.execSync_inv
  · exact h.execFence_inv
  · exact h.execStamp_inv
  · exact h.execNoop_inv
  · exact h.execFillRoutine_inv
  · exact h.execEngineRecover_inv
  · exact h.execResume_inv
  · exact h.execFlush_inv
  · exact h.execRemoteSignal_inv
  · exact h.execRouteDelivery_inv
  · exact h.execCopy_inv
  · exact h.execFill_inv
  · exact h.execSplit_inv
  · exact h.execRouteSend_inv
  · exact h.execRouteRecv_inv
  · exact h.execWload_inv
  · exact h.execFeed_inv
  · exact h.execRowLanding_inv
  · exact h.execStore_inv
  · exact h.execDrain_inv
  · exact h.execConv_inv
  · exact h.execInval_inv
  · exact h.execVuAdd_inv
  · exact h.execVuSub_inv
  · exact h.execVuMul_inv
  · exact h.execVuFma_inv
  · exact h.execVuMax_inv
  · exact h.execVuMin_inv
  · exact h.execVuCmpLt_inv
  · exact h.execVuCmpEq_inv
  · exact h.execVuSelect_inv
  · exact h.execVuConvert_inv
  · exact h.execVuExp_inv
  · exact h.execVuLog_inv
  · exact h.execVuRsqrt_inv
  · exact h.execVuRcp_inv
  · exact h.execVuTanh_inv
  · exact h.execVuErf_inv
  · exact h.execVuRsum_inv
  · exact h.execVuRmax_inv
  · exact h.execVuTopk_inv
  · exact h.execVuToG32_inv
  · exact h.execVuFromG32_inv
  · exact h.execXsrAdd_inv
  · exact h.execXsrLoadadd_inv
  · exact h.execXsrStore_inv
  · exact h.execXsrRound_inv
  · exact h.execXsrClear_inv
  · exact h.execDraw_inv
  · exact h.execAnvilForward_inv
  · exact h.execUpdate_inv
  · exact h.execNorm_inv
  · exact h.execXorAcc_inv
  · exact h.execHaloSend_inv
  · exact h.execHaloMessage_inv
  · exact h.execRecompute_inv
  · exact h.execOptMomentum_inv
  · exact h.execOptAdaptive_inv
  · exact h.execOptSign_inv
  · exact h.execGradNorm_inv
  · exact h.execStepRerun_inv
  · exact h.execParityUpdate_inv
  · exact h.execRebuild_inv
  · exact h.execSave_inv
  · exact h.execSeal_inv
  · exact h.execRestore_inv
  · exact h.execStepReplay_inv
  · exact h.execSliceSwitch_inv
  · exact h.execTokenLoop_inv
  · exact h.execTestWindow_inv
  · exact h.execSelftestSlice_inv
  · exact h.execSelftestSliceEnd_inv
  · exact h.execInterfaceTraining_inv
  · exact h.execStackReady_inv
  · exact h.execLcWindow_inv
  · exact h.execRefresh_inv
  · exact h.execSelfRefresh_inv
  · exact h.execPatrolScrub_inv
  · exact h.execHbLogBase_inv
  · exact h.execHbLogCtrl_inv
  · exact h.execDoorbell_inv
  · exact h.execEnable_inv
  · exact h.execQhWctrlArm_inv
  · exact h.execDisarm_inv
  · exact h.execQhWctrlReset_inv
  · exact h.execHeadWordRead_inv
  · exact h.execHubCycle_inv
  · exact h.execMessageDelivery_inv
  · exact h.execDetect_inv
  · exact h.execEqualise_inv
  · exact h.execLock_inv
  · exact h.execDiscover_inv
  · exact h.execTrainTimeout_inv
  · exact h.execNoPartner_inv
  · exact h.execAutoRetrain_inv
  · exact h.execAdmitPort_inv
  · exact h.execRecheck_inv
  · exact h.execRetrain_inv
  · exact h.execDisable_inv
  · exact h.execKlPlan_inv
  · exact h.execCodeword_inv
  · exact h.execControlFlit_inv
  · exact h.execLaneFailed_inv
  · exact h.execDegradeRetrain_inv
  · exact h.execLoss_inv
  · exact h.execSleep_inv
  · exact h.execWakeFlit_inv
  · exact h.execInserted_inv
  · exact h.execRemoved_inv
  · exact h.execContrailSensors_inv
  · exact h.execHoursWrite_inv
  · exact h.execStorageEntry_inv
  · exact h.execReadData_inv
  · exact h.execStatus_inv
  · exact h.execStorageTimeout_inv
  · exact h.execPacketArrival_inv
  · exact h.execPacketBoundary_inv
  · exact h.execRtCoord_inv
  · exact h.execSwitch_inv
  · exact h.execTSw_inv
  · exact h.execClosesSent_inv
  · exact h.execEpochClose_inv
  · exact h.execForceDone_inv
  · exact h.execEpochTimeout_inv
  · exact h.execProdPoll_inv
  · exact h.execReduceScatter_inv
  · exact h.execAllGather_inv
  · exact h.execAllReduce_inv
  · exact h.execBroadcast_inv
  · exact h.execPermute_inv
  · exact h.execSend_inv
  · exact h.execRead_inv
  · exact h.execContribution_inv
  · exact h.execDeadline_inv
  · exact h.execData_inv
  · exact h.execReady_inv
  · exact h.execDoneMsg_inv
  · exact h.execLinkBreak_inv
  · exact h.execDecideReq_inv
  · exact h.execDecideMsg_inv
  · exact h.execCollectiveAbort_inv
  · exact h.execCollectiveTimeout_inv
  · exact h.execCollectiveComplete_inv
  · exact h.execRequest_inv
  · exact h.execReply_inv
  · exact h.execPlaceExpiry_inv
  · exact h.execClearBreak_inv
  · exact h.execAnnounceSend_inv
  · exact h.execAnnounce_inv
  · exact h.execParentTimeout_inv
  · exact h.execWindow_inv
  · exact h.execTimeSyncSend_inv
  · exact h.execTimeSync_inv
  · exact h.execRefPpsIn_inv
  · exact h.execRefLost_inv
  · exact h.execZnNextSec_inv
  · exact h.execReacquire_inv
  · exact h.execPpsOut_inv
  · exact h.execTodOut_inv
  · exact h.execFrameBoundary_inv
  · exact h.execStop_inv
  · exact h.execZnResume_inv
  · exact h.execImmediate_inv
  · exact h.execStopPacket_inv
  · exact h.execStopAtT_inv
  · exact h.execTQuiet_inv
  · exact h.execResumeAtT2_inv
  · exact h.execCfga_inv
  · exact h.execSnapEnable_inv
  · exact h.execSnapshotInstant_inv
  · exact h.execTlSnapRing_inv
  · exact h.execTlTraceBase_inv
  · exact h.execWatchEnable_inv
  · exact h.execTlDbgBase_inv
  · exact h.execVote_inv
  · exact h.execQuiescence_inv
  · exact h.execTransition_inv
  · exact h.execEnter_inv
  · exact h.execSample_inv
  · exact h.execAddressMatch_inv
  · exact h.execWake_inv
  · exact h.execPrivateWrite_inv
  · exact h.execPrivateRead_inv
  · exact h.execGetStatus_inv
  · exact h.execBufBegin_inv
  · exact h.execBufWrite_inv
  · exact h.execBufRead_inv
  · exact h.execBufRelease_inv
  · exact h.execBufTimeout_inv
  · exact h.execFwCommit_inv
  · exact h.execSvnCommit_inv
  · exact h.execAttest_inv
  · exact h.execGetCert_inv
  · exact h.execIdPubkey_inv
  · exact h.execRecordWrite_inv
  · exact h.execRecordRead_inv
  · exact h.execLcChallenge_inv
  · exact h.execLcTransition_inv
  · exact h.execPlanSet_inv
  · exact h.execTimeSet_inv
  · exact h.execLinkRetrain_inv
  · exact h.execFabricRequest_inv
  · exact h.execFabricTimeout_inv
  · exact h.execMgmt_inv
  · exact h.execSelftestEnable_inv
  · exact h.execSelftestFull_inv
  · exact h.execFenceClear_inv
  · exact h.execLogRead_inv
  · exact h.execSensorRead_inv
  · exact h.execSensorSample_inv
  · exact h.execLogMirror_inv
  · exact h.execVinLow_inv
  · exact h.execRideThrough_inv
  · exact execBrownOut_inv
  · exact execOvervoltage_inv
  · exact h.execCapDecision_inv
  · exact h.execFastLimit_inv
  · exact h.execTrip_inv
  · exact h.execTripRelease_inv
  · exact h.execDynamicAddressAssignment_inv

theorem zenithTick (h : s.Inv) : s.zenithTick.Inv := by
  unfold State.zenithTick
  exact .ite h.withClock h

theorem tileSlots {t : Nat} (h : s.Inv) : (s.tileSlots t).Inv := h.count.foldl (fun h => .ite h h.count)

theorem nsCounts (h : s.Inv) : s.nsCounts.Inv := by
  unfold State.nsCounts
  refine .ite h (foldl (foldl (h.foldl fun h => ?_) fun h => .ite h h.count.count) fun h => ?_)
  · split
    · exact h
    · exact (h.count.guard (·.count)).guard (·.count)
  · split
    · exact h.count
    · exact h

theorem regionStep {r : Nat} (h : s.Inv) : (s.regionStep r).Inv := ((Inv.ite h (h.foldl (·.tileSlots))).foldl (·.meCycle)).withRegionCycle

theorem regionSteps {r n : Nat} (h : s.Inv) : (s.regionSteps r n).Inv := by
  induction n generalizing s with
  | zero => exact h
  | succ n ih => exact ih h.regionStep

theorem regionTick {r : Nat} (h : s.Inv) : (s.regionTick r).Inv := .ite h.withRegionCycle.regionSteps h

theorem flushAll (h : s.Inv) : s.flushAll.Inv := h.hbFlush.evFlush.flushReports.tallyFlush.linkDrain.switchRetry.fenceSeen.hubEnd.hubEnd

theorem tick (h : s.Inv) : s.tick.Inv := (((h.zenithTick.foldl (·.snapTake)).withStart.nsCounts.foldl (·.regionTick)).foldl (·.portTick)).flushAll

theorem step_inv (h : s.Inv) : NextInv (step s) := by
  unfold step
  split
  · exact .next h.tick
  · exact h.withPending.exec_inv

end State.Inv

/-- Settles O5: a step runs the first pending command, or, where none is pending, a tick. -/
theorem stepKeepsTheInvariant : Obligations.StepKeepsTheInvariant := by
  unfold Obligations.StepKeepsTheInvariant
  exact fun s s' h hs => h.step_inv s' hs

end Sys2Proof.Machine
end

section

/-! PROOFS. The HBM controllers (09 R211 to R223): what reports and fences leave of the stacks' HB_STATUS, the content of a stack filled, the
latency-critical window, and the rows of the controllers. -/

namespace Sys2Proof.Machine

/-- The HB_STATUS registers stay as they were. -/
structure StatusKept (s t : State) : Prop where
  rd : ∀ k, t.rd (HB_STATUS k) = s.rd (HB_STATUS k)

namespace StatusKept

variable {s t u : State}

theorem refl (s : State) : StatusKept s s := ⟨fun _ => rfl⟩

theorem fld (h : StatusKept s t) (k : Nat) (f : Fld) : t.fld (HB_STATUS k) f = s.fld (HB_STATUS k) f := fld_of_rd (h.rd k) f

/-! ## Shapes of operations -/

theorem of_regs (h : StatusKept s t) (hregs : u.regs = t.regs) : StatusKept s u :=
  ⟨fun k => (rd_of_regs hregs _).trans (h.rd k)⟩

theorem ite {c : Prop} [Decidable c] (ht : StatusKept s t) (hu : StatusKept s u) : StatusKept s (if c then t else u) := by
  split
  · exact ht
  · exact hu

theorem foldl {α : Type} {l : List α} {f : State → α → State} (h : StatusKept s t) (hf : ∀ {u x}, StatusKept s u → StatusKept s (f u x)) :
    StatusKept s (l.foldl f t) := by
  induction l generalizing t with
  | nil => exact h
  | cons x l ih => exact ih (hf h)

/-- HB_STATUS is the first register of its block of 64 KiB. -/
theorem wr (h : StatusKept s t) {a v : Nat} (ha : a % 0x10000 ≠ 0) : StatusKept s (t.wr a v) :=
  ⟨fun k => (rd_wr_ne t v (by unfold HB_STATUS; omega)).trans (h.rd k)⟩

theorem setFld (h : StatusKept s t) {a v : Nat} {f : Fld} (ha : a % 0x10000 ≠ 0) : StatusKept s (t.setFld a f v) := h.wr ha

theorem addFld (h : StatusKept s t) {a k : Nat} {f : Fld} (ha : a % 0x10000 ≠ 0) : StatusKept s (t.addFld a f k) := h.setFld ha

theorem sticky (h : StatusKept s t) {e ev : Nat} {f : Fld} (he : e % 0x10000 ≠ 0) (hev : ev % 0x10000 ≠ 0) : StatusKept s (t.sticky e f ev) :=
  (h.setFld he).addFld hev

theorem fresh (h : StatusKept s t) : StatusKept s t.fresh.2 := h.of_regs rfl

theorem withHbPend (h : StatusKept s t) {l : List (Nat × List Byte)} : StatusKept s { t with hbPend := l } := h.of_regs rfl

theorem withHbSeq (h : StatusKept s t) {q : Sparse Nat} : StatusKept s { t with hbSeq := q } := h.of_regs rfl

theorem withSpares (h : StatusKept s t) {x : SparesSt} : StatusKept s { t with spares := x } := h.of_regs rfl

theorem withWelkin (h : StatusKept s t) {w : WelkinSt} : StatusKept s { t with welkin := w } := h.of_regs rfl

theorem setTile (h : StatusKept s t) {i : Nat} {x : TileSt} : StatusKept s (t.setTile i x) := h.of_regs rfl

theorem setAnvil (h : StatusKept s t) {v : Nat} {a : AnvilSt} : StatusKept s (t.setAnvil v a) := h.of_regs rfl

theorem setHaloAt (h : StatusKept s t) {v : Nat} {l : List HaloMsg} : StatusKept s (t.setHaloAt v l) := h.of_regs rfl

/-! ## Reports (09 R222, 10 R235, 18 R427) -/

theorem hbErr (h : StatusKept s t) {n : Nat} {f : Fld} : StatusKept s (t.sticky (HB_ERR n) f (HB_ERR_EVENTS n)) :=
  h.sticky (by unfold HB_ERR; omega) (by unfold HB_ERR_EVENTS; omega)

theorem spareErr (h : StatusKept s t) {f : Fld} : StatusKept s (t.sticky SI_SPARE_ERR f SI_SPARE_EVENTS) := h.sticky (by decide) (by decide)

theorem notMem_holdRegs (k n : Nat) : HB_STATUS k ∉ holdRegs n := by
  simp only [holdRegs, HB_STATUS, HB_HELD, HB_ERR, HB_ERR_EVENTS, PD_HELD, PD_ERR, PD_ERR_EVENTS, List.mem_cons, List.not_mem_nil, or_false]
  omega

theorem notMem_logRegs (k : Nat) : HB_STATUS k ∉ [WK_LOG, WK_ERR, WK_ERR_EVENTS] := by
  simp only [HB_STATUS, WK_LOG, WK_ERR, WK_ERR_EVENTS, List.mem_cons, List.not_mem_nil, or_false]
  omega

theorem notMem_eventRegs (k d n : Nat) : HB_STATUS k ∉ eventRegs d n := by
  simp only [eventRegs, List.mem_append, not_or, notMem_holdRegs, not_false_eq_true, and_true]
  simp only [HB_STATUS, WK_LOG, WK_ERR, WK_ERR_EVENTS, QH_ERR, QH_ERR_EVENTS, QH_EV_DROPS, List.mem_cons, List.not_mem_nil, or_false]
  omega

theorem holdAccess (h : StatusKept s t) {who a : Nat} {x : Attr} : StatusKept s (t.holdAccess who a x) :=
  ⟨fun k => (rd_holdAccess_ne t who a x (notMem_holdRegs k _)).trans (h.rd k)⟩

theorem logFree (h : StatusKept s t) {code : Nat} {b : List Byte} : StatusKept s (t.logFree code b) :=
  ⟨fun k => (rd_logFree_ne t code b (notMem_logRegs k)).trans (h.rd k)⟩

theorem postEvent (h : StatusKept s t) {scope : Option Nat} {d kind source : Nat} {b : List Byte} :
    StatusKept s (t.postEvent scope d kind source b) :=
  ⟨fun k => (rd_postEvent_ne t scope d kind source b (notMem_eventRegs k d)).trans (h.rd k)⟩

theorem hbPut (h : StatusKept s t) {n : Nat} {b : List Byte} : StatusKept s (t.hbPut n b) := by
  have hctrl : HB_LOG_CTRL n % 0x10000 ≠ 0 := by unfold HB_LOG_CTRL; omega
  have hwritten (a : Nat) : StatusKept s ((t.writeBytes a b).cleanUnits a 32) :=
    h.of_regs ((cleanUnits_regs _ _ _).trans (writeBytes_regs _ _ _))
  exact ite h (ite (h.addFld hctrl).hbErr ((hwritten _).setFld hctrl))

theorem hbLog (h : StatusKept s t) {n : Nat} {b : List Byte} : StatusKept s (t.hbLog n b) :=
  ite h.withHbPend (ite h.holdAccess.withHbPend h.hbPut)

theorem hbRecordAt (h : StatusKept s t) {n kind a pch : Nat} {m : Master} : StatusKept s (t.hbRecordAt n kind a pch m) := by
  unfold State.hbRecordAt
  exact (ite h.logFree h).withHbSeq.hbLog

/-! ## Training (09 R211, R212) -/

theorem trainFail (h : StatusKept s t) {n code : Nat} : StatusKept s (t.trainFail n code) := by
  unfold State.trainFail
  exact h.fresh.fresh.hbErr.hbRecordAt

theorem hbLane (h : StatusKept s t) {n i v : Nat} (hi : i < 4) : StatusKept s (t.wr (HB_LANE n i) v) := h.wr (by unfold HB_LANE; omega)

theorem laneRepair (h : StatusKept s t) {n : Nat} {r : Fin 32 × Fin 32} : StatusKept s (t.laneRepair n r) := by
  unfold State.laneRepair
  exact (h.fresh.hbLane (i := r.1.val / 8) (by have := r.1.isLt; omega)).hbRecordAt

/-! ## Fences (08 R200, 15 R366, R367) -/

theorem flashErr (h : StatusKept s t) : StatusKept s (t.sticky WK_ERR WK_ERR_FLASH WK_ERR_EVENTS) := h.sticky (by decide) (by decide)

theorem recordMarks (h : StatusKept s t) : StatusKept s t.recordMarks := by
  unfold State.recordMarks
  exact ite h.fresh.withWelkin h.fresh.spareErr.flashErr

theorem fenceEvent (h : StatusKept s t) {die row col unit bank cause : Nat} {logical : Option Nat} :
    StatusKept s (t.fenceEvent die row col unit bank cause logical) := h.spareErr.recordMarks.postEvent

theorem stopQueue (h : StatusKept s t) {i q status addr : Nat} {c : Cmd} (hq : q < 8) : StatusKept s (t.stopQueue i q c status addr) := by
  have hinfo : TC_FAULT_INFO i q % 0x10000 ≠ 0 := by unfold TC_FAULT_INFO; omega
  have hfault : TC_FAULT i % 0x10000 ≠ 0 := by unfold TC_FAULT; omega
  have hevents : TC_FAULT_EVENTS i % 0x10000 ≠ 0 := by unfold TC_FAULT_EVENTS; omega
  have haddr : TC_FAULT_ADDR i % 0x10000 ≠ 0 := by unfold TC_FAULT_ADDR; omega
  have hset : StatusKept s ((t.wr (TC_FAULT_INFO i q) (status * 2 ^ 56 + c.index % 2 ^ 20 * 2 ^ 32 + wOp c.w * 2 ^ 20 + wLayer c.w)).tcFault i
    (faultBit status)) := (h.wr hinfo).sticky hfault hevents
  exact setTile (ite (hset.setFld haddr) hset)

theorem endCmd (h : StatusKept s t) {i q status addr detail : Nat} {c : Cmd} (hq : q < 8) : StatusKept s (t.endCmd i q c status addr detail) :=
  setTile (ite (h.stopQueue hq) h)

theorem anvilReport (h : StatusKept s t) {i status addr : Nat} {c : Cmd} {wrote : List (Nat × Nat)} :
    StatusKept s (t.anvilReport i c status addr wrote) := by
  unfold State.anvilReport
  dsimp only
  split
  · exact h
  · exact ite (h.setTile.endCmd (by decide)) (ite h.setTile.setTile (h.setTile.endCmd (by decide)))

theorem fenceAnvil (h : StatusKept s t) {v cause : Nat} : StatusKept s (t.fenceAnvil v cause) := by
  unfold State.fenceAnvil
  extract_lets held msgs spares marked ended passed
  have hended : StatusKept s ended := foldl h.withSpares.setAnvil (·.anvilReport)
  have hpassed : StatusKept s passed := by
    unfold passed
    split
    · exact hended.setHaloAt.setHaloAt
    · exact hended
  exact hpassed.fenceEvent

theorem fenceHbm (h : StatusKept s t) {n : Nat} : StatusKept s (t.fenceHbm n) := by
  unfold State.fenceHbm
  extract_lets spares marked told
  have htold : StatusKept s told := h.withSpares.fenceEvent
  exact htold.foldl (·.fenceAnvil)

end StatusKept

section
variable (s : State) (n : Nat)

/-! ## Training and filling (09 R211, R212) -/

theorem status_state_ok : HB_STATUS_STATE.ok := ⟨by decide, by decide⟩
theorem status_repaired_ok : HB_STATUS_REPAIRED.ok := ⟨by decide, by decide⟩
theorem status_attempts_ok : HB_STATUS_ATTEMPTS.ok := ⟨by decide, by decide⟩
theorem status_trainCode_ok : HB_STATUS_TRAIN_CODE.ok := ⟨by decide, by decide⟩
theorem status_refresh_ok : HB_STATUS_REFRESH_X2.ok := ⟨by decide, by decide⟩

theorem state_setFld {v : Nat} (hv : v < 8) : (s.setFld (HB_STATUS n) HB_STATUS_STATE v).fld (HB_STATUS n) HB_STATUS_STATE = v :=
  (fld_setFld_same s _ _ v status_state_ok).trans (Nat.mod_eq_of_lt hv)

/-- The first steps of a training: the lanes' map, the failed attempts, the lanes beyond repair. -/
def State.trainSteps (o : StackTraining) : State :=
  o.unrepairable.foldl (fun s c => s.wr (HB_LANE n (c.val / 8)) (putBits (s.rd (HB_LANE n (c.val / 8))) (c.val % 8 * 8 + 6) (c.val % 8 * 8 + 6) 1))
    (o.failCodes.foldl (fun s c => s.trainFail n c.val) ((List.range 4).foldl (fun s j => s.wr (HB_LANE n j) 0) s))

/-- The attempts counted and the time of the last one. -/
def State.trainTimed (o : StackTraining) : State :=
  ((s.trainSteps n o).setFld (HB_STATUS n) HB_STATUS_ATTEMPTS (o.failCodes.length + b2n o.ok)).wr (HB_TRAIN_ZT n) (s.trainSteps n o).zt

theorem trainStack_of_ok {o : StackTraining} (hok : o.ok = true) : s.trainStack n o =
    (((o.repairs.foldl (fun s r => s.laneRepair n r) (s.trainTimed n o)).setFld (HB_STATUS n) HB_STATUS_REPAIRED o.repairs.length).setFld
      (HB_STATUS n) HB_STATUS_TRAIN_CODE 0).setFld (HB_STATUS n) HB_STATUS_STATE 2 := if_pos hok

theorem trainStack_of_failed {o : StackTraining} (hok : o.ok = false) : s.trainStack n o =
    ((((s.trainTimed n o).setFld (HB_STATUS n) HB_STATUS_REPAIRED 0).setFld (HB_STATUS n) HB_STATUS_TRAIN_CODE (o.failCodes.getLastD 3).val).setFld
      (HB_STATUS n) HB_STATUS_STATE 5).fenceHbm n := if_neg (by rw [hok]; exact Bool.false_ne_true)

theorem attempts_trainTimed (o : StackTraining) (hfew : o.failCodes.length ≤ 2) :
    (s.trainTimed n o).fld (HB_STATUS n) HB_STATUS_ATTEMPTS = o.failCodes.length + b2n o.ok := by
  have hone : b2n o.ok ≤ 1 := by cases o.ok <;> decide
  rw [State.trainTimed, fld_wr_ne _ _ _ (by unfold HB_STATUS HB_TRAIN_ZT; omega), fld_setFld_same _ _ _ _ status_attempts_ok]
  exact Nat.mod_eq_of_lt (by show _ < 256; omega)

theorem attempts_trainStack {o : StackTraining} (hok : o.ok = true) (hfew : o.failCodes.length ≤ 2) :
    (s.trainStack n o).fld (HB_STATUS n) HB_STATUS_ATTEMPTS = o.failCodes.length + 1 := by
  have hrepairs : StatusKept (s.trainTimed n o) (o.repairs.foldl (fun s r => s.laneRepair n r) (s.trainTimed n o)) :=
    (StatusKept.refl _).foldl (·.laneRepair)
  rw [trainStack_of_ok s n hok, fld_setFld_other _ _ _ _ _ status_state_ok (by decide), fld_setFld_other _ _ _ _ _ status_trainCode_ok (by decide),
    fld_setFld_other _ _ _ _ _ status_repaired_ok (by decide), hrepairs.fld, attempts_trainTimed s n o hfew, hok]
  rfl

theorem repaired_trainStack {o : StackTraining} (hok : o.ok = true) (hlanes : o.repairs.length ≤ 32) :
    (s.trainStack n o).fld (HB_STATUS n) HB_STATUS_REPAIRED = o.repairs.length := by
  rw [trainStack_of_ok s n hok, fld_setFld_other _ _ _ _ _ status_state_ok (by decide), fld_setFld_other _ _ _ _ _ status_trainCode_ok (by decide),
    fld_setFld_same _ _ _ _ status_repaired_ok]
  exact Nat.mod_eq_of_lt (by show _ < 256; omega)

theorem state_trainStack {o : StackTraining} (hok : o.ok = true) : (s.trainStack n o).fld (HB_STATUS n) HB_STATUS_STATE = 2 := by
  rw [trainStack_of_ok s n hok, state_setFld _ n (by decide)]

theorem stackFailed_trainStack {o : StackTraining} (hok : o.ok = false) : (s.trainStack n o).stackFailed n = true := by
  rw [trainStack_of_failed s n hok, stackFailed_congr (StatusKept.refl _).fenceHbm.rd, State.stackFailed, state_setFld _ n (by decide)]
  rfl

/-- A stack filled reads zero, and none of its sectors is uncorrectable. -/
theorem fillStack_inside (hn : n < 8) {a : Nat} (hlo : n * stackBytes ≤ a) (hhi : a < (n + 1) * stackBytes) :
    sget memDefault (s.fillStack n).mem a = 0 ∧ a ∉ (s.fillStack n).ue := by
  have hnum : n * 0xC00000000 ≤ a ∧ a < n * 0xC00000000 + 0xC00000000 := ⟨hlo, by unfold stackBytes at hhi; omega⟩
  constructor
  · exact sget_cellsReplace_inside _ _ _ hlo (by unfold stackBytes; omega)
  · intro hmem
    have hkept := (List.mem_filter.mp hmem).2
    have hhbm : isHbm a = true := decide_eq_true (by omega)
    have hstack : a / stackBytes = n := by unfold stackBytes; omega
    rw [hhbm, hstack, beq_self_eq_true] at hkept
    exact Bool.false_ne_true hkept

theorem fillStack_outside {a : Nat} (hout : a < n * stackBytes ∨ (n + 1) * stackBytes ≤ a) :
    sget memDefault (s.fillStack n).mem a = sget memDefault s.mem a :=
  sget_cellsReplace_outside s.mem (n * stackBytes) stackBytes (fun _ hc => absurd hc List.not_mem_nil) (by rw [Nat.succ_mul] at hout; exact hout)

/-! ## The latency-critical window (09 R215) -/

/-- The requests of a window beyond its share. -/
def State.lcBeyond (m : Nat) : Nat := (s.lcServed n + m - lcShare) - (s.lcServed n - lcShare)

/-- Requests counted in the present window. -/
def State.lcCounted (m : Nat) : State :=
  { s with lcCount := sset (fun _ => 0) s.lcCount n (s.lcServed n + m), lcWin := sset (fun _ => 0) s.lcWin n (s.zt / 1000) }

theorem lcUse_eq (m : Nat) (x : Attr) : s.lcUse n m x = if s.lcBeyond n m = 0 then s.lcCounted n m else
    ((((s.lcCounted n m).addFld (HB_LC n) HB_LC_DEMOTED (s.lcBeyond n m)).setFld (HB_ERR n) HB_ERR_LC_DEMOTE 1).addFld (HB_ERR_EVENTS n)
      HB_ERR_EVENTS_COUNT (s.lcBeyond n m)).count 2 n 0x05 (s.lcBeyond n m) x := rfl

/-- Beside registers and counters a count of requests changes its window alone. -/
theorem lcUse_other (m : Nat) (x : Attr) : ∃ r t, s.lcUse n m x = { s.lcCounted n m with regs := r, tally := t } := by
  rw [lcUse_eq]
  split
  · exact ⟨_, _, rfl⟩
  · obtain ⟨_, hdemoted⟩ := addFld_other (s.lcCounted n m) (HB_LC n) HB_LC_DEMOTED (s.lcBeyond n m)
    rw [hdemoted]
    obtain ⟨_, hflag⟩ := setFld_other { s.lcCounted n m with regs := _ } (HB_ERR n) HB_ERR_LC_DEMOTE 1
    rw [hflag]
    obtain ⟨r, hevents⟩ := addFld_other { s.lcCounted n m with regs := _ } (HB_ERR_EVENTS n) HB_ERR_EVENTS_COUNT (s.lcBeyond n m)
    rw [hevents]
    obtain ⟨t, hcount⟩ := count_other { s.lcCounted n m with regs := r } 2 n 0x05 (s.lcBeyond n m) x
    exact ⟨r, t, hcount⟩

theorem lcServed_lcCounted (m : Nat) : (s.lcCounted n m).lcServed n = s.lcServed n + m :=
  (if_pos (sget_sset_same _ _ _ _)).trans (sget_sset_same _ _ _ _)

theorem lcServed_lcUse (m : Nat) (x : Attr) : (s.lcUse n m x).lcServed n = s.lcServed n + m := by
  obtain ⟨r, t, huse⟩ := lcUse_other s n m x
  rw [huse]
  exact lcServed_lcCounted s n m

theorem rd_lcUse_within {m : Nat} (h : s.lcBeyond n m = 0) (x : Attr) (b : Nat) : (s.lcUse n m x).rd b = s.rd b := by
  rw [lcUse_eq, if_pos h]
  rfl

theorem rd_lcUse_beyond {m : Nat} (h : s.lcBeyond n m ≠ 0) (x : Attr) (b : Nat) : (s.lcUse n m x).rd b =
    ((((s.lcCounted n m).addFld (HB_LC n) HB_LC_DEMOTED (s.lcBeyond n m)).setFld (HB_ERR n) HB_ERR_LC_DEMOTE 1).addFld (HB_ERR_EVENTS n)
      HB_ERR_EVENTS_COUNT (s.lcBeyond n m)).rd b := by
  rw [lcUse_eq, if_neg h, rd_count]

theorem demoted_lcUse (m : Nat) (x : Attr) :
    (s.lcUse n m x).fld (HB_LC n) HB_LC_DEMOTED = (s.fld (HB_LC n) HB_LC_DEMOTED + s.lcBeyond n m) % 2 ^ 32 := by
  by_cases h : s.lcBeyond n m = 0
  · rw [fld_of_rd (rd_lcUse_within s n h x _), h]
    exact (Nat.mod_eq_of_lt (bits_lt _ _ _)).symm
  · rw [fld_of_rd (rd_lcUse_beyond s n h x _), State.addFld, fld_setFld_ne _ _ _ _ (by unfold HB_LC HB_ERR_EVENTS; omega),
      fld_setFld_ne _ _ _ _ (by unfold HB_LC HB_ERR; omega), fld_addFld_same _ _ _ _ ⟨by decide, by decide⟩]
    rfl

theorem lcDemote_lcUse {m : Nat} (hshare : lcShare < s.lcServed n + m) (hm : 0 < m) (x : Attr) :
    (s.lcUse n m x).flag (HB_ERR n) HB_ERR_LC_DEMOTE = true := by
  have h : s.lcBeyond n m ≠ 0 := by unfold State.lcBeyond; omega
  rw [State.flag, fld_of_rd (rd_lcUse_beyond s n h x _), State.addFld, fld_setFld_ne _ _ _ _ (by unfold HB_ERR HB_ERR_EVENTS; omega),
    fld_setFld_same _ _ _ _ ⟨by decide, by decide⟩]
  rfl

end

section
variable (s : State) (n : Fin 8)

theorem lcWindow_gives : Gives (.lcWindow n) s (fun s' => s'.lcServed n = s.lcServed n ∧ sget (fun _ => 0) s'.lcWin n = s.zt / 1000 ∧
    s'.regs = s.regs ∧ s'.mem = s.mem) := by
  by_cases h : sget (fun _ => 0) s.lcWin n = s.zt / 1000
  · exact gives_of_exec (if_pos h) ⟨rfl, h, rfl, rfl⟩
  · refine gives_of_exec (if_neg h) ⟨?_, sget_sset_same _ _ _ _, rfl, rfl⟩
    rw [State.lcServed, State.lcServed, if_neg h, if_pos (sget_sset_same _ _ _ _), sget_sset_same]

/-! ## Refresh, self-refresh and scrub (09 R216, R220) -/

theorem flag_refreshRate (temp : Int) : (s.refreshRate n temp).flag (HB_STATUS n) HB_STATUS_REFRESH_X2 =
    if 21760 ≤ temp then true else if temp < 20480 then false else s.flag (HB_STATUS n) HB_STATUS_REFRESH_X2 := by
  have hset (v : Nat) : (s.setFld (HB_STATUS n) HB_STATUS_REFRESH_X2 v).flag (HB_STATUS n) HB_STATUS_REFRESH_X2 = (v % 2 == 1) := by
    rw [State.flag, fld_setFld_same _ _ _ _ status_refresh_ok]
    rfl
  unfold State.refreshRate
  by_cases hhot : 21760 ≤ temp
  · rw [if_pos hhot, if_pos (show temp ≥ 85 * 256 from hhot), hset]
    rfl
  · rw [if_neg hhot, if_neg (show ¬temp ≥ 85 * 256 from hhot)]
    by_cases hcool : temp < 20480
    · rw [if_pos hcool, if_pos (show temp < 80 * 256 from hcool), hset]
      rfl
    · rw [if_neg hcool, if_neg (show ¬temp < 80 * 256 from hcool)]

theorem refreshRate_mem (temp : Int) : (s.refreshRate n temp).mem = s.mem := by
  unfold State.refreshRate
  rw [apply_ite State.mem, apply_ite State.mem, setFld_mem, setFld_mem, ite_self, ite_self]

theorem refresh_gives (temp : BitVec 16) (hready : s.fld (HB_STATUS n) HB_STATUS_STATE = 3) : Gives (.refresh n temp) s (fun s' =>
    s'.flag (HB_STATUS n) HB_STATUS_REFRESH_X2 = (if 21760 ≤ temp.toInt then true else if temp.toInt < 20480 then false
      else s.flag (HB_STATUS n) HB_STATUS_REFRESH_X2) ∧ s'.mem = s.mem) :=
  gives_of_exec (if_pos hready) ⟨flag_refreshRate s n _, refreshRate_mem s n _⟩

theorem selfRefresh_gives (hready : s.fld (HB_STATUS n) HB_STATUS_STATE = 3) (hdom : s.domState (64 + n) = 5) :
    Gives (.selfRefresh n) s (fun s' => s'.fld (HB_STATUS n) HB_STATUS_STATE = 4 ∧ s'.mem = s.mem) :=
  gives_of_exec (if_pos ⟨hready, hdom⟩) ⟨state_setFld s n (by decide), rfl⟩

/-- The state after the read of the sector at POSITION, which has advanced. -/
def State.scrubRead : State :=
  (s.setFld (HB_SCRUB n) HB_SCRUB_POSITION ((s.fld (HB_SCRUB n) HB_SCRUB_POSITION + 1) % stackSectors)).hbRead
    (n * stackBytes + s.fld (HB_SCRUB n) HB_SCRUB_POSITION * 32) 32 { priv := some 0, master := some 10 }

theorem scrubRead_other : ∃ r t, s.scrubRead n = { s with regs := r, tally := t } := by
  obtain ⟨r, hset⟩ := setFld_other s (HB_SCRUB n) HB_SCRUB_POSITION ((s.fld (HB_SCRUB n) HB_SCRUB_POSITION + 1) % stackSectors)
  obtain ⟨t, hread⟩ := hbRead_other { s with regs := r } (n * stackBytes + s.fld (HB_SCRUB n) HB_SCRUB_POSITION * 32) 32
    { priv := some 0, master := some 10 } rfl
  exact ⟨r, t, by rw [State.scrubRead, hset, hread]⟩

theorem rd_withTally (t : TallySt) (b : Nat) : ({ s with tally := t } : State).rd b = s.rd b := rfl

theorem position_scrubRead :
    (s.scrubRead n).fld (HB_SCRUB n) HB_SCRUB_POSITION = (s.fld (HB_SCRUB n) HB_SCRUB_POSITION + 1) % stackSectors := by
  obtain ⟨t, hread⟩ := hbRead_other (s.setFld (HB_SCRUB n) HB_SCRUB_POSITION ((s.fld (HB_SCRUB n) HB_SCRUB_POSITION + 1) % stackSectors))
    (n * stackBytes + s.fld (HB_SCRUB n) HB_SCRUB_POSITION * 32) 32 { priv := some 0, master := some 10 } rfl
  rw [State.scrubRead, hread, fld_of_rd (rd_withTally _ t _), fld_setFld_same s _ _ _ ⟨by decide, by decide⟩]
  exact Nat.mod_eq_of_lt (Nat.lt_trans (Nat.mod_lt _ (by decide)) (by decide : stackSectors < 2 ^ 40))

theorem scrubRead_mem : (s.scrubRead n).mem = s.mem := by
  obtain ⟨r, t, hread⟩ := scrubRead_other s n
  rw [hread]

theorem scrubRead_ue : (s.scrubRead n).ue = s.ue := by
  obtain ⟨r, t, hread⟩ := scrubRead_other s n
  rw [hread]

/-- The scrub of a sector without an error. -/
theorem patrolScrub_gives (hon : s.flag (HB_SCRUB n) HB_SCRUB_ENABLE = true) (hready : s.fld (HB_STATUS n) HB_STATUS_STATE = 3)
    (hdom : s.domOn (64 + n) = true) (hclean : s.ue.contains (n * stackBytes + s.fld (HB_SCRUB n) HB_SCRUB_POSITION * 32) = false) :
    Gives (.patrolScrub n none) s (fun s' => s'.fld (HB_SCRUB n) HB_SCRUB_POSITION = (s.fld (HB_SCRUB n) HB_SCRUB_POSITION + 1) % stackSectors ∧
      s'.mem = s.mem ∧ s'.ue = s.ue) := by
  have hsound : ¬(s.scrubRead n).ue.contains (n * stackBytes + s.fld (HB_SCRUB n) HB_SCRUB_POSITION * 32) = true := by
    rw [scrubRead_ue, hclean]
    exact Bool.false_ne_true
  refine gives_of_exec (s' := s.scrubRead n) ?_ ⟨position_scrubRead s n, scrubRead_mem s n, scrubRead_ue s n⟩
  exact (if_pos ⟨hon, hready, hdom⟩).trans (congrArg Host.Outcome.next (if_neg hsound))

/-! ## The error log's registers (09 R223) -/

theorem log_head_ok : HB_LOG_CTRL_HEAD.ok := ⟨by decide, by decide⟩
theorem log_tail_ok : HB_LOG_CTRL_TAIL.ok := ⟨by decide, by decide⟩
theorem log_size_ok : HB_LOG_CTRL_SIZE_LOG2.ok := ⟨by decide, by decide⟩
theorem log_addr_ok : HB_LOG_BASE_ADDR.ok := ⟨by decide, by decide⟩

/-- A field takes what a written word holds in its place. -/
theorem fld_setFld_bits (a : Nat) (f : Fld) (v : Nat) (h : f.ok) : (s.setFld a f (bits v f.hi f.lo)).fld a f = bits v f.hi f.lo :=
  (fld_setFld_same s a f _ h).trans (Nat.mod_eq_of_lt (bits_lt _ _ _))

theorem head_hbLogZero : (s.hbLogZero n).fld (HB_LOG_CTRL n) HB_LOG_CTRL_HEAD = 0 := by
  rw [State.hbLogZero, fld_setFld_other _ _ _ _ _ log_tail_ok (by decide), fld_setFld_same _ _ _ _ log_head_ok, Nat.zero_mod]

theorem tail_hbLogZero : (s.hbLogZero n).fld (HB_LOG_CTRL n) HB_LOG_CTRL_TAIL = 0 := by
  rw [State.hbLogZero, fld_setFld_same _ _ _ _ log_tail_ok, Nat.zero_mod]

theorem size_hbLogZero : (s.hbLogZero n).fld (HB_LOG_CTRL n) HB_LOG_CTRL_SIZE_LOG2 = s.fld (HB_LOG_CTRL n) HB_LOG_CTRL_SIZE_LOG2 := by
  rw [State.hbLogZero, fld_setFld_other _ _ _ _ _ log_tail_ok (by decide), fld_setFld_other _ _ _ _ _ log_head_ok (by decide)]

theorem base_hbLogZero : (s.hbLogZero n).fld (HB_LOG_BASE n) HB_LOG_BASE_ADDR = s.fld (HB_LOG_BASE n) HB_LOG_BASE_ADDR := by
  have hne : HB_LOG_BASE n ≠ HB_LOG_CTRL n := by unfold HB_LOG_BASE HB_LOG_CTRL; omega
  rw [State.hbLogZero, fld_setFld_ne _ _ _ _ hne, fld_setFld_ne _ _ _ _ hne]

variable (ctx : Ctx) (v : Word) (hctx : ctxGlobal ctx = true)

include hctx in
theorem hbLogBase_gives (hnew : bits v.toNat HB_LOG_BASE_ADDR.hi HB_LOG_BASE_ADDR.lo ≠ s.fld (HB_LOG_BASE n) HB_LOG_BASE_ADDR) :
    Gives (.hbLogBase ctx n v) s (fun s' => s'.fld (HB_LOG_BASE n) HB_LOG_BASE_ADDR = bits v.toNat HB_LOG_BASE_ADDR.hi HB_LOG_BASE_ADDR.lo ∧
      s'.fld (HB_LOG_CTRL n) HB_LOG_CTRL_HEAD = 0 ∧ s'.fld (HB_LOG_CTRL n) HB_LOG_CTRL_TAIL = 0) := by
  have hwrite : s.writeLogBase ctx n v.toNat =
      (s.setFld (HB_LOG_BASE n) HB_LOG_BASE_ADDR (bits v.toNat HB_LOG_BASE_ADDR.hi HB_LOG_BASE_ADDR.lo)).hbLogZero n := by
    unfold State.writeLogBase
    rw [hctx]
    exact if_neg hnew
  refine gives_of_exec (congrArg Host.Outcome.next hwrite) ⟨?_, head_hbLogZero _ n, tail_hbLogZero _ n⟩
  rw [base_hbLogZero, fld_setFld_bits _ _ _ _ log_addr_ok]

include hctx in
theorem hbLogCtrl_gives : Gives (.hbLogCtrl ctx n v) s (fun s' =>
    s'.fld (HB_LOG_CTRL n) HB_LOG_CTRL_SIZE_LOG2 = bits v.toNat HB_LOG_CTRL_SIZE_LOG2.hi HB_LOG_CTRL_SIZE_LOG2.lo ∧
    s'.fld (HB_LOG_CTRL n) HB_LOG_CTRL_TAIL =
      (if bits v.toNat HB_LOG_CTRL_SIZE_LOG2.hi HB_LOG_CTRL_SIZE_LOG2.lo = s.fld (HB_LOG_CTRL n) HB_LOG_CTRL_SIZE_LOG2
       then bits v.toNat HB_LOG_CTRL_TAIL.hi HB_LOG_CTRL_TAIL.lo else 0)) := by
  refine gives_of_exec rfl ?_
  unfold State.writeLogCtrl
  rw [hctx]
  by_cases hsize : bits v.toNat HB_LOG_CTRL_SIZE_LOG2.hi HB_LOG_CTRL_SIZE_LOG2.lo = s.fld (HB_LOG_CTRL n) HB_LOG_CTRL_SIZE_LOG2
  · rw [if_pos hsize]
    simp only [Bool.not_true, Bool.false_eq_true, if_false, if_pos hsize]
    exact ⟨(fld_setFld_other _ _ _ _ _ log_tail_ok (by decide)).trans hsize.symm, fld_setFld_bits _ _ _ _ log_tail_ok⟩
  · rw [if_neg hsize]
    simp only [Bool.not_true, Bool.false_eq_true, if_false, if_neg hsize]
    exact ⟨(size_hbLogZero _ n).trans (fld_setFld_bits _ _ _ _ log_size_ok), tail_hbLogZero _ n⟩

end

/-- Settles O31, clause by clause from the rows' lemmas above. -/
theorem stacksTrainFillAndScrub : Obligations.StacksTrainFillAndScrub := by
  unfold Obligations.StacksTrainFillAndScrub
  intro n s
  refine ⟨fun o htraining hok hlanes hfew => ?trained, fun o htraining hok => ?failed, fun hfilling => ?filled, lcWindow_gives s n,
    fun m x => ?used, fun temp => refresh_gives s n temp, selfRefresh_gives s n, patrolScrub_gives s n, fun ctx v hctx => hbLogBase_gives s n ctx v hctx,
    fun ctx v hctx => hbLogCtrl_gives s n ctx v hctx⟩
  case trained =>
    exact gives_of_exec (if_pos htraining) ⟨state_trainStack s n hok, repaired_trainStack s n hok hlanes, attempts_trainStack s n hok hfew⟩
  case failed => exact gives_of_exec (if_pos htraining) (stackFailed_trainStack s n hok)
  case filled =>
    exact gives_of_exec (if_pos hfilling) ⟨state_setFld _ n (by decide), fun a => fillStack_inside s n n.isLt, fun a => fillStack_outside s n⟩
  case used => exact ⟨lcServed_lcUse s n m x, demoted_lcUse s n m x, fun hshare hm => lcDemote_lcUse s n hshare hm x⟩

end Sys2Proof.Machine
end

section
/-! PROOFS. Hardware queues (10 R226, R229, R235): what each operation on a queue makes of it, what it leaves to the others, and what an event
does to them. -/
namespace Sys2Proof.Machine

section
variable (s : State) (d q : Nat)

/-! ## One queue -/

theorem queue_setQueue (x : QueueSt) (e p : Nat) : (s.setQueue d q x).queue e p = if e * 16384 + p = d * 16384 + q then x else s.queue e p :=
  sget_sset _ _ _ _ _

@[simp] theorem queue_setQueue_same (x : QueueSt) : (s.setQueue d q x).queue d q = x := sget_sset_same _ _ _ _

theorem queue_setQueue_ne (x : QueueSt) {p : Nat} (h : p ≠ q) : (s.setQueue d q x).queue d p = s.queue d p :=
  (queue_setQueue s d q x d p).trans (if_neg (by omega))

@[simp] theorem noteCounts_queues : (s.noteCounts d q).queues = s.queues := by
  simp only [State.noteCounts, apply_ite State.queues, ite_self]
@[simp] theorem noteCounts_mem : (s.noteCounts d q).mem = s.mem := by
  simp only [State.noteCounts, apply_ite State.mem, ite_self]
@[simp] theorem noteCounts_sigNet : (s.noteCounts d q).sigNet = s.sigNet := by
  simp only [State.noteCounts, apply_ite State.sigNet, ite_self]

/-! ## PROD advances (R226, R229) -/

/-- A queue whose PROD is k higher. -/
def QueueSt.ahead (x : QueueSt) (k : Nat) : QueueSt := { x with prod := (x.prod + k) % 2 ^ 32 }

/-- The signal of a queue whose PROD advances. -/
def QueueSt.signal (x : QueueSt) (k : Nat) : Sig := ⟨0x10000 + d, x.sigTile, 128 + x.sigCounter, 3, k⟩

theorem advanceProd_eq (k : Nat) : s.advanceProd d q k =
    if (s.queue d q).sigTile = 0xFFFF then (s.noteCounts d q).setQueue d q ((s.queue d q).ahead k)
    else ((s.noteCounts d q).setQueue d q ((s.queue d q).ahead k)).sendSig ((s.queue d q).signal d k) := (rfl)

theorem setQueue_queues_congr {s u : State} (h : u.queues = s.queues) (d q : Nat) (x : QueueSt) : (u.setQueue d q x).queues = (s.setQueue d q x).queues := by
  rw [State.setQueue, State.setQueue, h]

@[simp] theorem advanceProd_queues (k : Nat) : (s.advanceProd d q k).queues = (s.setQueue d q ((s.queue d q).ahead k)).queues := by
  rw [advanceProd_eq, apply_ite State.queues, sendSig_queues, ite_self]
  exact setQueue_queues_congr (noteCounts_queues s d q) d q _

@[simp] theorem advanceProd_mem (k : Nat) : (s.advanceProd d q k).mem = s.mem := by
  rw [advanceProd_eq, apply_ite State.mem, sendSig_mem, setQueue_mem, noteCounts_mem, ite_self]

theorem queue_advanceProd (k : Nat) : (s.advanceProd d q k).queue d q = (s.queue d q).ahead k :=
  (queue_congr (advanceProd_queues s d q k) d q).trans (queue_setQueue_same s d q _)

theorem sigNet_advanceProd_of_none {k : Nat} (h : (s.queue d q).sigTile = 0xFFFF) : (s.advanceProd d q k).sigNet = s.sigNet := by
  rw [advanceProd_eq, if_pos h, setQueue_sigNet, noteCounts_sigNet]

theorem sigNet_advanceProd {k : Nat} (h : (s.queue d q).sigTile ≠ 0xFFFF) :
    (s.advanceProd d q k).sigNet = s.sigNet ++ [(s.queue d q).signal d k] := by
  have hbefore : ((s.noteCounts d q).setQueue d q ((s.queue d q).ahead k)).sigNet = s.sigNet := by rw [setQueue_sigNet, noteCounts_sigNet]
  rw [advanceProd_eq, if_neg h, State.sendSig, hbefore]

@[simp] theorem writeBytes_queues (a : Nat) (b : List Byte) : (s.writeBytes a b).queues = s.queues := by
  obtain ⟨_, hother⟩ := writeBytes_other s a b
  rw [hother]

/-- The state with an entry written at PROD, before PROD advances. -/
def State.entryWritten (b : List Byte) : State :=
  (s.writeBytes ((s.queue d q).slot (s.queue d q).prod) b).cleanUnits ((s.queue d q).slot (s.queue d q).prod) b.length

theorem pushEntry_eq (b : List Byte) : s.pushEntry d q b = (s.entryWritten d q b).advanceProd d q 1 := (rfl)

theorem entryWritten_queues (b : List Byte) : (s.entryWritten d q b).queues = s.queues := by
  rw [State.entryWritten, cleanUnits_queues, writeBytes_queues]

@[simp] theorem pushEntry_queues (b : List Byte) : (s.pushEntry d q b).queues = (s.setQueue d q ((s.queue d q).ahead 1)).queues := by
  rw [pushEntry_eq, advanceProd_queues, queue_congr (entryWritten_queues s d q b)]
  exact setQueue_queues_congr (entryWritten_queues s d q b) d q _

@[simp] theorem pushEntry_mem (b : List Byte) : (s.pushEntry d q b).mem = (s.writeBytes ((s.queue d q).slot (s.queue d q).prod) b).mem := by
  rw [pushEntry_eq, advanceProd_mem, State.entryWritten, cleanUnits_mem]

theorem queue_pushEntry (b : List Byte) : (s.pushEntry d q b).queue d q = (s.queue d q).ahead 1 :=
  (queue_congr (pushEntry_queues s d q b) d q).trans (queue_setQueue_same s d q _)

end

/-- Every hardware queue is as it was, but for its PROD. -/
structure OnlyProds (s t : State) : Prop where
  queue : ∀ e p, ∃ n, t.queue e p = { s.queue e p with prod := n }

namespace OnlyProds

variable {s t u : State}

theorem refl (s : State) : OnlyProds s s := ⟨fun e p => ⟨(s.queue e p).prod, rfl⟩⟩

/-- What does not show PROD reads as it did. -/
theorem keeps (h : OnlyProds s t) {β : Type} (g : QueueSt → β) (e p : Nat) (hg : ∀ x n, g { x with prod := n } = g x := by intros; rfl) :
    g (t.queue e p) = g (s.queue e p) := by
  obtain ⟨n, hqueue⟩ := h.queue e p
  rw [hqueue, hg]

theorem trans (h : OnlyProds s t) (h' : OnlyProds t u) : OnlyProds s u := by
  refine ⟨fun e p => ?_⟩
  obtain ⟨n, hqueue⟩ := h.queue e p
  obtain ⟨m, hqueue'⟩ := h'.queue e p
  exact ⟨m, by rw [hqueue', hqueue]⟩

theorem of_queues (h : OnlyProds s t) (hqueues : u.queues = t.queues) : OnlyProds s u :=
  ⟨fun e p => by rw [queue_congr hqueues]; exact h.queue e p⟩

theorem ite {c : Prop} [Decidable c] (ht : OnlyProds s t) (hu : OnlyProds s u) : OnlyProds s (if c then t else u) := by
  split
  · exact ht
  · exact hu

theorem foldl {α : Type} {l : List α} {f : State → α → State} (h : OnlyProds s t) (hf : ∀ {u x}, OnlyProds s u → OnlyProds s (f u x)) :
    OnlyProds s (l.foldl f t) := by
  induction l generalizing t with
  | nil => exact h
  | cons x l ih => exact ih (hf h)

theorem pushEntry (h : OnlyProds s t) {d q : Nat} {b : List Byte} : OnlyProds s (t.pushEntry d q b) := by
  refine h.trans ⟨fun e p => ?_⟩
  rw [queue_congr (pushEntry_queues t d q b), queue_setQueue]
  split
  · have hsame : t.queue e p = t.queue d q := by unfold State.queue; rw [‹e * 16384 + p = d * 16384 + q›]
    exact ⟨_, by rw [hsame, QueueSt.ahead]⟩
  · exact ⟨_, rfl⟩

theorem setFld (h : OnlyProds s t) {a v : Nat} {f : Fld} : OnlyProds s (t.setFld a f v) := h.of_queues rfl

end OnlyProds

/-! ## Events (R235) -/

section
variable (s : State)

@[simp] theorem setFld_queues (a : Nat) (f : Fld) (v : Nat) : (s.setFld a f v).queues = s.queues := (rfl)
@[simp] theorem addFld_queues (a : Nat) (f : Fld) (k : Nat) : (s.addFld a f k).queues = s.queues := by rw [State.addFld, setFld_queues]
@[simp] theorem sticky_queues (e : Nat) (f : Fld) (ev : Nat) : (s.sticky e f ev).queues = s.queues := by
  rw [State.sticky, addFld_queues, setFld_queues]

theorem logEntry_queues (code sev : Nat) (b : List Byte) : (s.logEntry code sev b).queues = s.queues := by
  unfold State.logEntry
  dsimp only
  rw [apply_ite State.queues, sticky_queues, ite_self, addFld_queues]

@[simp] theorem logFree_queues (code : Nat) (b : List Byte) : (s.logFree code b).queues = s.queues := logEntry_queues _ code _ b

@[simp] theorem dropEvent_queues (d : Nat) : (s.dropEvent d).queues = s.queues := by rw [State.dropEvent, addFld_queues, sticky_queues]

@[simp] theorem holdAccess_queues (who a : Nat) (x : Attr) : (s.holdAccess who a x).queues = s.queues := by
  obtain ⟨_, _, _, hother⟩ := holdAccess_other s who a x
  rw [hother]

/-- An event that is put in its queue waits, or is written there. -/
theorem putEvent_queues (d q : Nat) (b : List Byte) :
    (s.putEvent d q b).queues = s.queues ∨ (s.putEvent d q b).queues = (s.pushEntry d q b).queues := by
  unfold State.putEvent
  dsimp only
  split
  · exact .inl rfl
  · split
    · exact .inl (holdAccess_queues s _ _ _)
    · exact .inr rfl

/-- An event is put in its scope's event queue of the die, or is dropped. -/
theorem postEvent_cases (scope : Option Nat) (d kind source : Nat) (b : List Byte) :
    (∃ c, s.postEvent scope d kind source b = (s.logFree kind c).dropEvent d) ∨
      ∃ c e, s.postEvent scope d kind source b = (s.logFree kind c).putEvent d ((s.window d (scopeWin scope)).2 % 16384) e := by
  unfold State.postEvent
  exact (ite_eq_or_eq _ _ _).symm.imp (fun h => ⟨_, h⟩) (fun h => ⟨_, _, h⟩)

theorem OnlyProds.postEvent {s t : State} (h : OnlyProds s t) {scope : Option Nat} {d kind source : Nat} {b : List Byte} :
    OnlyProds s (t.postEvent scope d kind source b) := by
  have hlogged (c : List Byte) : OnlyProds s (t.logFree kind c) := h.of_queues (logFree_queues t kind c)
  obtain ⟨c, heq⟩ | ⟨c, e, heq⟩ := postEvent_cases t scope d kind source b
  · rw [heq]
    exact (hlogged c).of_queues (dropEvent_queues _ d)
  · rw [heq]
    obtain hwaits | hwritten := putEvent_queues (t.logFree kind c) d ((t.window d (scopeWin scope)).2 % 16384) e
    · exact (hlogged c).of_queues hwaits
    · exact (hlogged c).pushEntry.of_queues hwritten

/-- A queue that is not the scope's event queue does not see the event. -/
theorem queue_postEvent_ne {scope : Option Nat} {d q : Nat} (h : (s.window d (scopeWin scope)).2 % 16384 ≠ q) (kind source : Nat) (b : List Byte) :
    (s.postEvent scope d kind source b).queue d q = s.queue d q := by
  obtain ⟨c, heq⟩ | ⟨c, e, heq⟩ := postEvent_cases s scope d kind source b
  · rw [heq, queue_congr (dropEvent_queues _ d), queue_congr (logFree_queues s kind c)]
  · rw [heq]
    obtain hwaits | hwritten := putEvent_queues (s.logFree kind c) d ((s.window d (scopeWin scope)).2 % 16384) e
    · rw [queue_congr hwaits, queue_congr (logFree_queues s kind c)]
    · rw [queue_congr hwritten, queue_congr (pushEntry_queues _ _ _ e), queue_setQueue_ne _ _ _ _ h.symm, queue_congr (logFree_queues s kind c)]

theorem qhErr_notMem_holdRegs (d n : Nat) : QH_ERR d ∉ holdRegs n := by
  simp only [holdRegs, QH_ERR, HB_HELD, HB_ERR, HB_ERR_EVENTS, PD_HELD, PD_ERR, PD_ERR_EVENTS, List.mem_cons, List.not_mem_nil, or_false]
  omega

theorem rd_qhErr_logFree (d code : Nat) (b : List Byte) : (s.logFree code b).rd (QH_ERR d) = s.rd (QH_ERR d) :=
  rd_logFree_ne s code b (by simp only [QH_ERR, WK_LOG, WK_ERR, WK_ERR_EVENTS, List.mem_cons, List.not_mem_nil, or_false]; omega)

/-- Of QH_ERR an event sets EV_DROP at most. -/
theorem fld_qhErr_postEvent {f : Fld} (hf : f.hi < 4) (scope : Option Nat) (d kind source : Nat) (b : List Byte) :
    (s.postEvent scope d kind source b).fld (QH_ERR d) f = s.fld (QH_ERR d) f := by
  obtain ⟨c, heq⟩ | ⟨c, e, heq⟩ := postEvent_cases s scope d kind source b
  · have hevents : QH_ERR d ≠ QH_ERR_EVENTS d := by unfold QH_ERR QH_ERR_EVENTS; omega
    have hdrops : QH_ERR d ≠ QH_EV_DROPS d := by unfold QH_ERR QH_EV_DROPS; omega
    rw [heq, State.dropEvent, fld_of_rd (rd_addFld_ne _ _ _ hdrops), State.sticky, fld_of_rd (rd_addFld_ne _ _ _ hevents),
      fld_setFld_other _ _ _ _ _ (by unfold Fld.ok; decide) (.inl hf), fld_of_rd (rd_qhErr_logFree s d kind c)]
  · rw [heq, fld_of_rd (rd_putEvent_ne _ _ _ _ (qhErr_notMem_holdRegs d)), fld_of_rd (rd_qhErr_logFree s d kind c)]

/-- A bit of QH_ERR set with its event is set. -/
theorem flag_qhErr_reported {f : Fld} (hok : f.ok) (hf : f.hi < 4) (scope : Option Nat) (d kind source : Nat) (b : List Byte) :
    ((s.sticky (QH_ERR d) f (QH_ERR_EVENTS d)).postEvent scope d kind source b).flag (QH_ERR d) f = true := by
  rw [State.flag, fld_qhErr_postEvent _ hf, sticky_set _ _ _ _ hok (by unfold QH_ERR QH_ERR_EVENTS; omega)]
  rfl

end

/-- Settles O35: the counts and signals of the advance, and the sum that the signal's application makes. -/
theorem advancingProdSignalsItsTile : Obligations.AdvancingProdSignalsItsTile := by
  unfold Obligations.AdvancingProdSignalsItsTile
  rintro s d q k x rfl
  have hcounter : (s.queue d q).sigCounter < 128 := bits_lt _ _ _
  refine ⟨congrArg QueueSt.prod (queue_advanceProd s d q k), advanceProd_mem s d q k, sigNet_advanceProd_of_none s d q,
    fun h => ⟨sigNet_advanceProd s d q h, fun u => ?_⟩⟩
  rw [Nat.mod_eq_of_lt hcounter]
  exact counter_applyUpdate_add u _ _ k hcounter

end Sys2Proof.Machine
end

section
/-! PROOFS. Interrupts (10 R246, R247): the two ways in which a vector fires, and the clearing of MASK. -/
namespace Sys2Proof.Machine

section
variable (s : State) {v : Nat}

/-! ## A vector fires -/

/-- The state in which a vector has fired in the present hub cycle. -/
def State.withFired (v : Nat) : State := { s with msiFired := v :: s.msiFired }

theorem fireVector_of_fired (h : v ∈ s.msiFired) : s.fireVector v = s := if_pos (List.contains_iff_mem.mpr h)

/-- A vector that has not fired: PENDING, or an MSI. -/
theorem fireVector_first (h : v ∉ s.msiFired) : s.fireVector v =
    if s.flag (UC_MSI_DATA 0 v) UC_MSI_DATA_MASK || !s.linkActive then (s.withFired v).setFld (UC_MSI_DATA 0 v) UC_MSI_DATA_PENDING 1
    else (s.withFired v).sendMsi v := if_neg (mt List.contains_iff_mem.mp h)

theorem fireVector_held (h : v ∉ s.msiFired) (hheld : (s.flag (UC_MSI_DATA 0 v) UC_MSI_DATA_MASK || !s.linkActive) = true) :
    s.fireVector v = (s.withFired v).setFld (UC_MSI_DATA 0 v) UC_MSI_DATA_PENDING 1 := (fireVector_first s h).trans (if_pos hheld)

theorem fireVector_sent (h : v ∉ s.msiFired) (hmask : s.flag (UC_MSI_DATA 0 v) UC_MSI_DATA_MASK = false) (hlink : s.linkActive = true) :
    s.fireVector v = (s.withFired v).sendMsi v := (fireVector_first s h).trans (if_neg (by simp [hmask, hlink]))

theorem linkActive_iff : s.linkActive = true ↔ s.fld (UC_STATUS 0) UC_STATUS_STATE = 2 ∨ s.fld (UC_STATUS 0) UC_STATUS_STATE = 3 := by
  simp only [State.linkActive, Bool.or_eq_true, beq_iff_eq]

/-- Firing changes registers, the vectors fired and what was sent alone. -/
theorem fireVector_other (v : Nat) : ∃ r f o, s.fireVector v = { s with regs := r, msiFired := f, out := o } := by
  by_cases hfired : v ∈ s.msiFired
  · exact ⟨s.regs, s.msiFired, s.out, fireVector_of_fired s hfired⟩
  · rw [fireVector_first s hfired]
    split
    · exact ⟨_, _, s.out, rfl⟩
    · exact ⟨_, _, _, rfl⟩

@[simp] theorem fireVector_queues (v : Nat) : (s.fireVector v).queues = s.queues := by
  obtain ⟨_, _, _, hother⟩ := fireVector_other s v
  rw [hother]
@[simp] theorem fireVector_hubs (v : Nat) : (s.fireVector v).hubs = s.hubs := by
  obtain ⟨_, _, _, hother⟩ := fireVector_other s v
  rw [hother]

theorem mem_msiFired_fireVector (v : Nat) : v ∈ (s.fireVector v).msiFired := by
  by_cases hfired : v ∈ s.msiFired
  · rwa [fireVector_of_fired s hfired]
  · rw [fireVector_first s hfired]
    split <;> exact List.mem_cons_self

/-! ## An MSI -/

/-- The MSI that a vector sends (R246). -/
def State.msi (v : Nat) : Output :=
  .msi v (s.rd (UC_MSI_SENT 0)) (s.fld (UC_MSI_ADDR 0 v) UC_MSI_ADDR_ADDR * 4) (s.fld (UC_MSI_DATA 0 v) UC_MSI_DATA_DATA)

theorem sendMsi_out (v : Nat) : (s.sendMsi v).out = s.out ++ [s.msi v] := (rfl)

theorem setFld_out (a : Nat) (f : Fld) (x : Nat) : (s.setFld a f x).out = s.out := (rfl)

theorem withFired_out (v : Nat) : (s.withFired v).out = s.out := (rfl)
theorem withFired_mem (v : Nat) : (s.withFired v).mem = s.mem := (rfl)
theorem msi_withFired (u v : Nat) : (s.withFired u).msi v = s.msi v := (rfl)

theorem flag_sendMsi (v : Nat) (f : Fld) : (s.sendMsi v).flag (UC_MSI_DATA 0 v) f = s.flag (UC_MSI_DATA 0 v) f :=
  congrArg (· == 1) (fld_of_rd (rd_sendMsi_ne s v (by unfold UC_MSI_DATA UC_MSI_SENT; omega)) f)

theorem flag_setFld_zero {a : Nat} {f : Fld} (h : f.ok) : (s.setFld a f 0).flag a f = false := by
  rw [State.flag, fld_setFld_same s a f 0 h, Nat.zero_mod]
  rfl

theorem flag_setFld_one {a : Nat} {f : Fld} (h : f.ok) : (s.setFld a f 1).flag a f = true := by
  rw [State.flag, fld_setFld_same s a f 1 h, Nat.one_mod_two_pow_eq_one.mpr (by have := h.1; omega)]
  rfl

theorem flag_setFld_other {a : Nat} {f g : Fld} (h : f.ok) (hd : g.hi < f.lo ∨ f.hi < g.lo) (x : Nat) : (s.setFld a f x).flag a g = s.flag a g :=
  congrArg (· == 1) (fld_setFld_other s a f g x h hd)

/-- MASK and PENDING are in no MSI. -/
theorem msi_setFld {v x : Nat} {f : Fld} (h : f.ok) (hd : UC_MSI_DATA_DATA.hi < f.lo) : (s.setFld (UC_MSI_DATA 0 v) f x).msi v = s.msi v := by
  have hsent : UC_MSI_SENT 0 ≠ UC_MSI_DATA 0 v := by unfold UC_MSI_SENT UC_MSI_DATA; omega
  have haddr : UC_MSI_ADDR 0 v ≠ UC_MSI_DATA 0 v := by unfold UC_MSI_ADDR UC_MSI_DATA; omega
  simp only [State.msi, rd_setFld_ne s f x hsent, fld_setFld_ne s f _ x haddr, fld_setFld_other s _ f _ x h (.inl hd)]

theorem msiMask_ok : UC_MSI_DATA_MASK.ok := ⟨by decide, by decide⟩
theorem msiPending_ok : UC_MSI_DATA_PENDING.ok := ⟨by decide, by decide⟩

/-! ## MASK_CLEAR -/

theorem exec_maskClear (ctx : Ctx) (v : Fin 2048) :
    exec (.maskClear ctx v) s = .next (s.grant (ctxGlobal ctx) ctx (UC_MSI_DATA 0 v) ((s.setFld (UC_MSI_DATA 0 v) UC_MSI_DATA_MASK 0).unmasked v)) := rfl

/-- A vector unmasked while PENDING is set and the link is up. -/
theorem unmasked_pending (hpending : s.flag (UC_MSI_DATA 0 v) UC_MSI_DATA_PENDING = true) (hlink : s.linkActive = true) :
    (s.setFld (UC_MSI_DATA 0 v) UC_MSI_DATA_MASK 0).unmasked v =
      (((s.setFld (UC_MSI_DATA 0 v) UC_MSI_DATA_MASK 0).setFld (UC_MSI_DATA 0 v) UC_MSI_DATA_PENDING 0).sendMsi v) := by
  have hstatus : UC_STATUS 0 ≠ UC_MSI_DATA 0 v := by unfold UC_STATUS UC_MSI_DATA; omega
  have hup : (s.setFld (UC_MSI_DATA 0 v) UC_MSI_DATA_MASK 0).linkActive = true := by
    rw [linkActive_iff, fld_setFld_ne s _ _ _ hstatus]
    exact (linkActive_iff s).mp hlink
  have hset := (flag_setFld_other s msiMask_ok (a := UC_MSI_DATA 0 v) (g := UC_MSI_DATA_PENDING) (.inl (by decide)) 0).trans hpending
  have hclear : (s.setFld (UC_MSI_DATA 0 v) UC_MSI_DATA_MASK 0).flag (UC_MSI_DATA 0 v) UC_MSI_DATA_MASK = false := flag_setFld_zero s msiMask_ok
  rw [State.unmasked, if_pos (by rw [hset, hup, hclear]; rfl)]

theorem maskClear_gives (ctx : Ctx) (v : Fin 2048) (hctx : ctxGlobal ctx = true) (hpending : s.flag (UC_MSI_DATA 0 v) UC_MSI_DATA_PENDING = true)
    (hlink : s.linkActive = true) : Gives (.maskClear ctx v) s (fun s' => s'.flag (UC_MSI_DATA 0 v) UC_MSI_DATA_MASK = false ∧
      s'.flag (UC_MSI_DATA 0 v) UC_MSI_DATA_PENDING = false ∧ s'.out = s.out ++ [s.msi v]) := by
  have hexec : exec (.maskClear ctx v) s =
      .next (((s.setFld (UC_MSI_DATA 0 v) UC_MSI_DATA_MASK 0).setFld (UC_MSI_DATA 0 v) UC_MSI_DATA_PENDING 0).sendMsi v) := by
    rw [exec_maskClear, State.grant, if_pos hctx, unmasked_pending s hpending hlink]
  refine gives_of_exec hexec ⟨?_, ?_, ?_⟩
  · rw [flag_sendMsi, flag_setFld_other _ msiPending_ok (.inr (by decide))]
    exact flag_setFld_zero s msiMask_ok
  · rw [flag_sendMsi]
    exact flag_setFld_zero _ msiPending_ok
  · rw [sendMsi_out, msi_setFld _ msiPending_ok (by decide), msi_setFld _ msiMask_ok (by decide), setFld_out, setFld_out]

end

/-- Settles O36: an MSI, a vector held, a vector unmasked, and a vector that has fired, each by its own lemma. -/
theorem vectorsFire : Obligations.VectorsFire := by
  unfold Obligations.VectorsFire
  intro s v
  refine ⟨fun hnew hmask hlink => ?sent, fun hnew hheld => ?held, fun ctx => maskClear_gives s ctx v, ?again, fun ctx hctx => ?refused⟩
  case sent =>
    rw [fireVector_sent s hnew hmask ((linkActive_iff s).mpr hlink)]
    refine ⟨?_, flag_sendMsi _ _ _, ?_⟩
    · rw [sendMsi_out, msi_withFired, withFired_out, State.msi]
    · rw [sendMsi_mem, withFired_mem]
  case held =>
    have hheld' : (s.flag (UC_MSI_DATA 0 v) UC_MSI_DATA_MASK || !s.linkActive) = true := by
      rw [Bool.or_eq_true, Bool.not_eq_true', ← Bool.not_eq_true, linkActive_iff, not_or]
      exact hheld
    rw [fireVector_held s hnew hheld']
    exact ⟨by rw [setFld_out, withFired_out], flag_setFld_one _ msiPending_ok, by rw [setFld_mem, withFired_mem]⟩
  case again => exact fun u => ⟨fireVector_of_fired u, mem_msiFired_fireVector u v⟩
  case refused => rw [exec_maskClear, State.grant, hctx, if_neg Bool.false_ne_true]

end Sys2Proof.Machine
end

section
/-! PROOFS. Doorbells (10 R230, R244): the counts that an accepted doorbell moves, and what a refused one does. -/
namespace Sys2Proof.Machine

section
variable (s : State) (ctx : Ctx) (d q : Nat)

theorem exec_doorbell {ctx : Ctx} (hctx : ∀ n, ctx ≠ .reserved n) (d : Fin 2) (v : Word) : exec (.doorbell ctx d v) s = .next (s.doorbell ctx d v.toNat) := by
  cases ctx with
  | reserved n => exact absurd rfl (hctx n)
  | module => rfl
  | kernel p => rfl
  | user p => rfl
  | library => rfl
  | welkin => rfl

/-- A doorbell is accepted (R230). -/
def State.doorbellOk (v : Nat) : Bool :=
  s.mayRing ctx d (bits v 13 0) && (s.queue d (bits v 13 0)).enabled && ((s.queue d (bits v 13 0)).role == 1 || (s.queue d (bits v 13 0)).role == 2) &&
    (bit v 15 || (s.queue d (bits v 13 0)).indexOk (bits v 63 32))

/-- A queue armed where the doorbell asks for it. -/
def State.armIf (b : Bool) : State := if b then s.setQueue d q (s.queue d q).arm else s

/-- The slots that a user context makes available are noted (16 R385). -/
def State.slotsNoted (k : Nat) : State :=
  match ctx with
  | .user _ => s.setQueue d q { s.queue d q with userSlots := (s.queue d q).userSlots ++ (List.range k).map (fun j => ((s.queue d q).prod + j) % 2 ^ 32) }
  | _ => s

/-- PROD moved by k on behalf of a context. -/
def State.produced (k : Nat) : State := if k = 0 then s.slotsNoted ctx d q k else (s.slotsNoted ctx d q k).advanceProd d q k

theorem doorbell_refused {v : Nat} (h : s.doorbellOk ctx d v = false) : s.doorbell ctx d v =
    (s.sticky (QH_ERR d) QH_ERR_DOORBELL_BAD (QH_ERR_EVENTS d)).postEvent (ctxPart ctx) d 0x0001 (bits v 13 0) (leBytes 8 v ++ leBytes 1 (ctxNum ctx)) :=
  if_neg (Bool.eq_false_iff.mp h)

/-- An accepted doorbell with an INDEX. -/
theorem doorbell_accepted {v : Nat} (h : s.doorbellOk ctx d v = true) (hindex : bit v 15 = false) : s.doorbell ctx d v =
    (if (s.queue d (bits v 13 0)).role = 1 then s.produced ctx d (bits v 13 0) ((bits v 63 32 + 2 ^ 32 - (s.queue d (bits v 13 0)).prod) % 2 ^ 32)
     else (s.noteCounts d (bits v 13 0)).setQueue d (bits v 13 0) { s.queue d (bits v 13 0) with cons := bits v 63 32 }).armIf d (bits v 13 0) (bit v 16) := by
  have hmoves : ¬bit v 15 = true := Bool.eq_false_iff.mp hindex
  refine (if_pos h).trans ?_
  rw [if_neg hmoves]
  cases ctx <;> rfl

/-! ## What each part leaves -/

theorem window_sticky (w e : Nat) (f : Fld) (ev : Nat) : (s.sticky e f ev).window d w = s.window d w := by
  obtain ⟨_, hother⟩ := sticky_other s e f ev
  rw [hother, State.window, State.window]

@[simp] theorem armIf_mem (b : Bool) : (s.armIf d q b).mem = s.mem := by
  rw [State.armIf, apply_ite State.mem, setQueue_mem, ite_self]

theorem counts_armIf (b : Bool) :
    ((s.armIf d q b).queue d q).prod = (s.queue d q).prod ∧ ((s.armIf d q b).queue d q).cons = (s.queue d q).cons := by
  unfold State.armIf
  split
  · rw [queue_setQueue_same]
    exact ⟨rfl, rfl⟩
  · exact ⟨rfl, rfl⟩

@[simp] theorem slotsNoted_mem (k : Nat) : (s.slotsNoted ctx d q k).mem = s.mem := by cases ctx <;> rfl

theorem counts_slotsNoted (k : Nat) : ((s.slotsNoted ctx d q k).queue d q).prod = (s.queue d q).prod ∧
    ((s.slotsNoted ctx d q k).queue d q).cons = (s.queue d q).cons := by
  unfold State.slotsNoted
  split
  · rw [queue_setQueue_same]
    exact ⟨rfl, rfl⟩
  · exact ⟨rfl, rfl⟩

@[simp] theorem produced_mem (k : Nat) : (s.produced ctx d q k).mem = s.mem := by
  rw [State.produced, apply_ite State.mem, advanceProd_mem, slotsNoted_mem, ite_self]

theorem counts_produced (hprod : (s.queue d q).prod < 2 ^ 32) (k : Nat) :
    ((s.produced ctx d q k).queue d q).prod = ((s.queue d q).prod + k) % 2 ^ 32 ∧ ((s.produced ctx d q k).queue d q).cons = (s.queue d q).cons := by
  obtain ⟨hnoted, hcons⟩ := counts_slotsNoted s ctx d q k
  unfold State.produced
  split
  · exact ⟨by rw [hnoted, ‹k = 0›, Nat.add_zero, Nat.mod_eq_of_lt hprod], hcons⟩
  · rw [queue_advanceProd]
    exact ⟨congrArg (fun n => (n + k) % 2 ^ 32) hnoted, hcons⟩

/-- A count moved by the distance to an index stands at the index. -/
theorem count_reaches {p i : Nat} (hp : p < 2 ^ 32) (hi : i < 2 ^ 32) : (p + (i + 2 ^ 32 - p) % 2 ^ 32) % 2 ^ 32 = i := by omega

end

/-! ## DOORBELL -/

section
variable {s : State} {ctx : Ctx} (hctx : ∀ n, ctx ≠ .reserved n) (d : Fin 2) (v : Word)
include hctx

theorem doorbell_producer (hok : s.doorbellOk ctx d v.toNat = true) (hindex : bit v.toNat 15 = false) (hrole : (s.queue d (bits v.toNat 13 0)).role = 1)
    (hprod : (s.queue d (bits v.toNat 13 0)).prod < 2 ^ 32) : Gives (.doorbell ctx d v) s (fun s' =>
      (s'.queue d (bits v.toNat 13 0)).prod = bits v.toNat 63 32 ∧ (s'.queue d (bits v.toNat 13 0)).cons = (s.queue d (bits v.toNat 13 0)).cons ∧
      s'.mem = s.mem) := by
  refine gives_of_exec (exec_doorbell s hctx d v) ?_
  rw [doorbell_accepted s ctx d hok hindex, if_pos hrole]
  obtain ⟨hp, hc⟩ := counts_armIf (s.produced ctx d (bits v.toNat 13 0) ((bits v.toNat 63 32 + 2 ^ 32 - (s.queue d (bits v.toNat 13 0)).prod) % 2 ^ 32))
    d (bits v.toNat 13 0) (bit v.toNat 16)
  obtain ⟨hmoved, hcons⟩ := counts_produced s ctx d (bits v.toNat 13 0) hprod ((bits v.toNat 63 32 + 2 ^ 32 - (s.queue d (bits v.toNat 13 0)).prod) % 2 ^ 32)
  refine ⟨?_, hc.trans hcons, by rw [armIf_mem, produced_mem]⟩
  rw [hp, hmoved]
  exact count_reaches hprod (bits_lt v.toNat 63 32)

theorem doorbell_consumer (hok : s.doorbellOk ctx d v.toNat = true) (hindex : bit v.toNat 15 = false) (hrole : (s.queue d (bits v.toNat 13 0)).role = 2) :
    Gives (.doorbell ctx d v) s (fun s' => (s'.queue d (bits v.toNat 13 0)).cons = bits v.toNat 63 32 ∧
      (s'.queue d (bits v.toNat 13 0)).prod = (s.queue d (bits v.toNat 13 0)).prod ∧ s'.mem = s.mem) := by
  refine gives_of_exec (exec_doorbell s hctx d v) ?_
  rw [doorbell_accepted s ctx d hok hindex, if_neg (by rw [hrole]; decide)]
  obtain ⟨hp, hc⟩ := counts_armIf ((s.noteCounts d (bits v.toNat 13 0)).setQueue d (bits v.toNat 13 0)
    { s.queue d (bits v.toNat 13 0) with cons := bits v.toNat 63 32 }) d (bits v.toNat 13 0) (bit v.toNat 16)
  rw [queue_setQueue_same] at hp hc
  exact ⟨hc, hp, by rw [armIf_mem, setQueue_mem, noteCounts_mem]⟩

theorem doorbell_bad (hok : s.doorbellOk ctx d v.toNat = false) : Gives (.doorbell ctx d v) s (fun s' =>
    s'.flag (QH_ERR d) QH_ERR_DOORBELL_BAD = true ∧ (s'.queue d (bits v.toNat 13 0)).cons = (s.queue d (bits v.toNat 13 0)).cons ∧
      ((s.window d (scopeWin (ctxPart ctx))).2 % 16384 ≠ bits v.toNat 13 0 → s'.queue d (bits v.toNat 13 0) = s.queue d (bits v.toNat 13 0))) := by
  have hcounted : OnlyProds s (s.sticky (QH_ERR d) QH_ERR_DOORBELL_BAD (QH_ERR_EVENTS d)) := (OnlyProds.refl s).of_queues (sticky_queues s _ _ _)
  refine gives_of_exec (exec_doorbell s hctx d v) ?_
  rw [doorbell_refused s ctx d hok]
  refine ⟨flag_qhErr_reported s ⟨by decide, by decide⟩ (by decide) _ _ _ _ _, hcounted.postEvent.keeps QueueSt.cons _ _, fun helse => ?_⟩
  rw [← window_sticky s d (scopeWin (ctxPart ctx)) (QH_ERR d) QH_ERR_DOORBELL_BAD (QH_ERR_EVENTS d)] at helse
  rw [queue_postEvent_ne _ helse, queue_congr (sticky_queues s _ _ _)]

end

/-- Settles O32: the doorbell of a producer, of a consumer, and one that is not accepted, each by its own lemma. -/
theorem doorbellsMoveTheirCounts : Obligations.DoorbellsMoveTheirCounts := by
  unfold Obligations.DoorbellsMoveTheirCounts
  rintro ctx d v s q i x rfl rfl rfl hctx hprod -
  refine ⟨fun hring henabled hindex hreach => ?accepted, doorbell_bad hctx d v⟩
  case accepted =>
    have hok (hrole : ((s.queue d (bits v.toNat 13 0)).role == 1 || (s.queue d (bits v.toNat 13 0)).role == 2) = true) : s.doorbellOk ctx d v.toNat = true := by
      rw [State.doorbellOk, hring, henabled, hrole, hindex, hreach]
      rfl
    exact ⟨fun hrole => doorbell_producer hctx d v (hok (by rw [hrole]; rfl)) hindex hrole hprod,
      fun hrole => doorbell_consumer hctx d v (hok (by rw [hrole]; rfl)) hindex hrole⟩

end Sys2Proof.Machine
end

section
/-! PROOFS. The commands on the queue that a window selects (10 R228, R232, R239): ENABLE, ARM, DISARM and RESET. -/
namespace Sys2Proof.Machine

/-! ## What power domains and tiles leave of the queues (03 R57, 17 R408) -/

namespace OnlyProds

variable {s t : State}

theorem lanesUp (h : OnlyProds s t) {n : Nat} : OnlyProds s (t.lanesUp n) := by
  have hports (l : Sparse PortSt) : OnlyProds s { t with ports := l } := h.of_queues rfl
  unfold State.lanesUp
  exact ite h (hports _).setFld.setFld.setFld.postEvent

theorem setLink (h : OnlyProds s t) {um st : Nat} : OnlyProds s (t.setLink um st) := by
  unfold State.setLink State.linkNews
  exact ite h.setFld h.setFld.postEvent

theorem powerUpHook (h : OnlyProds s t) {i : Nat} : OnlyProds s (t.powerUpHook i) := ite h.setFld (ite h.lanesUp (ite h.setLink h))

theorem beginMove (h : OnlyProds s t) {i to_ : Nat} : OnlyProds s (t.beginMove i to_) := by
  have hpower (w : PowerSt) : OnlyProds s { t with power := w } := h.of_queues rfl
  exact (hpower _).setFld

theorem retarget (h : OnlyProds s t) {i : Nat} : OnlyProds s (t.retarget i) := by
  unfold State.retarget
  extract_lets a img dep votes target set
  have hset : OnlyProds s set := h.setFld.setFld.setFld.setFld
  refine ite h (ite hset ?_)
  split
  · exact ite hset.powerUpHook.beginMove hset
  · exact ite hset.beginMove (ite hset.beginMove hset)
  · exact hset

theorem retargetAll (h : OnlyProds s t) : OnlyProds s t.retargetAll := h.foldl (·.retarget)

theorem entryTypeCheck (h : OnlyProds s t) {p d q : Nat} : OnlyProds s (t.entryTypeCheck p d q) := by
  have hfault {u : State} {n : Nat} (hu : OnlyProds s u) : OnlyProds s (u.tcFault n TC_FAULT_ENTRY_TYPE) := hu.of_queues (sticky_queues u _ _ _)
  unfold State.entryTypeCheck
  refine ite ?_ h
  split
  · exact h
  · exact h.foldl hfault

end OnlyProds

/-! ## ENABLE (R228) -/

section
variable (s : State) (d q : Nat)

/-- A queue whose descriptor a write of QH_WDESC0 gives, ENABLE left clear. -/
def State.described (v : Nat) : State := s.setQueue d q { s.queue d q with desc0 := v % 2 ^ 63 }

/-- The queue that an accepted ENABLE makes. -/
def QueueSt.enabledWith (x : QueueSt) (v : Nat) : QueueSt :=
  { (if ({ x with desc0 := v } : QueueSt).threshold ≠ 0 then ({ x with desc0 := v } : QueueSt).arm else { x with desc0 := v }) with cfgRefused := false }

/-- The state after an accepted ENABLE. -/
def State.enabledAs (v : Nat) : State :=
  State.retargetAll (match s.queueOwner d q with
    | some p => ((s.described d q v).setQueue d q ((s.queue d q).enabledWith v)).entryTypeCheck p d q
    | none => (s.described d q v).setQueue d q ((s.queue d q).enabledWith v))

theorem physUsable_setQueue (x : QueueSt) (n : Nat) : (s.setQueue d q x).physUsable n = s.physUsable n := (rfl)
theorem physOf_setQueue (x : QueueSt) (n : Nat) : (s.setQueue d q x).physOf n = s.physOf n := (rfl)
theorem tilePresent_setQueue (x : QueueSt) (n : Nat) : (s.setQueue d q x).tilePresent n = s.tilePresent n := (rfl)

/-- Whether ENABLE may be set is not read off the queues. -/
theorem enableOk_setQueue (x : QueueSt) (o : Option Nat) (y : QueueSt) : (s.setQueue d q x).enableOk o y = s.enableOk o y := by
  have hparts := setQueue_parts s d q x
  simp only [State.enableOk, State.ringPlaced, State.inOneRange, State.ownerMemory, State.sigTileHeld, part_congr hparts, owns_congr hparts,
    physUsable_setQueue, physOf_setQueue, tilePresent_setQueue]

/-- ENABLE is none of the bits that a write of QH_WDESC0 leaves zero. -/
theorem bit_enable_kept (v : Nat) : bit (putBits v 50 48 0) 63 = bit v 63 := by
  rw [bit_eq_bits, bits_putBits_ne _ _ _ _ _ _ (by decide) (.inr (by decide)), ← bit_eq_bits]

/-- A disabled queue of the writer's own, and a write with ENABLE. -/
theorem writeDesc0_enable {ctx : Ctx} {w v : Nat} (hwin : ctxWin ctx = some w) (hq : q = s.wsel d w) (hacts : s.actsOn ctx d q = true)
    (hen : (s.queue d q).enabled = false) (hbit : bit v 63 = true) : s.writeDesc0 ctx d v =
      if s.enableOk (s.queueOwner d q) { s.queue d q with desc0 := putBits v 50 48 0 } then s.enabledAs d q (putBits v 50 48 0)
      else (s.described d q (putBits v 50 48 0)).enableRefused (s.queueOwner d q) d q (putBits v 50 48 0) := by
  subst hq
  unfold State.writeDesc0
  rw [hwin]
  dsimp only
  rw [if_neg (by rw [hacts]; exact Bool.false_ne_true), if_neg (Bool.eq_false_iff.mp hen), if_pos (by rw [bit_enable_kept, hbit]), enableOk_setQueue]
  unfold State.enabledAs State.described QueueSt.enabledWith
  cases s.queueOwner d (s.wsel d w) <;> rfl

theorem desc0_enabledWith (x : QueueSt) (v : Nat) : (x.enabledWith v).desc0 = v := by
  unfold QueueSt.enabledWith
  split <;> rfl

theorem enabledAs_onlyProds (v : Nat) : OnlyProds ((s.described d q v).setQueue d q ((s.queue d q).enabledWith v)) (s.enabledAs d q v) := by
  unfold State.enabledAs
  split
  · exact (OnlyProds.refl _).entryTypeCheck.retargetAll
  · exact (OnlyProds.refl _).retargetAll

/-- An empty queue. -/
def QueueSt.emptied (x : QueueSt) : QueueSt := { x with prod := 0, cons := 0, userSlots := [] }

theorem enabled_emptied (x : QueueSt) : x.emptied.enabled = x.enabled := (rfl)

/-- What a write of QH_WCTRL makes of a queue of the writer's own (R239). -/
def State.controlled (v : Nat) : State :=
  let x := s.queue d q
  let x := if bit v 2 then { x with armed := false } else x
  let x := if bit v 1 then x.arm else x
  let x := if bit v 0 && !x.enabled then x.emptied else x
  (if bit v 0 && !x.enabled then s.forgetCounts d q else s).setQueue d q x

theorem controlled_arm : s.controlled d q 2 = s.setQueue d q (s.queue d q).arm := (rfl)
theorem controlled_disarm : s.controlled d q 4 = s.setQueue d q { s.queue d q with armed := false } := (rfl)
theorem controlled_reset : s.controlled d q 1 =
    if (s.queue d q).enabled then s.setQueue d q (s.queue d q) else (s.forgetCounts d q).setQueue d q (s.queue d q).emptied := by
  cases hen : (s.queue d q).enabled <;> simp [State.controlled, enabled_emptied, hen, bit]

theorem bit_mod_two_pow_self (v n : Nat) : bit (v % 2 ^ n) n = false := by
  rw [bit, Nat.div_eq_of_lt (Nat.mod_lt v (Nat.two_pow_pos n))]
  rfl

end

section
variable (s : State) {ctx : Ctx} (d : Fin 2) {w q : Nat} (hwin : ctxWin ctx = some w) (hq : q = s.wsel d w) (hacts : s.actsOn ctx d q = true)
include hwin hq hacts

theorem exec_enable_of_bit (v : Word) (hen : (s.queue d q).enabled = false) (hbit : bit v.toNat 63 = true) : exec (.enable ctx d v) s = .next
    (if s.enableOk (s.queueOwner d q) { s.queue d q with desc0 := putBits v.toNat 50 48 0 } then s.enabledAs d q (putBits v.toNat 50 48 0)
      else (s.described d q (putBits v.toNat 50 48 0)).enableRefused (s.queueOwner d q) d q (putBits v.toNat 50 48 0)) := by
  exact congrArg Host.Outcome.next (writeDesc0_enable s d q hwin hq hacts hen hbit)

theorem enable_accepted (v : Word) (hen : (s.queue d q).enabled = false) (hbit : bit v.toNat 63 = true)
    (hok : s.enableOk (s.queueOwner d q) { s.queue d q with desc0 := putBits v.toNat 50 48 0 } = true) :
    Gives (.enable ctx d v) s (fun s' => (s'.queue d q).desc0 = putBits v.toNat 50 48 0 ∧ (s'.queue d q).enabled = true ∧
      (s'.queue d q).cfgRefused = false) := by
  have hprods := enabledAs_onlyProds s d q (putBits v.toNat 50 48 0)
  have hdesc : ((s.enabledAs d q (putBits v.toNat 50 48 0)).queue d q).desc0 = putBits v.toNat 50 48 0 := by
    rw [hprods.keeps QueueSt.desc0, queue_setQueue_same, desc0_enabledWith]
  refine gives_of_exec ((exec_enable_of_bit s d hwin hq hacts v hen hbit).trans (congrArg _ (if_pos hok))) ⟨hdesc, ?_, ?_⟩
  · rw [QueueSt.enabled, hdesc, bit_enable_kept, hbit]
  · rw [hprods.keeps QueueSt.cfgRefused, queue_setQueue_same]
    rfl

theorem enable_refused (v : Word) (hen : (s.queue d q).enabled = false) (hbit : bit v.toNat 63 = true)
    (hbad : s.enableOk (s.queueOwner d q) { s.queue d q with desc0 := putBits v.toNat 50 48 0 } = false) :
    Gives (.enable ctx d v) s (fun s' => (s'.queue d q).enabled = false ∧ (s'.queue d q).cfgRefused = true ∧
      s'.flag (QH_ERR d) QH_ERR_CFG_REFUSED = true) := by
  refine gives_of_exec ((exec_enable_of_bit s d hwin hq hacts v hen hbit).trans (congrArg _ (if_neg (Bool.eq_false_iff.mp hbad)))) ?_
  unfold State.enableRefused
  extract_lets x
  have hx : x = { s.queue d q with desc0 := putBits v.toNat 50 48 0 % 2 ^ 63 } := queue_setQueue_same s d q _
  have hprods : OnlyProds ((s.described d q (putBits v.toNat 50 48 0)).setQueue d q { x with cfgRefused := true })
      (((s.described d q (putBits v.toNat 50 48 0)).setQueue d q { x with cfgRefused := true }).sticky (QH_ERR d) QH_ERR_CFG_REFUSED (QH_ERR_EVENTS d)) :=
    (OnlyProds.refl _).of_queues (sticky_queues _ _ _ _)
  refine ⟨?_, ?_, flag_qhErr_reported _ ⟨by decide, by decide⟩ (by decide) _ _ _ _ _⟩
  · rw [hprods.postEvent.keeps QueueSt.enabled, queue_setQueue_same, hx]
    exact bit_mod_two_pow_self _ 63
  · rw [hprods.postEvent.keeps QueueSt.cfgRefused, queue_setQueue_same]

/-! ## QH_WCTRL (R232, R239) -/

theorem writeWctrl_own (v : Nat) : s.writeWctrl ctx d v = s.controlled d q v := by
  subst hq
  unfold State.writeWctrl
  rw [hwin]
  dsimp only
  rw [if_neg (by rw [hacts]; exact Bool.false_ne_true)]
  rfl

theorem exec_qhWctrlArm : exec (.qhWctrlArm ctx d) s = .next (s.setQueue d q (s.queue d q).arm) :=
  congrArg Host.Outcome.next ((writeWctrl_own s d hwin hq hacts 2).trans (controlled_arm s d q))

theorem exec_disarm : exec (.disarm ctx d) s = .next (s.setQueue d q { s.queue d q with armed := false }) :=
  congrArg Host.Outcome.next ((writeWctrl_own s d hwin hq hacts 4).trans (controlled_disarm s d q))

theorem exec_qhWctrlReset : exec (.qhWctrlReset ctx d) s =
    .next (if (s.queue d q).enabled then s.setQueue d q (s.queue d q) else (s.forgetCounts d q).setQueue d q (s.queue d q).emptied) :=
  congrArg Host.Outcome.next ((writeWctrl_own s d hwin hq hacts 1).trans (controlled_reset s d q))

theorem qhWctrlReset_disabled (hen : (s.queue d q).enabled = false) : Gives (.qhWctrlReset ctx d) s (fun s' =>
    (s'.queue d q).prod = 0 ∧ (s'.queue d q).cons = 0 ∧ (s'.queue d q).desc0 = (s.queue d q).desc0) := by
  refine gives_of_exec ((exec_qhWctrlReset s d hwin hq hacts).trans (congrArg _ (if_neg (Bool.eq_false_iff.mp hen)))) ?_
  rw [queue_setQueue_same]
  exact ⟨rfl, rfl, rfl⟩

theorem qhWctrlReset_enabled (hen : (s.queue d q).enabled = true) : Gives (.qhWctrlReset ctx d) s (fun s' =>
    (s'.queue d q).prod = (s.queue d q).prod ∧ (s'.queue d q).cons = (s.queue d q).cons) := by
  refine gives_of_exec ((exec_qhWctrlReset s d hwin hq hacts).trans (congrArg _ (if_pos hen))) ?_
  rw [queue_setQueue_same]
  exact ⟨rfl, rfl⟩

end

/-- A context without a window makes an access error, whatever it writes. -/
theorem writeWctrl_windowless (s : State) {u : Ctx} (hu : ctxWin u = none) (d v : Nat) : s.writeWctrl u d v = s.accessError u (QH_WCTRL d) := by
  rw [State.writeWctrl, hu]

/-- Settles O33: ENABLE, accepted and refused, ARM, DISARM and RESET of the queue selected, each by its own lemma. -/
theorem queuesAreEnabledArmedAndReset : Obligations.QueuesAreEnabledArmedAndReset := by
  unfold Obligations.QueuesAreEnabledArmedAndReset
  rintro ctx d s w q x hwin hq rfl hacts
  refine ⟨fun v hen hbit => ⟨enable_accepted s d hwin hq hacts v hen hbit, enable_refused s d hwin hq hacts v hen hbit⟩, ?armed, ?disarmed,
    qhWctrlReset_disabled s d hwin hq hacts, qhWctrlReset_enabled s d hwin hq hacts, fun u hu => ?windowless⟩
  case armed =>
    refine gives_of_exec (exec_qhWctrlArm s d hwin hq hacts) ?_
    rw [queue_setQueue_same]
    exact ⟨rfl, rfl, rfl, rfl⟩
  case disarmed =>
    refine gives_of_exec (exec_disarm s d hwin hq hacts) ?_
    rw [queue_setQueue_same]
    exact ⟨rfl, rfl, rfl⟩
  case windowless =>
    exact ⟨congrArg _ (writeWctrl_windowless s hu d 2), congrArg _ (writeWctrl_windowless s hu d 4), congrArg _ (writeWctrl_windowless s hu d 1)⟩

end Sys2Proof.Machine
end

section
/-! PROOFS. Notifications (10 R232): which queues a hub cycle fires, and what that leaves. -/
namespace Sys2Proof.Machine

/-! ## Queues fired -/

/-- A queue that has fired. -/
def QueueSt.fire (x : QueueSt) : QueueSt := { x with armed := false, fired := true }

theorem fire_fire (x : QueueSt) : x.fire.fire = x.fire := (rfl)

/-- Queues of a die fired. -/
def State.fireQueues (s : State) (d : Nat) (l : List Nat) : State := l.foldl (fun s q => s.setQueue d q (s.queue d q).fire) s

section
variable (s : State) (d : Nat)

theorem queue_fireQueues (l : List Nat) (p : Nat) : (s.fireQueues d l).queue d p = if p ∈ l then (s.queue d p).fire else s.queue d p := by
  induction l generalizing s with
  | nil => rfl
  | cons q l ih =>
    refine (ih _).trans ?_
    by_cases hpq : p = q
    · subst hpq
      simp only [queue_setQueue_same, fire_fire, ite_self, List.mem_cons_self, if_true]
    · simp only [queue_setQueue_ne s d q _ hpq, List.mem_cons, hpq, false_or]

@[simp] theorem fireQueues_regs (l : List Nat) : (s.fireQueues d l).regs = s.regs := foldl_keeps State.regs (fun s _ => setQueue_regs s d _ _) l s
@[simp] theorem fireQueues_mem (l : List Nat) : (s.fireQueues d l).mem = s.mem := foldl_keeps State.mem (fun s _ => setQueue_mem s d _ _) l s
@[simp] theorem fireQueues_hubs (l : List Nat) : (s.fireQueues d l).hubs = s.hubs := foldl_keeps State.hubs (fun s _ => setQueue_hubs s d _ _) l s

/-- The queues of a die whose condition holds. -/
def State.noticed : List Nat :=
  (s.queues.filter (fun e => e.1 / 16384 == d && (s.queue d (e.1 % 16384)).noticeHolds)).map (fun e => e.1 % 16384)

theorem notify_eq : s.notify d =
    (onceEach ((s.noticed d).map (fun q => (s.queue d q).vector))).foldl (fun s v => s.fireVector v) (s.fireQueues d (s.noticed d)) := (rfl)

/-- A queue at its default has no condition. -/
theorem mem_noticed {q : Nat} (hq : q < 16384) (h : (s.queue d q).noticeHolds = true) : q ∈ s.noticed d := by
  have hlisted : ∃ e ∈ s.queues, e.1 = d * 16384 + q := by
    by_contra hnone
    push Not at hnone
    have hdefault : s.queue d q = {} := sget_of_absent _ hnone
    rw [hdefault] at h
    exact Bool.false_ne_true h
  obtain ⟨e, he, hkey⟩ := hlisted
  have hmod : e.1 % 16384 = q := by omega
  have hdiv : e.1 / 16384 = d := by omega
  refine List.mem_map.mpr ⟨e, List.mem_filter.mpr ⟨he, ?_⟩, hmod⟩
  rw [hmod, hdiv, h, beq_self_eq_true, Bool.and_self]

theorem mem_of_mem_onceEach {v : Nat} {l : List Nat} (h : v ∈ onceEach l) : v ∈ l := by
  induction l with
  | nil => exact h
  | cons a l ih =>
    obtain rfl | htail := List.mem_cons.mp h
    · exact List.mem_cons_self
    · exact List.mem_cons_of_mem _ (ih (List.mem_filter.mp htail).1)

/-! ## What a notification leaves -/

theorem notify_queues : (s.notify d).queues = (s.fireQueues d (s.noticed d)).queues :=
  (congrArg State.queues (notify_eq s d)).trans (foldl_keeps State.queues fireVector_queues _ _)
@[simp] theorem notify_mem : (s.notify d).mem = s.mem :=
  (congrArg State.mem (notify_eq s d)).trans ((foldl_keeps State.mem fireVector_mem _ _).trans (fireQueues_mem s d _))
@[simp] theorem notify_hubs : (s.notify d).hubs = s.hubs :=
  (congrArg State.hubs (notify_eq s d)).trans ((foldl_keeps State.hubs fireVector_hubs _ _).trans (fireQueues_hubs s d _))

theorem queue_notify (p : Nat) : (s.notify d).queue d p = if p ∈ s.noticed d then (s.queue d p).fire else s.queue d p :=
  (queue_congr (notify_queues s d) d p).trans (queue_fireQueues s d _ p)

/-- Of the registers vectors reach the UC_ registers alone. -/
theorem rd_notify {b : Nat} (hb : 0x200000A0000 ≤ b) : (s.notify d).rd b = s.rd b := by
  have hfire (t : State) (v : Nat) (hv : v ∈ onceEach ((s.noticed d).map (fun q => (s.queue d q).vector))) : (t.fireVector v).rd b = t.rd b := by
    obtain ⟨q, -, rfl⟩ := List.mem_map.mp (mem_of_mem_onceEach hv)
    have hvector : (s.queue d q).vector < 2048 := bits_lt _ _ _
    exact rd_fireVector_ne t _ (by unfold UC_MSI_DATA; omega) (by unfold UC_MSI_SENT; omega)
  rw [notify_eq, foldl_keeps_rd _ hfire, rd_of_regs (fireQueues_regs s d _)]

/-- The counts of a queue are no part of its notification. -/
theorem counts_notify (p : Nat) : ((s.notify d).queue d p).prod = (s.queue d p).prod ∧ ((s.notify d).queue d p).cons = (s.queue d p).cons := by
  rw [queue_notify]
  split <;> exact ⟨rfl, rfl⟩

/-! ## The end of a hub cycle (R231) -/

theorem hubEnd_other (hon : s.domOn (100 + d) = true) : ∃ l f, s.hubEnd d = { s.notify d with hubStart := l, msiFired := f } := by
  unfold State.hubEnd
  rw [if_pos hon]
  exact ⟨_, _, rfl⟩

section
variable (hon : s.domOn (100 + d) = true)
include hon

theorem queue_hubEnd (p : Nat) : (s.hubEnd d).queue d p = (s.notify d).queue d p := by
  obtain ⟨_, _, hother⟩ := hubEnd_other s d hon
  rw [hother, State.queue, State.queue]

theorem hubEnd_mem : (s.hubEnd d).mem = s.mem := by
  obtain ⟨_, _, hother⟩ := hubEnd_other s d hon
  rw [hother]
  exact notify_mem s d

theorem hubEnd_hubs : (s.hubEnd d).hubs = s.hubs := by
  obtain ⟨_, _, hother⟩ := hubEnd_other s d hon
  rw [hother]
  exact notify_hubs s d

theorem rd_hubEnd {b : Nat} (hb : 0x200000A0000 ≤ b) : (s.hubEnd d).rd b = s.rd b := by
  obtain ⟨_, _, hother⟩ := hubEnd_other s d hon
  rw [hother]
  exact rd_notify s d hb

end

end

end Sys2Proof.Machine
end

section
/-! PROOFS. The hub cycle (10 R236 to R238): the records taken, the record written to its queue, and what the cycle leaves of memory and counts. -/
namespace Sys2Proof.Machine

/-! ## Bytes written alike (03 R81, R83) -/

/-- Addresses are kept where they were after whatever leaves the partitions and the loader's registers. -/
theorem resolve_of_loaderKept {s u : State} (h : LoaderKept s u) (a : Nat) : u.resolve a = s.resolve a := by
  have hactive (p : Nat) : (u.part p).active = (s.part p).active := field_of_core PartSt.active (h.core p)
  have hslots (p : Nat) : (u.part p).slots = (s.part p).slots := field_of_core PartSt.slots (h.core p)
  have hresident (p : Nat) : (u.part p).resident = (s.part p).resident := field_of_core PartSt.resident (h.core p)
  unfold State.resolve
  rw [tileOwner_of_core h.core]
  cases howner : s.tileOwner (sramTile a) with
  | none => rfl
  | some p =>
    have hp : p < 8 := List.mem_range.mp (List.mem_of_find?_eq_some howner)
    simp only [hactive, hslots, hresident, fld_of_rd (h.rd _ (isLoaderReg_status ⟨p, hp⟩))]

theorem writeBytes_mem_of_loaderKept {s u : State} (h : LoaderKept s u) (hmem : u.mem = s.mem) (hfuses : u.fuses = s.fuses) (a : Nat) (b : List Byte) :
    (u.writeBytes a b).mem = (s.writeBytes a b).mem :=
  writeBytes_mem_congr hmem (tilePresent_of_core h.core hfuses) (resolve_of_loaderKept h) a b

theorem not_loaderReg_of_le {b : Nat} (h : 0x20000041000 ≤ b) : ¬isLoaderReg b := fun hb => Nat.not_lt.mpr h hb.2

section
variable (s : State) (d : Nat)

/-! ## The records taken (R237) -/

/-- Records taken into the write buffer, with the pass-overs. -/
def State.hubTook (taken : List (Nat × CompRec)) (skips : Nat) : State :=
  ((s.addFld (QH_STALLS d) QH_STALLS_FULL_SKIPS skips).setHub d
    { (s.hub d).took (taken.map (·.1)) with wbuf := (s.hub d).wbuf ++ taken.map (·.2) }).addFld (QH_ACCEPTED d) QH_ACCEPTED_COUNT taken.length

/-- The buffer and the positions as the cycle leaves them. -/
def State.hubLeft (left : List CompRec) : State :=
  ((s.setHub d { s.hub d with wbuf := left }).setFld (QH_STATUS d) QH_STATUS_PASS_POS 0).setFld (QH_STATUS d) QH_STATUS_WBUF left.length

/-- A cycle whose write buffer was empty, and which took less than it may. -/
theorem execHubCycle_eq {taken : List (Nat × CompRec)} {skips : Nat} (hon : s.domOn (100 + d) = true) (hwbuf : (s.hub d).wbuf = [])
    (hpass : s.hubPass d [] 8 ((s.hub d).held.filter (fun e => decide (s.fld (QH_STATUS d) QH_STATUS_PASS_POS ≤ e.1))) = (taken, skips))
    (hfew : taken.length < 8) : execHubCycle d s = .next (State.hubEnd
      (((s.hubTook d taken skips).hubWrite d 8 (taken.map (·.2))).1.hubLeft d ((s.hubTook d taken skips).hubWrite d 8 (taken.map (·.2))).2) d) := by
  have hfull : decide (256 ≤ ([] : List CompRec).length) = false := rfl
  have hquota : min 8 (256 - ([] : List CompRec).length) = 8 := rfl
  unfold execHubCycle State.hubTook State.hubLeft
  rw [if_neg (by rw [hon]; exact Bool.false_ne_true)]
  simp only [hfull, hquota, hwbuf, hpass, hfew, Bool.false_eq_true, if_false, if_true, List.nil_append]

@[simp] theorem hub_setHub_same (x : HubSt) : (s.setHub d x).hub d = x := sget_sset_same _ _ _ _

theorem setFld_hubs (a : Nat) (f : Fld) (v : Nat) : (s.setFld a f v).hubs = s.hubs := (rfl)
theorem addFld_hubs (a : Nat) (f : Fld) (k : Nat) : (s.addFld a f k).hubs = s.hubs := by rw [State.addFld, setFld_hubs]

theorem hub_congr {s u : State} (h : u.hubs = s.hubs) (d : Nat) : u.hub d = s.hub d := by rw [State.hub, State.hub, h]

/-- Beside the hub's records a cycle's taking changes registers alone. -/
theorem hubTook_other (taken : List (Nat × CompRec)) (skips : Nat) : ∃ r h, s.hubTook d taken skips = { s with regs := r, hubs := h } := by
  obtain ⟨_, hskips⟩ := addFld_other s (QH_STALLS d) QH_STALLS_FULL_SKIPS skips
  rw [State.hubTook, hskips, State.setHub]
  obtain ⟨r, haccepted⟩ := addFld_other { s with regs := _, hubs := _ } (QH_ACCEPTED d) QH_ACCEPTED_COUNT taken.length
  exact ⟨r, _, haccepted⟩

theorem hubLeft_other (left : List CompRec) : ∃ r h, s.hubLeft d left = { s with regs := r, hubs := h } := by
  rw [State.hubLeft, State.setHub]
  obtain ⟨r, hpos⟩ := setFld_other { s with hubs := _ } (QH_STATUS d) QH_STATUS_PASS_POS 0
  obtain ⟨r', hbuffer⟩ := setFld_other { s with regs := r, hubs := _ } (QH_STATUS d) QH_STATUS_WBUF left.length
  exact ⟨r', _, by rw [hpos, hbuffer]⟩

section
variable (taken : List (Nat × CompRec)) (skips : Nat)

@[simp] theorem hubTook_queues : (s.hubTook d taken skips).queues = s.queues := by
  obtain ⟨_, _, hother⟩ := hubTook_other s d taken skips
  rw [hother]
@[simp] theorem hubTook_mem : (s.hubTook d taken skips).mem = s.mem := by
  obtain ⟨_, _, hother⟩ := hubTook_other s d taken skips
  rw [hother]
@[simp] theorem hubTook_fuses : (s.hubTook d taken skips).fuses = s.fuses := by
  obtain ⟨_, _, hother⟩ := hubTook_other s d taken skips
  rw [hother]
@[simp] theorem hubTook_parts : (s.hubTook d taken skips).parts = s.parts := by
  obtain ⟨_, _, hother⟩ := hubTook_other s d taken skips
  rw [hother]
@[simp] theorem hubTook_tests : (s.hubTook d taken skips).tests = s.tests := by
  obtain ⟨_, _, hother⟩ := hubTook_other s d taken skips
  rw [hother]
@[simp] theorem hubTook_hubStart : (s.hubTook d taken skips).hubStart = s.hubStart := by
  obtain ⟨_, _, hother⟩ := hubTook_other s d taken skips
  rw [hother]

theorem hub_hubTook : (s.hubTook d taken skips).hub d =
    { (s.hub d).took (taken.map (·.1)) with wbuf := (s.hub d).wbuf ++ taken.map (·.2) } := by
  rw [State.hubTook, hub_congr (addFld_hubs _ _ _ _), hub_setHub_same]

theorem rd_hubTook {b : Nat} (hstalls : b ≠ QH_STALLS d) (haccepted : b ≠ QH_ACCEPTED d) : (s.hubTook d taken skips).rd b = s.rd b := by
  rw [State.hubTook, rd_addFld_ne _ _ _ haccepted, rd_of_regs (setHub_regs _ _ _), rd_addFld_ne _ _ _ hstalls]

theorem accepted_hubTook : (s.hubTook d taken skips).fld (QH_ACCEPTED d) QH_ACCEPTED_COUNT = (s.fld (QH_ACCEPTED d) QH_ACCEPTED_COUNT + taken.length) % 2 ^ 64 := by
  have hbefore : ∀ x, ((s.addFld (QH_STALLS d) QH_STALLS_FULL_SKIPS skips).setHub d x).rd (QH_ACCEPTED d) = s.rd (QH_ACCEPTED d) := fun x => by
    rw [rd_of_regs (setHub_regs _ _ _), rd_addFld_ne _ _ _ (by unfold QH_ACCEPTED QH_STALLS; omega)]
  rw [State.hubTook, fld_addFld_same _ _ _ _ ⟨by decide, by decide⟩, fld_of_rd (hbefore _)]
  rfl

theorem hubTook_kept : LoaderKept s (s.hubTook d taken skips) := by
  have hstalls : ¬isLoaderReg (QH_STALLS d) := not_loaderReg_of_le (by unfold QH_STALLS; omega)
  have haccepted : ¬isLoaderReg (QH_ACCEPTED d) := not_loaderReg_of_le (by unfold QH_ACCEPTED; omega)
  exact (((LoaderKept.refl s).addFld hstalls _ _).setHub d _).addFld haccepted _ _

end

section
variable (left : List CompRec)

@[simp] theorem hubLeft_queues : (s.hubLeft d left).queues = s.queues := by
  obtain ⟨_, _, hother⟩ := hubLeft_other s d left
  rw [hother]
@[simp] theorem hubLeft_mem : (s.hubLeft d left).mem = s.mem := by
  obtain ⟨_, _, hother⟩ := hubLeft_other s d left
  rw [hother]
@[simp] theorem hubLeft_fuses : (s.hubLeft d left).fuses = s.fuses := by
  obtain ⟨_, _, hother⟩ := hubLeft_other s d left
  rw [hother]

theorem hub_hubLeft : (s.hubLeft d left).hub d = { s.hub d with wbuf := left } := by
  rw [State.hubLeft, hub_congr (setFld_hubs _ _ _ _), hub_congr (setFld_hubs _ _ _ _), hub_setHub_same]

theorem rd_hubLeft {b : Nat} (h : b ≠ QH_STATUS d) : (s.hubLeft d left).rd b = s.rd b := by
  rw [State.hubLeft, rd_setFld_ne _ _ _ h, rd_setFld_ne _ _ _ h, rd_of_regs (setHub_regs _ _ _)]

end

/-! ## The record written (R238) -/

theorem dom_ne_hubReg {i b : Nat} (hi : i < 102) (hb : 0x200000A0000 ≤ b) : PD_DOM i ≠ b := by
  unfold PD_DOM
  omega

theorem queueOwner_congr {s u : State} (h : u.parts = s.parts) (d q : Nat) : u.queueOwner d q = s.queueOwner d q := by
  simp only [State.queueOwner, part_congr h]

theorem roomFor_congr {s u : State} (hqueues : u.queues = s.queues) (hstart : u.hubStart = s.hubStart) (d q k : Nat) :
    u.roomFor d q k = s.roomFor d q k := by
  have hqueue : u.queue = s.queue := funext₂ (queue_congr hqueues)
  rw [State.roomFor, State.roomFor, State.startCounts, State.startCounts, hqueue, hstart]

/-- Whether a record can be written is read off the queues, their owners, the counts of the cycle's start, and the stacks. -/
theorem recFate_congr {s u : State} (hqueues : u.queues = s.queues) (hparts : u.parts = s.parts) (hstart : u.hubStart = s.hubStart)
    (hstack : ∀ k, u.rd (HB_STATUS k) = s.rd (HB_STATUS k)) (d : Nat) (r : CompRec) (ahead : Nat) : u.recFate d r ahead = s.recFate d r ahead := by
  have hqueue : u.queue = s.queue := funext₂ (queue_congr hqueues)
  have howner : u.queueOwner = s.queueOwner := funext₂ (queueOwner_congr hparts)
  rw [State.recFate, State.recFate, State.inFailed, State.inFailed, hqueue, howner, stackFailed_congr hstack, roomFor_congr hqueues hstart]

section
variable (taken : List (Nat × CompRec)) (skips : Nat)

theorem rd_stack_hubTook (k : Nat) : (s.hubTook d taken skips).rd (HB_STATUS k) = s.rd (HB_STATUS k) :=
  rd_hubTook s d taken skips (by unfold HB_STATUS QH_STALLS; omega) (by unfold HB_STATUS QH_ACCEPTED; omega)

theorem rd_dom_hubTook {i : Nat} (hi : i < 102) : (s.hubTook d taken skips).rd (PD_DOM i) = s.rd (PD_DOM i) :=
  rd_hubTook s d taken skips (dom_ne_hubReg hi (by unfold QH_STALLS; omega)) (dom_ne_hubReg hi (by unfold QH_ACCEPTED; omega))

theorem recFate_hubTook (r : CompRec) (ahead : Nat) : (s.hubTook d taken skips).recFate d r ahead = s.recFate d r ahead :=
  recFate_congr (hubTook_queues s d _ _) (hubTook_parts s d _ _) (hubTook_hubStart s d _ _) (rd_stack_hubTook s d _ _) d r ahead

theorem memOn_hubTook (a n : Nat) : (s.hubTook d taken skips).memOn a n = s.memOn a n := by
  rw [State.memOn, State.memOn, firstOff_congr (hubTook_fuses s d _ _) (hubTook_parts s d _ _) (hubTook_tests s d _ _)
    (fun _ => rd_dom_hubTook s d _ _) (rd_stack_hubTook s d _ _)]

end

/-- A pass over one source whose oldest record can be written takes that record. -/
theorem hubPass_one {ix : Nat} {r : CompRec} (rest : List CompRec) (hfate : s.recFate d r 0 = .write) (n : Nat) :
    s.hubPass d [] (n + 1) [(ix, r :: rest)] = ([(ix, r)], 0) := by
  rw [State.hubPass]
  dsimp only
  rw [if_neg (by rw [show naming [] r.cq = 0 from rfl, hfate]; decide)]
  cases n <;> rfl

/-- The oldest record of the one source that holds any leaves its holding place. -/
theorem held_took {h : HubSt} {ix : Nat} {r : CompRec} {rest : List CompRec} (hlate : h.late = []) (hheld : h.held = [(ix, r :: rest)]) :
    sget (fun _ => []) (h.took [ix]).held ix = rest := by
  rw [HubSt.took, hheld, HubSt.refill, hlate]
  simp [sget]

/-- What the hub's write of a record counts as. -/
def CompRec.attr (r : CompRec) : Attr := { priv := some r.priv, part := some r.part, master := some 6 }

theorem lc_recAttr (r : CompRec) : r.attr.lc = false := (rfl)

/-- The state with a record written to its queue. -/
def State.recWritten (r : CompRec) : State :=
  (s.hbWrite ((s.queue d r.cq).slot (s.queue d r.cq).prod) 32 r.attr).pushEntry d r.cq r.bytes

theorem hubWrite_nil (n : Nat) : s.hubWrite d (n + 1) [] = (s, []) := by
  rw [State.hubWrite]
  exact Nat.succ_ne_zero n

theorem hubWrite_one {r : CompRec} (hfate : s.recFate d r 0 = .write) (hmem : s.memOn ((s.queue d r.cq).slot (s.queue d r.cq).prod) 32 = true) (n : Nat) :
    s.hubWrite d (n + 2) [r] = (s.recWritten d r, []) := by
  rw [State.hubWrite, hfate]
  dsimp only
  rw [if_neg (by rw [hmem]; decide)]
  rfl

section
variable (r : CompRec)

theorem hbWrite_rec_other (a : Nat) : ∃ t, s.hbWrite a 32 r.attr = { s with tally := t } := hbWrite_other s a 32 _ (lc_recAttr r)

@[simp] theorem recWritten_regs : (s.recWritten d r).regs = s.regs := by
  obtain ⟨_, hother⟩ := hbWrite_rec_other s r ((s.queue d r.cq).slot (s.queue d r.cq).prod)
  rw [State.recWritten, pushEntry_regs, hother]

@[simp] theorem recWritten_hubs : (s.recWritten d r).hubs = s.hubs := by
  rw [State.recWritten, hubs_of_still (pushEntry_still _ _ _ _), hubs_of_still (hbWrite_still _ _ _ _)]

@[simp] theorem recWritten_fuses : (s.recWritten d r).fuses = s.fuses := by
  rw [State.recWritten, fuses_of_still (pushEntry_still _ _ _ _), fuses_of_still (hbWrite_still _ _ _ _)]

theorem queue_recWritten : (s.recWritten d r).queue d r.cq = (s.queue d r.cq).ahead 1 := by
  obtain ⟨_, hother⟩ := hbWrite_rec_other s r ((s.queue d r.cq).slot (s.queue d r.cq).prod)
  rw [State.recWritten, queue_pushEntry, queue_congr (u := s.hbWrite _ 32 r.attr) (s := s) (by rw [hother])]

theorem recWritten_mem : (s.recWritten d r).mem = (s.writeBytes ((s.queue d r.cq).slot (s.queue d r.cq).prod) r.bytes).mem := by
  obtain ⟨_, hother⟩ := hbWrite_rec_other s r ((s.queue d r.cq).slot (s.queue d r.cq).prod)
  have hcounted : LoaderKept s (s.hbWrite ((s.queue d r.cq).slot (s.queue d r.cq).prod) 32 r.attr) :=
    (LoaderKept.refl s).of_eq (by rw [hother]) (by rw [hother])
  rw [State.recWritten, pushEntry_mem, queue_congr (u := s.hbWrite _ 32 r.attr) (s := s) (by rw [hother])]
  exact writeBytes_mem_of_loaderKept hcounted (by rw [hother]) (by rw [hother]) _ _

end

end

/-! ## HUB_CYCLE -/

section
variable (s : State) (d : Fin 2) (hon : s.domOn (100 + d) = true) (hwbuf : (s.hub d).wbuf = [])

theorem exec_hubCycle : exec (.hubCycle d) s = execHubCycle d s := (rfl)

include hon

/-- The hub's half stays ON through what the cycle writes. -/
theorem domOn_hubLeft {u : State} (taken : List (Nat × CompRec)) (hfuses : u.fuses = s.fuses) (hregs : u.regs = (s.hubTook d taken 0).regs) (left : List CompRec) :
    (u.hubLeft d left).domOn (100 + d) = true := by
  refine (domOn_congr ((hubLeft_fuses u d left).trans hfuses) (fun i hi => ?_) _).trans hon
  rw [rd_hubLeft u d left (dom_ne_hubReg hi (by unfold QH_STATUS; omega)), rd_of_regs hregs, rd_dom_hubTook s d taken 0 hi]

include hwbuf

/-- With nothing held a cycle notifies alone. -/
theorem hubCycle_notifies (hheld : (s.hub d).held = []) {q : Nat} (hq : q < 16384) (hnotice : (s.queue d q).noticeHolds = true) :
    Gives (.hubCycle d) s (fun s' => (s'.queue d q).armed = false ∧ (s'.queue d q).fired = true ∧ (s'.queue d q).prod = (s.queue d q).prod ∧
      (s'.queue d q).cons = (s.queue d q).cons ∧ s'.mem = s.mem) := by
  have hexec : execHubCycle d s = .next (((s.hubTook d [] 0).hubLeft d []).hubEnd d) := by
    rw [execHubCycle_eq s d hon hwbuf (taken := []) (skips := 0) (by rw [hheld]; rfl) (by decide), List.map_nil, hubWrite_nil]
  have hon' := domOn_hubLeft s d hon [] (hubTook_fuses s d [] 0) rfl []
  have hqueue (p : Nat) : ((s.hubTook d [] 0).hubLeft d []).queue d p = s.queue d p :=
    queue_congr ((hubLeft_queues _ d []).trans (hubTook_queues s d [] 0)) d p
  have hfired : (((s.hubTook d [] 0).hubLeft d []).hubEnd d).queue d q = (s.queue d q).fire := by
    rw [queue_hubEnd _ _ hon', queue_notify, if_pos (mem_noticed _ _ hq (by rw [hqueue, hnotice])), hqueue]
  refine gives_of_exec ((exec_hubCycle s d).trans hexec) ?_
  rw [hfired]
  exact ⟨rfl, rfl, rfl, rfl, by rw [hubEnd_mem _ _ hon', hubLeft_mem, hubTook_mem]⟩

/-- One source's oldest record, which its queue accepts, is taken and written. -/
theorem hubCycle_writes {ix : Nat} {r : CompRec} {rest : List CompRec} (hlate : (s.hub d).late = []) (hheld : (s.hub d).held = [(ix, r :: rest)])
    (hpos : s.fld (QH_STATUS d) QH_STATUS_PASS_POS ≤ ix) (hfate : s.recFate d r 0 = .write)
    (hmem : s.memOn ((s.queue d r.cq).slot (s.queue d r.cq).prod) 32 = true) : Gives (.hubCycle d) s (fun s' =>
      s'.heldRecs d ix = rest ∧ (s'.hub d).wbuf = [] ∧ (s'.queue d r.cq).prod = ((s.queue d r.cq).prod + 1) % 2 ^ 32 ∧
      (s'.queue d r.cq).cons = (s.queue d r.cq).cons ∧ s'.mem = (s.writeBytes ((s.queue d r.cq).slot (s.queue d r.cq).prod) r.bytes).mem ∧
      s'.fld (QH_ACCEPTED d) QH_ACCEPTED_COUNT = (s.fld (QH_ACCEPTED d) QH_ACCEPTED_COUNT + 1) % 2 ^ 64) := by
  have hpass : s.hubPass d [] 8 ((s.hub d).held.filter (fun e => decide (s.fld (QH_STATUS d) QH_STATUS_PASS_POS ≤ e.1))) = ([(ix, r)], 0) := by
    rw [hheld, List.filter_eq_self.mpr (by simpa using hpos), hubPass_one s d rest hfate]
  set t := s.hubTook d [(ix, r)] 0 with ht
  have hqueue : t.queue d r.cq = s.queue d r.cq := queue_congr (hubTook_queues s d _ 0) _ _
  have hfate' : t.recFate d r 0 = .write := (recFate_hubTook s d _ 0 r 0).trans hfate
  have hmem' : t.memOn ((t.queue d r.cq).slot (t.queue d r.cq).prod) 32 = true := by rw [hqueue, memOn_hubTook, hmem]
  have hexec : execHubCycle d s = .next (((t.recWritten d r).hubLeft d []).hubEnd d) := by
    have hcycle := execHubCycle_eq s d hon hwbuf hpass (by show 1 < 8; decide)
    rw [← ht, show [(ix, r)].map (·.2) = [r] from rfl, hubWrite_one t d hfate' hmem' 6] at hcycle
    exact hcycle
  have hon' : ((t.recWritten d r).hubLeft d []).domOn (100 + d) = true :=
    domOn_hubLeft s d hon [(ix, r)] ((recWritten_fuses t d r).trans (hubTook_fuses s d _ 0)) (recWritten_regs t d r) []
  have hhub : (((t.recWritten d r).hubLeft d []).hubEnd d).hub d = { (s.hub d).took [ix] with wbuf := [] } := by
    rw [hub_congr (hubEnd_hubs _ _ hon'), hub_hubLeft, hub_congr (recWritten_hubs t d r), hub_hubTook]
    rfl
  obtain ⟨hprod, hcons⟩ := counts_notify ((t.recWritten d r).hubLeft d []) d r.cq
  have hahead : ((t.recWritten d r).hubLeft d []).queue d r.cq = (s.queue d r.cq).ahead 1 := by
    rw [queue_congr (hubLeft_queues _ d []), queue_recWritten, hqueue]
  rw [hahead] at hprod hcons
  refine gives_of_exec ((exec_hubCycle s d).trans hexec) ⟨?_, by rw [hhub], ?_, ?_, ?_, ?_⟩
  · rw [State.heldRecs, hhub]
    exact held_took hlate hheld
  · rw [queue_hubEnd _ _ hon', hprod]
    rfl
  · rw [queue_hubEnd _ _ hon', hcons]
    rfl
  · rw [hubEnd_mem _ _ hon', hubLeft_mem, recWritten_mem, hqueue]
    exact writeBytes_mem_of_loaderKept (hubTook_kept s d _ 0) (hubTook_mem s d _ 0) (hubTook_fuses s d _ 0) _ _
  · have hrd : (((t.recWritten d r).hubLeft d []).hubEnd d).rd (QH_ACCEPTED d) = t.rd (QH_ACCEPTED d) := by
      rw [rd_hubEnd _ _ hon' (by unfold QH_ACCEPTED; omega), rd_hubLeft _ _ _ (by unfold QH_ACCEPTED QH_STATUS; omega), rd_of_regs (recWritten_regs t d r)]
    rw [fld_of_rd hrd, ht, accepted_hubTook]
    rfl

end

end Sys2Proof.Machine
end

section
/-! PROOFS. Head words (10 R226), and the statement on records, notifications and head words. -/
namespace Sys2Proof.Machine

section
variable (s : State) (d q : Nat)

/-- The state in which a queue's head word has been read. -/
def State.headRead : State := s.hbRead (s.queue d q).headAddr 4 { part := s.queueOwner d q, master := some 6 }

theorem headRead_other : ∃ t, s.headRead d q = { s with tally := t } := hbRead_other s _ 4 _ rfl

@[simp] theorem headRead_queues : (s.headRead d q).queues = s.queues := by
  obtain ⟨_, hother⟩ := headRead_other s d q
  rw [hother]
@[simp] theorem headRead_mem : (s.headRead d q).mem = s.mem := by
  obtain ⟨_, hother⟩ := headRead_other s d q
  rw [hother]

theorem readNat_headRead (a n : Nat) : (s.headRead d q).readNat a n = s.readNat a n := by
  obtain ⟨_, hother⟩ := headRead_other s d q
  refine readNat_congr (byte_of_loaderKept ?_ (headRead_mem s d q) ?_) a n
  · exact (LoaderKept.refl s).of_eq (by rw [hother]) (by rw [hother])
  · rw [hother]

/-- CONS at the head word. -/
def State.headTaken (v : Nat) : State := ((s.headRead d q).noteCounts d q).setQueue d q { s.queue d q with cons := v }

/-- A head word that does not lie between CONS and PROD is reported. -/
def State.headBad (v : Nat) : State :=
  ((s.headRead d q).sticky (QH_ERR d) QH_ERR_HEAD_BAD (QH_ERR_EVENTS d)).postEvent ((s.headRead d q).queueOwner d q) d 0x0002 q
    (leBytes 4 v ++ leBytes 4 (s.queue d q).cons)

end

section
variable (s : State) (d : Fin 2) (q : Fin 16384) (hon : s.domOn (100 + d) = true) (hen : (s.queue d q).enabled = true)
  (htile : (s.queue d q).tileConsumed = true) (haddr : (s.queue d q).headAddr ≠ 0) (hfull : s.producerFull d q = true)
  (hmem : s.memOn (s.queue d q).headAddr 4 = true) (hsound : s.firstBad (s.queue d q).headAddr 4 = none)
include hon hen htile haddr hfull hmem hsound

/-- The head word of a tile-consumed queue that a producer finds full, its memory ON and sound. -/
theorem exec_headWordRead {v : Nat} (hv : v = s.readNat (s.queue d q).headAddr 4) : exec (.headWordRead d q) s =
    if (v + 2 ^ 32 - (s.queue d q).cons) % 2 ^ 32 ≤ (s.queue d q).occupancy then .next (s.headTaken d q v) else .next (s.headBad d q v) := by
  have hdue : (s.domOn (100 + d) && (s.queue d q).enabled && (s.queue d q).tileConsumed && (s.queue d q).headAddr != 0 && s.producerFull d q) = true := by
    rw [hon, hen, htile, hfull, bne_iff_ne.mpr haddr]
    rfl
  have hread : (s.headRead d q).readNat (s.queue d q).headAddr 4 = v := (readNat_headRead s d q _ 4).trans hv.symm
  refine Eq.trans (b := execHeadWordRead d q s) rfl ?_
  unfold execHeadWordRead
  dsimp only
  rw [if_neg (by rw [hdue]; exact Bool.false_ne_true), if_neg (by rw [hmem]; decide), hsound]
  dsimp only
  rw [show (s.hbRead (s.queue d q).headAddr 4 { part := s.queueOwner d q, master := some 6 }).readNat (s.queue d q).headAddr 4 = v from hread]
  rfl

theorem headWordRead_taken {v : Nat} (hv : v = s.readNat (s.queue d q).headAddr 4)
    (hwithin : (v + 2 ^ 32 - (s.queue d q).cons) % 2 ^ 32 ≤ (s.queue d q).occupancy) : Gives (.headWordRead d q) s (fun s' =>
      (s'.queue d q).cons = v ∧ (s'.queue d q).prod = (s.queue d q).prod ∧ s'.mem = s.mem) := by
  refine gives_of_exec ((exec_headWordRead s d q hon hen htile haddr hfull hmem hsound hv).trans (if_pos hwithin)) ?_
  rw [State.headTaken, queue_setQueue_same]
  exact ⟨rfl, rfl, by rw [setQueue_mem, noteCounts_mem, headRead_mem]⟩

theorem headWordRead_bad {v : Nat} (hv : v = s.readNat (s.queue d q).headAddr 4)
    (hbeyond : (s.queue d q).occupancy < (v + 2 ^ 32 - (s.queue d q).cons) % 2 ^ 32) : Gives (.headWordRead d q) s (fun s' =>
      (s'.queue d q).cons = (s.queue d q).cons ∧ s'.flag (QH_ERR d) QH_ERR_HEAD_BAD = true) := by
  have hreported : OnlyProds s ((s.headRead d q).sticky (QH_ERR d) QH_ERR_HEAD_BAD (QH_ERR_EVENTS d)) :=
    ((OnlyProds.refl s).of_queues (headRead_queues s d q)).of_queues (sticky_queues _ _ _ _)
  refine gives_of_exec ((exec_headWordRead s d q hon hen htile haddr hfull hmem hsound hv).trans (if_neg (Nat.not_le.mpr hbeyond))) ⟨?_, ?_⟩
  · exact hreported.postEvent.keeps QueueSt.cons _ _
  · exact flag_qhErr_reported _ ⟨by decide, by decide⟩ (by decide) _ _ _ _ _

end

/-- Settles O34: a record collected, a notification, and the head word taken or reported, each by its own lemma. -/
theorem recordsAndHeadWordsReachTheirQueues : Obligations.RecordsAndHeadWordsReachTheirQueues := by
  unfold Obligations.RecordsAndHeadWordsReachTheirQueues
  refine ⟨fun d s ix r rest hon hwbuf hlate hheld hpos hfate hmem => hubCycle_writes s d hon hwbuf hlate hheld hpos hfate hmem,
    fun d q s hon hwbuf _ hheld hnotice => hubCycle_notifies s d hon hwbuf hheld q.isLt hnotice, ?heads⟩
  case heads =>
    rintro d q s x v rfl hv hon hen htile haddr hfull hmem hsound
    exact ⟨headWordRead_taken s d q hon hen htile haddr hfull hmem hsound hv, headWordRead_bad s d q hon hen htile haddr hfull hmem hsound hv⟩

end Sys2Proof.Machine
end

section
/-! PROOFS. Messages (10 R234, 12 R281): their entries stored from PROD on, and PROD advanced by their number. -/
namespace Sys2Proof.Machine

/-! ## Writes counted (09 R215, 16 R388) -/

section
variable (s : State) (a n : Nat) (x : Attr)

theorem hbCount_queues (ev : Nat) : (s.hbCount ev a n x).queues = s.queues := by
  obtain ⟨_, hother⟩ := hbCount_other s ev a n x
  rw [hother]
theorem hbCount_mem (ev : Nat) : (s.hbCount ev a n x).mem = s.mem := by
  obtain ⟨_, hother⟩ := hbCount_other s ev a n x
  rw [hother]
theorem lcAll_queues : (s.lcAll a n x).queues = s.queues := by
  obtain ⟨_, _, _, _, hother⟩ := lcAll_other s a n x
  rw [hother]
theorem lcAll_mem : (s.lcAll a n x).mem = s.mem := by
  obtain ⟨_, _, _, _, hother⟩ := lcAll_other s a n x
  rw [hother]

@[simp] theorem hbWrite_queues : (s.hbWrite a n x).queues = s.queues :=
  (foldl_keeps State.queues (fun s e => by rw [hbCount_queues, hbCount_queues, apply_ite State.queues, lcAll_queues, ite_self]) _ _).trans
    (by rw [apply_ite State.queues, lcAll_queues, hbCount_queues, ite_self])
@[simp] theorem hbWrite_mem : (s.hbWrite a n x).mem = s.mem :=
  (foldl_keeps State.mem (fun s e => by rw [hbCount_mem, hbCount_mem, apply_ite State.mem, lcAll_mem, ite_self]) _ _).trans
    (by rw [apply_ite State.mem, lcAll_mem, hbCount_mem, ite_self])

theorem LoaderKept.hbWrite {s t : State} (h : LoaderKept s t) : LoaderKept s (t.hbWrite a n x) := by
  unfold State.hbWrite
  exact LoaderKept.foldl (ite ((h.hbCount 1 a n x).lcAll a n x) (h.hbCount 1 a n x))
    fun u e _ hu => ((ite (hu.lcAll e.1 e.2 x) hu).hbCount 0 e.1 e.2 x).hbCount 2 e.1 e.2 x

end

/-! ## Entries stored (R226) -/

/-- The state with one entry stored at its slot. -/
def State.entryStored (x : QueueSt) (at_ : Attr) (s : State) (e : Nat × List Byte) : State :=
  ((s.hbWrite (x.slot (x.prod + e.1)) x.entryBytes at_).writeBytes (x.slot (x.prod + e.1)) e.2).cleanUnits (x.slot (x.prod + e.1)) x.entryBytes

/-- Bytes written alike leave two states alike in what the loader holds. -/
theorem LoaderKept.writeBytes_both {s t : State} (h : LoaderKept s t) (a : Nat) (b : List Byte) : LoaderKept (s.writeBytes a b) (t.writeBytes a b) := by
  obtain ⟨_, hs⟩ := writeBytes_other s a b
  have hbefore : LoaderKept (s.writeBytes a b) s := (LoaderKept.refl _).of_eq (by rw [hs]) (by rw [hs])
  exact hbefore.trans (h.writeBytes a b)

section
variable (x : QueueSt) (at_ : Attr)

theorem entryStored_queues (s : State) (e : Nat × List Byte) : (State.entryStored x at_ s e).queues = s.queues := by
  rw [State.entryStored, cleanUnits_queues, writeBytes_queues, hbWrite_queues]

theorem entryStored_still (s : State) (e : Nat × List Byte) : (State.entryStored x at_ s e).still = s.still := by
  rw [State.entryStored, cleanUnits_still, writeBytes_still, hbWrite_still]

/-- Entries stored are their bytes written. -/
theorem entriesStored_mem (l : List (Nat × List Byte)) {s t : State} (hkept : LoaderKept s t) (hmem : t.mem = s.mem) (hfuses : t.fuses = s.fuses) :
    (l.foldl (State.entryStored x at_) t).mem = (l.foldl (fun s e => s.writeBytes (x.slot (x.prod + e.1)) e.2) s).mem := by
  induction l generalizing s t with
  | nil => exact hmem
  | cons e l ih =>
    have hcounted : LoaderKept s (t.hbWrite (x.slot (x.prod + e.1)) x.entryBytes at_) := hkept.hbWrite _ _ _
    refine ih ((hcounted.writeBytes_both _ _).cleanUnits _ _) ?_ ?_
    · rw [State.entryStored, cleanUnits_mem]
      exact writeBytes_mem_of_loaderKept hcounted ((hbWrite_mem _ _ _ _).trans hmem) ((fuses_of_still (hbWrite_still _ _ _ _)).trans hfuses) _ _
    · rw [fuses_of_still (entryStored_still x at_ t e), fuses_of_still (writeBytes_still s _ _), hfuses]

end

/-! ## A packet leaves its buffer (11 R283) -/

section
variable (s : State) (i c : Nat) (k : Packet) (rest : List Packet)

theorem leaveRx_other : ∃ r p, s.leaveRx i c k rest = { s with router := r, ports := p } ∧ sget (fun _ => []) r.rx (i * 10 + c) = rest := by
  unfold State.leaveRx State.freeRx
  split
  · exact ⟨_, _, rfl, sget_sset_same _ _ _ _⟩
  · exact ⟨_, s.ports, rfl, sget_sset_same _ _ _ _⟩

theorem leaveRx_queues : (s.leaveRx i c k rest).queues = s.queues := by
  obtain ⟨_, _, hother, _⟩ := leaveRx_other s i c k rest
  rw [hother]

theorem leaveRx_mem : (s.leaveRx i c k rest).mem = s.mem := by
  obtain ⟨_, _, hother, _⟩ := leaveRx_other s i c k rest
  rw [hother]

theorem rxAt_leaveRx : (s.leaveRx i c k rest).rxAt i c = rest := by
  obtain ⟨_, _, hother, hrest⟩ := leaveRx_other s i c k rest
  rw [hother]
  exact hrest

end

theorem rxAt_of_still {s u : State} (h : u.still = s.still) (i c : Nat) : u.rxAt i c = s.rxAt i c := by
  have hrouter : u.router = s.router := (congrArg State.router h :)
  rw [State.rxAt, State.rxAt, hrouter]

/-! ## MESSAGE_DELIVERY -/

/-- What the write of a packet's entries counts as. -/
def Packet.entryAttr (k : Packet) : Attr := { part := some k.part, master := some 7, cls := some k.cls, layerOp := k.attr.layerOp }

/-- The state after a message's delivery. -/
def State.messageStored (s : State) (i c : Nat) (k : Packet) (rest : List Packet) (d q : Nat) (es : List (List Byte)) : State :=
  (((enumFrom 0 es).foldl (State.entryStored (s.queue d q) k.entryAttr) s).leaveRx i c k rest).advanceProd d q es.length

section
variable (s : State) (i c : Nat) (k : Packet) (rest : List Packet) (d q : Nat) (es : List (List Byte))

theorem messageStored_mem : (s.messageStored i c k rest d q es).mem =
    ((enumFrom 0 es).foldl (fun t e => t.writeBytes ((s.queue d q).slot ((s.queue d q).prod + e.1)) e.2) s).mem := by
  rw [State.messageStored, advanceProd_mem, leaveRx_mem]
  exact entriesStored_mem _ _ _ (LoaderKept.refl s) rfl rfl

theorem rxAt_messageStored : (s.messageStored i c k rest d q es).rxAt i c = rest := by
  rw [State.messageStored, rxAt_of_still (advanceProd_still _ _ _ _), rxAt_leaveRx]

theorem queue_messageStored : (s.messageStored i c k rest d q es).queue d q = (s.queue d q).ahead es.length := by
  have hstored : ((enumFrom 0 es).foldl (State.entryStored (s.queue d q) k.entryAttr) s).queues = s.queues :=
    foldl_keeps State.queues (entryStored_queues _ _) _ _
  rw [State.messageStored, queue_advanceProd, queue_congr ((leaveRx_queues _ i c k rest).trans hstored)]

end

section
variable (s : State) (i : Fin 11) (c : Fin 10) {k : Packet} {rest : List Packet} {d q : Nat} (hfree : s.firstFree (s.rxAt i c) = some (k, rest))
  (hd : d = bits k.data 14 14) (hq : q = bits k.data 13 0)
include hfree hd hq

theorem messageDelivery_full (hroom : s.roomFor d q (messageEntries (s.queue d q).entryBytes k.body).length = false) :
    exec (.messageDelivery i c) s = .next s := by
  subst hd hq
  refine Eq.trans (b := execMessageDelivery i c s) rfl ?_
  unfold execMessageDelivery
  rw [hfree]
  dsimp only
  rw [if_pos (by rw [hroom, Bool.and_false]; rfl)]

variable (hkind : k.kind = 0 ∨ k.kind = 5 ∨ k.kind = 0xB) (hmodule : k.isModule = false) (hdst : k.dst = s.coord)
  (hcoord : s.flag RT_COORD RT_COORD_VALID = true) (hheader : s.headerBad k = false) (hbar : s.ingressBar i k = false)
  (hvalid : s.queueValid k = true) (hen : (s.queue d q).enabled = true)
  (hroom : s.roomFor d q (messageEntries (s.queue d q).entryBytes k.body).length = true) (hon : s.domOn (100 + d) = true)
  (hmem : ∀ e ∈ enumFrom 0 (messageEntries (s.queue d q).entryBytes k.body),
    s.memOn ((s.queue d q).slot ((s.queue d q).prod + e.1)) (s.queue d q).entryBytes = true)
include hkind hmodule hdst hcoord hheader hbar hvalid hen hroom hon hmem

theorem exec_messageDelivery : exec (.messageDelivery i c) s =
    .next (s.messageStored i c k rest d q (messageEntries (s.queue d q).entryBytes k.body)) := by
  subst hd hq
  have hkind' : (k.kind == 0 || k.kind == 5 || k.kind == 0xB) = true := by simpa only [Bool.or_eq_true, beq_iff_eq, or_assoc] using hkind
  have hdst' : (k.dst == s.coord) = true := beq_iff_eq.mpr hdst
  have hnone := List.find?_eq_none (p := fun e : Nat × List Byte =>
    !s.memOn ((s.queue (bits k.data 14 14) (bits k.data 13 0)).slot ((s.queue (bits k.data 14 14) (bits k.data 13 0)).prod + e.1))
      (s.queue (bits k.data 14 14) (bits k.data 13 0)).entryBytes).mpr (fun e he => by rw [hmem e he]; decide)
  refine Eq.trans (b := execMessageDelivery i c s) rfl ?_
  unfold execMessageDelivery
  rw [hfree]
  dsimp only
  rw [if_neg (by rw [hkind', hmodule, hdst', hcoord, hheader, hbar, hvalid, hen, hroom]; decide), if_neg (by rw [hon]; decide), hnone]
  rfl

theorem messageDelivery_gives : Gives (.messageDelivery i c) s (fun s' =>
    (s'.queue d q).prod = ((s.queue d q).prod + (messageEntries (s.queue d q).entryBytes k.body).length) % 2 ^ 32 ∧
    (s'.queue d q).cons = (s.queue d q).cons ∧ s'.rxAt i c = rest ∧
    s'.mem = ((enumFrom 0 (messageEntries (s.queue d q).entryBytes k.body)).foldl
      (fun t e => t.writeBytes ((s.queue d q).slot ((s.queue d q).prod + e.1)) e.2) s).mem) := by
  refine gives_of_exec (exec_messageDelivery s i c hfree hd hq hkind hmodule hdst hcoord hheader hbar hvalid hen hroom hon hmem)
    ⟨?_, ?_, rxAt_messageStored s i c k rest d q _, messageStored_mem s i c k rest d q _⟩
  · rw [queue_messageStored]
    rfl
  · rw [queue_messageStored]
    rfl

end

/-- Settles O42: a message with room and one without, each by its own lemma. -/
theorem messagesAreDelivered : Obligations.MessagesAreDelivered := by
  unfold Obligations.MessagesAreDelivered
  rintro i c s k rest d q x es hfree hd hq rfl rfl hkind hmodule hdst hcoord hheader hbar hvalid hen
  exact ⟨messageDelivery_gives s i c hfree hd hq hkind hmodule hdst hcoord hheader hbar hvalid hen, messageDelivery_full s i c hfree hd hq⟩

end Sys2Proof.Machine
end

section
/-! PROOFS. The registers and states of a Kwebel port (11 R260, R266 to R268, R276): what reports and elections leave of the ports, and what each
shared operation on a port makes of its registers and of the port itself. -/
namespace Sys2Proof.Machine

/-! ## Elections (14 R340, R345) -/

/-- What a function of the state must not see for elections to leave it alone. -/
structure ElectUnseen {α : Type} (f : State → α) : Prop where
  wr : ∀ s a v, a ∈ [ZN_STATUS, ZN_ROOT, ZN_ERR, ZN_ERR_EVENTS] → f (s.wr a v) = f s
  zenith : ∀ (s : State) z, f { s with zenith := z } = f s
  event : ∀ s b, f (s.postEvent none 0 0x0140 0xFFFF b) = f s

namespace ElectUnseen

section
variable {α : Type} {f : State → α} (h : ElectUnseen f)
include h

theorem status (s : State) (g : Fld) (v : Nat) : f (s.setFld ZN_STATUS g v) = f s := h.wr s _ _ (by simp)

theorem znErr (s : State) (g : Fld) : f (s.znErr g) = f s :=
  (h.wr _ ZN_ERR_EVENTS _ (by simp)).trans (h.wr s ZN_ERR _ (by simp))

theorem setZnState (s : State) (st : Nat) : f (s.setZnState st) = f s := by
  unfold State.setZnState
  extract_lets old told left z quiet
  have hleft : f left = f s := by
    unfold left
    rw [apply_ite f, h.znErr, ite_self]
    exact h.status _ _ _
  have hquiet : f quiet = f left := h.zenith _ _
  rw [apply_ite f, h.event, hquiet, hleft, ite_self]

theorem elect (s : State) : f s.elect = f s := by
  unfold State.elect
  extract_lets old wasRoot lost self rooted root named parented serial dated told z asked
  have hrooted : f rooted = f s := by
    unfold rooted self
    split
    · rw [apply_ite f, h.status, h.status, h.status, h.status, ite_self]
    · exact h.status _ _ _
  have hparented : f parented = f rooted := by
    unfold parented
    split
    · rfl
    · split <;> rw [h.status, h.status]
  have hdated : f dated = f parented := by
    unfold dated
    rw [apply_ite f, h.znErr, h.wr _ _ _ (by simp), ite_self]
  have htold : f told = f dated := by
    unfold told
    rw [apply_ite f, h.znErr, ite_self]
  have hasked : f asked = f told := by
    unfold asked
    split
    · rfl
    · exact h.zenith _ _
  have hall : f asked = f s := by rw [hasked, htold, hdated, hparented, hrooted]
  split
  · rw [apply_ite f, h.setZnState, ite_self, hall]
  · split
    · rw [h.setZnState, hall]
    · split
      · rw [h.setZnState, hall]
      · rw [h.setZnState, hall]
      · exact hall

theorem zenithPortLeft (s : State) (n : Nat) : f (s.zenithPortLeft n) = f s := by
  unfold State.zenithPortLeft
  dsimp only
  rw [apply_ite f, h.elect, ite_self, h.zenith]

end

theorem ports : ElectUnseen State.ports where
  wr s a v _ := wr_ports s a v
  zenith _ _ := rfl
  event s b := (congrArg State.ports (postEvent_still s none 0 0x0140 0xFFFF b) :)

end ElectUnseen

/-! ## Registers (R277) -/

/-- A register of a Kwebel port. -/
def isPortReg (b : Nat) : Prop := 0x20000200000 ≤ b ∧ b < 0x200002A0000

theorem portReg_notMem_eventRegs {b d : Nat} (hb : isPortReg b) (hd : d < 2) (n : Nat) : b ∉ eventRegs d n := by
  unfold isPortReg at hb
  simp only [eventRegs, holdRegs, WK_LOG, WK_ERR, WK_ERR_EVENTS, QH_ERR, QH_ERR_EVENTS, QH_EV_DROPS, HB_HELD, HB_ERR, HB_ERR_EVENTS, PD_HELD, PD_ERR,
    PD_ERR_EVENTS, List.mem_append, List.mem_cons, List.not_mem_nil, or_false]
  omega

theorem ElectUnseen.rd {b : Nat} (hb : isPortReg b) : ElectUnseen (State.rd · b) where
  wr s a v ha := by
    refine rd_wr_ne s v ?_
    unfold isPortReg at hb
    simp only [ZN_STATUS, ZN_ROOT, ZN_ERR, ZN_ERR_EVENTS, List.mem_cons, List.not_mem_nil, or_false] at ha
    omega
  zenith _ _ := rfl
  event s x := rd_postEvent_ne s none 0 0x0140 0xFFFF x (portReg_notMem_eventRegs hb (by decide))

section
variable {n : Nat} (hn : n < 10)
include hn

theorem isPortReg_status : isPortReg (KL_STATUS n) := by unfold isPortReg KL_STATUS; omega
theorem isPortReg_plan : isPortReg (KL_PLAN n) := by unfold isPortReg KL_PLAN; omega
theorem isPortReg_machine : isPortReg (KL_MACHINE n) := by unfold isPortReg KL_MACHINE; omega
theorem isPortReg_delay : isPortReg (KL_DELAY n) := by unfold isPortReg KL_DELAY; omega
theorem isPortReg_lanes : isPortReg (KL_LANES n) := by unfold isPortReg KL_LANES; omega
theorem isPortReg_err : isPortReg (KL_ERR n) := by unfold isPortReg KL_ERR; omega
theorem isPortReg_sens : isPortReg (KL_CONTRAIL_SENS n) := by unfold isPortReg KL_CONTRAIL_SENS; omega

end

/-! ## Ports -/

section
variable (s : State) (n : Nat)

@[simp] theorem port_setPort (x : PortSt) : (s.setPort n x).port n = x := sget_sset_same _ _ _ _

theorem port_congr {s u : State} (h : u.ports = s.ports) (n : Nat) : u.port n = s.port n := by rw [State.port, State.port, h]

@[simp] theorem port_wr (m a v : Nat) : (s.wr a v).port m = s.port m := (rfl)
@[simp] theorem port_setFld (m a : Nat) (f : Fld) (v : Nat) : (s.setFld a f v).port m = s.port m := (rfl)
@[simp] theorem port_addFld (m a : Nat) (f : Fld) (v : Nat) : (s.addFld a f v).port m = s.port m := by rw [State.addFld, port_setFld]
@[simp] theorem port_setCause (m c : Nat) : (s.setCause n c).port m = s.port m := by rw [State.setCause, port_setFld]
@[simp] theorem port_count (m kind inst ev k : Nat) (x : Attr) : (s.count kind inst ev k x).port m = s.port m := (rfl)
@[simp] theorem port_klErr (m : Nat) (f : Fld) : (s.klErr n f).port m = s.port m := by
  rw [State.klErr, State.sticky, port_addFld, port_setFld]
@[simp] theorem port_klEvent (m kind : Nat) (x : List Byte) : (s.klEvent n kind x).port m = s.port m :=
  port_congr (congrArg State.ports (postEvent_still s none (portDie n) kind 0xFFFF (leBytes 1 n ++ x)) :) m

@[simp] theorem rd_setPort (b : Nat) (x : PortSt) : (s.setPort n x).rd b = s.rd b := (rfl)
@[simp] theorem fld_setPort (b : Nat) (f : Fld) (x : PortSt) : (s.setPort n x).fld b f = s.fld b f := (rfl)
@[simp] theorem klState_setPort (x : PortSt) : (s.setPort n x).klState n = s.klState n := (rfl)

theorem rd_klErr_ne {b : Nat} (f : Fld) (h : b ≠ KL_ERR n) (h' : b ≠ KL_ERR_EVENTS n) : (s.klErr n f).rd b = s.rd b := rd_sticky_ne s f h h'

theorem flag_klErr {f : Fld} (h : f.ok) : (s.klErr n f).flag (KL_ERR n) f = true := by
  rw [State.flag, State.klErr, sticky_set s _ _ f h (by unfold KL_ERR KL_ERR_EVENTS; omega)]
  rfl

theorem rd_klEvent {b : Nat} (hb : isPortReg b) (kind : Nat) (x : List Byte) : (s.klEvent n kind x).rd b = s.rd b :=
  rd_postEvent_ne s _ _ _ _ _ (portReg_notMem_eventRegs hb (Nat.mod_lt _ (by decide)))

end

end Sys2Proof.Machine
end

section
/-! PROOFS. The shared operations on a Kwebel port (11 R260, R264 to R268): what the entry into a state, the loss of a link, the choice of widths
and the start of a training make of the port's registers and of the port itself. -/
namespace Sys2Proof.Machine

/-! ## Fields of KL_STATUS (R277) -/

theorem kl_state_ok : KL_STATUS_STATE.ok := ⟨by decide, by decide⟩
theorem kl_cause_ok : KL_STATUS_CAUSE.ok := ⟨by decide, by decide⟩
theorem kl_check_ok : KL_STATUS_CHECK.ok := ⟨by decide, by decide⟩
theorem kl_medium_ok : KL_STATUS_MEDIUM.ok := ⟨by decide, by decide⟩
theorem kl_failedRx_ok : KL_LANES_FAILED_RX.ok := ⟨by decide, by decide⟩
theorem kl_failedTx_ok : KL_LANES_FAILED_TX.ok := ⟨by decide, by decide⟩

section
variable (s : State) (n : Nat)

theorem cause_setCause {c : Nat} (hc : c < 16) : (s.setCause n c).fld (KL_STATUS n) KL_STATUS_CAUSE = c :=
  (fld_setFld_same s _ _ c kl_cause_ok).trans (Nat.mod_eq_of_lt hc)

theorem check_setCheck {c : Nat} (hc : c < 16) : (s.setCheck n c).fld (KL_STATUS n) KL_STATUS_CHECK = c :=
  (fld_setFld_same s _ _ c kl_check_ok).trans (Nat.mod_eq_of_lt hc)

@[simp] theorem klState_setCause (c : Nat) : (s.setCause n c).klState n = s.klState n := fld_setFld_other s _ _ _ c kl_cause_ok (by decide)

/-! ## A bit of KL_ERR, and events (R276, R277) -/

@[simp] theorem fld_status_klErr (f g : Fld) : (s.klErr n f).fld (KL_STATUS n) g = s.fld (KL_STATUS n) g :=
  fld_of_rd (rd_klErr_ne s n f (by unfold KL_STATUS KL_ERR; omega) (by unfold KL_STATUS KL_ERR_EVENTS; omega)) g
@[simp] theorem klState_klErr (f : Fld) : (s.klErr n f).klState n = s.klState n := fld_status_klErr s n f _
@[simp] theorem klErr_mem (f : Fld) : (s.klErr n f).mem = s.mem := sticky_mem s _ _ _

@[simp] theorem zt_setFld (a : Nat) (f : Fld) (v : Nat) : (s.setFld a f v).zt = s.zt := (rfl)
@[simp] theorem zt_setPort (x : PortSt) : (s.setPort n x).zt = s.zt := (rfl)

/-! ## A port enters a state (R260) -/

/-- A port as it stands after it entered a state. -/
def PortSt.entered (x : PortSt) (zt st : Nat) : PortSt := { x with since := zt, credited := x.credited || st == 5 }

/-- The state with a port's state set, before Zenith and the event queue learn of it. -/
def State.portSet (st : Nat) : State :=
  ((s.setPort n ((s.port n).entered s.zt st)).setFld (KL_STATUS n) KL_STATUS_STATE st).setFld RT_STATUS ⟨16 + n, 16 + n⟩ (b2n (st == 6))

theorem portTo_of_unseen {α : Type} {f : State → α} (h : ElectUnseen f) (hevent : ∀ u kind x, f (State.klEvent u n kind x) = f u) (st : Nat) :
    f (s.portTo n st) = f (s.portSet n st) := by
  unfold State.portTo
  extract_lets old x entered shown left
  rw [apply_ite f, hevent, ite_self]
  exact (apply_ite f _ _ _).trans (by rw [h.zenithPortLeft, ite_self]; rfl)

@[simp] theorem port_portTo (st : Nat) : (s.portTo n st).port n = (s.port n).entered s.zt st := by
  rw [port_congr (portTo_of_unseen s n .ports (fun u kind x => (congrArg State.ports (postEvent_still u none (portDie n) kind 0xFFFF (leBytes 1 n ++ x)) :)) st),
    State.portSet, port_setFld, port_setFld, port_setPort]

theorem rd_portTo {b : Nat} (hb : isPortReg b) (st : Nat) : (s.portTo n st).rd b = (s.setFld (KL_STATUS n) KL_STATUS_STATE st).rd b := by
  refine (portTo_of_unseen s n (.rd hb) (fun u kind x => rd_klEvent u n hb kind x) st).trans ?_
  have hrouter : b ≠ RT_STATUS := by unfold isPortReg at hb; unfold RT_STATUS; omega
  rw [State.portSet, rd_setFld_ne _ _ _ hrouter]
  rfl

theorem rd_portTo_ne {b : Nat} (hb : isPortReg b) (h : b ≠ KL_STATUS n) (st : Nat) : (s.portTo n st).rd b = s.rd b := by
  rw [rd_portTo s n hb, rd_setFld_ne _ _ _ h]

variable {n} (hn : n < 10)
include hn

theorem klState_portTo {st : Nat} (hst : st < 16) : (s.portTo n st).klState n = st := by
  rw [State.klState, fld_of_rd (rd_portTo s n (isPortReg_status hn) st), fld_setFld_same _ _ _ _ kl_state_ok]
  exact Nat.mod_eq_of_lt hst

/-- The other fields of KL_STATUS stay. -/
theorem fld_status_portTo {f : Fld} (hf : 3 < f.lo) (st : Nat) : (s.portTo n st).fld (KL_STATUS n) f = s.fld (KL_STATUS n) f := by
  rw [fld_of_rd (rd_portTo s n (isPortReg_status hn) st), fld_setFld_other _ _ _ _ _ kl_state_ok (.inr hf)]

end

/-! ## What a link held is dropped (R268) -/

section
variable (s : State) (n : Nat)

theorem rd_klDiscard_ne {b : Nat} (h0 : b ≠ KL_DISCARD0 n) (h1 : b ≠ KL_DISCARD1 n) (k : Packet) : (s.klDiscard n k).rd b = s.rd b := by
  unfold State.klDiscard
  dsimp only
  rw [rd_count, apply_ite (State.rd · b), rd_addFld_ne _ _ _ h0, apply_ite (State.rd · b), rd_addFld_ne _ _ _ h1, ite_self, ite_self]

theorem rd_dropLink_ne {b : Nat} (h0 : b ≠ KL_DISCARD0 n) (h1 : b ≠ KL_DISCARD1 n) : (s.dropLink n).rd b = s.rd b :=
  foldl_keeps (State.rd · b) (fun s k => rd_klDiscard_ne s n h0 h1 k) _ s

@[simp] theorem fld_status_dropLink (f : Fld) : (s.dropLink n).fld (KL_STATUS n) f = s.fld (KL_STATUS n) f :=
  fld_of_rd (rd_dropLink_ne s n (by unfold KL_STATUS KL_DISCARD0; omega) (by unfold KL_STATUS KL_DISCARD1; omega)) f

theorem replay_dropLink : ((s.dropLink n).port n).replay = [] := by
  unfold State.dropLink
  dsimp only
  rw [port_setPort]

theorem contrail_dropLink : ((s.dropLink n).port n).contrail = (s.port n).contrail := by
  unfold State.dropLink
  dsimp only
  rw [port_setPort]

/-! ## Widths (R266) -/

theorem refillPort_keeps {α : Type} (f : State → α) (h : ∀ (s : State) r, f { s with router := r } = f s) : f (s.refillPort n) = f s :=
  foldl_keeps f (fun s k => by split; exact h _ _; rfl) _ s

@[simp] theorem port_setWidths : (s.setWidths n).port n = s.port n := by
  unfold State.setWidths
  dsimp only
  simp only [port_setFld, port_congr (refillPort_keeps s n State.ports fun _ _ => rfl)]

@[simp] theorem setWidths_mem : (s.setWidths n).mem = s.mem := by
  unfold State.setWidths
  dsimp only
  simp only [setFld_mem, refillPort_keeps s n State.mem fun _ _ => rfl]

/-- The four fields that the widths set. -/
theorem rd_setWidths (b : Nat) : (s.setWidths n).rd b =
    ((((s.setFld (KL_STATUS n) KL_STATUS_WIDTH_RX (widthOf (s.failedRx n))).setFld (KL_STATUS n) KL_STATUS_WIDTH_TX (widthOf (s.failedTx n))).setFld (KL_STATUS n)
      KL_STATUS_SPARE_RX (b2n (0 < s.failedRx n && 0 < widthOf (s.failedRx n)))).setFld (KL_STATUS n) KL_STATUS_SPARE_TX
      (b2n (0 < s.failedTx n && 0 < widthOf (s.failedTx n)))).rd b := by
  have hregs : (s.refillPort n).regs = s.regs := refillPort_keeps s n State.regs fun _ _ => rfl
  have hrx : (s.refillPort n).failedRx n = s.failedRx n := by rw [State.failedRx, State.failedRx, fld_of_rd (rd_of_regs hregs _)]
  have htx : (s.refillPort n).failedTx n = s.failedTx n := by rw [State.failedTx, State.failedTx, fld_of_rd (rd_of_regs hregs _)]
  unfold State.setWidths
  dsimp only
  rw [hrx, htx]
  exact rd_of_regs (setFld_regs_congr (setFld_regs_congr (setFld_regs_congr (setFld_regs_congr hregs _ _ _) _ _ _) _ _ _) _ _ _) b

theorem rd_setWidths_ne {b : Nat} (h : b ≠ KL_STATUS n) : (s.setWidths n).rd b = s.rd b := by
  rw [rd_setWidths, rd_setFld_ne _ _ _ h, rd_setFld_ne _ _ _ h, rd_setFld_ne _ _ _ h, rd_setFld_ne _ _ _ h]

theorem widthOf_lt (f : Nat) : widthOf f < 16 := by
  unfold widthOf
  repeat' split
  all_goals decide

theorem kl_widthRx_ok : KL_STATUS_WIDTH_RX.ok := ⟨by decide, by decide⟩
theorem kl_widthTx_ok : KL_STATUS_WIDTH_TX.ok := ⟨by decide, by decide⟩
theorem kl_spareRx_ok : KL_STATUS_SPARE_RX.ok := ⟨by decide, by decide⟩
theorem kl_spareTx_ok : KL_STATUS_SPARE_TX.ok := ⟨by decide, by decide⟩

theorem widthRx_setWidths : (s.setWidths n).fld (KL_STATUS n) KL_STATUS_WIDTH_RX = widthOf (s.failedRx n) := by
  rw [fld_of_rd (rd_setWidths s n _), fld_setFld_other _ _ _ _ _ kl_spareTx_ok (by decide), fld_setFld_other _ _ _ _ _ kl_spareRx_ok (by decide),
    fld_setFld_other _ _ _ _ _ kl_widthTx_ok (by decide), fld_setFld_same _ _ _ _ kl_widthRx_ok]
  exact Nat.mod_eq_of_lt (widthOf_lt _)

theorem widthTx_setWidths : (s.setWidths n).fld (KL_STATUS n) KL_STATUS_WIDTH_TX = widthOf (s.failedTx n) := by
  rw [fld_of_rd (rd_setWidths s n _), fld_setFld_other _ _ _ _ _ kl_spareTx_ok (by decide), fld_setFld_other _ _ _ _ _ kl_spareRx_ok (by decide),
    fld_setFld_same _ _ _ _ kl_widthTx_ok]
  exact Nat.mod_eq_of_lt (widthOf_lt _)

theorem spareRx_setWidths (h : 0 < s.failedRx n) (h' : 0 < widthOf (s.failedRx n)) : (s.setWidths n).flag (KL_STATUS n) KL_STATUS_SPARE_RX = true := by
  rw [State.flag, fld_of_rd (rd_setWidths s n _), fld_setFld_other _ _ _ _ _ kl_spareTx_ok (by decide), fld_setFld_same _ _ _ _ kl_spareRx_ok, decide_eq_true h,
    decide_eq_true h']
  rfl

/-- The fields of KL_STATUS that no width touches. -/
theorem fld_status_setWidths {f : Fld} (hf : f.hi < 22 ∨ 31 < f.lo) : (s.setWidths n).fld (KL_STATUS n) f = s.fld (KL_STATUS n) f := by
  rw [fld_of_rd (rd_setWidths s n _), fld_setFld_other _ _ _ _ _ kl_spareTx_ok, fld_setFld_other _ _ _ _ _ kl_spareRx_ok,
    fld_setFld_other _ _ _ _ _ kl_widthTx_ok, fld_setFld_other _ _ _ _ _ kl_widthRx_ok]
  all_goals
    simp only [KL_STATUS_WIDTH_RX, KL_STATUS_WIDTH_TX, KL_STATUS_SPARE_RX, KL_STATUS_SPARE_TX]
    omega

end

/-! ## A training starts, fails, and comes to DISCOVER (R260, R262, R267) -/

/-- A port whose full training starts. -/
def PortSt.detecting (x : PortSt) (back : Option Nat) : PortSt :=
  { x with back := back, disabled := false, recheck := false, retrainAfter := false, degRx := false, degTx := false, spareReq := none, degReq := none }

section
variable (s : State) (n : Nat)

theorem port_startDetect (back : Option Nat) : (s.startDetect n back).port n = ((s.port n).detecting back).entered s.zt 1 := by
  unfold State.startDetect
  rw [port_portTo, port_setFld, port_setFld, port_setPort, zt_setFld, zt_setFld, zt_setPort]
  rfl

theorem rd_startDetect_ne {b : Nat} (hb : isPortReg b) (hs : b ≠ KL_STATUS n) (hl : b ≠ KL_LANES n) (back : Option Nat) : (s.startDetect n back).rd b = s.rd b := by
  unfold State.startDetect
  rw [rd_portTo_ne _ n hb hs, rd_setFld_ne _ _ _ hl, rd_setFld_ne _ _ _ hl, rd_setPort]

variable {n} (hn : n < 10)
include hn

theorem klState_startDetect (back : Option Nat) : (s.startDetect n back).klState n = 1 := klState_portTo _ hn (by decide)

theorem fld_status_startDetect {f : Fld} (hf : 3 < f.lo) (back : Option Nat) : (s.startDetect n back).fld (KL_STATUS n) f = s.fld (KL_STATUS n) f := by
  have hlanes : KL_STATUS n ≠ KL_LANES n := by unfold KL_STATUS KL_LANES; omega
  unfold State.startDetect
  rw [fld_status_portTo _ hn hf, fld_setFld_ne _ _ _ _ hlanes, fld_setFld_ne _ _ _ _ hlanes, fld_setPort]

/-- The failed-lane map is reset. -/
theorem lanes_startDetect (back : Option Nat) : (s.startDetect n back).fld (KL_LANES n) KL_LANES_FAILED_RX = 0 ∧
    (s.startDetect n back).fld (KL_LANES n) KL_LANES_FAILED_TX = 0 := by
  have hrd (f : Fld) (u : State) : (u.portTo n 1).fld (KL_LANES n) f = u.fld (KL_LANES n) f :=
    fld_of_rd (rd_portTo_ne _ n (isPortReg_lanes hn) (by unfold KL_STATUS KL_LANES; omega) _) f
  unfold State.startDetect
  rw [hrd, hrd]
  exact ⟨(fld_setFld_other _ _ _ _ _ kl_failedTx_ok (by decide)).trans (fld_setFld_same _ _ _ _ kl_failedRx_ok), fld_setFld_same _ _ _ _ kl_failedTx_ok⟩

theorem klState_portTrainFail (cause : Nat) : (s.portTrainFail n cause).klState n = 7 := klState_portTo _ hn (by decide)

theorem cause_portTrainFail {cause : Nat} (hc : cause < 16) : (s.portTrainFail n cause).fld (KL_STATUS n) KL_STATUS_CAUSE = cause :=
  (fld_status_portTo _ hn (by decide) 7).trans (cause_setCause _ n hc)

theorem trainFail_portTrainFail (cause : Nat) : (s.portTrainFail n cause).flag (KL_ERR n) KL_ERR_TRAIN_FAIL = true := by
  have herr : KL_ERR n ≠ KL_STATUS n := by unfold KL_STATUS KL_ERR; omega
  unfold State.portTrainFail
  rw [State.flag, fld_of_rd (rd_portTo_ne _ n (isPortReg_err hn) herr 7), State.setCause, fld_setFld_ne _ _ _ _ herr]
  exact flag_klErr _ n (by unfold Fld.ok; decide)

theorem klState_enterDiscover : (s.enterDiscover n).klState n = 4 := klState_portTo _ hn (by decide)

theorem fld_status_enterDiscover {f : Fld} (hf : 3 < f.lo) : (s.enterDiscover n).fld (KL_STATUS n) f = s.fld (KL_STATUS n) f := by
  unfold State.enterDiscover
  rw [fld_status_portTo _ hn hf, fld_setPort]

omit hn in
theorem port_enterDiscover : (s.enterDiscover n).port n =
    PortSt.entered { s.port n with heard := none, exchanges := 0, echoNs := 0, lastCtrl := s.zt } s.zt 4 := by
  unfold State.enterDiscover
  rw [port_portTo, port_setPort]
  rfl

end

end Sys2Proof.Machine
end

section
/-! PROOFS. The training of a Kwebel port (11 R260 to R263, R267), row by row, and the statement on it. -/
namespace Sys2Proof.Machine

section
variable (s : State) (n : Fin 10)

/-! ## DETECT, EQUALISE and LOCK (R260, R261, R266) -/

theorem exec_detect {g : BitVec 9} (hst : s.klState n = 1) (hon : s.lanesOn n = true) (hlaser : s.laserOff n = false) (hsignal : 4 ≤ popCount 9 g.toNat) :
    ∃ u : State, exec (.detect n g) s = .next ((u.setCause n 0).portTo n 2) := by
  have hdue : ((s.klState n == 1 || (s.klState n == 7 && s.fld (KL_STATUS n) KL_STATUS_CAUSE == 1)) && s.lanesOn n && !s.laserOff n &&
      decide (4 ≤ popCount 9 g.toNat)) = true := by rw [hst, hon, hlaser, decide_eq_true hsignal]; rfl
  refine ⟨if (s.record 3 n).isSome then s else s.klErr n KL_ERR_EQ_DEFAULT, (if_pos hdue).trans ?_⟩
  rw [if_pos hst]

theorem detect_gives {g : BitVec 9} (hst : s.klState n = 1) (hon : s.lanesOn n = true) (hlaser : s.laserOff n = false) (hsignal : 4 ≤ popCount 9 g.toNat) :
    Gives (.detect n g) s (fun s' => s'.klState n = 2 ∧ s'.fld (KL_STATUS n) KL_STATUS_CAUSE = 0) := by
  obtain ⟨u, hexec⟩ := exec_detect s n hst hon hlaser hsignal
  exact gives_of_exec hexec ⟨klState_portTo _ n.isLt (by decide), (fld_status_portTo _ n.isLt (by decide) 2).trans (cause_setCause u n (by decide))⟩

theorem equalise_gives (f : BitVec 9) (l : List Nat) (hst : s.klState n = 2) :
    Gives (.equalise n f l) s (fun s' => s'.klState n = 3 ∧ s'.fld (KL_LANES n) KL_LANES_FAILED_RX = f.toNat) := by
  refine gives_of_exec (if_pos (beq_iff_eq.mpr hst)) ⟨klState_portTo _ n.isLt (by decide), ?_⟩
  rw [fld_of_rd (rd_portTo_ne _ n (isPortReg_lanes n.isLt) (by unfold KL_STATUS KL_LANES; omega) 3), fld_setFld_same _ _ _ _ kl_failedRx_ok]
  exact Nat.mod_eq_of_lt f.isLt

/-- The state in which LOCK has chosen the widths. -/
def State.locked (f : BitVec 9) : State := (s.setFld (KL_LANES n) KL_LANES_FAILED_TX f.toNat).setWidths n

section
variable (f : BitVec 9)

theorem widthRx_locked : (s.locked n f).fld (KL_STATUS n) KL_STATUS_WIDTH_RX = widthOf (s.failedRx n) := by
  rw [State.locked, widthRx_setWidths, State.failedRx, fld_setFld_other _ _ _ _ _ kl_failedTx_ok (by decide)]
  rfl

theorem widthTx_locked : (s.locked n f).fld (KL_STATUS n) KL_STATUS_WIDTH_TX = widthOf (popCount 9 f.toNat) := by
  rw [State.locked, widthTx_setWidths, State.failedTx, fld_setFld_same _ _ _ _ kl_failedTx_ok]
  exact congrArg (fun k => widthOf (popCount 9 k)) (Nat.mod_eq_of_lt f.isLt)

theorem exec_lock (hst : s.klState n = 3) : exec (.lock n f) s =
    .next (if widthOf (s.failedRx n) = 0 ∨ widthOf (popCount 9 f.toNat) = 0 then (s.locked n f).portTrainFail n 3 else (s.locked n f).enterDiscover n) := by
  rw [← widthRx_locked s n f, ← widthTx_locked s n f, apply_ite Host.Outcome.next]
  exact if_pos (beq_iff_eq.mpr hst)

theorem lock_enters (hst : s.klState n = 3) (hrx : widthOf (s.failedRx n) ≠ 0) (htx : widthOf (popCount 9 f.toNat) ≠ 0) :
    Gives (.lock n f) s (fun s' => s'.klState n = 4 ∧ s'.fld (KL_STATUS n) KL_STATUS_WIDTH_RX = widthOf (s.failedRx n) ∧
      s'.fld (KL_STATUS n) KL_STATUS_WIDTH_TX = widthOf (popCount 9 f.toNat) ∧ (s'.port n).heard = none ∧ (s'.port n).exchanges = 0) := by
  have hexec := exec_lock s n f hst
  rw [if_neg (not_or.mpr ⟨hrx, htx⟩)] at hexec
  refine gives_of_exec hexec ⟨klState_enterDiscover _ n.isLt, ?_, ?_, ?_, ?_⟩
  · rw [fld_status_enterDiscover _ n.isLt (by decide), widthRx_locked]
  · rw [fld_status_enterDiscover _ n.isLt (by decide), widthTx_locked]
  · rw [port_enterDiscover, PortSt.entered]
  · rw [port_enterDiscover, PortSt.entered]

theorem lock_fails (hst : s.klState n = 3) (hfew : widthOf (s.failedRx n) = 0 ∨ widthOf (popCount 9 f.toNat) = 0) :
    Gives (.lock n f) s (fun s' => s'.klState n = 7 ∧ s'.fld (KL_STATUS n) KL_STATUS_CAUSE = 3) := by
  have hexec := exec_lock s n f hst
  rw [if_pos hfew] at hexec
  exact gives_of_exec hexec ⟨klState_portTrainFail _ n.isLt 3, cause_portTrainFail _ n.isLt (by decide)⟩

end

/-! ## DISCOVER (R262, R263, R267) -/

/-- The registers of a partner whose exchanges are measured (R262), and the event of its content. -/
def State.heardFrom (x : PortSt) (c : List Byte) : State :=
  (((s.wr (KL_PEER n) (fieldAt c 0 8)).wr (KL_PEER_SERIAL n) (fieldAt c 16 8)).setFld (KL_DELAY n) KL_DELAY_ROUND_TRIP_PS x.roundTrip).klEvent n 0x0112
    (zeros 7 ++ c)

/-- The state of a port whose exchanges are measured. -/
def State.measured (x : PortSt) (c : List Byte) : State :=
  (s.heardFrom n x c).setPort n { x with content := some c, back := none, recheck := false, lastCtrl := (s.heardFrom n x c).zt }

/-- A measured state with the check's result. -/
def State.checked (s : State) (n k : Nat) (recheck : Bool) : State :=
  let s := (s.setCheck n k).setCause n 0
  let s := if k = 1 then s else s.klErr n KL_ERR_MISMATCH
  if recheck then s else s.setPort n { s.port n with used := [] }

section
variable {flit : List Byte} {age : Nat} (hst : s.klState n = 4) {x : PortSt} (hx : x = (s.port n).exchange (s.zt - age) flit)
include hst hx

theorem exec_discover_waits (hfew : x.heard = none ∨ x.exchanges < 64) : exec (.discover n flit age) s = .next (s.setPort n x) := by
  refine Eq.trans (b := execDiscover n flit age s) rfl ?_
  unfold execDiscover
  rw [if_neg (by rw [hst]; decide), ← hx]
  dsimp only
  split
  · rfl
  next hheard => rw [if_neg (Nat.not_le.mpr (hfew.resolve_left (by rw [hheard]; exact Option.some_ne_none _)))]

section
variable {z at_ : Nat} {c : List Byte} (hheard : x.heard = some (z, at_, c)) (hdone : 64 ≤ x.exchanges)
include hheard hdone

theorem exec_discover_done : exec (.discover n flit age) s = .next ((if x.content == some c then x.back else none).elim
    (((s.measured n x c).checked n ((s.measured n x c).discoverCheck n c) x.recheck).portTo n (if (s.measured n x c).discoverCheck n c = 2 then 8 else 5))
    ((s.measured n x c).portTo n)) := by
  refine Eq.trans (b := execDiscover n flit age s) rfl ?_
  unfold execDiscover
  rw [if_neg (by rw [hst]; decide), ← hx]
  dsimp only
  split
  next hnone => exact absurd (hheard.symm.trans hnone) (Option.some_ne_none _)
  next c' hsome =>
    obtain rfl : c' = c := congrArg (fun e => e.2.2) (Option.some.inj (hsome.symm.trans hheard))
    rw [if_pos hdone]
    cases (if x.content == some c' then x.back else none) <;> rfl

/-- A repeated DISCOVER of equal content ends in the state to which it returns. -/
theorem exec_discover_returns {st : Nat} (hback : x.back = some st) (hsame : x.content = some c) :
    exec (.discover n flit age) s = .next ((s.measured n x c).portTo n st) := by
  rw [exec_discover_done s n hst hx hheard hdone, if_pos (beq_iff_eq.mpr hsame), hback]
  rfl

/-- Any other ends with the check's result. -/
theorem exec_discover_checks (hnew : x.back = none ∨ x.content ≠ some c) : exec (.discover n flit age) s =
    .next (((s.measured n x c).checked n ((s.measured n x c).discoverCheck n c) x.recheck).portTo n (if (s.measured n x c).discoverCheck n c = 2 then 8 else 5)) := by
  have hstays : (if (x.content == some c) = true then x.back else none) = none := by
    obtain hback | hcontent := hnew
    · rw [hback, ite_self]
    · rw [if_neg (fun h => hcontent (beq_iff_eq.mp h))]
  rw [exec_discover_done s n hst hx hheard hdone, hstays]
  rfl

end
end

section
variable (x : PortSt) (c : List Byte)

/-- A measured exchange is shown in three registers. -/
theorem rd_measured_ne {b : Nat} (hb : isPortReg b) (h : b ∉ [KL_PEER n, KL_PEER_SERIAL n, KL_DELAY n]) : (s.measured n x c).rd b = s.rd b := by
  simp only [List.mem_cons, List.not_mem_nil, or_false, not_or] at h
  obtain ⟨hpeer, hserial, hdelay⟩ := h
  rw [State.measured, rd_setPort, State.heardFrom, rd_klEvent _ _ hb, rd_setFld_ne _ _ _ hdelay, rd_wr_ne _ _ hserial, rd_wr_ne _ _ hpeer]

theorem check_measured : (s.measured n x c).fld (KL_STATUS n) KL_STATUS_CHECK = s.fld (KL_STATUS n) KL_STATUS_CHECK := by
  refine fld_of_rd (rd_measured_ne s n x c (isPortReg_status n.isLt) ?_) _
  simp only [KL_STATUS, KL_PEER, KL_PEER_SERIAL, KL_DELAY, List.mem_cons, List.not_mem_nil, or_false]
  omega

/-- The check reads the plan and the machine's number, which no exchange changes. -/
theorem discoverCheck_measured (c' : List Byte) : (s.measured n x c).discoverCheck n c' = s.discoverCheck n c' := by
  have hplan (f : Fld) : (s.measured n x c).fld (KL_PLAN n) f = s.fld (KL_PLAN n) f := by
    refine fld_of_rd (rd_measured_ne s n x c (isPortReg_plan n.isLt) ?_) f
    simp only [KL_PLAN, KL_PEER, KL_PEER_SERIAL, KL_DELAY, List.mem_cons, List.not_mem_nil, or_false]
    omega
  have hmachine (f : Fld) : (s.measured n x c).fld (KL_MACHINE n) f = s.fld (KL_MACHINE n) f := by
    refine fld_of_rd (rd_measured_ne s n x c (isPortReg_machine n.isLt) ?_) f
    simp only [KL_MACHINE, KL_PEER, KL_PEER_SERIAL, KL_DELAY, List.mem_cons, List.not_mem_nil, or_false]
    omega
  unfold State.discoverCheck
  simp only [hplan, hmachine]

theorem roundTrip_measured : (s.measured n x c).fld (KL_DELAY n) KL_DELAY_ROUND_TRIP_PS = x.roundTrip := by
  have hok : KL_DELAY_ROUND_TRIP_PS.ok := ⟨by decide, by decide⟩
  have hfits : x.roundTrip < 2 ^ 32 := Nat.lt_of_le_of_lt (Nat.min_le_right _ _) (by decide)
  rw [State.measured, fld_setPort, State.heardFrom, fld_of_rd (rd_klEvent _ _ (isPortReg_delay n.isLt) _ _), fld_setFld_same _ _ _ _ hok]
  exact Nat.mod_eq_of_lt hfits

end

theorem discoverCheck_lt (m : Nat) (c : List Byte) : s.discoverCheck m c < 16 := by
  unfold State.discoverCheck
  dsimp only
  repeat' split
  all_goals decide

section
variable (k : Nat) (recheck : Bool)

/-- The check's result is shown in KL_STATUS, and in KL_ERR where it is not MATCH. -/
theorem rd_checked_ne {b : Nat} (h : b ∉ [KL_STATUS n, KL_ERR n, KL_ERR_EVENTS n]) : (s.checked n k recheck).rd b = s.rd b := by
  simp only [List.mem_cons, List.not_mem_nil, or_false, not_or] at h
  obtain ⟨hstatus, herr, hevents⟩ := h
  unfold State.checked
  dsimp only
  rw [apply_ite (State.rd · b), rd_setPort, ite_self, apply_ite (State.rd · b), rd_klErr_ne _ _ _ herr hevents, ite_self, State.setCause, rd_setFld_ne _ _ _ hstatus,
    State.setCheck, rd_setFld_ne _ _ _ hstatus]

theorem check_checked (hk : k < 16) : (s.checked n k recheck).fld (KL_STATUS n) KL_STATUS_CHECK = k := by
  unfold State.checked
  dsimp only
  rw [apply_ite (State.fld · _ _), fld_setPort, ite_self, apply_ite (State.fld · _ _), fld_status_klErr, ite_self, State.setCause,
    fld_setFld_other _ _ _ _ _ kl_cause_ok (by decide), check_setCheck _ _ hk]

end

section
variable {flit : List Byte} {age : Nat} (hst : s.klState n = 4) {x : PortSt} (hx : x = (s.port n).exchange (s.zt - age) flit)
  {z at_ : Nat} {c : List Byte} (hheard : x.heard = some (z, at_, c)) (hdone : 64 ≤ x.exchanges)
include hst hx hheard hdone

theorem discover_checks (hnew : x.back = none ∨ x.content ≠ some c) :
    Gives (.discover n flit age) s (fun s' => s'.klState n = (if s.discoverCheck n c = 2 then 8 else 5) ∧
      s'.fld (KL_STATUS n) KL_STATUS_CHECK = s.discoverCheck n c ∧ s'.fld (KL_DELAY n) KL_DELAY_ROUND_TRIP_PS = x.roundTrip) := by
  have hexec := exec_discover_checks s n hst hx hheard hdone hnew
  rw [discoverCheck_measured] at hexec
  refine gives_of_exec hexec ⟨klState_portTo _ n.isLt (by split <;> decide), ?_, ?_⟩
  · rw [fld_status_portTo _ n.isLt (by decide), check_checked _ n _ _ (discoverCheck_lt s n c)]
  · rw [fld_of_rd (rd_portTo_ne _ n (isPortReg_delay n.isLt) (by unfold KL_DELAY KL_STATUS; omega) _), fld_of_rd (rd_checked_ne _ n _ _ ?_), roundTrip_measured]
    simp only [KL_DELAY, KL_STATUS, KL_ERR, KL_ERR_EVENTS, List.mem_cons, List.not_mem_nil, or_false]
    omega

theorem discover_returns (st : Fin 16) (hback : x.back = some st.val) (hsame : x.content = some c) :
    Gives (.discover n flit age) s (fun s' => s'.klState n = st ∧ s'.fld (KL_STATUS n) KL_STATUS_CHECK = s.fld (KL_STATUS n) KL_STATUS_CHECK) :=
  gives_of_exec (exec_discover_returns s n hst hx hheard hdone hback hsame)
    ⟨klState_portTo _ n.isLt st.isLt, (fld_status_portTo _ n.isLt (by decide) _).trans (check_measured s n x c)⟩

end

/-! ## Bounds (R260, R263) -/

/-- The states with a bound, and their bounds in ns (R260). -/
def trainBounds : List (Nat × Nat) := [(2, 25000000), (3, 1000000), (4, 500000)]

theorem exec_trainTimeout {e : Nat × Nat} (he : e ∈ trainBounds) (hst : s.klState n = e.1) (hlate : (s.port n).since + e.2 < s.zt) :
    exec (.trainTimeout n) s = .next (s.portTrainFail n 2) := by
  refine Eq.trans (b := execTrainTimeout n s) rfl ?_
  unfold execTrainTimeout
  simp only [trainBounds, List.mem_cons, List.not_mem_nil, or_false] at he
  obtain rfl | rfl | rfl := he
  all_goals
    rw [hst]
    simp [hlate]

theorem trainTimeout_gives {e : Nat × Nat} (he : e ∈ trainBounds) (hst : s.klState n = e.1) (hlate : (s.port n).since + e.2 < s.zt) :
    Gives (.trainTimeout n) s (fun s' => s'.klState n = 7 ∧ s'.fld (KL_STATUS n) KL_STATUS_CAUSE = 2 ∧ s'.flag (KL_ERR n) KL_ERR_TRAIN_FAIL = true) :=
  gives_of_exec (exec_trainTimeout s n he hst hlate)
    ⟨klState_portTrainFail _ n.isLt 2, cause_portTrainFail _ n.isLt (by decide), trainFail_portTrainFail _ n.isLt 2⟩

theorem noPartner_gives (hst : s.klState n = 1) (hplan : s.fld (KL_PLAN n) KL_PLAN_EXPECT ≠ 0) (hlate : (s.port n).since + 500000000 < s.zt) :
    Gives (.noPartner n) s (fun s' => s'.klState n = 7 ∧ s'.fld (KL_STATUS n) KL_STATUS_CAUSE = 1) := by
  have hdue : (s.klState n == 1 && s.fld (KL_PLAN n) KL_PLAN_EXPECT != 0 && decide ((s.port n).since + 500000000 < s.zt)) = true := by
    rw [hst, bne_iff_ne.mpr hplan, decide_eq_true hlate]
    rfl
  exact gives_of_exec (if_pos hdue) ⟨klState_portTo _ n.isLt (by decide), (fld_status_portTo _ n.isLt (by decide) 7).trans (cause_setCause _ n (by decide))⟩

theorem autoRetrain_gives (hst : s.klState n = 7) (hauto : s.flag (KL_PLAN n) KL_PLAN_AUTO_RETRAIN = true) (hon : s.lanesOn n = true) (hlaser : s.laserOff n = false)
    (hdown : (s.port n).since + 100000000 ≤ s.zt) : Gives (.autoRetrain n) s (fun s' => s'.klState n = 1 ∧ s'.fld (KL_LANES n) KL_LANES_FAILED_RX = 0 ∧
      s'.fld (KL_LANES n) KL_LANES_FAILED_TX = 0) := by
  have hdue : (s.klState n == 7 && s.flag (KL_PLAN n) KL_PLAN_AUTO_RETRAIN && s.lanesOn n && !s.laserOff n &&
      decide ((s.port n).since + 100000000 ≤ s.zt)) = true := by
    rw [hst, hauto, hon, hlaser, decide_eq_true hdown]
    rfl
  exact gives_of_exec (if_pos hdue) ⟨klState_startDetect s n.isLt none, lanes_startDetect s n.isLt none⟩

end

/-- Settles O37: each row of the training in the state in which it is due, by the lemma of its row. -/
theorem portsTrain : Obligations.PortsTrain := by
  unfold Obligations.PortsTrain
  intro n s
  refine ⟨fun g => detect_gives s n, fun f l => equalise_gives s n f l, fun f => lock_enters s n f, fun f => lock_fails s n f, ?discover,
    fun flit age hst => if_pos (bne_iff_ne.mpr hst), fun e he => trainTimeout_gives s n he, noPartner_gives s n, autoRetrain_gives s n⟩
  case discover =>
    exact fun flit age x hst hx => ⟨fun z at_ c => discover_checks s n hst hx, fun z at_ c st hheard hdone => discover_returns s n hst hx hheard hdone st,
      exec_discover_waits s n hst hx⟩

end Sys2Proof.Machine
end

section
/-! PROOFS. Software's control of a Kwebel port (11 R265, R270, R277): the bits of KL_CTRL, the plan, and the statement on them. -/
namespace Sys2Proof.Machine

section
variable (s : State) (n : Fin 10)

/-! ## ADMIT and RECHECK (R265) -/

theorem admitPort_of_matched (hst : s.klState n = 5) (hcheck : s.fld (KL_STATUS n) KL_STATUS_CHECK = 1) : s.admitPort n = s.portTo n 6 :=
  if_pos (by rw [hst, hcheck]; rfl)

theorem admitPort_of_not_matched (h : s.klState n ≠ 5 ∨ s.fld (KL_STATUS n) KL_STATUS_CHECK ≠ 1) : s.admitPort n = s.klErr n KL_ERR_ADMIT_IGNORED := by
  refine if_neg ?_
  rw [Bool.and_eq_true, beq_iff_eq, beq_iff_eq]
  exact fun hboth => h.elim (· hboth.1) (· hboth.2)

theorem recheck_of_quarantined (hst : s.klState n = 5) :
    s.recheck n = (s.setPort n { s.port n with recheck := true, back := none }).enterDiscover n := if_pos (beq_iff_eq.mpr hst)

/-! ## RETRAIN (R270) -/

/-- The state to which a port that retrains returns (R267, R270). -/
def State.retrainBack : Option Nat :=
  if s.klState n = 5 ∨ s.klState n = 6 then some (s.klState n) else if s.klState n = 9 ∨ (1 ≤ s.klState n ∧ s.klState n ≤ 4) then (s.port n).back else none

theorem retrain_of_ready (hon : s.lanesOn n = true) (hlaser : s.laserOff n = false) (hfree : (s.port n).handling = false) :
    s.retrain n = (s.startDetect n (s.retrainBack n)).setCause n 0 := by
  unfold State.retrain
  dsimp only
  rw [hon, hlaser, hfree, Bool.and_false, if_neg (by decide), if_neg (by decide)]
  rfl

/-! ## KL_PLAN (R277) -/

/-- A port that begins does so by a full training. -/
theorem beginPort_cases (m : Nat) : s.beginPort m = s ∨ s.beginPort m = s.startDetect m none := (ite_eq_or_eq _ _ _).symm

theorem fld_plan_beginPort (f : Fld) : (s.beginPort n).fld (KL_PLAN n) f = s.fld (KL_PLAN n) f := by
  obtain heq | heq := beginPort_cases s n
  · rw [heq]
  · rw [heq]
    exact fld_of_rd (rd_startDetect_ne s n (isPortReg_plan n.isLt) (by unfold KL_PLAN KL_STATUS; omega) (by unfold KL_PLAN KL_LANES; omega) none) f

theorem kl_autoRetrain_ok : KL_PLAN_AUTO_RETRAIN.ok := ⟨by decide, by decide⟩
theorem kl_peerPort_ok : KL_PLAN_PEER_PORT.ok := ⟨by decide, by decide⟩
theorem kl_partMask_ok : KL_PLAN_PART_MASK.ok := ⟨by decide, by decide⟩
theorem kl_peerCoord_ok : KL_PLAN_PEER_COORD.ok := ⟨by decide, by decide⟩
theorem kl_expect_ok : KL_PLAN_EXPECT.ok := ⟨by decide, by decide⟩

/-- Each field of KL_PLAN holds what was written. -/
theorem plan_writePlan (v : Nat) : (s.writePlan n v).fld (KL_PLAN n) KL_PLAN_EXPECT = bits v 1 0 ∧ (s.writePlan n v).fld (KL_PLAN n) KL_PLAN_PEER_COORD = bits v 31 12 ∧
    (s.writePlan n v).fld (KL_PLAN n) KL_PLAN_PART_MASK = bits v 39 32 ∧ (s.writePlan n v).fld (KL_PLAN n) KL_PLAN_PEER_PORT = bits v 43 40 ∧
    (s.writePlan n v).fld (KL_PLAN n) KL_PLAN_AUTO_RETRAIN = bits v 47 47 := by
  have hwritten {f : Fld} (u : State) (hok : f.ok) : (u.setFld (KL_PLAN n) f (bits v f.hi f.lo)).fld (KL_PLAN n) f = bits v f.hi f.lo :=
    (fld_setFld_same _ _ _ _ hok).trans (Nat.mod_eq_of_lt (bits_lt _ _ _))
  have hexpect (u : State) {f : Fld} (hf : 1 < f.lo) : (u.setFld (KL_PLAN n) KL_PLAN_EXPECT (bits v 1 0)).fld (KL_PLAN n) f = u.fld (KL_PLAN n) f :=
    fld_setFld_other _ _ _ _ _ kl_expect_ok (.inr hf)
  unfold State.writePlan
  dsimp only
  simp only [fld_plan_beginPort]
  refine ⟨hwritten _ kl_expect_ok, ?_, ?_, ?_, ?_⟩
  all_goals rw [hexpect _ (by decide)]
  · exact hwritten _ kl_peerCoord_ok
  · rw [fld_setFld_other _ _ _ _ _ kl_peerCoord_ok (by decide)]
    exact hwritten _ kl_partMask_ok
  · rw [fld_setFld_other _ _ _ _ _ kl_peerCoord_ok (by decide), fld_setFld_other _ _ _ _ _ kl_partMask_ok (by decide)]
    exact hwritten _ kl_peerPort_ok
  · rw [fld_setFld_other _ _ _ _ _ kl_peerCoord_ok (by decide), fld_setFld_other _ _ _ _ _ kl_partMask_ok (by decide),
      fld_setFld_other _ _ _ _ _ kl_peerPort_ok (by decide)]
    exact hwritten _ kl_autoRetrain_ok

/-! ## The rows -/

section
variable {ctx : Ctx} (hctx : klWriter ctx = true)
include hctx

theorem exec_admitPort : exec (.admitPort ctx n) s = .next (s.admitPort n) := congrArg Host.Outcome.next (if_pos hctx)
theorem exec_recheck : exec (.recheck ctx n) s = .next (s.recheck n) := congrArg Host.Outcome.next (if_pos hctx)
theorem exec_retrain : exec (.retrain ctx n) s = .next (s.retrain n) := congrArg Host.Outcome.next (if_pos hctx)
theorem exec_disable : exec (.disable ctx n) s = .next (s.disable n) := congrArg Host.Outcome.next (if_pos hctx)
theorem exec_klPlan (v : Word) : exec (.klPlan ctx n v) s = .next (s.writePlan n v.toNat) := congrArg Host.Outcome.next (if_pos hctx)

theorem admitPort_gives (hst : s.klState n = 5) (hcheck : s.fld (KL_STATUS n) KL_STATUS_CHECK = 1) :
    Gives (.admitPort ctx n) s (fun s' => s'.klState n = 6) := by
  refine gives_of_exec (exec_admitPort s n hctx) ?_
  rw [admitPort_of_matched s n hst hcheck]
  exact klState_portTo s n.isLt (by decide)

theorem admitPort_ignored (h : s.klState n ≠ 5 ∨ s.fld (KL_STATUS n) KL_STATUS_CHECK ≠ 1) : Gives (.admitPort ctx n) s (fun s' =>
    s'.klState n = s.klState n ∧ s'.flag (KL_ERR n) KL_ERR_ADMIT_IGNORED = true ∧ s'.mem = s.mem) := by
  refine gives_of_exec (exec_admitPort s n hctx) ?_
  rw [admitPort_of_not_matched s n h]
  exact ⟨klState_klErr s n _, flag_klErr s n (by unfold Fld.ok; decide), klErr_mem s n _⟩

theorem recheck_gives (hst : s.klState n = 5) : Gives (.recheck ctx n) s (fun s' => s'.klState n = 4 ∧ (s'.port n).recheck = true) := by
  refine gives_of_exec (exec_recheck s n hctx) ?_
  rw [recheck_of_quarantined s n hst, port_enterDiscover, port_setPort]
  exact ⟨klState_enterDiscover _ n.isLt, rfl⟩

theorem retrain_gives (hon : s.lanesOn n = true) (hlaser : s.laserOff n = false) (hfree : (s.port n).handling = false) :
    Gives (.retrain ctx n) s (fun s' => s'.klState n = 1 ∧ s'.fld (KL_STATUS n) KL_STATUS_CAUSE = 0 ∧ s'.fld (KL_LANES n) KL_LANES_FAILED_RX = 0 ∧
      s'.fld (KL_LANES n) KL_LANES_FAILED_TX = 0) := by
  have hlanes (f : Fld) (u : State) : (u.setCause n 0).fld (KL_LANES n) f = u.fld (KL_LANES n) f := fld_setFld_ne _ _ _ _ (by unfold KL_LANES KL_STATUS; omega)
  refine gives_of_exec (exec_retrain s n hctx) ?_
  rw [retrain_of_ready s n hon hlaser hfree, klState_setCause, hlanes, hlanes]
  exact ⟨klState_startDetect s n.isLt _, cause_setCause _ n (by decide), lanes_startDetect s n.isLt _⟩

theorem disable_gives : Gives (.disable ctx n) s (fun s' => s'.klState n = 0 ∧ s'.fld (KL_STATUS n) KL_STATUS_CAUSE = 6 ∧ (s'.port n).replay = []) := by
  refine gives_of_exec (exec_disable s n hctx) ?_
  unfold State.disable State.disablePort
  rw [port_portTo, port_setCause, PortSt.entered]
  exact ⟨klState_portTo _ n.isLt (by decide), (fld_status_portTo _ n.isLt (by decide) 0).trans (cause_setCause _ n (by decide)), replay_dropLink _ n⟩

end

end

/-- Settles O38: each control by the lemma of its row, and the access errors of every other writer. -/
theorem portsObeyTheirControls : Obligations.PortsObeyTheirControls := by
  unfold Obligations.PortsObeyTheirControls
  refine fun ctx n s => ⟨fun hctx => ⟨admitPort_gives s n hctx, admitPort_ignored s n hctx, recheck_gives s n hctx, retrain_gives s n hctx, disable_gives s n hctx,
    fun v => gives_of_exec (exec_klPlan s n hctx v) (plan_writePlan s n v.toNat)⟩, fun hctx => ?refused⟩
  case refused =>
    have hrefused (t : State) (a : Nat) : Host.Outcome.next (if klWriter ctx then t else s.accessError ctx a) = (.next (s.accessError ctx a) : Res) :=
      congrArg Host.Outcome.next (if_neg (by rw [hctx]; decide))
    exact ⟨hrefused _ _, hrefused _ _, hrefused _ _, hrefused _ _, fun v => hrefused _ _⟩

end Sys2Proof.Machine
end

section
/-! PROOFS. A live link (11 R254 to R257, R266, R267, R269): codewords and their slots, CONTROL flits, failed lanes, SLEEP and WAKE. -/
namespace Sys2Proof.Machine

@[simp] theorem setPort_mem (s : State) (n : Nat) (x : PortSt) : (s.setPort n x).mem = s.mem := (rfl)
@[simp] theorem setRx_mem (s : State) (i c : Nat) (l : List Packet) : (s.setRx i c l).mem = s.mem := (rfl)
@[simp] theorem port_setRx (s : State) (i c m : Nat) (l : List Packet) : (s.setRx i c l).port m = s.port m := (rfl)
@[simp] theorem fld_count (s : State) (kind inst ev k b : Nat) (f : Fld) (x : Attr) : (s.count kind inst ev k x).fld b f = s.fld b f := (rfl)

/-! ## Codewords (R254, R255, R257) -/

/-- The errored symbols of a codeword's lanes noted. -/
def State.errorsNoted (s : State) (n : Nat) (errors : List Nat) : State :=
  (enumFrom 0 errors).foldl (fun s e => if e.2 = 0 then s else s.laneErrors n e.1 e.2) s

section
variable (s : State) (n : Nat)

theorem laneErrors_keeps {α : Type} (f : State → α) (lane k : Nat) (hset : ∀ (s : State) g v, f (s.setFld (KL_LANE_ERR n lane) g v) = f s)
    (hport : ∀ (s : State) w, f (s.setPort n { s.port n with window := w }) = f s) : f (s.laneErrors n lane k) = f s := by
  unfold State.laneErrors
  dsimp only
  rw [apply_ite f, hset, ite_self]
  exact (hset _ _ _).trans (hport s _)

theorem errorsNoted_keeps {α : Type} (f : State → α) (hset : ∀ (s : State) lane g v, f (s.setFld (KL_LANE_ERR n lane) g v) = f s)
    (hport : ∀ (s : State) w, f (s.setPort n { s.port n with window := w }) = f s) (errors : List Nat) : f (s.errorsNoted n errors) = f s :=
  foldl_keeps f (fun s e => by rw [apply_ite f, laneErrors_keeps s n f _ _ (fun s => hset s _) hport, ite_self]) _ s

variable (errors : List Nat)

@[simp] theorem errorsNoted_mem : (s.errorsNoted n errors).mem = s.mem :=
  errorsNoted_keeps s n State.mem (fun s _ g v => setFld_mem s _ g v) (fun _ _ => rfl) errors

theorem rd_errorsNoted_ne {b : Nat} (h : ∀ lane, b ≠ KL_LANE_ERR n lane) : (s.errorsNoted n errors).rd b = s.rd b :=
  errorsNoted_keeps s n (State.rd · b) (fun s lane g v => rd_setFld_ne s g v (h lane)) (fun _ _ => rfl) errors

/-- Of the port the window counts alone change. -/
theorem port_errorsNoted {α : Type} (g : PortSt → α) (hg : ∀ x w, g { x with window := w } = g x) : g ((s.errorsNoted n errors).port n) = g (s.port n) :=
  errorsNoted_keeps s n (fun s => g (s.port n)) (fun s _ f v => by rw [port_setFld]) (fun s w => by rw [port_setPort, hg]) errors

theorem fld_fec_errorsNoted (f : Fld) : (s.errorsNoted n errors).fld (KL_FEC n) f = s.fld (KL_FEC n) f :=
  fld_of_rd (rd_errorsNoted_ne s n errors fun lane => by unfold KL_FEC KL_LANE_ERR; omega) f

theorem klState_errorsNoted : (s.errorsNoted n errors).klState n = s.klState n :=
  fld_of_rd (rd_errorsNoted_ne s n errors fun lane => by unfold KL_STATUS KL_LANE_ERR; omega) _

theorem carries_congr {u v : State} (hst : u.klState n = v.klState n) (hback : (u.port n).back = (v.port n).back) : u.carries n = v.carries n := by
  rw [State.carries, State.carries, hst, hback]

/-- The state after an uncorrectable codeword. -/
def State.codewordLost : State :=
  ((((s.setPort n { s.port n with uncorr := (s.port n).uncorr + 1 }).addFld (KL_FEC n) KL_FEC_UNCORRECTABLE 1).count 1 n 0x09 1 {}).lostFlits n)

theorem exec_codeword_uncorrectable (m : Fin 10) (hst : 3 ≤ s.klState m ∧ s.klState m ≤ 6) (slots : List Slot) :
    exec (.codeword m .uncorrectable errors slots) s = .next ((s.errorsNoted m errors).codewordLost m) := if_pos (.inl hst)

theorem codewordLost_spec : ((s.codewordLost n).port n).skipping = true ∧ ((s.codewordLost n).port n).nakDue = true ∧
    (s.codewordLost n).fld (KL_FEC n) KL_FEC_UNCORRECTABLE = (s.fld (KL_FEC n) KL_FEC_UNCORRECTABLE + 1) % 2 ^ 32 ∧ (s.codewordLost n).mem = s.mem := by
  unfold State.codewordLost State.lostFlits
  refine ⟨?_, ?_, ?_, ?_⟩
  · rw [port_setPort]
  · rw [port_setPort]
  · rw [fld_setPort, fld_count, fld_addFld_same _ _ _ _ ⟨by decide, by decide⟩, fld_setPort]
    rfl
  · rw [setPort_mem, count_mem, addFld_mem, setPort_mem]

/-- A codeword decoded without correction. -/
def State.codewordClean : State := s.setPort n { s.port n with uncorr := 0 }

theorem exec_codeword_clean (m : Fin 10) (hst : 3 ≤ s.klState m ∧ s.klState m ≤ 6) (slots : List Slot) :
    exec (.codeword m .clean errors slots) s = .next (slots.foldl (fun s x => s.slotIn m x) ((s.errorsNoted m errors).codewordClean m)) := if_pos (.inl hst)

/-- The state with a DATA flit taken, the packet's bytes so far `b`. -/
def State.flitTaken (c : Nat) (b : List Byte) : State :=
  (s.setPort n { s.port n with rxSeq := ((s.port n).rxSeq + 1) % 65536, skipping := false, rxPart := some (c, b) }).count 1 n 0x01 1 (packetOf b).attr

/-- The state with a whole packet put into the receive buffer. -/
def State.packetWhole (c : Nat) (k : Packet) : State :=
  let s := (s.setPort n { s.port n with rxPart := none }).count 1 n 0x03 1 k.attr
  s.setRx n c (s.rxAt n c ++ [k])

theorem flitIn_cases (c : Nat) (f : List Byte) : ∃ c' b, s.flitIn n c f = s.flitTaken n c' b ∨ s.flitIn n c f = (s.flitTaken n c' b).packetWhole n c' (packetOf b) := by
  cases hpart : (s.port n).rxPart with
  | some r =>
    refine ⟨r.1, r.2 ++ padTo 64 f, ?_⟩
    rw [State.flitIn, hpart]
    exact ite_eq_or_eq _ _ _
  | none =>
    refine ⟨c, padTo 64 f, ?_⟩
    rw [State.flitIn, hpart]
    exact ite_eq_or_eq _ _ _

theorem flitTaken_spec (c : Nat) (b : List Byte) : ((s.flitTaken n c b).port n).rxSeq = ((s.port n).rxSeq + 1) % 65536 ∧
    ((s.flitTaken n c b).port n).uncorr = (s.port n).uncorr ∧ (s.flitTaken n c b).mem = s.mem := by
  unfold State.flitTaken
  refine ⟨?_, ?_, ?_⟩
  · rw [port_count, port_setPort]
  · rw [port_count, port_setPort]
  · rw [count_mem, setPort_mem]

theorem packetWhole_spec (c : Nat) (k : Packet) : ((s.packetWhole n c k).port n).rxSeq = (s.port n).rxSeq ∧
    ((s.packetWhole n c k).port n).uncorr = (s.port n).uncorr ∧ (s.packetWhole n c k).mem = s.mem := by
  unfold State.packetWhole
  refine ⟨?_, ?_, ?_⟩
  · rw [port_setRx, port_count, port_setPort]
  · rw [port_setRx, port_count, port_setPort]
  · rw [setRx_mem, count_mem, setPort_mem]

/-- A DATA flit of the expected sequence advances it. -/
theorem flitIn_spec (c : Nat) (f : List Byte) : ((s.flitIn n c f).port n).rxSeq = ((s.port n).rxSeq + 1) % 65536 ∧
    ((s.flitIn n c f).port n).uncorr = (s.port n).uncorr ∧ (s.flitIn n c f).mem = s.mem := by
  obtain ⟨c', b, h | h⟩ := flitIn_cases s n c f <;> rw [h]
  · exact flitTaken_spec s n c' b
  · obtain ⟨hseq, huncorr, hmem⟩ := packetWhole_spec (s.flitTaken n c' b) n c' (packetOf b)
    rw [hseq, huncorr, hmem]
    exact flitTaken_spec s n c' b

theorem slotIn_data_expected {q : BitVec 16} {ch : Fin 10} {f : List Byte} (hcarries : s.carries n = true) (hq : q.toNat = (s.port n).rxSeq) :
    s.slotIn n (.data q ch f) = s.flitIn n ch f := if_pos (by rw [hcarries, hq, beq_self_eq_true]; rfl)

theorem slotIn_data_other {q : BitVec 16} {ch : Fin 10} {f : List Byte} (hq : q.toNat ≠ (s.port n).rxSeq) : s.slotIn n (.data q ch f) = s :=
  if_neg (by rw [beq_eq_false_iff_ne.mpr hq, Bool.and_false]; decide)

end

section
variable (s : State) (n : Fin 10) (hst : 3 ≤ s.klState n ∧ s.klState n ≤ 6)
include hst

theorem codeword_uncorrectable (er : List Nat) (l : List Slot) : Gives (.codeword n .uncorrectable er l) s (fun s' => (s'.port n).skipping = true ∧
    (s'.port n).nakDue = true ∧ s'.fld (KL_FEC n) KL_FEC_UNCORRECTABLE = (s.fld (KL_FEC n) KL_FEC_UNCORRECTABLE + 1) % 2 ^ 32 ∧ s'.mem = s.mem) := by
  obtain ⟨hskip, hnak, hcount, hmem⟩ := codewordLost_spec (s.errorsNoted n er) n
  rw [fld_fec_errorsNoted] at hcount
  rw [errorsNoted_mem] at hmem
  exact gives_of_exec (exec_codeword_uncorrectable s er n hst l) ⟨hskip, hnak, hcount, hmem⟩

theorem codeword_data_expected (er : List Nat) (q : BitVec 16) (ch : Fin 10) (f : List Byte) (hcarries : s.carries n = true) (hq : q.toNat = (s.port n).rxSeq) :
    Gives (.codeword n .clean er [.data q ch f]) s (fun s' => (s'.port n).rxSeq = (q.toNat + 1) % 65536 ∧ (s'.port n).uncorr = 0 ∧ s'.mem = s.mem) := by
  have hseq : (((s.errorsNoted n er).codewordClean n).port n).rxSeq = (s.port n).rxSeq := by
    rw [State.codewordClean, port_setPort]
    exact port_errorsNoted s n er PortSt.rxSeq fun _ _ => rfl
  have hback : (((s.errorsNoted n er).codewordClean n).port n).back = (s.port n).back := by
    rw [State.codewordClean, port_setPort]
    exact port_errorsNoted s n er PortSt.back fun _ _ => rfl
  have hcarries' : ((s.errorsNoted n er).codewordClean n).carries n = true :=
    (carries_congr n ((klState_setPort _ _ _).trans (klState_errorsNoted s n er)) hback).trans hcarries
  obtain ⟨hrx, huncorr, hmem⟩ := flitIn_spec ((s.errorsNoted n er).codewordClean n) n ch f
  refine gives_of_exec (exec_codeword_clean s er n hst _) ?_
  rw [List.foldl_cons, List.foldl_nil, slotIn_data_expected _ n hcarries' (hq.trans hseq.symm), hrx, huncorr, hmem, hseq, hq]
  refine ⟨rfl, ?_, errorsNoted_mem s n er⟩
  rw [State.codewordClean, port_setPort]

theorem codeword_data_other (q : BitVec 16) (ch : Fin 10) (f : List Byte) (hq : q.toNat ≠ (s.port n).rxSeq) :
    Gives (.codeword n .clean [] [.data q ch f]) s (fun s' => s'.port n = { s.port n with uncorr := 0 } ∧ s'.router = s.router ∧ s'.mem = s.mem ∧ s'.regs = s.regs) := by
  refine gives_of_exec (exec_codeword_clean s [] n hst _) ?_
  rw [List.foldl_cons, List.foldl_nil, slotIn_data_other _ n (by rw [State.codewordClean, port_setPort]; exact hq)]
  exact ⟨port_setPort _ _ _, rfl, rfl, rfl⟩

end

/-! ## CONTROL flits (R256, R257, R262, R269) -/

section
variable (s : State) (n : Nat)

theorem stampControl_keeps {α : Type} (f : State → α) (h : ∀ (s : State) z, f { s with zenith := z } = f s) (arrival tx : Nat) :
    f (s.stampControl n arrival tx) = f s := by
  unfold State.stampControl
  rw [apply_ite f]
  exact (ite_congr rfl (fun _ => rfl) fun _ => h s _).trans (ite_self _)

end

/-- What a port does with a LINK flit's NAK flag (R257). -/
def PortSt.nakIn (x : PortSt) (b : List Byte) : PortSt :=
  if bit (fieldAt b 1 1) 0 then { x with replayFrom := some (fieldAt b 2 2) } else x

/-- What a port does with a LINK flit's flag of a degraded direction (R267). -/
def PortSt.degradeIn (x : PortSt) (b : List Byte) : PortSt :=
  if bit (fieldAt b 1 1) 2 then { x with degTx := true } else x

/-- The count of LINK flits that end a SLEEP exchange (R269). -/
def PortSt.sleepIn (x : PortSt) (b : List Byte) : PortSt :=
  if fieldAt b 0 1 = 2 then { x with sleepRcvd := true, linkRun := 0 }
  else if 1 ≤ x.linkRun then { x with sleepRcvd := false, linkRun := 0 } else { x with linkRun := x.linkRun + 1 }

/-- A port that has taken a LINK or SLEEP flit (R256, R257, R269). -/
def PortSt.linkIn (x : PortSt) (b : List Byte) : PortSt :=
  ((((x.ack (fieldAt b 2 2)).creditsIn b).nakIn b).degradeIn b).sleepIn b

/-- What of a port none of a LINK flit's fields but ACK touches. -/
theorem linkIn_keeps {α : Type} (g : PortSt → α) (b : List Byte) (hcredits : ∀ x, g (x.creditsIn b) = g x) (hreplay : ∀ x r, g { x with replayFrom := r } = g x)
    (hdeg : ∀ x d, g { x with degTx := d } = g x) (hsleep : ∀ x r k, g { x with sleepRcvd := r, linkRun := k } = g x) (hrun : ∀ x k, g { x with linkRun := k } = g x)
    (x : PortSt) : g (x.linkIn b) = g (x.ack (fieldAt b 2 2)) := by
  have hnak (y : PortSt) : g (y.nakIn b) = g y := by rw [PortSt.nakIn, apply_ite g, hreplay, ite_self]
  have hdegrade (y : PortSt) : g (y.degradeIn b) = g y := by rw [PortSt.degradeIn, apply_ite g, hdeg, ite_self]
  have hsleepIn (y : PortSt) : g (y.sleepIn b) = g y := by
    unfold PortSt.sleepIn
    split_ifs
    exacts [hsleep y _ _, hsleep y _ _, hrun y _]
  rw [PortSt.linkIn, hsleepIn, hdegrade, hnak, hcredits]

theorem ctrlIn_linkIn (x : PortSt) (b : List Byte) : (x.linkIn b).ctrlIn = x.ctrlIn := by
  rw [linkIn_keeps PortSt.ctrlIn b (fun _ => rfl) (fun _ _ => rfl) (fun _ _ => rfl) (fun _ _ _ => rfl) (fun _ _ => rfl), PortSt.ack, apply_ite PortSt.ctrlIn, ite_self]

theorem ackSeq_linkIn {x : PortSt} {b : List Byte} (h : (fieldAt b 2 2 + 65536 - x.ackSeq) % 65536 ≤ (x.txSeq + 65536 - x.ackSeq) % 65536) :
    (x.linkIn b).ackSeq = fieldAt b 2 2 := by
  rw [linkIn_keeps PortSt.ackSeq b (fun _ => rfl) (fun _ _ => rfl) (fun _ _ => rfl) (fun _ _ _ => rfl) (fun _ _ => rfl), PortSt.ack, if_pos h]

/-- The state with a LINK or SLEEP flit taken, before the partner's spare request. -/
def State.linkTaken (s : State) (n at_ : Nat) (b : List Byte) (rest : List (Nat × List Byte)) : State :=
  (s.setPort n (({ s.port n with ctrlIn := rest } : PortSt).linkIn b)).stampControl n at_ (fieldAt b 0x1C 8)

/-- A partner's spare request met (R266). -/
def State.spareTaken (s : State) (n : Nat) (b : List Byte) : State :=
  if bit (fieldAt b 1 1) 1 && decide (fieldAt b 4 2 < 9) then
    (s.setFld (KL_LANES n) KL_LANES_FAILED_TX (putBits (s.fld (KL_LANES n) KL_LANES_FAILED_TX) (fieldAt b 4 2) (fieldAt b 4 2) 1)).setWidths n
  else s

theorem spareTaken_mem (s : State) (n : Nat) (b : List Byte) : (s.spareTaken n b).mem = s.mem := by
  rw [State.spareTaken, apply_ite State.mem, setWidths_mem, setFld_mem, ite_self]

theorem port_spareTaken (s : State) (n : Nat) (b : List Byte) : (s.spareTaken n b).port n = s.port n := by
  rw [State.spareTaken, apply_ite (State.port · n), port_setWidths, port_setFld, ite_self]

section
variable (s : State) (n at_ : Nat) (b : List Byte) (rest : List (Nat × List Byte))

theorem port_linkTaken : (s.linkTaken n at_ b rest).port n = ({ s.port n with ctrlIn := rest } : PortSt).linkIn b := by
  rw [State.linkTaken, stampControl_keeps _ n (State.port · n) fun _ _ => rfl, port_setPort]

theorem linkTaken_mem : (s.linkTaken n at_ b rest).mem = s.mem := by
  rw [State.linkTaken, stampControl_keeps _ n State.mem fun _ _ => rfl, setPort_mem]

end

section
variable (s : State) (n : Fin 10) {at_ : Nat} {b : List Byte} {rest : List (Nat × List Byte)} (hin : (s.port n).ctrlIn = (at_, b) :: rest)
include hin

theorem exec_controlFlit_link (hkind : fieldAt b 0 1 = 0 ∨ fieldAt b 0 1 = 2) :
    exec (.controlFlit n) s = .next ((s.linkTaken n at_ b rest).spareTaken n b) := by
  have hexec : exec (.controlFlit n) s = execControlFlit n s := rfl
  rw [hexec]
  unfold execControlFlit
  extract_lets x
  have hx : x.ctrlIn = (at_, b) :: rest := hin
  rw [hx]
  refine (if_neg (by omega)).trans ((if_neg (by omega)).trans ((if_neg (by omega)).trans ?_))
  exact (apply_ite Host.Outcome.next _ _ _).symm

theorem exec_controlFlit_discover (hkind : fieldAt b 0 1 = 1) (hst : s.klState n = 4) :
    exec (.controlFlit n) s = .next ((s.setPort n (({ s.port n with ctrlIn := rest } : PortSt).discoverIn at_ b)).stampControl n at_ (fieldAt b 0x18 8)) := by
  have hexec : exec (.controlFlit n) s = execControlFlit n s := rfl
  rw [hexec]
  unfold execControlFlit
  extract_lets x
  have hx : x.ctrlIn = (at_, b) :: rest := hin
  rw [hx]
  exact (if_neg (by omega)).trans (if_pos ⟨hkind, hst⟩)

theorem controlFlit_link (hkind : fieldAt b 0 1 = 0 ∨ fieldAt b 0 1 = 2) :
    Gives (.controlFlit n) s (fun s' => (s'.port n).ctrlIn = rest ∧ s'.mem = s.mem ∧
      ((fieldAt b 2 2 + 65536 - (s.port n).ackSeq) % 65536 ≤ ((s.port n).txSeq + 65536 - (s.port n).ackSeq) % 65536 → (s'.port n).ackSeq = fieldAt b 2 2)) := by
  refine gives_of_exec (exec_controlFlit_link s n hin hkind) ?_
  rw [port_spareTaken, spareTaken_mem, port_linkTaken, linkTaken_mem, ctrlIn_linkIn]
  exact ⟨rfl, rfl, fun h => ackSeq_linkIn h⟩

theorem controlFlit_discover (hkind : fieldAt b 0 1 = 1) (hst : s.klState n = 4) : Gives (.controlFlit n) s (fun s' =>
    s'.port n = ({ s.port n with ctrlIn := rest } : PortSt).discoverIn at_ b ∧ s'.mem = s.mem ∧ s'.regs = s.regs) := by
  refine gives_of_exec (exec_controlFlit_discover s n hin hkind hst) ⟨?_, ?_, ?_⟩
  · rw [stampControl_keeps _ n (State.port · n) fun _ _ => rfl, port_setPort]
  · rw [stampControl_keeps _ n State.mem fun _ _ => rfl, setPort_mem]
  · exact stampControl_keeps _ n State.regs (fun _ _ => rfl) _ _

end

end Sys2Proof.Machine
end

section
/-! PROOFS. What a lost link leaves of KL_STATUS (11 R268): the discards, the storage requests' records and the collective engines' reactions write other registers. -/
namespace Sys2Proof.Machine

/-- The KL_STATUS registers of the ten ports read as given. -/
structure State.PortsShow (s : State) (v : Nat → Nat) : Prop where
  rd : ∀ n < 10, s.rd (KL_STATUS n) = v n

/-- Not a KL_STATUS register: each is the first of its block of 64 KiB. -/
def OffStatus (a : Nat) : Prop := a % 0x10000 ≠ 0 ∨ a < 0x20000200000 ∨ 0x200002A0000 ≤ a

namespace State.PortsShow

variable {s t u : State} {v : Nat → Nat}

theorem klState (h : s.PortsShow v) {n : Nat} (hn : n < 10) (h' : t.PortsShow v) : s.klState n = t.klState n :=
  fld_of_rd ((h.rd n hn).trans (h'.rd n hn).symm) _

/-! ## Shapes of operations -/

theorem of_regs (h : s.PortsShow v) (hregs : t.regs = s.regs) : t.PortsShow v := ⟨fun n hn => (rd_of_regs hregs _).trans (h.rd n hn)⟩

theorem ite {c : Prop} [Decidable c] (hs : s.PortsShow v) (ht : t.PortsShow v) : (if c then s else t).PortsShow v := by
  split
  · exact hs
  · exact ht

theorem both {c : Prop} [Decidable c] (h : u.PortsShow v) (hs : u.PortsShow v → s.PortsShow v) (ht : u.PortsShow v → t.PortsShow v) :
    (if c then s else t).PortsShow v := ite (hs h) (ht h)

/-- An operation that a condition prevents. -/
theorem orElse {c : Prop} [Decidable c] (h : s.PortsShow v) (ht : s.PortsShow v → t.PortsShow v) : (if c then s else t).PortsShow v := ite h (ht h)

theorem foldl {α : Type} {l : List α} {f : State → α → State} (h : s.PortsShow v) (hf : ∀ {t x}, t.PortsShow v → (f t x).PortsShow v) :
    (l.foldl f s).PortsShow v := by
  induction l generalizing s with
  | nil => exact h
  | cons x l ih => exact ih (hf h)

theorem foldlFst {α β : Type} {l : List α} {r : State × β} {f : State × β → α → State × β} (h : r.1.PortsShow v)
    (hf : ∀ {r x}, r.1.PortsShow v → (f r x).1.PortsShow v) : (l.foldl f r).1.PortsShow v := by
  induction l generalizing r with
  | nil => exact h
  | cons x l ih => exact ih (hf h)

theorem iteFst {β : Type} {c : Prop} [Decidable c] {r q : State × β} (hr : r.1.PortsShow v) (hq : q.1.PortsShow v) : (if c then r else q).1.PortsShow v := by
  split
  · exact hr
  · exact hq

theorem wr (h : s.PortsShow v) {a x : Nat} (ha : OffStatus a) : (s.wr a x).PortsShow v :=
  ⟨fun n hn => (rd_wr_ne s x (by unfold KL_STATUS; unfold OffStatus at ha; omega)).trans (h.rd n hn)⟩

theorem setFld (h : s.PortsShow v) {a x : Nat} {f : Fld} (ha : OffStatus a) : (s.setFld a f x).PortsShow v := h.wr ha

theorem addFld (h : s.PortsShow v) {a k : Nat} {f : Fld} (ha : OffStatus a) : (s.addFld a f k).PortsShow v := h.setFld ha

theorem sticky (h : s.PortsShow v) {e ev : Nat} {f : Fld} (he : OffStatus e) (hev : OffStatus ev) : (s.sticky e f ev).PortsShow v := (h.setFld he).addFld hev

theorem setPort (h : s.PortsShow v) {n : Nat} {x : PortSt} : (s.setPort n x).PortsShow v := h.of_regs rfl

theorem withRouter (h : s.PortsShow v) {r : RouterSt} : State.PortsShow { s with router := r } v := h.of_regs rfl

theorem withWelkin (h : s.PortsShow v) {w : WelkinSt} : State.PortsShow { s with welkin := w } v := h.of_regs rfl

theorem withHbPend (h : s.PortsShow v) {l : List (Nat × List Byte)} : State.PortsShow { s with hbPend := l } v := h.of_regs rfl

theorem withHbSeq (h : s.PortsShow v) {q : Sparse Nat} : State.PortsShow { s with hbSeq := q } v := h.of_regs rfl

theorem count (h : s.PortsShow v) {kind inst ev k : Nat} {x : Attr} : (s.count kind inst ev k x).PortsShow v := h.of_regs rfl

theorem setCe (h : s.PortsShow v) {a : Nat} {x : CeSt} : (s.setCe a x).PortsShow v := h.of_regs rfl

/-! ## Waits and reports (09 R218, R222, 10 R235, 17 R411) -/

theorem holdAccess (h : s.PortsShow v) {who a : Nat} {x : Attr} : (s.holdAccess who a x).PortsShow v := by
  refine ⟨fun n hn => (rd_holdAccess_ne s who a x fun hmem => ?_).trans (h.rd n hn)⟩
  exact portReg_notMem_eventRegs (isPortReg_status hn) (d := 0) (by decide) (memHb a) (by rw [eventRegs]; exact List.mem_append_right _ hmem)

theorem logFree (h : s.PortsShow v) {code : Nat} {b : List Byte} : (s.logFree code b).PortsShow v := by
  refine ⟨fun n hn => (rd_logFree_ne s code b ?_).trans (h.rd n hn)⟩
  simp only [KL_STATUS, WK_LOG, WK_ERR, WK_ERR_EVENTS, List.mem_cons, List.not_mem_nil, or_false]
  omega

/-- A die's QH registers are none of these, whatever the die's number. -/
theorem postEvent (h : s.PortsShow v) {scope : Option Nat} {d kind source : Nat} {b : List Byte} : (s.postEvent scope d kind source b).PortsShow v := by
  refine ⟨fun n hn => (rd_postEvent_ne s scope d kind source b fun m => ?_).trans (h.rd n hn)⟩
  simp only [eventRegs, holdRegs, KL_STATUS, WK_LOG, WK_ERR, WK_ERR_EVENTS, QH_ERR, QH_ERR_EVENTS, QH_EV_DROPS, HB_HELD, HB_ERR, HB_ERR_EVENTS, PD_HELD, PD_ERR,
    PD_ERR_EVENTS, List.mem_append, List.mem_cons, List.not_mem_nil, or_false]
  omega

theorem hbErr (h : s.PortsShow v) {n : Nat} {f : Fld} : (s.sticky (HB_ERR n) f (HB_ERR_EVENTS n)).PortsShow v :=
  h.sticky (.inl (by unfold HB_ERR; omega)) (.inl (by unfold HB_ERR_EVENTS; omega))

theorem hbPut (h : s.PortsShow v) {n : Nat} {b : List Byte} : (s.hbPut n b).PortsShow v := by
  have hctrl : OffStatus (HB_LOG_CTRL n) := .inl (by unfold HB_LOG_CTRL; omega)
  have hwritten (a : Nat) : ((s.writeBytes a b).cleanUnits a 32).PortsShow v := h.of_regs ((cleanUnits_regs _ _ _).trans (writeBytes_regs _ _ _))
  exact ite h (ite (h.addFld hctrl).hbErr ((hwritten _).setFld hctrl))

theorem hbLog (h : s.PortsShow v) {n : Nat} {b : List Byte} : (s.hbLog n b).PortsShow v := ite h.withHbPend (ite h.holdAccess.withHbPend h.hbPut)

theorem hbRecordAt (h : s.PortsShow v) {n kind a pch : Nat} {m : Master} : (s.hbRecordAt n kind a pch m).PortsShow v := by
  unfold State.hbRecordAt
  exact (ite h.logFree h).withHbSeq.hbLog

theorem dataLoss (h : s.PortsShow v) {kind a : Nat} : (s.dataLoss kind a).PortsShow v := by
  unfold State.dataLoss
  exact (h.sticky (.inl (by decide)) (.inl (by decide))).postEvent

theorem ueMet (h : s.PortsShow v) {kind a : Nat} {m : Master} : (s.ueMet kind a m).PortsShow v := by
  have hue : OffStatus (HB_UE (memHb a)) := .inl (by unfold HB_UE; omega)
  have haddr : OffStatus (HB_ERR_ADDR (memHb a)) := .inl (by unfold HB_ERR_ADDR; omega)
  unfold State.ueMet
  extract_lets unit stack first readBit readCount errored addressed counted noted
  have herrored : errored.PortsShow v := h.hbErr.addFld hue
  have haddressed : addressed.PortsShow v := ite (herrored.wr haddr) herrored
  exact ite h (ite haddressed.count.withWelkin haddressed.count).hbRecordAt.dataLoss

/-! ## Memory (09 R205 to R208, R385) -/

theorem hbRead (h : s.PortsShow v) {a n : Nat} {x : Attr} (hlc : x.lc = false) : (s.hbRead a n x).PortsShow v := by
  obtain ⟨k, hread⟩ := hbRead_other s a n x hlc
  exact h.of_regs (by rw [hread])

theorem hbWrite (h : s.PortsShow v) {a n : Nat} {x : Attr} (hlc : x.lc = false) : (s.hbWrite a n x).PortsShow v := by
  obtain ⟨k, hwrite⟩ := hbWrite_other s a n x hlc
  exact h.of_regs (by rw [hwrite])

theorem store (h : s.PortsShow v) {a : Nat} {b : List Byte} {m : Master} : (s.store a b m).1.PortsShow v := by
  obtain ⟨k, hbytes⟩ := writeExcept_other s a (s.partlyBad a b.length) b
  have hwritten : ((s.writeExcept a (s.partlyBad a b.length) b).cleanUnits a b.length).PortsShow v := h.of_regs (by rw [cleanUnits_regs, hbytes])
  exact hwritten.foldl (·.ueMet)

end State.PortsShow

end Sys2Proof.Machine
end

section
/-! PROOFS. What a lost link leaves of KL_STATUS, continued: the purge of what waits for the port, its storage requests and the collective
engines (11 R268, R273, 12 R317 to R321). -/
namespace Sys2Proof.Machine

namespace State.PortsShow

variable {s t : State} {v : Nat → Nat}

/-! ## What waits for the port (11 R268, R286) -/

theorem routeDiscard (h : s.PortsShow v) {cause ingress : Nat} {k : Packet} : (s.routeDiscard cause ingress k).PortsShow v :=
  ((ite (h.addFld (.inl (by decide))) (h.addFld (.inl (by decide)))).sticky (.inl (by decide)) (.inl (by decide))).orElse (·.withRouter.postEvent)

theorem klDiscard (h : s.PortsShow v) {n : Nat} {k : Packet} : (s.klDiscard n k).PortsShow v :=
  (ite (h.addFld (.inl (by unfold KL_DISCARD0; omega))) (ite (h.addFld (.inl (by unfold KL_DISCARD1; omega))) h)).count

theorem freeRx (h : s.PortsShow v) {i c k : Nat} : (s.freeRx i c k).PortsShow v := ite h.setPort h

theorem setEg (h : s.PortsShow v) {n c : Nat} {l : List EgPkt} : (s.setEg n c l).PortsShow v := h.withRouter

theorem egressBar {n : Nat} {g : EgPkt} {f : State → State} (hbar : s.egressBar n g = some f) (h : t.PortsShow v) : (f t).PortsShow v := by
  simp only [State.egressBar] at hbar
  split_ifs at hbar <;> cases hbar
  · exact h.routeDiscard.count
  · exact h.routeDiscard
  · exact h.klDiscard

theorem purgePort (h : s.PortsShow v) {n : Nat} : (s.purgePort n).PortsShow v :=
  h.foldl fun h => foldl (ite h h.setEg) fun h => by
    split
    next hbar => exact (egressBar hbar h).freeRx
    · exact h

/-! ## Storage requests (11 R273) -/

theorem putDone (h : s.PortsShow v) {r : DoneRec} (hput : s.putDone r = some t) : t.PortsShow v := by
  have haway : (State.putDone.away r s).PortsShow v := (h.sticky (.inl (by unfold QH_ERR; omega)) (.inl (by unfold QH_ERR_EVENTS; omega))).postEvent
  simp only [State.putDone] at hput
  split_ifs at hput <;> cases hput
  · exact haway
  · exact haway
  · exact h.of_regs (pushEntry_regs _ _ _ _)

theorem doneWaits (h : s.PortsShow v) {n : Nat} : (s.doneWaits n).PortsShow v := by
  unfold State.doneWaits
  split
  · exact h
  · split
    · exact h.holdAccess
    · exact h

theorem storageDone (h : s.PortsShow v) {n d slot : Nat} {o : Option Nat} {b : List Byte} {status detail : Nat} :
    (s.storageDone n d slot o b status detail).PortsShow v := by
  unfold State.storageDone
  refine ite h.setPort ?_
  split
  next hput => exact h.putDone hput
  · exact h.setPort.doneWaits

theorem storageLoss (h : s.PortsShow v) {n : Nat} : (s.storageLoss n).PortsShow v := h.foldl (·.setPort.storageDone)

/-! ## Collective engines (12 R303 to R321) -/

/-- The engines' registers lie above the ports'. -/
theorem offStatus_ce {a : Nat} (h : 0x20000300000 ≤ a) : OffStatus a := .inr (.inr (by omega))

theorem setOps (h : s.PortsShow v) {a : Nat} {l : List CeOp} : (s.setOps a l).PortsShow v := by
  have hstatus (e : Nat) : OffStatus (CE_STATUS e) := offStatus_ce (by unfold CE_STATUS; omega)
  have hrun (p : Nat) : OffStatus (CE_RUN a p) := offStatus_ce (by unfold CE_RUN; omega)
  exact ((h.setCe.setFld (hstatus _)).setFld (hstatus _)).foldl fun h => (h.setFld (hrun _)).setFld (hrun _)

theorem putOp (h : s.PortsShow v) {o : CeOp} : (s.putOp o).PortsShow v := h.setOps

theorem injectPacket (h : s.PortsShow v) {k : Packet} : (s.injectPacket k).PortsShow v := ite h.withRouter (h.of_regs rfl)

theorem sendCtl (h : s.PortsShow v) {a part epoch dst way sub attempt mode tag mask extra layerOp : Nat} :
    (s.sendCtl a part epoch dst way sub attempt mode tag mask extra layerOp).PortsShow v := h.injectPacket

theorem opCtl (h : s.PortsShow v) {o : CeOp} {way sub mask extra : Nat} : (s.opCtl o way sub mask extra).PortsShow v := by
  unfold State.opCtl
  split
  · exact h.sendCtl
  · exact h

theorem lineCtl (h : s.PortsShow v) {o : CeOp} {l : List Nat} {j way sub extra : Nat} : (s.lineCtl o l j way sub extra).PortsShow v := h.sendCtl

theorem sendData (h : s.PortsShow v) {o : CeOp} {way : Nat} {x : Send} : (s.sendData o way x).1.PortsShow v := by
  unfold State.sendData
  dsimp only
  refine iteFst h.holdAccess ?_
  split
  · exact h.ueMet
  · split
    · exact h
    · exact ((h.hbRead rfl).injectPacket.addFld (offStatus_ce (by unfold CE_BYTES; omega))).count

theorem sendWay (h : s.PortsShow v) {o : CeOp} {way : Nat} {l : List Send} : (s.sendWay o way l).1.PortsShow v := by
  induction l generalizing s o with
  | nil => exact h
  | cons x l ih =>
    unfold State.sendWay
    split
    · exact ih h.sendData
    · exact ih h

theorem advanceRing (h : s.PortsShow v) {o : CeOp} : (s.advanceRing o).PortsShow v :=
  ite h.putOp (ite (opCtl (opCtl (iteFst (iteFst h.sendWay h).sendWay (iteFst h.sendWay h)))).putOp
    (putOp (iteFst (iteFst h.sendWay h).sendWay (iteFst h.sendWay h))))

theorem initOp (h : s.PortsShow v) {o : CeOp} : (s.initOp o).PortsShow v := by
  unfold State.initOp
  dsimp only
  split
  · exact h.holdAccess.putOp
  · split
    · exact h.ueMet.putOp
    · refine advanceRing (setCe (orElse (orElse ?_ (·.opCtl)) (·.opCtl)))
      exact (h.foldl (·.hbRead rfl)).foldlFst fun h => (h.hbWrite rfl).store

/-! ## A broken link (12 R317 to R320) -/

theorem restartOp (h : s.PortsShow v) {o : CeOp} : (s.restartOp o).PortsShow v := by
  unfold State.restartOp
  dsimp only
  split
  · exact h.putOp
  · exact (h.addFld (offStatus_ce (by unfold CE_OPS; omega))).both (·.putOp) (fun h => h.both (·.putOp) (·.initOp))

theorem applyDecision (h : s.PortsShow v) {o : CeOp} {outcome : Nat} : (s.applyDecision o outcome).PortsShow v := by
  unfold State.applyDecision
  split
  · exact h.putOp
  · exact h.restartOp
  · exact h.putOp

theorem decideLast (h : s.PortsShow v) {o : CeOp} {l : List Nat} {i : Nat} {all : Bool} : (s.decideLast o l i all).PortsShow v :=
  (ite h.lineCtl h).applyDecision

theorem stopOp (h : s.PortsShow v) {o : CeOp} : (s.stopOp o).PortsShow v := by
  unfold State.stopOp
  refine ite h ?_
  dsimp only
  split
  · exact h.putOp
  · exact ite h.putOp (ite h.putOp.decideLast h.lineCtl.putOp)

theorem stopOps (h : s.PortsShow v) {a : Nat} {p : Option Nat} : (s.stopOps a p).PortsShow v := by
  unfold State.stopOps
  refine h.foldl fun h => ?_
  split
  · exact h.stopOp
  · exact h

theorem openPast (h : s.PortsShow v) {a : Nat} {p : Option Nat} : (s.openPast a p).PortsShow v := by
  unfold State.openPast
  refine h.foldl fun h => ?_
  split
  · exact ite h.lineCtl h
  · exact h

theorem recordBreak (h : s.PortsShow v) {a link : Nat} : (s.recordBreak a link).PortsShow v := by
  have hstatus (e : Nat) : OffStatus (CE_STATUS e) := offStatus_ce (by unfold CE_STATUS; omega)
  have herr {u : State} (h : u.PortsShow v) (e : Nat) : (u.ceErr e CE_ERR_BREAK).PortsShow v :=
    h.sticky (offStatus_ce (by unfold CE_ERR; omega)) (offStatus_ce (by unfold CE_ERR_EVENTS; omega))
  unfold State.recordBreak
  refine ite h (h.foldl fun {u e} h => ?_)
  dsimp only
  split
  · exact ((herr h e).setFld (hstatus e)).setFld (hstatus e)
  · exact ((herr h e).setFld (hstatus e)).setFld (hstatus e)
  · exact herr h e

theorem portBreak (h : s.PortsShow v) {n : Nat} : (s.portBreak n).PortsShow v :=
  ite h ((ite h h.recordBreak.openPast).postEvent.foldl fun h => ite h h.sendCtl).stopOps

end State.PortsShow

/-! ## A lost link (R268) -/

theorem klState_portLost (s : State) {n : Nat} (hn : n < 10) : (s.portLost n).klState n = 7 := by
  have hdown : ((((s.dropLink n).klErr n KL_ERR_LOSS).setCause n 4).portTo n 7).klState n = 7 := klState_portTo _ hn (by decide)
  refine Eq.trans (State.PortsShow.klState (v := fun m => State.rd ((((s.dropLink n).klErr n KL_ERR_LOSS).setCause n 4).portTo n 7) (KL_STATUS m)) ?_ hn ?_) hdown
  · exact State.PortsShow.portBreak (State.PortsShow.storageLoss (State.PortsShow.purgePort ⟨fun _ _ => rfl⟩))
  · exact ⟨fun _ _ => rfl⟩

end Sys2Proof.Machine
end

section
/-! PROOFS. A live link that loses lanes, sleeps and wakes (11 R266, R267, R269), and the obligation on live links. -/
namespace Sys2Proof.Machine

/-! ## A lane fails (R266) -/

section
variable (s : State) (n : Nat)

/-- A lane put into an empty map of failed lanes. -/
theorem putBits_lane (lane : Fin 9) : putBits 0 lane lane 1 = 2 ^ lane.val ∧ popCount 9 (2 ^ lane.val) = 1 ∧ 2 ^ lane.val < 512 := by
  revert lane
  decide

theorem failRx_of_clear {lane : Nat} (hclear : s.fld (KL_LANES n) KL_LANES_FAILED_RX = 0) : ∃ b, s.failRx n lane =
    ((s.setFld (KL_LANES n) KL_LANES_FAILED_RX (putBits 0 lane lane 1)).klErr n KL_ERR_LANE_FAILED).klEvent n 0x0111 b := by
  unfold State.failRx
  dsimp only
  rw [hclear]
  exact ⟨_, if_neg (by simp [bit])⟩

variable {n} (hn : n < 10)
include hn

theorem rd_lanes_failRx {lane : Nat} (hclear : s.fld (KL_LANES n) KL_LANES_FAILED_RX = 0) :
    (s.failRx n lane).fld (KL_LANES n) KL_LANES_FAILED_RX = putBits 0 lane lane 1 % 512 := by
  obtain ⟨b, hfail⟩ := failRx_of_clear s n (lane := lane) hclear
  rw [hfail, fld_of_rd (rd_klEvent _ n (isPortReg_lanes hn) _ b),
    fld_of_rd (rd_klErr_ne _ n _ (by unfold KL_LANES KL_ERR; omega) (by unfold KL_LANES KL_ERR_EVENTS; omega)), fld_setFld_same _ _ _ _ kl_failedRx_ok]
  rfl

theorem klState_failRx (lane : Nat) : (s.failRx n lane).klState n = s.klState n := by
  unfold State.failRx
  dsimp only
  split
  · rfl
  · rw [State.klState, fld_of_rd (rd_klEvent _ n (isPortReg_status hn) _ _), fld_status_klErr, fld_setFld_ne _ _ _ _ (by unfold KL_STATUS KL_LANES; omega)]
    rfl

end

section
variable (s : State) (n : Fin 10)

theorem exec_laneFailed {lane : Fin 9} (hst : s.klState n = 5 ∨ s.klState n = 6) (hclear : s.fld (KL_LANES n) KL_LANES_FAILED_RX = 0)
    (hone : (s.failRx n lane).failedRx n = 1) : exec (.laneFailed n lane true) s =
    .next (((s.failRx n lane).setWidths n).setPort n { ((s.failRx n lane).setWidths n).port n with spareReq := some lane.val }) := by
  have hexec : exec (.laneFailed n lane true) s = execLaneFailed n lane true s := rfl
  have hbit : bit (s.fld (KL_LANES n) KL_LANES_FAILED_RX) lane = false := by rw [hclear]; simp [bit]
  have hlive : (s.klState n == 5 || s.klState n == 6) = true := by simpa using hst
  rw [hexec]
  unfold execLaneFailed
  dsimp only
  rw [if_pos (by rw [hlive, hbit, decide_eq_true lane.isLt]; rfl), hone]
  exact (if_neg (by decide)).trans (if_pos (by decide))

/-- A first failing lane is covered by the spare, with the port's state kept. -/
theorem laneFailed_first (lane : Fin 9) (hst : s.klState n = 5 ∨ s.klState n = 6) (hclear : s.fld (KL_LANES n) KL_LANES_FAILED_RX = 0) :
    Gives (.laneFailed n lane true) s (fun s' => s'.fld (KL_LANES n) KL_LANES_FAILED_RX = 2 ^ lane.val ∧ s'.klState n = s.klState n ∧
      s'.fld (KL_STATUS n) KL_STATUS_WIDTH_RX = 8 ∧ s'.flag (KL_STATUS n) KL_STATUS_SPARE_RX = true ∧ (s'.port n).spareReq = some lane.val) := by
  obtain ⟨hput, hcount, hlt⟩ := putBits_lane lane
  have hlanes : (s.failRx n lane).fld (KL_LANES n) KL_LANES_FAILED_RX = 2 ^ lane.val := by
    rw [rd_lanes_failRx s n.isLt hclear, hput]
    exact Nat.mod_eq_of_lt hlt
  have hone : (s.failRx n lane).failedRx n = 1 := by rw [State.failedRx, hlanes, hcount]
  refine gives_of_exec (exec_laneFailed s n hst hclear hone) ⟨?_, ?_, ?_, ?_, ?_⟩
  · rw [fld_setPort, fld_of_rd (rd_setWidths_ne _ _ (by unfold KL_STATUS KL_LANES; omega)), hlanes]
  · rw [klState_setPort]
    exact (fld_status_setWidths _ _ (.inl (by decide))).trans (klState_failRx s n.isLt lane)
  · rw [fld_setPort, widthRx_setWidths, hone]
    rfl
  · rw [State.flag, fld_setPort]
    exact spareRx_setWidths _ _ (by rw [hone]; decide) (by rw [hone]; decide)
  · rw [port_setPort]

/-! ## A degraded direction retrains (R267) -/

/-- The widths chosen and the degraded directions handled, on the way to DISCOVER. -/
def State.degraded (s : State) (n : Nat) : State :=
  ((s.setFld (KL_LANES n) KL_LANES_FAILED_TX (s.fld (KL_LANES n) KL_LANES_FAILED_TX ||| 0)).setWidths n).setPort n
    { s.port n with degRx := false, degTx := false, degReq := none, back := some (s.klState n), retrainAfter := false }

theorem exec_degradeRetrain (hst : s.klState n = 5 ∨ s.klState n = 6) (hdeg : (s.port n).degRx = true ∨ (s.port n).degTx = true)
    (hafter : (s.port n).retrainAfter = false) (hrx : (s.degraded n).fld (KL_STATUS n) KL_STATUS_WIDTH_RX ≠ 0)
    (htx : (s.degraded n).fld (KL_STATUS n) KL_STATUS_WIDTH_TX ≠ 0) : exec (.degradeRetrain n 0 0) s = .next ((s.degraded n).enterDiscover n) := by
  have hexec : exec (.degradeRetrain n 0 0) s = execDegradeRetrain n 0 0 s := rfl
  have hdue : ((s.klState n == 5 || s.klState n == 6) && ((s.port n).degRx || (s.port n).degTx)) = true := by
    simpa only [Bool.and_eq_true, Bool.or_eq_true, beq_iff_eq] using ⟨hst, hdeg⟩
  rw [hexec]
  unfold execDegradeRetrain
  exact (if_pos hdue).trans ((if_neg (not_or.mpr ⟨hrx, htx⟩)).trans (if_neg (by rw [hafter]; decide)))

theorem failedRx_setFailedTx (k v : Nat) : (s.setFld (KL_LANES k) KL_LANES_FAILED_TX v).failedRx k = s.failedRx k := by
  rw [State.failedRx, State.failedRx, fld_setFld_other _ _ _ _ _ kl_failedTx_ok (by decide)]

theorem degradeRetrain_gives (hst : s.klState n = 5 ∨ s.klState n = 6) (hdeg : (s.port n).degRx = true ∨ (s.port n).degTx = true)
    (hafter : (s.port n).retrainAfter = false) (hrx : widthOf (s.failedRx n) ≠ 0) (htx : widthOf (s.failedTx n) ≠ 0) :
    Gives (.degradeRetrain n 0 0) s (fun s' => s'.klState n = 4 ∧ (s'.port n).back = some (s.klState n) ∧ (s'.port n).degRx = false ∧ (s'.port n).degTx = false) := by
  have hlanes : (s.setFld (KL_LANES n) KL_LANES_FAILED_TX (s.fld (KL_LANES n) KL_LANES_FAILED_TX ||| 0)).failedTx n = s.failedTx n := by
    rw [State.failedTx, fld_setFld_same _ _ _ _ kl_failedTx_ok, Nat.or_zero, State.failedTx]
    exact congrArg (popCount 9) (Nat.mod_eq_of_lt (bits_lt _ _ _))
  have hrx' : (s.degraded n).fld (KL_STATUS n) KL_STATUS_WIDTH_RX ≠ 0 := by
    rw [State.degraded, fld_setPort, widthRx_setWidths, failedRx_setFailedTx]
    exact hrx
  have htx' : (s.degraded n).fld (KL_STATUS n) KL_STATUS_WIDTH_TX ≠ 0 := by
    rw [State.degraded, fld_setPort, widthTx_setWidths, hlanes]
    exact htx
  refine gives_of_exec (exec_degradeRetrain s n hst hdeg hafter hrx' htx') ⟨klState_enterDiscover _ n.isLt, ?_⟩
  rw [port_enterDiscover, State.degraded, port_setPort]
  exact ⟨rfl, rfl, rfl⟩

/-! ## SLEEP and WAKE (R269) -/

theorem sleep_gives (hsends : s.sendsSleep n = true) (hsent : (s.port n).sleepSent = true) (hrcvd : (s.port n).sleepRcvd = true) :
    Gives (.sleep n) s (fun s' => s'.klState n = 9 ∧ (s'.port n).back = some (s.klState n)) := by
  refine gives_of_exec (if_pos (by rw [hsends, hsent, hrcvd]; rfl)) ⟨klState_portTo _ n.isLt (by decide), ?_⟩
  rw [port_portTo, port_setPort]
  rfl

theorem exec_wakeFlit {at_ : Nat} {b : List Byte} {rest : List (Nat × List Byte)} (hst : s.klState n = 9) (hin : (s.port n).ctrlIn = (at_, b) :: rest)
    (hkind : fieldAt b 0 1 = 3) (hdom : s.domState (72 + n) = 3) :
    exec (.wakeFlit n) s = .next ((s.setPort n { s.port n with back := none, lastCtrl := s.zt }).portTo n ((s.port n).back.getD 5)) := by
  have hexec : exec (.wakeFlit n) s = execWakeFlit n s := rfl
  rw [hexec]
  unfold execWakeFlit
  extract_lets x theirs ds waked told moved
  have htheirs : theirs = true := by
    unfold theirs x
    rw [hin]
    exact beq_iff_eq.mpr hkind
  have hds : ds = 3 := hdom
  have hmoved : moved = waked := (if_neg (by rw [hds]; decide)).trans (if_pos htheirs)
  rw [htheirs, hds, hst, hmoved]
  rfl

theorem wakeFlit_gives {at_ : Nat} {b : List Byte} {rest : List (Nat × List Byte)} (hst : s.klState n = 9) (hin : (s.port n).ctrlIn = (at_, b) :: rest)
    (hkind : fieldAt b 0 1 = 3) (hdom : s.domState (72 + n) = 3) (hback : ∀ st ∈ (s.port n).back, st < 16) :
    Gives (.wakeFlit n) s (fun s' => s'.klState n = (s.port n).back.getD 5 ∧ (s'.port n).ctrlIn = (s.port n).ctrlIn) := by
  have hlt : (s.port n).back.getD 5 < 16 := by
    cases hb : (s.port n).back with
    | none => decide
    | some st => exact hback st hb
  refine gives_of_exec (exec_wakeFlit s n hst hin hkind hdom) ⟨klState_portTo _ n.isLt hlt, ?_⟩
  rw [port_portTo, port_setPort]
  rfl

end

/-- Settles O39: each row of a live link by what it makes of the port, and the state of a lost link, which nothing after the entry into DOWN writes. -/
theorem linksCarryAndLose : Obligations.LinksCarryAndLose := by
  unfold Obligations.LinksCarryAndLose
  intro n s
  refine ⟨fun hlo hhi => ⟨fun er l _ => ?_, fun er q ch f _ hcarries hq => ?_, fun q ch f hq => ?_⟩, ?_, ?_, ?_, ?_, ?_, ?_, ?_, ?_⟩
  · exact codeword_uncorrectable s n ⟨hlo, hhi⟩ er l
  · exact codeword_data_expected s n ⟨hlo, hhi⟩ er q ch f hcarries hq
  · exact codeword_data_other s n ⟨hlo, hhi⟩ q ch f hq
  · exact fun _ _ _ hin hkind => controlFlit_link s n hin hkind
  · exact fun _ _ _ hin hkind hst => controlFlit_discover s n hin hkind hst
  · exact fun lane hst hclear => laneFailed_first s n lane hst hclear
  · exact fun hst hdeg hafter hrx htx => degradeRetrain_gives s n hst hdeg hafter hrx htx
  · intro a b halive hlost
    have hdue : (s.linkAlive n && (a || b || decide ((s.port n).lastCtrl + 1000 < s.zt) || decide (16 ≤ (s.port n).uncorr))) = true := by
      simpa only [halive, Bool.true_and, Bool.or_eq_true, decide_eq_true_eq, or_assoc] using hlost
    exact if_pos hdue
  · exact klState_portLost s n.isLt
  · exact fun hsends hsent hrcvd => sleep_gives s n hsends hsent hrcvd
  · exact fun _ _ _ hst hin hkind hdom hback => wakeFlit_gives s n hst hin hkind hdom hback

end Sys2Proof.Machine
end

section
/-! PROOFS. Cages, Contrail modules and their sensors (11 R253, R274, R275). -/
namespace Sys2Proof.Machine

/-! ## Events and flags of a module (R274, R276) -/

section
variable (s : State) (n : Nat)

@[simp] theorem port_contrailEvent (kind serial : Nat) : (s.contrailEvent n kind serial).port n = s.port n := by
  rw [State.contrailEvent, port_klEvent, port_klErr]

theorem rd_contrailEvent_ne {b : Nat} (hb : isPortReg b) (he : b ≠ KL_ERR n) (hev : b ≠ KL_ERR_EVENTS n) (kind serial : Nat) :
    (s.contrailEvent n kind serial).rd b = s.rd b := by
  rw [State.contrailEvent, rd_klEvent _ n hb, rd_klErr_ne _ n _ he hev]

/-- What of the state the flags of a module's life leave alone. -/
theorem lifeFlags_keeps {α : Type} (f : State → α) (hset : ∀ (s : State) g v, f (s.setFld (KL_CONTRAIL n) g v) = f s)
    (hevent : ∀ (s : State) k sn, f (s.contrailEvent n k sn) = f s) : f (s.lifeFlags n) = f s := by
  unfold State.lifeFlags
  split
  · rfl
  · extract_lets h shown warned
    have hwarned : f warned = f s := by
      unfold warned
      rw [apply_ite f, hevent, hset, ite_self]
      exact hset _ _ _
    rw [apply_ite f, hevent, hset, ite_self, hwarned]

@[simp] theorem port_lifeFlags : (s.lifeFlags n).port n = s.port n :=
  lifeFlags_keeps s n (State.port · n) (fun s g v => port_setFld s n _ g v) fun s k sn => port_contrailEvent s n k sn

theorem rd_lifeFlags_ne {b : Nat} (hb : isPortReg b) (he : b ≠ KL_ERR n) (hev : b ≠ KL_ERR_EVENTS n) (hc : b ≠ KL_CONTRAIL n) :
    (s.lifeFlags n).rd b = s.rd b :=
  lifeFlags_keeps s n (State.rd · b) (fun s g v => rd_setFld_ne s g v hc) fun s k sn => rd_contrailEvent_ne s n hb he hev k sn

variable {n} (hn : n < 10)
include hn

theorem fld_status_contrailEvent (f : Fld) (kind serial : Nat) : (s.contrailEvent n kind serial).fld (KL_STATUS n) f = s.fld (KL_STATUS n) f :=
  fld_of_rd (rd_contrailEvent_ne s n (isPortReg_status hn) (by unfold KL_STATUS KL_ERR; omega) (by unfold KL_STATUS KL_ERR_EVENTS; omega) kind serial) f

theorem fld_status_lifeFlags (f : Fld) : (s.lifeFlags n).fld (KL_STATUS n) f = s.fld (KL_STATUS n) f :=
  fld_of_rd (rd_lifeFlags_ne s n (isPortReg_status hn) (by unfold KL_STATUS KL_ERR; omega) (by unfold KL_STATUS KL_ERR_EVENTS; omega)
    (by unfold KL_STATUS KL_CONTRAIL; omega)) f

theorem medium_beginPort : (s.beginPort n).fld (KL_STATUS n) KL_STATUS_MEDIUM = s.fld (KL_STATUS n) KL_STATUS_MEDIUM := by
  obtain h | h := beginPort_cases s n <;> rw [h]
  exact fld_status_startDetect s hn (by decide) none

omit hn in
/-- What of the port the start of a training leaves alone. -/
theorem port_beginPort {α : Type} (g : PortSt → α) (hg : ∀ x : PortSt, g ((x.detecting none).entered s.zt 1) = g x) :
    g ((s.beginPort n).port n) = g (s.port n) := by
  obtain h | h := beginPort_cases s n <;> rw [h]
  rw [port_startDetect, hg]

end

/-! ## Insertion (R253, R274) -/

section
variable (s : State) (n : Fin 10) (hempty : s.fld (KL_STATUS n) KL_STATUS_MEDIUM = 0)
include hempty

theorem exec_inserted_copper : exec (.inserted n .copper) s =
    .next (((s.setPort n { s.port n with copper := true }).setFld (KL_STATUS n) KL_STATUS_MEDIUM 1).beginPort n) :=
  if_neg (by rw [hempty]; decide)

theorem inserted_copper : Gives (.inserted n .copper) s (fun s' => s'.fld (KL_STATUS n) KL_STATUS_MEDIUM = 1 ∧ (s'.port n).copper = true) := by
  refine gives_of_exec (exec_inserted_copper s n hempty) ⟨?_, ?_⟩
  · rw [medium_beginPort _ n.isLt, fld_setFld_same _ _ _ _ kl_medium_ok]
    rfl
  · rw [port_beginPort _ PortSt.copper fun _ => rfl, port_setFld, port_setPort]

end

/-- What the module learns of a Contrail module it finds, its certificate verified or not (R274, R275). -/
def State.foundContrail (s : State) (serial : BitVec 64) (body : List Byte) (hours : BitVec 32) (bias : List Nat) (ok : Bool) : ContrailSt :=
  { serial := serial.toNat
    ok := ok
    hours := max hours.toNat (s.loggedHours serial.toNat) * 2 ^ 32
    minute := s.zt / 60000000000
    bias0 := bias
    bodyBytes := body
    writtenAt := s.zt }

/-- The state with a Contrail module found in the cage and its insertion told. -/
def State.withContrail (s : State) (n : Nat) (c : ContrailSt) : State :=
  ((s.setPort n { s.port n with contrail := some c }).setFld (KL_STATUS n) KL_STATUS_MEDIUM 2).contrailEvent n 0 c.serial

/-- The state with a module's certificate refused (R274). -/
def State.untrusted (s : State) (n : Nat) (serial : Nat) : State :=
  ((((s.lifeFlags n).contrailEvent n 2 serial).dropLink n).setCause n 5).portTo n 7

section
variable (s : State) (n : Nat) (c : ContrailSt)

theorem port_withContrail : (s.withContrail n c).port n = { s.port n with contrail := some c } := by
  rw [State.withContrail, port_contrailEvent, port_setFld, port_setPort]

theorem contrail_untrusted (serial : Nat) : ((s.untrusted n serial).port n).contrail = (s.port n).contrail := by
  rw [State.untrusted, port_portTo, port_setCause]
  exact (contrail_dropLink _ n).trans (by rw [port_contrailEvent, port_lifeFlags])

variable {n} (hn : n < 10)
include hn

theorem medium_withContrail : (s.withContrail n c).fld (KL_STATUS n) KL_STATUS_MEDIUM = 2 := by
  rw [State.withContrail, fld_status_contrailEvent _ hn, fld_setFld_same _ _ _ _ kl_medium_ok]
  rfl

theorem medium_untrusted (serial : Nat) : (s.untrusted n serial).fld (KL_STATUS n) KL_STATUS_MEDIUM = s.fld (KL_STATUS n) KL_STATUS_MEDIUM := by
  rw [State.untrusted, fld_status_portTo _ hn (by decide), State.setCause, fld_setFld_other _ _ _ _ _ kl_cause_ok (by decide), fld_status_dropLink,
    fld_status_contrailEvent _ hn, fld_status_lifeFlags _ hn]

theorem klState_untrusted (serial : Nat) : (s.untrusted n serial).klState n = 7 := klState_portTo _ hn (by decide)

theorem cause_untrusted (serial : Nat) : (s.untrusted n serial).fld (KL_STATUS n) KL_STATUS_CAUSE = 5 :=
  (fld_status_portTo _ hn (by decide) 7).trans (cause_setCause _ n (by decide))

end

section
variable (s : State) (n : Fin 10) (hempty : s.fld (KL_STATUS n) KL_STATUS_MEDIUM = 0) (serial : BitVec 64) (body signature : List Byte) (hours : BitVec 32) (bias : List Nat)
include hempty

/-- A module is trained or refused. -/
theorem exec_inserted_contrail : ∃ c : ContrailSt, c.serial = serial.toNat ∧
    (exec (.inserted n (.contrail serial body signature hours bias)) s = .next ((s.withContrail n c).untrusted n serial.toNat) ∨
      (s.record 0x0006 0 ≠ none ∧ exec (.inserted n (.contrail serial body signature hours bias)) s = .next (((s.withContrail n c).lifeFlags n).beginPort n))) := by
  cases hrecord : s.record 0x0006 0 with
  | none =>
    refine ⟨s.foundContrail serial body hours bias false, rfl, .inl ((if_neg (by rw [hempty]; decide)).trans ?_)⟩
    rw [hrecord]
    exact if_neg Bool.false_ne_true
  | some key =>
    refine ⟨s.foundContrail serial body hours bias (Config.mldsaVerify key body signature), rfl, ?_⟩
    by_cases hok : Config.mldsaVerify key body signature = true
    · refine .inr ⟨by simp, (if_neg (by rw [hempty]; decide)).trans ?_⟩
      rw [hrecord]
      exact if_pos hok
    · refine .inl ((if_neg (by rw [hempty]; decide)).trans ?_)
      rw [hrecord]
      exact if_neg hok

theorem inserted_contrail : Gives (.inserted n (.contrail serial body signature hours bias)) s (fun s' => s'.fld (KL_STATUS n) KL_STATUS_MEDIUM = 2 ∧
    ((s'.port n).contrail.map (·.serial)) = some serial.toNat ∧
    (s.record 0x0006 0 = none → s'.klState n = 7 ∧ s'.fld (KL_STATUS n) KL_STATUS_CAUSE = 5)) := by
  obtain ⟨c, hserial, hexec | ⟨hrecord, hexec⟩⟩ := exec_inserted_contrail s n hempty serial body signature hours bias
  · refine gives_of_exec hexec ⟨?_, ?_, fun _ => ⟨klState_untrusted _ n.isLt _, cause_untrusted _ n.isLt _⟩⟩
    · rw [medium_untrusted _ n.isLt, medium_withContrail _ _ n.isLt]
    · rw [contrail_untrusted, port_withContrail]
      exact congrArg some hserial
  · refine gives_of_exec hexec ⟨?_, ?_, fun h => absurd h hrecord⟩
    · rw [medium_beginPort _ n.isLt, fld_status_lifeFlags _ n.isLt, medium_withContrail _ _ n.isLt]
    · rw [port_beginPort _ PortSt.contrail fun _ => rfl, port_lifeFlags, port_withContrail]
      exact congrArg some hserial

end

end Sys2Proof.Machine
end

section
/-! PROOFS. Cages, Contrail modules and their sensors, continued: removal, readings and the hour count (11 R268, R274, R275). -/
namespace Sys2Proof.Machine

/-! ## Removal (R253, R268) -/

/-- A link that loses its medium is lost. -/
def State.linkEnded (s : State) (n : Nat) : State := if s.linkAlive n then s.portLost n else s

/-- The registers and the port of a cage that has been emptied. -/
def State.cageEmptied (s : State) (n : Nat) : State :=
  (((s.setPort n { s.port n with contrail := none, copper := false }).setFld (KL_STATUS n) KL_STATUS_MEDIUM 0).wr (KL_CONTRAIL n) 0).wr (KL_CONTRAIL_SENS n) 0

section
variable (s : State) (n : Nat)

theorem port_cageEmptied : (s.cageEmptied n).port n = { s.port n with contrail := none, copper := false } := by
  rw [State.cageEmptied, port_wr, port_wr, port_setFld, port_setPort]

theorem rd_cageEmptied : (s.cageEmptied n).rd (KL_STATUS n) = (s.setFld (KL_STATUS n) KL_STATUS_MEDIUM 0).rd (KL_STATUS n) := by
  rw [State.cageEmptied, rd_wr_ne _ _ (by unfold KL_STATUS KL_CONTRAIL_SENS; omega), rd_wr_ne _ _ (by unfold KL_STATUS KL_CONTRAIL; omega)]
  rfl

theorem medium_cageEmptied : (s.cageEmptied n).fld (KL_STATUS n) KL_STATUS_MEDIUM = 0 := by
  rw [fld_of_rd (rd_cageEmptied s n), fld_setFld_same _ _ _ _ kl_medium_ok]
  rfl

theorem klState_cageEmptied : (s.cageEmptied n).klState n = s.klState n := by
  rw [State.klState, fld_of_rd (rd_cageEmptied s n), fld_setFld_other _ _ _ _ _ kl_medium_ok (by decide)]
  rfl

end

section
variable (s : State) (n : Fin 10)

theorem exec_removed : exec (.removed n) s = .next ((s.linkEnded n).cageEmptied n) ∨
    ∃ serial, exec (.removed n) s = .next (((s.linkEnded n).cageEmptied n).contrailEvent n 1 serial) := by
  have hexec : exec (.removed n) s = execRemoved n s := rfl
  rw [hexec]
  unfold execRemoved
  extract_lets x serial ended emptied
  split
  · exact .inr ⟨serial, rfl⟩
  · exact .inl rfl

theorem removed_gives : Gives (.removed n) s (fun s' => s'.fld (KL_STATUS n) KL_STATUS_MEDIUM = 0 ∧ (s'.port n).contrail = none ∧ (s'.port n).copper = false ∧
    (s.linkAlive n = true → s'.klState n = 7)) := by
  have hended : s.linkAlive n = true → ((s.linkEnded n).cageEmptied n).klState n = 7 := fun h => by
    rw [klState_cageEmptied, State.linkEnded, if_pos h, klState_portLost s n.isLt]
  obtain hexec | ⟨serial, hexec⟩ := exec_removed s n
  · refine gives_of_exec hexec ⟨medium_cageEmptied _ n, ?_, ?_, hended⟩ <;> rw [port_cageEmptied]
  · refine gives_of_exec hexec ⟨?_, ?_, ?_, fun h => ?_⟩
    · rw [fld_status_contrailEvent _ n.isLt, medium_cageEmptied]
    · rw [port_contrailEvent, port_cageEmptied]
    · rw [port_contrailEvent, port_cageEmptied]
    · exact (fld_status_contrailEvent _ n.isLt _ 1 serial).trans (hended h)

end

/-! ## Readings (R274) -/

/-- The register of a module's sensors with a reading. -/
def State.sensed (s : State) (n temp vcc drift least : Nat) : State :=
  (((s.setFld (KL_CONTRAIL_SENS n) KL_CONTRAIL_SENS_CASE_TEMP temp).setFld (KL_CONTRAIL_SENS n) KL_CONTRAIL_SENS_VCC_MV vcc).setFld
    (KL_CONTRAIL_SENS n) KL_CONTRAIL_SENS_BIAS_DRIFT drift).setFld (KL_CONTRAIL_SENS n) KL_CONTRAIL_SENS_RX_MIN_UW least

/-- A flag of the lasers' bias, set once with its event. -/
def State.biasNoted (s : State) (n : Nat) (f : Fld) (high : Bool) (kind serial : Nat) : State :=
  if high && !s.flag (KL_CONTRAIL n) f then (s.setFld (KL_CONTRAIL n) f 1).contrailEvent n kind serial else s

section
variable (s : State) (n : Nat)

theorem caseTemp_sensed (temp : BitVec 16) (vcc drift least : Nat) :
    (s.sensed n temp.toNat vcc drift least).fld (KL_CONTRAIL_SENS n) KL_CONTRAIL_SENS_CASE_TEMP = temp.toNat := by
  rw [State.sensed, fld_setFld_other _ _ _ _ _ ⟨by decide, by decide⟩ (by decide), fld_setFld_other _ _ _ _ _ ⟨by decide, by decide⟩ (by decide),
    fld_setFld_other _ _ _ _ _ ⟨by decide, by decide⟩ (by decide), fld_setFld_same _ _ _ _ ⟨by decide, by decide⟩]
  exact Nat.mod_eq_of_lt temp.isLt

theorem vcc_sensed (temp : Nat) (vcc : BitVec 16) (drift least : Nat) :
    (s.sensed n temp vcc.toNat drift least).fld (KL_CONTRAIL_SENS n) KL_CONTRAIL_SENS_VCC_MV = vcc.toNat := by
  rw [State.sensed, fld_setFld_other _ _ _ _ _ ⟨by decide, by decide⟩ (by decide), fld_setFld_other _ _ _ _ _ ⟨by decide, by decide⟩ (by decide),
    fld_setFld_same _ _ _ _ ⟨by decide, by decide⟩]
  exact Nat.mod_eq_of_lt vcc.isLt

theorem port_biasNoted (f : Fld) (high : Bool) (kind serial : Nat) : (s.biasNoted n f high kind serial).port n = s.port n := by
  rw [State.biasNoted, apply_ite (State.port · n), port_contrailEvent, port_setFld, ite_self]

theorem rd_biasNoted_ne {b : Nat} (hb : isPortReg b) (he : b ≠ KL_ERR n) (hev : b ≠ KL_ERR_EVENTS n) (hc : b ≠ KL_CONTRAIL n) (f : Fld) (high : Bool)
    (kind serial : Nat) : (s.biasNoted n f high kind serial).rd b = s.rd b := by
  rw [State.biasNoted, apply_ite (State.rd · b), rd_contrailEvent_ne _ n hb he hev, rd_setFld_ne _ _ _ hc, ite_self]

end

theorem fresh_regs (u : State) : u.fresh.2.regs = u.regs := (rfl)

section
variable (s : State) (n : Fin 10) {c : ContrailSt} (hc : (s.port n).contrail = some c)
include hc

theorem exec_contrailSensors (temp vcc : BitVec 16) (bias : List Nat) (power : List (Nat × Nat)) : ∃ (u : State) (k : ContrailSt) (drift least : Nat) (warn alarm : Bool),
    u.regs = (s.sensed n temp.toNat vcc.toNat drift least).regs ∧ k.serial = c.serial ∧ exec (.contrailSensors n temp vcc bias power) s =
      .next ((((u.setPort n { u.port n with contrail := some k }).lifeFlags n).biasNoted n KL_CONTRAIL_BIAS_WARN warn 5 c.serial).biasNoted n
        KL_CONTRAIL_BIAS_ALARM alarm 6 c.serial) := by
  have hexec : exec (.contrailSensors n temp vcc bias power) s = execContrailSensors n temp vcc bias power s := rfl
  rw [hexec]
  unfold execContrailSensors
  split
  next h => exact absurd (hc.symm.trans h) (by simp)
  next c' h =>
    cases hc.symm.trans h
    extract_lets rise sensed kept on m above
    split
    next extra drawn hdrawn =>
      extract_lets c1 c2
      have hdrawn' : drawn = kept.fresh.2 := (congrArg Prod.snd hdrawn).symm
      have hregs : drawn.regs = sensed.regs := (congrArg State.regs hdrawn').trans (fresh_regs kept)
      have hc1 : c1.serial = c.serial := (apply_ite ContrailSt.serial _ _ _).trans (ite_self _)
      have hc2 : c2.serial = c1.serial := (apply_ite ContrailSt.serial _ _ _).trans (ite_self _)
      exact ⟨drawn, { c2 with power := power }, _, _, _, _, hregs, hc2.trans hc1, rfl⟩

theorem contrailSensors_gives (temp vcc : BitVec 16) (bias : List Nat) (power : List (Nat × Nat)) :
    Gives (.contrailSensors n temp vcc bias power) s (fun s' => s'.fld (KL_CONTRAIL_SENS n) KL_CONTRAIL_SENS_CASE_TEMP = temp.toNat ∧
      s'.fld (KL_CONTRAIL_SENS n) KL_CONTRAIL_SENS_VCC_MV = vcc.toNat ∧ ((s'.port n).contrail.map (·.serial)) = some c.serial) := by
  obtain ⟨u, k, drift, least, warn, alarm, hregs, hserial, hexec⟩ := exec_contrailSensors s n hc temp vcc bias power
  have hb : isPortReg (KL_CONTRAIL_SENS n) := isPortReg_sens n.isLt
  have he : KL_CONTRAIL_SENS n ≠ KL_ERR n := by unfold KL_CONTRAIL_SENS KL_ERR; omega
  have hev : KL_CONTRAIL_SENS n ≠ KL_ERR_EVENTS n := by unfold KL_CONTRAIL_SENS KL_ERR_EVENTS; omega
  have hflags : KL_CONTRAIL_SENS n ≠ KL_CONTRAIL n := by unfold KL_CONTRAIL_SENS KL_CONTRAIL; omega
  have hrd : ((((u.setPort n { u.port n with contrail := some k }).lifeFlags n).biasNoted n KL_CONTRAIL_BIAS_WARN warn 5 c.serial).biasNoted n
      KL_CONTRAIL_BIAS_ALARM alarm 6 c.serial).rd (KL_CONTRAIL_SENS n) = (s.sensed n temp.toNat vcc.toNat drift least).rd (KL_CONTRAIL_SENS n) := by
    rw [rd_biasNoted_ne _ _ hb he hev hflags, rd_biasNoted_ne _ _ hb he hev hflags, rd_lifeFlags_ne _ _ hb he hev hflags, rd_setPort, rd_of_regs hregs]
  refine gives_of_exec hexec ⟨?_, ?_, ?_⟩
  · rw [fld_of_rd hrd, caseTemp_sensed]
  · rw [fld_of_rd hrd, vcc_sensed]
  · rw [port_biasNoted, port_biasNoted, port_lifeFlags, port_setPort]
    exact congrArg some hserial

end

/-! ## The hour count (R275) -/

/-- The count put for a serial is the one found. -/
theorem find?_putHours (l : List (Nat × Nat)) (serial h : Nat) : (putHours l serial h).find? (fun e => e.1 == serial) = some (serial, h) := by
  unfold putHours
  split
  next hany =>
    induction l with
    | nil => cases hany
    | cons e l ih =>
      rw [List.map_cons]
      by_cases he : e.1 = serial
      · rw [if_pos he]
        exact List.find?_cons_of_pos (beq_self_eq_true serial)
      · rw [if_neg he, List.find?_cons_of_neg (by simpa using he)]
        exact ih (by simpa [he] using hany)
  next hany =>
    have hnone : l.find? (fun e => e.1 == serial) = none := List.find?_eq_none.mpr fun e he heq => hany (List.any_eq_true.mpr ⟨e, he, heq⟩)
    rw [List.find?_append, hnone, Option.none_or]
    exact List.find?_cons_of_pos (beq_self_eq_true serial)

theorem logFree_mem (s : State) (code : Nat) (b : List Byte) : (s.logFree code b).mem = s.mem := by
  unfold State.logFree State.logEntry
  dsimp only
  rw [apply_ite State.mem, sticky_mem, addFld_mem, ite_self]
  rfl

theorem hours_addFld (s : State) (a : Nat) (f : Fld) (k : Nat) : (s.addFld a f k).welkin.hours = s.welkin.hours := by
  rw [State.addFld, State.setFld, wr_welkin]

theorem hours_logFree (s : State) (code : Nat) (b : List Byte) : (s.logFree code b).welkin.hours = s.welkin.hours := by
  unfold State.logFree State.logEntry
  dsimp only
  rw [apply_ite (fun t : State => t.welkin.hours), State.sticky, hours_addFld, State.setFld, wr_welkin, hours_addFld, ite_self]
  rfl

/-- The state with a module's hours written to its own memory and put into Welkin's store. -/
def State.hoursStored (s : State) (n : Nat) (c : ContrailSt) (k : Nat) : State :=
  { s.setPort n { s.port n with contrail := some { c with writtenAt := s.zt, stored := c.hours / 2 ^ 32 } } with
    free := k
    welkin := { s.welkin with hours := putHours s.welkin.hours c.serial (c.hours / 2 ^ 32) } }

theorem port_hoursStored (s : State) (n : Nat) (c : ContrailSt) (k : Nat) : (s.hoursStored n c k).port n =
    { s.port n with contrail := some { c with writtenAt := s.zt, stored := c.hours / 2 ^ 32 } } := port_setPort s n _

section
variable (s : State) (n : Fin 10) {c : ContrailSt} (hc : (s.port n).contrail = some c) (hok : c.ok = true) (hdue : c.writtenAt + 600000000000 ≤ s.zt)
include hc hok hdue

theorem exec_hoursWrite : ∃ (k : Nat) (b : List Byte), exec (.hoursWrite n) s = .next ((s.hoursStored n c k).logFree 0x0007 b) := by
  have hexec : exec (.hoursWrite n) s = execHoursWrite n s := rfl
  rw [hexec]
  unfold execHoursWrite
  split
  next h => exact absurd (hc.symm.trans h) (by simp)
  next c' h =>
    cases hc.symm.trans h
    exact ⟨_, _, if_pos (by rw [hok, decide_eq_true hdue]; rfl)⟩

theorem hoursWrite_gives : Gives (.hoursWrite n) s (fun s' => s'.loggedHours c.serial = c.hours / 2 ^ 32 ∧
    ((s'.port n).contrail.map (fun k => (k.writtenAt, k.stored))) = some (s.zt, c.hours / 2 ^ 32) ∧ s'.mem = s.mem) := by
  obtain ⟨k, b, hexec⟩ := exec_hoursWrite s n hc hok hdue
  have hports : ((s.hoursStored n c k).logFree 0x0007 b).ports = (s.hoursStored n c k).ports := (congrArg State.ports (logFree_still _ 0x0007 b) :)
  refine gives_of_exec hexec ⟨?_, ?_, ?_⟩
  · rw [State.loggedHours, hours_logFree, State.hoursStored, find?_putHours]
  · rw [port_congr hports, port_hoursStored]
    rfl
  · rw [logFree_mem]
    rfl

end

/-- Settles O40: each row of the cages and modules by the registers it writes and what the reports after it leave of them. -/
theorem mediaComeAndGo : Obligations.MediaComeAndGo := by
  unfold Obligations.MediaComeAndGo
  intro n s
  refine ⟨fun hempty => ⟨inserted_copper s n hempty, ?_⟩, removed_gives s n, ?_, ?_⟩
  · exact fun serial body signature hours bias => inserted_contrail s n hempty serial body signature hours bias
  · exact fun c temp vcc bias power hc => contrailSensors_gives s n hc temp vcc bias power
  · exact fun c hc hok hdue => hoursWrite_gives s n hc hok hdue

end Sys2Proof.Machine
end

section
/-! PROOFS. Storage requests (11 R271 to R273): an entry is taken, data stored, and a request ends. -/
namespace Sys2Proof.Machine

/-! ## Ends (R273) -/

section
variable (s : State) (n : Nat)

theorem putDone_ports {t : State} {r : DoneRec} (hput : s.putDone r = some t) : t.ports = s.ports := by
  have haway : (State.putDone.away r s).ports = s.ports := by
    have hstill : (State.putDone.away r s).still = s.still := by rw [State.putDone.away, postEvent_still, sticky_still]
    exact (congrArg State.ports hstill :)
  have hpush : (s.pushEntry r.die r.cq r.bytes).ports = s.ports := (congrArg State.ports (pushEntry_still s r.die r.cq r.bytes) :)
  simp only [State.putDone] at hput
  split_ifs at hput <;> cases hput
  · exact haway
  · exact haway
  · exact hpush

theorem doneWaits_ports : (s.doneWaits n).ports = s.ports := by
  unfold State.doneWaits
  split
  · rfl
  · split
    · exact (congrArg State.ports (holdAccess_still s _ _ _) :)
    · rfl

/-- A completion record leaves the outstanding requests alone. -/
theorem reqs_storageDone (d slot : Nat) (o : Option Nat) (b : List Byte) (status detail : Nat) :
    ((s.storageDone n d slot o b status detail).port n).reqs = (s.port n).reqs := by
  unfold State.storageDone
  extract_lets r x
  split
  · rw [port_setPort]
  · split
    next hput => rw [port_congr (putDone_ports s hput)]
    · rw [port_congr (doneWaits_ports _ n), port_setPort]

theorem reqs_storageEnd (r : StorageReq) (cause node : Nat) :
    ((s.storageEnd n r cause node).port n).reqs = (s.port n).reqs.filter (fun q => q.tag != r.tag) := by
  unfold State.storageEnd
  rw [reqs_storageDone, port_setPort]

theorem tag_ne_of_mem_storageEnd {r x : StorageReq} {cause node : Nat} (hx : x ∈ ((s.storageEnd n r cause node).port n).reqs) : x.tag ≠ r.tag := by
  rw [reqs_storageEnd, List.mem_filter] at hx
  exact bne_iff_ne.mp hx.2

end

section
variable (s : State) (e : Fin 2)

theorem exec_status {k : Packet} {rest : List Packet} {r : StorageReq} (hin : s.storageIn (8 + e) = some (k, rest)) (hkind : fieldAt k.body 0 1 = 5)
    (hreq : s.storageReq (8 + e) k = some r) :
    (fieldAt k.body 1 1 ≠ 0 → exec (.status e) s = .next ((s.leaveRx (8 + e) 4 k rest).storageEnd (8 + e) r 2 (fieldAt k.body 1 1))) ∧
    (fieldAt k.body 1 1 = 0 → r.moved = seLen r.entry → r.ue = false → exec (.status e) s = .next ((s.leaveRx (8 + e) 4 k rest).storageEnd (8 + e) r 0 0)) := by
  have hexec : exec (.status e) s = execStatus e s := rfl
  rw [hexec]
  unfold execStatus
  dsimp only
  rw [hin]
  dsimp only
  rw [if_neg (not_not.mpr hkind), hreq]
  dsimp only
  refine ⟨fun hnode => if_pos hnode, fun hnode hmoved hue => (if_neg (not_not.mpr hnode)).trans ((if_pos hmoved).trans ?_)⟩
  rw [hue]
  rfl

theorem exec_storageTimeout {tag : BitVec 32} {r : StorageReq} (hreq : (s.port (8 + e)).reqs.find? (fun r => r.tag == tag.toNat) = some r)
    (hlimit : s.fld (KL_LIMITS (8 + e)) KL_LIMITS_STORAGE_TIMEOUT ≠ 0)
    (hlate : r.last + s.fld (KL_LIMITS (8 + e)) KL_LIMITS_STORAGE_TIMEOUT * 1000 < s.zt) (hruns : s.stopHolds r.owner = false) :
    exec (.storageTimeout e tag) s = .next (s.storageEnd (8 + e) r 4 0) := by
  have hexec : exec (.storageTimeout e tag) s = execStorageTimeout e tag s := rfl
  rw [hexec]
  unfold execStorageTimeout
  dsimp only
  rw [hreq]
  dsimp only
  exact if_pos (by rw [bne_iff_ne.mpr hlimit, decide_eq_true hlate, hruns]; rfl)

end

end Sys2Proof.Machine
end

section
/-! PROOFS. Storage requests, continued: what READ_DATA stores (11 R272). -/
namespace Sys2Proof.Machine

/-- A state with other packets, ports and counts has the same memory. -/
def State.beside (s : State) (r : RouterSt) (p : Sparse PortSt) (t : TallySt) : State := { s with router := r, ports := p, tally := t }

section
variable (s : State) (r : RouterSt) (p : Sparse PortSt) (t : TallySt) (a n : Nat)

theorem byte_beside : (s.beside r p t).byte a = s.byte a := (rfl)
theorem plain_beside : (s.beside r p t).plain a n ↔ s.plain a n := (Iff.rfl)
theorem partlyBad_beside : (s.beside r p t).partlyBad a n = s.partlyBad a n := (rfl)
theorem firstFailed_beside : (s.beside r p t).firstFailed a n = s.firstFailed a n := (rfl)
theorem beside_regs : (s.beside r p t).regs = s.regs := (rfl)

end

/-- READ_DATA's bytes stored, before the request counts them. -/
def State.dataStored (s : State) (n : Nat) (k : Packet) (rest : List Packet) (a : Nat) (data : List Byte) (owner : Option Nat) : State :=
  (((s.leaveRx n 4 k rest).hbWrite a data.length { part := owner, master := some 7, cls := some 4 }).store a data (storageMaster owner)).1

section
variable (s : State) (n : Nat) (k : Packet) (rest : List Packet) {a : Nat} {data : List Byte} (owner : Option Nat)
  (hbad : s.partlyBad a data.length = []) (hfailed : s.firstFailed a data.length = none)
include hbad hfailed

/-- The bytes alone are written. -/
theorem dataStored_eq : ∃ r p t, s.dataStored n k rest a data owner = ((s.beside r p t).writeBytes a data).cleanUnits a data.length := by
  obtain ⟨r, p, hleave, _⟩ := leaveRx_other s n 4 k rest
  obtain ⟨t, hwrite⟩ := hbWrite_other (s.leaveRx n 4 k rest) a data.length { part := owner, master := some 7, cls := some 4 } rfl
  refine ⟨r, p, t, ?_⟩
  have hbeside : (s.leaveRx n 4 k rest).hbWrite a data.length { part := owner, master := some 7, cls := some 4 } = s.beside r p t := by
    rw [hwrite, hleave]
    rfl
  rw [State.dataStored, hbeside, store_sound _ _ ((partlyBad_beside s r p t a _).trans hbad) ((firstFailed_beside s r p t a _).trans hfailed)]

theorem dataStored_regs : (s.dataStored n k rest a data owner).regs = s.regs := by
  obtain ⟨r, p, t, hstored⟩ := dataStored_eq s n k rest owner hbad hfailed
  rw [hstored, cleanUnits_regs, writeBytes_regs, beside_regs]

variable (hplain : s.plain a data.length)
include hplain

theorem byte_dataStored {j : Nat} (hj : j < data.length) : (s.dataStored n k rest a data owner).byte (a + j) = data.getD j 0 := by
  obtain ⟨r, p, t, hstored⟩ := dataStored_eq s n k rest owner hbad hfailed
  rw [hstored, byte_cleanUnits, byte_writeBytes _ _ _ ((plain_beside s r p t _ _).mpr hplain) _ hj]

theorem byte_dataStored_outside {u : Nat} (hu : s.plain u 1) (hout : u < a ∨ a + data.length ≤ u) : (s.dataStored n k rest a data owner).byte u = s.byte u := by
  obtain ⟨r, p, t, hstored⟩ := dataStored_eq s n k rest owner hbad hfailed
  rw [hstored, byte_cleanUnits, byte_writeBytes_outside _ _ _ _ ((plain_beside s r p t _ _).mpr hplain) ((plain_beside s r p t _ _).mpr hu) hout, byte_beside]

end

section
variable (s : State) (e : Fin 2) {k : Packet} {rest : List Packet} {r : StorageReq} {a : Nat} {data : List Byte}

theorem exec_readData (hin : s.storageIn (8 + e) = some (k, rest)) (hkind : fieldAt k.body 0 1 = 2) (hreq : s.storageReq (8 + e) k = some r)
    (hop : seOp r.entry = 1) (hlen : 32 ≤ k.body.length) (hoff : seOffset r.entry ≤ fieldAt k.body 0x10 8) (hdata : data = k.body.drop 32)
    (hwithin : (fieldAt k.body 0x10 8 - seOffset r.entry) + data.length ≤ seLen r.entry)
    (ha : a = seAddr r.entry + (fieldAt k.body 0x10 8 - seOffset r.entry)) (hon : s.memOn a data.length = true) :
    ∃ x, exec (.readData e) s = .next ((s.dataStored (8 + e) k rest a data r.owner).setPort (8 + e) x) := by
  have hexec : exec (.readData e) s = execReadData e s := rfl
  have hfits : (fieldAt k.body 0 1 == 2 && seOp r.entry == 1 && decide (32 ≤ k.body.length) && decide (seOffset r.entry ≤ fieldAt k.body 0x10 8) &&
      decide (fieldAt k.body 0x10 8 - seOffset r.entry + (k.body.drop 32).length ≤ seLen r.entry)) = true := by
    rw [hkind, hop, decide_eq_true hlen, decide_eq_true hoff, ← hdata, decide_eq_true hwithin]
    rfl
  rw [hexec]
  unfold execReadData
  dsimp only
  rw [hin]
  dsimp only
  rw [if_neg (by rw [hkind]; decide), hreq]
  dsimp only
  rw [hfits, ← hdata, ← ha, hon]
  exact ⟨_, rfl⟩

end

theorem readData_gives (s : State) (e : Fin 2) {k : Packet} {rest : List Packet} {r : StorageReq} {a : Nat} {data : List Byte}
    (hbad : s.partlyBad a data.length = []) (hfailed : s.firstFailed a data.length = none) (hplain : s.plain a data.length)
    (hexec : ∃ x, exec (.readData e) s = .next ((s.dataStored (8 + e) k rest a data r.owner).setPort (8 + e) x)) :
    Gives (.readData e) s (fun s' => (∀ j < data.length, s'.byte (a + j) = data.getD j 0) ∧
      (∀ u, s.plain u 1 → (u < a ∨ a + data.length ≤ u) → s'.byte u = s.byte u) ∧ s'.regs = s.regs) := by
  have hbyte (u : State) (x : PortSt) (c : Nat) : (u.setPort (8 + e) x).byte c = u.byte c := rfl
  obtain ⟨x, hexec⟩ := hexec
  refine gives_of_exec hexec ⟨fun j hj => ?_, fun u hu hout => ?_, ?_⟩
  · rw [hbyte, byte_dataStored s _ k rest r.owner hbad hfailed hplain hj]
  · rw [hbyte, byte_dataStored_outside s _ k rest r.owner hbad hfailed hplain hu hout]
  · exact dataStored_regs s _ k rest r.owner hbad hfailed

end Sys2Proof.Machine
end

section
/-! PROOFS. Storage requests, continued: the next entry of a queue is taken (11 R271), and the obligation on storage requests. -/
namespace Sys2Proof.Machine

/-- What a storage request's packet changes lies in the router and the free choices (R271). -/
theorem storageSend_other (s : State) (n : Nat) (o : Option Nat) (fence : Bool) (body : List Byte) :
    ∃ r f, s.storageSend n o fence body = { s with router := r, free := f } := by
  cases o with
  | some p => exact ⟨_, s.free, rfl⟩
  | none => exact ⟨_, _, rfl⟩

/-- The request that a READ entry makes. -/
def State.newRequest (s : State) (n d slot : Nat) (o : Option Nat) (b : List Byte) : StorageReq :=
  { tag := (s.port n).nextTag, die := d, queue := 0, slot := slot, entry := b, owner := o, last := s.zt }

/-- The port with a new request outstanding. -/
def State.requested (s : State) (n d slot : Nat) (o : Option Nat) (b : List Byte) : State :=
  s.setPort n { s.port n with nextTag := ((s.port n).nextTag + 1) % 2 ^ 32, reqs := (s.port n).reqs ++ [s.newRequest n d slot o b] }

theorem storageRun_read (s : State) {n d slot : Nat} {o : Option Nat} {b : List Byte} (hok : storageEntryOk b = true) (hop : seOp b = 1)
    (howner : s.ownerMemory o (seAddr b) (seLen b) = true) (hst : s.klState n = 6) :
    ∃ body, s.storageRun n d slot o b = (s.requested n d slot o b).storageSend n o false body := by
  unfold State.storageRun
  dsimp only
  rw [hok, howner, if_neg (by decide), if_neg (by decide), if_neg (not_not.mpr hst), if_pos hop]
  exact ⟨_, rfl⟩

/-- The state with the entry's queue chosen and the entry read and consumed. -/
def State.entryTaken (s : State) (n j : Nat) (o : Option Nat) : State :=
  (((s.setPort n { s.port n with turn := j + 1 }).hbRead ((s.queue (j / 16384) (j % 16384)).slot (s.queue (j / 16384) (j % 16384)).cons) 64
    { part := o, master := some 7 }).consume (j / 16384) (j % 16384))

theorem noteCounts_other (s : State) (d q : Nat) : ∃ h, s.noteCounts d q = { s with hubStart := h } := by
  unfold State.noteCounts
  split
  · exact ⟨s.hubStart, rfl⟩
  · exact ⟨_, rfl⟩

section
variable (s : State) (n j : Nat) (o : Option Nat)

/-- An entry taken changes its port, its queue and counts alone. -/
theorem entryTaken_other : ∃ t h, s.entryTaken n j o = State.setQueue { s.setPort n { s.port n with turn := j + 1 } with tally := t, hubStart := h }
    (j / 16384) (j % 16384) { s.queue (j / 16384) (j % 16384) with
      cons := ((s.queue (j / 16384) (j % 16384)).cons + 1) % 2 ^ 32
      userSlots := (s.queue (j / 16384) (j % 16384)).userSlots.filter (fun i => i != (s.queue (j / 16384) (j % 16384)).cons) } := by
  obtain ⟨t, hread⟩ := hbRead_other (s.setPort n { s.port n with turn := j + 1 })
    ((s.queue (j / 16384) (j % 16384)).slot (s.queue (j / 16384) (j % 16384)).cons) 64 { part := o, master := some 7 } rfl
  obtain ⟨h, hnoted⟩ := noteCounts_other { s.setPort n { s.port n with turn := j + 1 } with tally := t } (j / 16384) (j % 16384)
  refine ⟨t, h, ?_⟩
  rw [State.entryTaken, hread, State.consume, hnoted]
  rfl

theorem port_entryTaken : (s.entryTaken n j o).port n = { s.port n with turn := j + 1 } := by
  obtain ⟨t, h, htaken⟩ := entryTaken_other s n j o
  rw [htaken]
  exact port_setPort s n _

theorem entryTaken_mem : (s.entryTaken n j o).mem = s.mem := by
  obtain ⟨t, h, htaken⟩ := entryTaken_other s n j o
  rw [htaken]
  rfl

theorem entryTaken_parts : (s.entryTaken n j o).parts = s.parts := by
  obtain ⟨t, h, htaken⟩ := entryTaken_other s n j o
  rw [htaken]
  rfl

theorem klState_entryTaken (m : Nat) : (s.entryTaken n j o).klState m = s.klState m := by
  obtain ⟨t, h, htaken⟩ := entryTaken_other s n j o
  rw [htaken]
  rfl

theorem cons_entryTaken : ((s.entryTaken n j o).queue (j / 16384) (j % 16384)).cons = ((s.queue (j / 16384) (j % 16384)).cons + 1) % 2 ^ 32 := by
  obtain ⟨t, h, htaken⟩ := entryTaken_other s n j o
  rw [htaken, queue_setQueue_same]

theorem ownerMemory_congr {s u : State} (h : u.parts = s.parts) (p : Option Nat) (a k : Nat) : u.ownerMemory p a k = s.ownerMemory p a k := by
  cases p with
  | some p => exact owns_congr h p a k
  | none => rfl

end

section
variable (s : State) (n : Nat) (x : PortSt)

/-! A port is no part of memory or of the hub. -/

theorem memOn_setPort (a k : Nat) : (s.setPort n x).memOn a k = s.memOn a k := (rfl)
theorem firstBad_setPort (a k : Nat) : (s.setPort n x).firstBad a k = s.firstBad a k := (rfl)
theorem readBytes_setPort (a k : Nat) : (s.setPort n x).readBytes a k = s.readBytes a k :=
  readBytes_congr (s := s) (u := s.setPort n x) (fun _ => rfl) a k

theorem storageQueue_setPort_self : (s.setPort n (s.port n)).storageQueue n = s.storageQueue n := by
  have hmine (d q : Nat) : (s.setPort n (s.port n)).storageMine n d q = s.storageMine n d q := rfl
  have hqueues : (s.setPort n (s.port n)).queues = s.queues := rfl
  unfold State.storageQueue
  rw [hqueues, port_setPort, funext fun e => hmine (Prod.fst e / 16384) (Prod.fst e % 16384)]

end

theorem doneWaits_of_none (s : State) {n : Nat} (h : (s.port n).dones = []) : s.doneWaits n = s := by
  unfold State.doneWaits
  rw [h]
  rfl

/-- With no completion record waiting, none is tried again. -/
theorem storageRetry_of_none (s : State) {n : Nat} (h : (s.port n).dones = []) : s.storageRetry n = s.setPort n (s.port n) := by
  have hsame : ({ s.port n with dones := [] } : PortSt) = s.port n := by rw [← h]
  have hput : s.putDones [] = (s, []) := rfl
  unfold State.storageRetry
  extract_lets x
  have hx : x.dones = [] := h
  rw [hx, hput]
  refine Eq.trans (b := (s.setPort n { s.port n with dones := [] }).doneWaits n) rfl ?_
  rw [hsame, doneWaits_of_none]
  rw [port_setPort, h]

section
variable (s u : State) (e : Fin 2) {j d q : Nat} {y : QueueSt} {b : List Byte} (hu : s.storageRetry (8 + e) = u) (hroom : (u.port (8 + e)).reqs.length < 16)
  (hdones : (u.port (8 + e)).dones = []) (hqueue : u.storageQueue (8 + e) = some j) (hd : d = j / 16384) (hq : q = j % 16384) (hy : y = u.queue d q)
  (hb : b = u.readBytes (y.slot y.cons) 64) (hon : u.memOn (y.slot y.cons) 64 = true) (hgood : u.firstBad (y.slot y.cons) 64 = none) (hop : seOp b = 1)
include hu hroom hdones hqueue hd hq hy hb hon hgood hop

/-- A READ entry in memory that is ON and sound is consumed and its request begun. -/
theorem exec_storageEntry : ∃ slot, exec (.storageEntry e) s =
    .next ((u.entryTaken (8 + e) j (u.queueOwner d q)).storageRun (8 + e) d slot (u.queueOwner d q) b) := by
  have hexec : exec (.storageEntry e) s = execStorageEntry e s := rfl
  subst hd hq hy hb
  have hfull : ¬(16 ≤ (u.port (8 + e)).reqs.length ∨ (u.port (8 + e)).dones.isEmpty = false) := by rw [hdones]; simpa using hroom
  rw [hexec]
  unfold execStorageEntry
  dsimp only
  rw [hu, if_neg hfull, hqueue]
  dsimp only
  rw [memOn_setPort, hon, if_neg (by decide), firstBad_setPort, hgood]
  dsimp only
  rw [readBytes_setPort, hop, if_neg (by rw [Bool.and_assoc (storageEntryOk _)]; simp)]
  exact ⟨_, rfl⟩

/-- The request stands in the port, its packet in the router. -/
theorem storageEntry_read (hok : storageEntryOk b = true) (howner : u.ownerMemory (u.queueOwner d q) (seAddr b) (seLen b) = true) (hst : u.klState (8 + e) = 6) :
    Gives (.storageEntry e) s (fun s' => ((s'.port (8 + e)).reqs.map (·.tag)) = (u.port (8 + e)).reqs.map (·.tag) ++ [(u.port (8 + e)).nextTag] ∧
      (s'.queue d q).cons = (y.cons + 1) % 2 ^ 32 ∧ (s'.port (8 + e)).turn = j + 1 ∧ s'.mem = u.mem) := by
  obtain ⟨slot, hexec⟩ := exec_storageEntry s u e hu hroom hdones hqueue hd hq hy hb hon hgood hop
  have howner' : (u.entryTaken (8 + e) j (u.queueOwner d q)).ownerMemory (u.queueOwner d q) (seAddr b) (seLen b) = true := by
    rw [ownerMemory_congr (entryTaken_parts u _ j _), howner]
  have hst' : (u.entryTaken (8 + e) j (u.queueOwner d q)).klState (8 + e) = 6 := by rw [klState_entryTaken, hst]
  obtain ⟨body, hrun⟩ := storageRun_read (u.entryTaken (8 + e) j (u.queueOwner d q)) (d := d) (slot := slot) hok hop howner' hst'
  obtain ⟨r, f, hsend⟩ := storageSend_other ((u.entryTaken (8 + e) j (u.queueOwner d q)).requested (8 + e) d slot (u.queueOwner d q) b) (8 + e) (u.queueOwner d q) false body
  rw [hrun, hsend] at hexec
  refine gives_of_exec hexec ?_
  generalize htaken : u.entryTaken (8 + e) j (u.queueOwner d q) = t
  have hport : t.port (8 + e) = { u.port (8 + e) with turn := j + 1 } := by rw [← htaken, port_entryTaken]
  have hasked : (State.port { t.requested (8 + e) d slot (u.queueOwner d q) b with router := r, free := f } (8 + e)) =
      { t.port (8 + e) with nextTag := ((t.port (8 + e)).nextTag + 1) % 2 ^ 32, reqs := (t.port (8 + e)).reqs ++ [t.newRequest (8 + e) d slot (u.queueOwner d q) b] } :=
    port_setPort t _ _
  rw [hasked, hport]
  refine ⟨?_, ?_, rfl, ?_⟩
  · rw [List.map_append, State.newRequest, hport]
    rfl
  · subst hd hq hy
    rw [← cons_entryTaken u (8 + e) j (u.queueOwner _ _), htaken]
    rfl
  · rw [← entryTaken_mem u (8 + e) j (u.queueOwner d q), htaken]
    rfl

end

/-- Settles O45: an entry taken, its data stored, and each way in which a request ends. -/
theorem storageRequestsRun : Obligations.StorageRequestsRun := by
  unfold Obligations.StorageRequestsRun
  rintro e s n rfl
  refine ⟨?_, ?_, ?_, ?_, fun r cause node x hx => tag_ne_of_mem_storageEnd s _ hx⟩
  · rintro j d q y b hroom hdones hqueue hd hq hy hb hon hgood hok hop howner hst
    have hretry := storageRetry_of_none s hdones
    have hport := port_setPort s (8 + e) (s.port (8 + e))
    have hread := readBytes_setPort s (8 + e) (s.port (8 + e)) (y.slot y.cons) 64
    have howned := ownerMemory_congr (s := s) (u := s.setPort (8 + e) (s.port (8 + e))) rfl (s.queueOwner d q) (seAddr b) (seLen b)
    have hgives := storageEntry_read s (s.setPort (8 + e) (s.port (8 + e))) e hretry (by rw [hport]; exact hroom) (by rw [hport]; exact hdones)
      ((storageQueue_setPort_self s _).trans hqueue) hd hq hy (hb.trans hread.symm) hon hgood hop hok (howned.trans howner) hst
    rw [hport] at hgives
    exact hgives
  · rintro k rest r a data hin hkind hreq hop hlen hoff hdata hwithin ha hon hfailed - hbad hplain
    exact readData_gives s e hbad hfailed hplain (exec_readData s e hin hkind hreq hop hlen hoff hdata hwithin ha hon)
  · exact fun k rest r hin hkind hreq => exec_status s e hin hkind hreq
  · exact fun tag r hreq hlimit hlate hruns => exec_storageTimeout s e hreq hlimit hlate hruns

end Sys2Proof.Machine
end
